-- ==== Sys2Proof/Word.lean ====
section
/-! DEFINITION. The word types of the mixing engine (spec 01, 06): machine words as bit vectors, sample values and
measured quantities as integers. -/

namespace Sys2Proof

/-- One byte, the smallest addressable unit of the fabric map (R676). -/
abbrev Byte := BitVec 8

/-- One 32-bit memory word of X or Y memory (R377). -/
abbrev Word32 := BitVec 32

/-- One 64-bit data register of a lane or one fabric beat (R216, R414). -/
abbrev Word64 := BitVec 64

/-- One 80-bit accumulator of a lane (R183). -/
abbrev Word80 := BitVec 80

/-- A finite map from natural-number keys, sorted by key; an absent key reads as the map's default. -/
abbrev NMap (α : Type) := List (Nat × α)

end Sys2Proof
end

