-- ==== Sys2Proof/Syntax.lean ====
section
/-! DEFINITION. The commands of the engine: one constructor per row of spec/opcode_table.json, with the operands that the
row's rule names, and the records those operands carry. -/

namespace Sys2Proof

/-- Where a reset or a keyed action comes from: a write of its register with the given KEY, or an EXEC of its object. -/
inductive ReqSrc where
  | reg (key : Nat)
  | exec
deriving DecidableEq, Repr

/-- A value of the object dictionary (R606): a number of a fixed-width type as its bit pattern, or bytes. -/
inductive PVal where
  | num (n : Nat)
  | bytes (b : List Byte)
deriving DecidableEq, Repr

/-- One staged value: object index, sub-index, element, value, TIME in ms and LAW (R354). -/
structure SceneEntry where
  idx : Nat
  sub : Nat
  elem : Nat
  val : PVal
  time : Nat
  law : Nat
deriving DecidableEq, Repr

/-- A firmware slot as the checks of R70 and R71 find it. -/
structure FwSlot where
  valid : Bool := false
  sigOk : Bool := false
  secVersion : Nat := 0
  fwVersion : Nat := 0
  stepping : Nat := 0
deriving DecidableEq, Repr

/-- A startup configuration (R30, R69, R75, R76). -/
structure StartupCfg where
  valid : Bool := false
  /-- Rate family: 0 = 48 kHz, 1 = 44.1 kHz. -/
  family : Nat := 0
  rateClass : Nat := 0
  blk : Nat := 16
  /-- Wellhead channels for which it names a router source, bit m for channel m. -/
  wellNamed : Nat := 0
  /-- It takes the last committed scene of the scene store. -/
  useStore : Bool := false
  /-- The graph meets the acceptance rules (R32). -/
  graphOk : Bool := false
  /-- TDM0 role, slot width code, offset and NSLOT it asks for (R76). -/
  tdm0Role : Nat := 0
  tdm0Width : Nat := 0
  tdm0Offset : Nat := 0
  /-- RW and STG values set before the startup Press. -/
  values : List SceneEntry := []
  /-- The scene that the startup Press commits. -/
  scene : List SceneEntry := []
deriving DecidableEq, Repr

/-- A boot-flash write that is open until its commit marker is written (R70). -/
inductive FlashJob where
  | config (c : StartupCfg)
  | scene (entries : List SceneEntry)
  | retire (kind : Nat) (site : Nat)
  | baseline (feed : Nat) (value : Nat)
deriving DecidableEq, Repr

/-- The fields of a PTP Announce that the best-master algorithm and R107 use (R154). -/
structure Announce where
  sender : Nat
  senderPort : Nat
  gm : Nat
  prio1 : Nat
  clockClass : Nat
  accuracy : Nat
  variance : Nat
  prio2 : Nat
  steps : Nat
  logInt : Int
  utcOffset : Int
deriving DecidableEq, Repr

/-- The PTP frames the transparent clock tells apart (R151, R152). -/
inductive TcKind where
  | syncOneStep | syncTwoStep | delayReq
  | followUp (syncInSwitch : Bool)
  | other
  | pdelay
  | layer2orIpv6
deriving DecidableEq, Repr

/-- A PTP frame between two external ports: kind, sequence (sequenceId with sourcePortIdentity), correctionField in
2⁻¹⁶ ns, and its ingress and egress root counts. -/
structure TcFrame where
  kind : TcKind
  seq : Nat
  corr : Int
  ingress : Nat
  egress : Nat
deriving DecidableEq, Repr


/-- What the SECDED check of one read finds: no error, a corrected single-bit error, or an uncorrectable one (R381, R382). -/
inductive Ecc where
  | ok | corrected | uncorrectable
deriving DecidableEq, Repr

/-- Where a lane slot issues: cluster site, lane site, and whether it is the last slot of its bundle. The slots of one
bundle come flow or control first, then loads X before Y, stores, and the MAC or ALU slot (log entry 20). -/
structure LaneAt where
  site : Nat
  lane : Nat
  eob : Bool
deriving DecidableEq, Repr

/-- The S and RND bits of a MAC slot (R186) and whether the hardware makes a residue error in this operation (R207). -/
structure MacBits where
  sat : Bool := false
  rnd : Bool := false
  flt : Bool := false
deriving DecidableEq, Repr

/-- The operands of an ALU slot (R227, R230): class 0b11 or not, S, RND, RD, RA, RB and COND. -/
structure Alu where
  ext : Bool
  sat : Bool
  rnd : Bool
  rd : BitVec 6
  ra : BitVec 6
  rb : BitVec 6
  cond : BitVec 3
deriving DecidableEq, Repr

/-- The fields of an X or Y slot (R231): which memory, AR, MOD and REG. -/
structure MemSlot where
  y : Bool
  ar : BitVec 2
  md : BitVec 2
  reg : BitVec 6
deriving DecidableEq, Repr

/-- The fields of an sacc or lacc slot (R231): which memory, AR, MOD, word W and accumulator K. -/
structure SpillSlot where
  y : Bool
  ar : BitVec 2
  md : BitVec 2
  w : BitVec 2
  k : BitVec 2
deriving DecidableEq, Repr


/-- One task of a graph: cluster site, slot, its descriptor words (R251) and its kernel cost in core cycles per block. -/
structure GTask where
  site : Nat
  slot : Nat
  w0 : Nat
  w1 : Nat
  w2 : Nat
  w3 : Nat
  cost : Nat
deriving DecidableEq, Repr

/-- One buffer descriptor of a graph (R254); site 62 = network block, 63 = TDM block (R684). -/
structure GBuf where
  site : Nat
  idx : Nat
  w0 : Nat
  w1 : Nat
  w2 : Nat
deriving DecidableEq, Repr

/-- One post entry of a graph (R255). -/
structure GPost where
  site : Nat
  idx : Nat
  w : Nat
deriving DecidableEq, Repr

/-- A program image: bundles from bundle address `base` of one cluster site. -/
structure GProg where
  site : Nat
  base : Nat
  bundles : List Nat
deriving DecidableEq, Repr

/-- Which units a task processes (R321): kind 0 channels, 1 buses, 2 feeds, numbers `lo` to `hi`. -/
structure GServe where
  site : Nat
  slot : Nat
  kind : Nat
  lo : Nat
  hi : Nat
deriving DecidableEq, Repr

/-- Which logical cluster holds the state of elements `lo` to `hi` of object index `idx` (R356). -/
structure GPlace where
  idx : Nat
  lo : Nat
  hi : Nat
  cluster : Nat
deriving DecidableEq, Repr

/-- A parameter that a graph kernel declares in 0x6100 to 0x6FFF (R614): address, type code (R606), array length, class
code (R620), filter stage, and default value. -/
structure GParam where
  idx : Nat
  sub : Nat
  ty : Nat
  len : Nat
  cls : Nat
  stage : Nat
  dflt : PVal
deriving DecidableEq, Repr

/-- A graph load (`update = false`) or a graph update (R283): tasks, descriptors, posts and programs, the tasks that read
the factor table (R345, as 512 × site + slot), the units that tasks process (R321), the placement of parameters (R356) and
the parameters its kernels declare (R614). -/
structure Graph where
  update : Bool
  tasks : List GTask
  bufs : List GBuf
  posts : List GPost
  progs : List GProg
  readers : List Nat
  serves : List GServe
  places : List GPlace
  params : List GParam
deriving DecidableEq, Repr

/-- The block of one router source (R288) that a post to an egress block carries: its measure (R315), its B samples in the
internal format, and for an output feed the deepest gain reduction of its limiter in 0.01 dB (R306). -/
structure SrcBlock where
  src : Nat
  measure : Nat
  samples : List Int
  reduction : Nat := 0
deriving DecidableEq, Repr



/-- One request of a master to the bus matrix (R419): BE and write data beat by beat. -/
structure FabReq where
  master : Nat
  tag : Nat
  addr : Nat
  write : Bool
  len : Nat
  be : List Nat
  data : List Nat
  lock : Bool
deriving DecidableEq, Repr


/-- The IGMP message that a frame carries, if any (R480). -/
inductive Igmp where
  | none | report | query2 | query3
deriving DecidableEq, Repr

/-- A frame at the embedded switch (R478 to R481): ingress port (4 = the engine port E), plane, length, FCS check, tag and
VID, addresses, DSCP, IPv4 multicast destination (0 = not multicast), and IGMP content. -/
structure SwFrame where
  port : Nat
  plane : Nat
  len : Nat
  fcsOk : Bool
  tagged : Bool
  vid : Nat
  src : Nat
  dst : Nat
  dscp : Nat
  group : Nat
  igmp : Igmp
deriving DecidableEq, Repr

/-- A received RTP packet (R486 to R488), after RTP padding, CSRC lists and header extensions have been skipped. -/
structure RtpPacket where
  plane : Nat
  src : Nat
  dst : Nat
  port : Nat
  pt : Nat
  seq : Nat
  stamp : Nat
  payload : List Byte
deriving DecidableEq, Repr

/-- A SAP message (R503): source, message hash, whether it deletes, and the SDP. -/
structure SapMsg where
  src : Nat
  hash : Nat
  delete : Bool
  sdp : List Byte
deriving DecidableEq, Repr



/-- The correlations of one Sounding frame as the feed task forms them (R597): C_I and C_V as real and imaginary parts, and
|C_E|, in 2⁻¹⁶ of full scale, before the division by the pilot amplitude. -/
structure Corr where
  iRe : Int
  iIm : Int
  vRe : Int
  vIm : Int
  e : Nat
deriving DecidableEq, Repr


/-- Where a POP message comes from: a UDP source address and port, or the host SPI port (R617, R635). -/
inductive PopFrom where
  | net (addr port : Nat)
  | spi
deriving DecidableEq, Repr


/-- What the TXT record of a peer's mDNS service says (R502, R638). -/
structure PeerInfo where
  node : Nat
  role : Nat
  digest : Nat
  fwMajor : Nat
  fwMinor : Nat
  fwPatch : Nat
  step : Nat
deriving DecidableEq, Repr


/-- The content of one ledger record (R556), or of an input that an unpaired engine applies at its next boundary. -/
inductive LedgerBody where
  /-- A Pump command: OP, cluster site, slot, flag bit (R282). -/
  | pump (op site slot flag : Nat)
  /-- A register write of the host bridge or the control processor that acts at the boundary. -/
  | regWrite (addr value : Nat)
  /-- Press execution: committed-scene counter (R372). -/
  | press (counter : Nat)
  /-- Anchor: change of MAP_OFS in samples, step of E in 2⁻¹⁶ ns and its event (R166): 0 the first anchor, 1 a change of source
  by more than the threshold, 2 an accepted jump, 3 a change of source within it; 4 more where TIME_SET becomes 1. -/
  | anchor (dOfs eStep : Int) (ev : Nat)
  /-- A WELL_CHIME level change: generator and level (R523, R527). -/
  | chime (gen : Nat) (level : Bool)
  /-- A POP message that stages, writes, executes or opens, with where it came from (KINDs of R556). -/
  | pop (src : PopFrom) (msg : List Byte)
  /-- An EXEC of an object: index, sub-index and argument bytes (KIND 0x0001). -/
  | exec (idx sub : Nat) (arg : List Byte)
  | sessionReset
  /-- A session opens (KIND 0x0008): number, role, source address and port, and key. -/
  | sessionOpen (num role addr port : Nat) (key : List Byte)
  /-- A session closes, with the cause of R711. -/
  | sessionClose (num cause : Nat)
  | clusterReset (site : Nat)
  /-- Shedding by the Active unit: tasks as 512 × site + slot, and the highest class shed. -/
  | shed (tasks : List Nat) (surv : Nat)
  /-- Capture boundary of a state copy (R563). -/
  | capture (k : Nat)
  /-- Planned handover boundary (R546). -/
  | handover (h : Nat)
deriving DecidableEq, Repr

/-- One ledger record (R555). -/
structure LedgerRec where
  apply : Nat
  rseq : Nat
  body : LedgerBody
deriving DecidableEq, Repr


/-- The header of a Siphon frame as it arrives (R550): SEQ, ACK, BLK, FLAGS, whether the CRC is good, and its lane. -/
structure FrameHdr where
  seq : Nat
  ack : Nat
  blk : Nat
  flags : Nat
  crcOk : Bool
  lane : Nat
deriving DecidableEq, Repr

/-- The payload of a MARKER (R551), with the root count of its arrival, and the round trip and turnaround of the
receiver's own MARKERs in root cycles. -/
structure Marker where
  blk : Nat
  root : Nat
  role : Nat
  quality : Nat
  release : Nat
  arrival : Nat
  roundTrip : Nat
  turnaround : Nat
deriving DecidableEq, Repr

/-- The payload of a HELLO (R562). -/
structure Hello where
  digest : Nat
  fwMajor : Nat
  fwMinor : Nat
  fwPatch : Nat
  stepping : Nat
  rates : Nat
  rank : Nat
  dcisReady : Bool
  node : Nat
deriving DecidableEq, Repr

/-- What a Siphon frame carries (R551). -/
inductive FrameBody where
  | gone (cause : Nat)
  | marker (m : Marker)
  | status
  | nak (first : Nat)
  | hello (h : Hello)
  | ledger (recs : List LedgerRec)
  | digest (blk out tdm : Nat)
  | prep (counter : Nat)
  | epochEnd (epoch bytes crc : Nat)
  | epochAck (epoch result : Nat)
  | ingress (edge : Nat) (dropped : Bool) (off : Nat) (words : List Nat)
  | snap (epoch off : Nat) (data : List Byte)
deriving DecidableEq, Repr



/-- The commands, one constructor per row of the opcode table. -/
inductive Instr where
  /-- PWR_GOOD_LOW (R47): PWR_GOOD goes low: the engine is held in Power-on Reset, output balls go to high impedance and the Wellhead mute switches close within 5 µs. -/
  | pwrGoodLow
  /-- RESET_N_LOW (R54): RESET_N is low for at least 1 µs and starts a Power-on Reset; a pulse of 0.5 µs or less is filtered. -/
  | resetNLow (ns : Nat)
  /-- BROWN_OUT (R48): VDD_CORE stays below its brown-out threshold for more than 1 µs and starts a Power-on Reset. -/
  | brownOut (ns : Nat)
  /-- VSTBY_LOW (R693): VSTBY falls below the standby reset level: the standby domain resets, scratch words and reset cause are cleared and a Power-on Reset follows. -/
  | vstbyLow
  /-- WAKE (R53): A rising edge on WAKE in Deep Standby sets POR_WAKE and starts a Power-on Reset. -/
  | wake
  /-- RELEASE (R65): The later rising edge of PWR_GOOD and RESET_N: the straps are latched and the safe sequencer starts from the start-up oscillator. -/
  | release (straps : BitVec 12) (rank : Bool)
  /-- XO_QUALIFIED (R65): XO_IN shows 256 consecutive cycles within ±1,000 ppm and is qualified, so the RPLL can lock to it. -/
  | xoQualified
  /-- XO_MISSING (R67): XO_IN is not qualified within 2 ms of release: XO_MISSING is set and the Wellhead outputs stay muted. -/
  | xoMissing
  /-- RPLL_LOCKED (R87): The RPLL phase error stays within ±2 root cycles for 10 µs: LOCKED is set and the derived clocks and the heartbeat start. -/
  | rpllLocked
  /-- PWR_TARGET_RUN (R51): A keyed write of TARGET = Run to SYS_PWR_CTRL requests the move from Idle to Run. -/
  | pwrTargetRun (key : BitVec 8) (stbyGpio : Bool)
  /-- PWR_TARGET_IDLE (R50): A keyed write of TARGET = Idle to SYS_PWR_CTRL requests the move from Run to Idle. -/
  | pwrTargetIdle (key : BitVec 8) (stbyGpio : Bool)
  /-- PWR_TARGET_DEEP_STANDBY (R52): A keyed write of TARGET = Deep Standby ramps the Wellhead down, stops the TDM ports and the links, completes the flash write and sets STATE = 4. -/
  | pwrTargetDeepStandby (key : BitVec 8) (stbyGpio : Bool)
  /-- ENTER_IDLE (R50): At a block boundary, processed sinks ramp to zero over 2 ms and the clusters are gated. -/
  | enterIdle
  /-- ENTER_RUN (R51): The clusters are powered, programs are reloaded, filter state is zeroed and the committed parameters are committed as one Press. -/
  | enterRun
  /-- ENGINE_RST (R54): ENGINE_RST in SYS_RESET_CTRL, or an EXEC of object 0x1000.11, starts an Engine Reset. -/
  | engineRst (src : ReqSrc)
  /-- SESSION_RST (R54): SESSION_RST in SYS_RESET_CTRL, or an EXEC of object 0x1000.10, requests a Session Reset at the next block boundary. -/
  | sessionRst (src : ReqSrc)
  /-- CLUSTER_RST (R54): CLUSTER_RST in SYS_RESET_CTRL, or an EXEC of object 0x9010.01, starts a Cluster Reset of the named cluster site. -/
  | clusterRst (src : ReqSrc) (site : Nat)
  /-- WATCHDOG_EXPIRY (R54): The control processor watchdog expires after 1 s without service and starts an Engine Reset. -/
  | watchdogExpiry
  /-- THERMAL_TRIP (R55): A sensor reads 130 °C or more for 10 ms and the engine is held in Engine Reset. -/
  | thermalTrip (sensor : Nat) (celsius : Int) (ms : Nat)
  /-- THERMAL_TRIP_END (R55): All eight sensors read below 115 °C and the thermal Engine Reset is released. -/
  | thermalTripEnd (celsius : List Int)
  /-- CLUSTER_RESET_RETURN (R59): A reset cluster returns to service at a block boundary with programs reloaded, filter state zeroed and pending Press entries written at rest. -/
  | clusterResetReturn (site : Nat)
  /-- BOOT_ROM_VERIFY (R71): The boot ROM checks the firmware slots for signature, anti-rollback and stepping, falls back to the other slot and starts the firmware. -/
  | bootRomVerify
  /-- RETIREMENT_RECORD_APPLY (R73): The firmware reads the retirement record and maps every recorded spare before the graph loads. -/
  | retirementRecordApply
  /-- FAMILY_CHANGE (R74): The startup configuration names the other rate family: the Wellhead ramps to zero and the RPLL control word starts to slew. -/
  | familyChange
  /-- FAMILY_SLEW_END (R90): The slew reaches the new nominal word, P takes the new period and the TDM0 lead-in runs again before the safe path resumes. -/
  | familySlewEnd
  /-- TDM0_RECONFIGURE (R76): After every Wellhead channel has been handed over, TDM0 is stopped and restarted with the configuration of the startup configuration. -/
  | tdm0Reconfigure
  /-- XO_LOST (R88): No XO_IN edge for 1 µs or 256 cycles out of tolerance: the RPLL tuning is frozen, XO_LOST is set and discipline stops. -/
  | xoLost
  /-- XO_RESTORED (R89): XO_IN qualifies again: the RPLL re-engages without a phase step and windows restart. -/
  | xoRestored
  /-- RPLL_UNLOCK (R87): The RPLL phase error exceeds ±8 root cycles: LOCKED is cleared and event 16 is raised. -/
  | rpllUnlock
  /-- SDSREF_LOSS (R98): A SerDes reference is lost, which removes the links or the DRAM that depend on it without disturbing the RPLL. -/
  | sdsrefLoss (input : Nat)
  /-- LANE_CLOCK_GATE (R101): A lane that has run no bundle for 64 core cycles has its clock gated. -/
  | laneClockGate (site : Nat) (lane : Nat)
  /-- BANK_CLOCK_GATE (R102): A Cistern bank clock is gated after 16 fabric cycles without an access. -/
  | bankClockGate (bank : Nat)
  /-- RPLL_WORD_UPDATE (R143): The reference unit writes a new RPLL control word, and the time unit adds its negated fractional change to RATE_FF of every timescale. -/
  | rpllWordUpdate (intPart : BitVec 8) (frac : BitVec 40)
  /-- REF_WINDOW_1S (R114): A 1 s measurement window completes: offsets are computed, limits are checked and candidate states and the selection are updated. -/
  | refWindow1s (raw : List Int)
  /-- REF_WINDOW_64S (R115): A 64 s window completes: the 64 s limits are checked and the drift line is fitted for each candidate. -/
  | refWindow64s (raw : List Int)
  /-- REF_LOSS_OF_SIGNAL (R106): A candidate loses its signal and moves to ABSENT. -/
  | refLossOfSignal (cand : Nat)
  /-- REF_SIGNAL_PRESENT (R119): An ABSENT candidate regains its signal and enters QUALIFYING. -/
  | refSignalPresent (cand : Nat)
  /-- WTR_EXPIRY (R119): The wait-to-restore timer of a candidate reaches WTR and the candidate becomes QUALIFIED. -/
  | wtrExpiry (cand : Nat)
  /-- REF_SELECT (R123): The selection procedure runs after a 1 s window or within 1 ms of a triggering change. -/
  | refSelect
  /-- REF_SWITCH (R126): A new selected candidate takes effect at the next block boundary, changes only the RPLL target and starts pass-through, holdover or free-run. -/
  | refSwitch (phaseErr : Int)
  /-- PASS_THROUGH_END (R127): The phase error falls below one root cycle and MODE leaves pass-through. -/
  | passThroughEnd (phaseErr : Int)
  /-- HOLD_HISTORY_ENTRY (R130): Once per second the mean control word is recorded as a holdover history entry, marked valid or not. -/
  | holdHistoryEntry (word : BitVec 48) (steady : Bool)
  /-- PULSE_EMIT (R134): A PULSE output emits its pulse at the predicted source instant plus OFFSET, flywheeling at one-second intervals when the source is lost. -/
  | pulseEmit (out : Nat) (instant : Int) (lost : Bool)
  /-- PULSE_REALIGN (R135): At the first source instant after the source returns, the pulse output realigns in one step and sets REALIGNED. -/
  | pulseRealign (out : Nat) (instant : Int)
  /-- PTP_SYNC (R158): A Sync message of a domain is taken: the offset is computed, jumps are checked and the servo steps or steers the timescale. -/
  | ptpSync (dom : Nat) (port : Nat) (logInt : Int) (t1 : Int) (corr : Int) (rc2 : Nat)
  /-- PTP_DELAY_RESP (R158): A Delay_Resp is taken: the path delay is computed, outliers are filtered and path changes are detected. -/
  | ptpDelayResp (dom : Nat) (port : Nat) (t4 : Int) (corr : Int)
  /-- PTP_ANNOUNCE (R154): An Announce message feeds the best-master algorithm and the quality of the domain, and may change the grandmaster. -/
  | ptpAnnounce (dom : Nat) (port : Nat) (a : Announce)
  /-- DELAY_REQ_SEND (R155): At its interval, a domain sends its own Delay_Req to the master. -/
  | delayReqSend (dom : Nat) (rc3 : Nat)
  /-- ANNOUNCE_RECEIPT_TIMEOUT (R157): announceReceiptTimeout expires and the domain enters HOLDING. -/
  | announceReceiptTimeout (dom : Nat)
  /-- SYNC_LOSS (R157): No usable Sync for 2 s and the domain enters HOLDING. -/
  | syncLoss (dom : Nat)
  /-- TIME_JUMP_RESOLVED (R170): At the end of VALID_WIN the jump is accepted, rejected or dropped and event 30 is raised. -/
  | timeJumpResolved (dom : Nat)
  /-- REACQ_HOLD_EXPIRY (R157): Offsets of a REJECTED domain stay within STEP_TOL for REACQ_HOLD, the timescale steps to the master and the domain enters ACQUIRING. -/
  | reacqHoldExpiry (dom : Nat)
  /-- CATCHUP_END (R167): Engine time meets the time source's time, CATCHUP clears and steering resumes. -/
  | catchupEnd
  /-- TC_FORWARD (R151): The switch forwards a PTP frame as a one-step transparent clock and adds the residence time to correctionField. -/
  | tcForward (f : TcFrame)
  /-- TC_FOLLOW_UP_LATE (R151): A Follow_Up held for 10 ms without its Sync leaving is forwarded unchanged and counted in TC_FU_LATE. -/
  | tcFollowUpLate (seq : Nat)
  /-- TAKE (R145): A write of TAKE = 1 latches the root count and the three timescales on one root edge. -/
  | take
  /-- TIM_COUNT_LO_READ (R680): A 64-bit read of TIM_COUNT_LO returns the counter and latches bits 79:64 into TIM_COUNT_HI. -/
  | timCountLoRead
  /-- CORR_WRITE (R175): A write to CORR of a port takes effect at one Sync for each domain using the port and clears their tmp values. -/
  | corrWrite (port : Nat) (corr : Int)
  /-- MNOP (R222): MAC slot with no operation. -/
  | mnop (p : LaneAt)
  /-- MAC2 (R222): Two signed multiply-accumulates on M0 and M1 into acc[T0] and acc[T1]. -/
  | mac2 (p : LaneAt) (t0 t1 : BitVec 2) (ra rb : BitVec 6) (c : MacBits)
  /-- MSU2 (R222): Two signed multiply-subtracts on M0 and M1. -/
  | msu2 (p : LaneAt) (t0 t1 : BitVec 2) (ra rb : BitVec 6) (c : MacBits)
  /-- MPY2 (R222): Two signed multiplies written to accumulators, clearing CL. -/
  | mpy2 (p : LaneAt) (t0 t1 : BitVec 2) (ra rb : BitVec 6) (c : MacBits)
  /-- MAC1 (R222): One multiply-accumulate on M0 with operand kinds from SU. -/
  | mac1 (p : LaneAt) (t su : BitVec 2) (ra rb : BitVec 6) (c : MacBits)
  /-- MSU1 (R222): One multiply-subtract on M0 with operand kinds from SU. -/
  | msu1 (p : LaneAt) (t su : BitVec 2) (ra rb : BitVec 6) (c : MacBits)
  /-- MPY1 (R222): One multiply written to an accumulator on M0. -/
  | mpy1 (p : LaneAt) (t su : BitVec 2) (ra rb : BitVec 6) (c : MacBits)
  /-- FTAP (R226): Multiplies the latched YD and XD words into an accumulator on M0. -/
  | ftap (p : LaneAt) (t : BitVec 2) (neg : Bool) (c : MacBits)
  /-- EXT (R197): Extracts an accumulator into a data register with a shift, rounding and optional saturation. -/
  | extA (p : LaneAt) (a : BitVec 2) (rd sh : BitVec 6) (c : MacBits)
  /-- DEP (R199): Deposits a data register into an accumulator with a left shift. -/
  | depA (p : LaneAt) (a : BitVec 2) (rs sh : BitVec 6)
  /-- AADD (R200): Adds or subtracts one accumulator into another. -/
  | aadd (p : LaneAt) (t u : BitVec 2) (neg : Bool) (c : MacBits)
  /-- CLR (R222): Zeroes the accumulators named in MASK, with CL and residue. -/
  | clrA (p : LaneAt) (mask : BitVec 4)
  /-- ANOP (R227): ALU slot with no operation. -/
  | anop (p : LaneAt)
  /-- ADD (R227): Adds ra to rd. -/
  | addR (p : LaneAt) (o : Alu)
  /-- SUB (R227): Subtracts ra from rd. -/
  | subR (p : LaneAt) (o : Alu)
  /-- NEG (R227): Negates ra. -/
  | negR (p : LaneAt) (o : Alu)
  /-- ABS (R227): Absolute value of ra. -/
  | absR (p : LaneAt) (o : Alu)
  /-- MOV (R227): Copies ra. -/
  | movR (p : LaneAt) (o : Alu)
  /-- AND (R227): Bitwise AND. -/
  | andR (p : LaneAt) (o : Alu)
  /-- OR (R227): Bitwise OR. -/
  | orR (p : LaneAt) (o : Alu)
  /-- XOR (R227): Bitwise XOR. -/
  | xorR (p : LaneAt) (o : Alu)
  /-- NOT (R227): Bitwise complement of ra. -/
  | notR (p : LaneAt) (o : Alu)
  /-- ASL (R227): Arithmetic left shift of rd by ra modulo 64. -/
  | asl (p : LaneAt) (o : Alu)
  /-- ASR (R227): Arithmetic right shift of rd by ra modulo 64. -/
  | asr (p : LaneAt) (o : Alu)
  /-- LSL (R227): Logical left shift of rd by ra modulo 64. -/
  | lsl (p : LaneAt) (o : Alu)
  /-- LSR (R227): Logical right shift of rd by ra modulo 64. -/
  | lsr (p : LaneAt) (o : Alu)
  /-- ASLI (R227): Arithmetic left shift by an immediate amount. -/
  | asli (p : LaneAt) (o : Alu)
  /-- ASRI (R227): Arithmetic right shift by an immediate amount. -/
  | asri (p : LaneAt) (o : Alu)
  /-- LSLI (R227): Logical left shift by an immediate amount. -/
  | lsli (p : LaneAt) (o : Alu)
  /-- LSRI (R227): Logical right shift by an immediate amount. -/
  | lsri (p : LaneAt) (o : Alu)
  /-- MIN (R227): Signed minimum of rd and ra. -/
  | minR (p : LaneAt) (o : Alu)
  /-- MAX (R227): Signed maximum of rd and ra. -/
  | maxR (p : LaneAt) (o : Alu)
  /-- CMP (R227): Sets Z and N from a signed comparison of rd and ra. -/
  | cmpR (p : LaneAt) (o : Alu)
  /-- SETA (R229): Writes an address-side register from a data register. -/
  | seta (p : LaneAt) (o : Alu)
  /-- GETA (R229): Reads an address-side register into a data register. -/
  | geta (p : LaneAt) (o : Alu)
  /-- LD (R231): Loads a memory word into a data register and latches it in XD or YD. -/
  | ldW (p : LaneAt) (o : MemSlot) (ecc : Ecc)
  /-- ST (R231): Stores a data register to memory. -/
  | stW (p : LaneAt) (o : MemSlot)
  /-- TAP (R231): Loads a word and writes the same word to the successor address. -/
  | tapW (p : LaneAt) (o : MemSlot) (ecc : Ecc)
  /-- SACC (R233): Stores one word of an accumulator spill. -/
  | sacc (p : LaneAt) (o : SpillSlot) (flt : Bool)
  /-- LACC (R233): Fills one word of an accumulator, and commits the fill at word 2. -/
  | lacc (p : LaneAt) (o : SpillSlot) (ecc : Ecc)
  /-- BRA (R235): Branches always. -/
  | bra (p : LaneAt) (off : BitVec 8)
  /-- BEQ (R235): Branches if Z = 1. -/
  | beq (p : LaneAt) (off : BitVec 8)
  /-- BNE (R235): Branches if Z = 0. -/
  | bne (p : LaneAt) (off : BitVec 8)
  /-- BLT (R235): Branches if N = 1. -/
  | blt (p : LaneAt) (off : BitVec 8)
  /-- BGE (R235): Branches if N = 0. -/
  | bge (p : LaneAt) (off : BitVec 8)
  /-- BFL (R235): Branches if any sticky arithmetic flag is set. -/
  | bfl (p : LaneAt) (off : BitVec 8)
  /-- ROTW (R241): Rotates the register window by one. -/
  | rotw (p : LaneAt)
  /-- END (R248): Ends the task after this bundle and ends every active loop. -/
  | endTask (p : LaneAt)
  /-- LDI (R236): Loads a 32-bit immediate into a data register. -/
  | ldi (p : LaneAt) (rd : BitVec 6) (imm : BitVec 32)
  /-- SETAG (R236): Writes an address-side register from an immediate. -/
  | setag (p : LaneAt) (name : BitVec 6) (imm : BitVec 32)
  /-- LOOP (R237): Starts a hardware loop with an immediate count, or skips the body for a count of 0. -/
  | loopI (p : LaneAt) (count : BitVec 16) (len : BitVec 8) (rot : Bool)
  /-- LOOPR (R237): Starts a hardware loop with its count taken from a register. -/
  | loopr (p : LaneAt) (rs : BitVec 6) (len : BitVec 8) (rot : Bool)
  /-- JMP (R236): Jumps to an absolute bundle address. -/
  | jmp (p : LaneAt) (target : BitVec 13)
  /-- LOOP_RETURN (R237): An iteration of a loop body ends: the lane returns to the first bundle, or exits when the count is spent. -/
  | loopReturn (site lane : Nat)
  /-- RES_INJ (R214): A keyed write of RES_INJ, or an EXEC of object 0x9020+n.03, inverts the residue prediction of the next accumulate on the named lane site. -/
  | resInj (src : ReqSrc) (site lane : Nat)
  /-- TASK_READY (R260): An ARMED task has all its MASK flags and output credits, so it becomes READY and enters its queue. -/
  | taskReady (site slot : Nat)
  /-- TASK_DISPATCH (R267): A lane is free and arbitration selects a task, sets the lane state and starts the first bundle 12 cycles later. -/
  | taskDispatch (site : Nat) (ecc : Ecc)
  /-- TASK_COMPLETE (R268): The end bundle leaves W: PEND is set, posts and write-backs are queued, inputs are released and the task becomes ARMED or HELD. -/
  | taskComplete (site slot : Nat)
  /-- HELD_RELEASE (R269): The post queue takes the remaining entries of a HELD completion and the lane is freed. -/
  | heldRelease (site slot : Nat)
  /-- RETAIN_COPY_END (R279): The copy of RETAIN buffers to their SHADOW ends and the task may become ready again. -/
  | retainCopyEnd (site slot : Nat)
  /-- POST_DELIVER (R271): A post entry leaves the queue and sets a flag, requests a fetch or returns credit at its target; a late post only releases its slot. -/
  | postDeliver (site : Nat) (carries : List SrcBlock)
  /-- FETCH_COMPLETE (R271): A transfer engine finishes a fetch into a CIS_IN window and sets the flags of its post list. -/
  | fetchComplete (site : Nat) (ecc : Ecc)
  /-- WRITE_BACK_COMPLETE (R268): A write-back of a CIS_OUT slot to the Cistern ends and its post entries follow. -/
  | writeBackComplete (site : Nat) (carries : List SrcBlock)
  /-- CREDIT_RETURN (R270): A credit return lowers the producer's PEND count of a slot. -/
  | creditReturn (site buf slot : Nat)
  /-- TASK_DEADLINE (R275): A task reaches its deadline instant without completing: it is stopped, substitutes are written and posted, and the miss is counted. -/
  | taskDeadline (site slot : Nat)
  /-- TASK_RETRY (R280): After a lane error that allows a retry, the RETAIN buffers are restored and the task is dispatched on another lane. -/
  | taskRetry (site slot : Nat)
  /-- PUMP_LOAD (R262): The LOAD command moves an EMPTY slot to IDLE. -/
  | pumpLoad (site slot : Nat)
  /-- PUMP_ARM (R262): The ARM command arms a task at the next block boundary, with FLAGS cleared. -/
  | pumpArm (site slot : Nat)
  /-- PUMP_CANCEL (R262): The CANCEL command cancels a task, after its completion posts when it is running. -/
  | pumpCancel (site slot : Nat)
  /-- PUMP_UNLOAD (R262): The UNLOAD command returns a slot to EMPTY. -/
  | pumpUnload (site slot : Nat)
  /-- PUMP_FLAG (R285): The FLAG command sets a flag bit of a task; bit 31 is refused with CMD_ERR. -/
  | pumpFlag (site slot : Nat) (flag : BitVec 5)
  /-- PUMP_TIMER (R259): A Pump timer sets its flag bit DELAY core cycles after each block boundary. -/
  | pumpTimer (site k : Nat)
  /-- TASK_DESCRIPTOR_WRITE (R252): A fabric write to a task descriptor is performed only while the task is EMPTY or IDLE, and is otherwise answered with an error. -/
  | taskDescriptorWrite (master site slot word : Nat) (value : BitVec 64)
  /-- GRAPH_LOAD (R283): The control processor checks a graph load or update against the acceptance rules, and loads it or raises event 83. -/
  | graphLoad (g : Graph)
  /-- DIRECT_PATH_WORD (R308): A latched TDM input word is converted, scaled by DGAIN, crossfaded and delivered to its direct sinks in 24 cycles. -/
  | directPathWord (port slot : Nat) (word : BitVec 32)
  /-- ROUTE_CROSSFADE_END (R332): A route crossfade reaches K samples and the sink carries the new source alone; a held change then waits for the next boundary. -/
  | routeCrossfadeEnd (sink : Nat)
  /-- PRESS (R360): An EXEC of object 0x7000.10 is checked and either accepted, which seals the Vat, or refused with event 113. -/
  | press (arg : List Byte)
  /-- SCENE_REASSERT (R369): An EXEC of object 0x7000.20 is checked and accepted as a Press that also restores defaults. -/
  | sceneReassert (arg : List Byte)
  /-- PRESS_CANCEL (R368): An EXEC of object 0x7000.11 cancels a pending Press and reopens the Vat. -/
  | pressCancel
  /-- VAT_CLEAR (R368): An EXEC of object 0x7000.12 empties the Vat, and is refused while a Press is pending. -/
  | vatClear
  /-- PRESS_PREPARED (R362): Preparation of an accepted Press ends and the Vat becomes PREPARED. -/
  | pressPrepared
  /-- FILTER_CROSSFADE_END (R350): A filter crossfade reaches K samples, only the new filter runs and held changes become due. -/
  | filterCrossfadeEnd (idx stage elem : Nat)
  /-- DELAY_CROSSFADE_END (R351): A delay crossfade ends at its new position. -/
  | delayCrossfadeEnd (idx sub elem : Nat)
  /-- DELAY_SLEW_END (R352): A delay slew reaches its target delay. -/
  | delaySlewEnd (idx sub elem : Nat)
  /-- POP_READ (R620): A READ request returns committed, staged or DESCRIBE values. -/
  | popRead (src : PopFrom) (msg : List Byte)
  /-- POP_WRITE (R621): A WRITE request checks role, type and range and applies all elements or none, taking effect at the next boundary for STG objects. -/
  | popWrite (src : PopFrom) (msg : List Byte)
  /-- POP_STAGE (R355): A STAGE request enters or replaces a Vat entry and updates the pending digest. -/
  | popStage (src : PopFrom) (msg : List Byte)
  /-- POP_SUBSCRIBE (R623): A SUBSCRIBE request creates or cancels an object or event subscription. -/
  | popSubscribe (src : PopFrom) (msg : List Byte)
  /-- POP_BATCH (R624): A BATCH part runs its sub-requests in order, or collects them for an atomic apply at its last part. -/
  | popBatch (src : PopFrom) (msg : List Byte)
  /-- BATCH_TIMEOUT (R624): An atomic batch without a part for 2 s is discarded. -/
  | batchTimeout (session : Nat)
  /-- POP_OPEN (R626): An OPEN starts a session handshake and is answered with CHALLENGE, or with ROLE or LIMIT. -/
  | popOpen (src : PopFrom) (msg : List Byte)
  /-- POP_PROOF (R626): A PROOF is checked and the session opens with ACCEPT; repeated failures block the source. -/
  | popProof (src : PopFrom) (msg : List Byte)
  /-- PROOF_TIMEOUT (R626): No PROOF arrives within 2 s of the CHALLENGE and the handshake ends without a response. -/
  | proofTimeout (session : Nat)
  /-- POP_CLOSE (R628): A CLOSE ends the session with its subscriptions, duplicate memory and open batch. -/
  | popClose (src : PopFrom) (msg : List Byte)
  /-- SESSION_CLOSE_EXEC (R628): An EXEC of object 0x1000.12 closes the named session. -/
  | sessionCloseExec (session : Nat)
  /-- SESSION_IDLE_TIMEOUT (R628): No authenticated message arrives within the idle timeout and the session closes. -/
  | sessionIdleTimeout (session : Nat)
  /-- NOTIFY_SEND (R623): A NOTIFY with queued object or event items is sent to the session's last address, respecting MIN_MS. -/
  | notifySend (session : Nat)
  /-- PEER_KEEPALIVE (R639): Every 10 s the engine reads the consistency record of each listed peer. -/
  | peerKeepalive (elem : Nat) (answer : Option (List Byte))
  /-- MDNS_RECEIVE (R638): An mDNS record of a peer updates the roster and flags node, digest or firmware conflicts. -/
  | mdnsReceive (plane addr : Nat) (info : PeerInfo)
  /-- ROSTER_AGE_OUT (R638): A peer or partner roster entry older than ROSTER_AGE is removed; an amplifier entry is marked STALE. -/
  | rosterAgeOut (kind node : Nat)
  /-- DISAGREEMENT_CLEAR (R640): A disagreement flag clears after the condition has been absent for 10 s. -/
  | disagreementClear (kind node flag : Nat)
  /-- SPI_STATUS (R635): The STATUS command returns the SPI status byte. -/
  | spiStatus
  /-- SPI_SEND (R635): The SEND command delivers one POP message, or discards it when there is no space or the LEN is bad. -/
  | spiSend (len : Nat) (msg : List Byte)
  /-- SPI_RECEIVE (R635): The RECEIVE command returns the next queued response or NOTIFY. -/
  | spiReceive (early : Bool)
  /-- SPI_IMAGE (R635): The IMAGE command writes image bytes to working RAM while BOOT_LOAD = 1. -/
  | spiImage (offset : Nat) (data : List Byte)
  /-- SPI_IMAGE_DONE (R635): The IMAGE_DONE command has the boot ROM check the loaded image under R71. -/
  | spiImageDone (len : Nat) (image : FwSlot)
  /-- I2C_WRITE (R637): An I²C write transaction with a good PEC performs a write to the SYS register that SEL names. -/
  | i2cWrite (sel : BitVec 8) (data : List Byte) (pecByte : BitVec 8)
  /-- I2C_READ (R637): An I²C read transaction returns a SYS register with its PEC. -/
  | i2cRead (sel : BitVec 8)
  /-- ECC_WRITE_BACK (R381): The corrected word is written back in the next cycle in which no port writes it. -/
  | eccWriteBack (addr : Nat)
  /-- PROGRAM_LINE_RESTORE (R382): The control processor rewrites a bad program line from the graph image. -/
  | programLineRestore (site line : Nat) (ecc : Ecc)
  /-- FABRIC_REQUEST (R419): A master request enters the matrix, is decoded and checked for access, or is answered with an error. -/
  | fabricRequest (r : FabReq) (ecc : Ecc)
  /-- FABRIC_GRANT (R428): An arbiter grants a burst, which runs to its last beat and returns its responses. -/
  | fabricGrant (target : Nat) (hit : Option Nat) (times : Nat) (ecc : Ecc)
  /-- LOCK_TIMEOUT (R433): More than 16 fabric cycles pass in a locked sequence: the target is released and event 95 is raised. -/
  | lockTimeout (target : Nat)
  /-- MASTER_PORT_RESET (R436): A master port enters reset: its bursts are aborted, its lock is released and event 94 is raised. -/
  | masterPortReset (master : Nat) (running : Option Nat) (beats : Nat)
  /-- REMAP_SET (R439): A keyed write of REMAP = 1 by the control processor swaps the boot ROM and working RAM. -/
  | remapSet (master key : Nat)
  /-- CISTERN_BIT_SET (R391): A write to the bit-set alias atomically sets bits in a Cistern word. -/
  | cisternBitSet (master : Nat) (off : Nat) (lanes : BitVec 8) (data : BitVec 64) (ownerWriting : Bool) (ecc : Ecc)
  /-- CISTERN_BIT_CLEAR (R391): A write to the bit-clear alias atomically clears bits in a Cistern word. -/
  | cisternBitClear (master : Nat) (off : Nat) (lanes : BitVec 8) (data : BitVec 64) (ownerWriting : Bool) (ecc : Ecc)
  /-- BANK_HANDOVER_REQ (R393): A write of REQ with NEW_OWNER starts a bank handover, or is ignored with HO_ERR. -/
  | bankHandoverReq (master bank newOwner : Nat)
  /-- BANK_HANDOVER (R394): Once the owner port has drained, OWNER takes the new code and event 90 is raised. -/
  | bankHandover (bank : Nat)
  /-- BANK_RETENTION_ENTER (R400): A bank with RET = 1 enters retention after 1,024 idle fabric cycles. -/
  | bankRetentionEnter (bank : Nat)
  /-- BANK_WAKE (R401): A bank in retention wakes after 2 µs and serves the held access. -/
  | bankWake (bank : Nat)
  /-- SPARE_ROW_COPY (R397): The health unit copies a retiring row to a spare row during the block before the mapping. -/
  | spareRowCopy (bankSite row : Nat) (ecc : Ecc)
  /-- SPARE_BANK_COPY_END (R398): The copy of a bank to a spare bank site ends, and the bank moves at the next boundary. -/
  | spareBankCopyEnd (bank : Nat)
  /-- DCIS_TRAINING_END (R405): Training of the DRAM channels ends, or a channel is marked failed. -/
  | dcisTrainingEnd (ok0 ok1 : Bool)
  /-- DCIS_SELF_REFRESH_EXIT (R405): After an Engine Reset the DRAM leaves self-refresh within 1 ms. -/
  | dcisSelfRefreshExit
  /-- DCIS_ZEROING_END (R405): Zeroing of the regions without KEEP ends and the Deep Cistern becomes ready. -/
  | dcisZeroingEnd
  /-- DCIS_WRITE_MOVE (R407): A write stream copies a staging slot to its DRAM ring during the block. -/
  | dcisWriteMove (stream : Nat)
  /-- DCIS_READ_MOVE (R407): A read stream fills the next staging slot from its ring during the block. -/
  | dcisReadMove (stream : Nat) (badWords : List Nat)
  /-- DCIS_LATE (R410): A stream move not done by its limit is abandoned, zero-filled for reads, and event 91 is raised. -/
  | dcisLate (stream : Nat)
  /-- DCIS_FAILED (R411): A channel fails and the whole Deep Cistern fails: moves deliver zero and event 92 is raised. -/
  | dcisFailed (channel : Nat)
  /-- TDM_START (R465): TDM_START with GO, or an EXEC of object 0x4010.01, arms the ports in GROUP with a trigger. -/
  | tdmStart (word : BitVec 64)
  /-- TDM_START_TRIGGER (R466): At S0 after the trigger, master ports start their clocks and enter LEAD_IN, and slave ports start SEARCHING. -/
  | tdmStartTrigger (trig : Nat)
  /-- TDM_STOP (R467): TDM_STOP with GO, or an EXEC of object 0x4010.02, stops the named ports at the next boundary with POST lead-out frames. -/
  | tdmStop (word : BitVec 32)
  /-- TDM_FRAME (R447): A port frame begins: slot words are moved, staged masks are applied, the gate is evaluated and ingress blocks complete. -/
  | tdmFrame (port : Nat) (words : List (BitVec 32))
  /-- TDM_FSYNC_EDGE (R453): An active FSYNC edge at a slave port measures M, declares or checks lock and assigns the frame to a sample. -/
  | tdmFsyncEdge (port m root : Nat)
  /-- TDM_LOCK_LOST (R454): A slave loses lock on missing FSYNC, a changed M or a period error and enters SEARCHING with event 100. -/
  | tdmLockLost (port : Nat)
  /-- TDM_LEAD_IN_END (R466): PRE lead-in frames pass, the port enters RUNNING and event 98 is raised. -/
  | tdmLeadInEnd (port : Nat)
  /-- TDM_LEAD_OUT_END (R467): POST lead-out frames pass, the clocks stop and the port enters STOPPED with event 99. -/
  | tdmLeadOutEnd (port : Nat)
  /-- TDM_MASK_WRITE (R461): A mask write is staged, or ignored with MASK_ERR when K exceeds STRIDE. -/
  | tdmMaskWrite (port : Nat) (out : Bool) (mask : BitVec 32)
  /-- TDM_CFG_WRITE (R468): A TDMn_CFG write is applied only to a STOPPED port with a valid configuration, and is otherwise ignored with CFG_ERR. -/
  | tdmCfgWrite (port : Nat) (value : BitVec 64)
  /-- NET_LINK_UP (R475): Block lock holds for 10 ms, the link comes up and event 40 is raised. -/
  | netLinkUp (port : Nat)
  /-- NET_LINK_DOWN (R475): Lock is lost for 1 ms, the link goes down, its queues are discarded and event 40 is raised. -/
  | netLinkDown (port : Nat)
  /-- IPV4_WRITE (R477): A plane address write starts the RFC 5227 probe. -/
  | ipv4Write (plane : Nat) (addr : BitVec 32)
  /-- ADDR_PROBE_END (R477): The address probe ends and the plane starts using its address. -/
  | addrProbeEnd (plane : Nat)
  /-- NET_ADDR_CONFLICT (R477): An address conflict stops the plane's use of the address and raises event 49. -/
  | netAddrConflict (plane : Nat)
  /-- SWITCH_FRAME (R478): The switch stores, classifies, snoops and forwards a frame within its plane, or drops it. -/
  | switchFrame (f : SwFrame)
  /-- MAC_AGE_OUT (R478): A learned MAC entry ages out after AGE seconds. -/
  | macAgeOut (plane mac : Nat)
  /-- RTP_PACKET_RX (R488): A received RTP packet is validated and its samples are placed by timestamp into unfilled buffer positions. -/
  | rtpPacketRx (p : RtpPacket)
  /-- RX_LEG_TIMEOUT (R491): No valid packet on a plane for 10 × P samples, the leg goes down and event 43 is raised. -/
  | rxLegTimeout (stream plane : Nat)
  /-- RX_IDLE_TIMEOUT (R491): No valid packet for 100 ms and the stream enters IDLE with event 41. -/
  | rxIdleTimeout (stream : Nat)
  /-- TX_PACKET_CLOSE (R493): A transmit packet closes, is stamped from the media count and is sent on each plane, with credit returned for the slot. -/
  | txPacketClose (stream : Nat)
  /-- STREAM_ENABLE (R499): Setting EN of a stream is checked and takes effect at the next boundary, or is refused with event 44. -/
  | streamEnable (tx : Bool) (stream : Nat)
  /-- STREAM_DISABLE (R497): Clearing EN stops the stream at the next boundary, with receive channels fading out. -/
  | streamDisable (tx : Bool) (stream : Nat)
  /-- SDP_WRITE (R500): SDP text written to a receive stream is parsed into its descriptor, or refused with code 8. -/
  | sdpWrite (stream : Nat) (text : List Byte)
  /-- MDNS_ANNOUNCE (R502): The engine announces its service and TXT keys, again within 1 s of a change. -/
  | mdnsAnnounce
  /-- SAP_ANNOUNCE (R503): Every SAP_INT seconds the SDP of each transmit stream is announced. -/
  | sapAnnounce (stream : Nat)
  /-- SAP_RECEIVE (R503): A received SAP announcement is listed in object 0x3300.10. -/
  | sapReceive (a : SapMsg)
  /-- SAP_AGE_OUT (R503): A heard SDP entry ages out. -/
  | sapAgeOut (src hash : Nat)
  /-- WELL_SAMPLE_TICK (R514): At each sample tick a channel takes a code or handles underflow, applies gain g and drives its modulator or ladder. -/
  | wellSampleTick (chime : Bool)
  /-- WELL_FALLBACK_RETURN (R522): After 16 blocks posted on time, the channel returns to its router source. -/
  | wellFallbackReturn (channel : Nat)
  /-- WELL_CODE_WRITE (R510): A code write places one code in a FEED = 1 queue, or is refused with OVERFLOW when the queue is full. -/
  | wellCodeWrite (channel : Nat) (code : BitVec 32)
  /-- WELL_CFG_WRITE (R519): A WELLm_CFG write enables, disables or starts a mode, range or feed change with ramps. -/
  | wellCfgWrite (channel : Nat) (value : BitVec 32)
  /-- WELL_CHANGE_SWITCH (R519): The ramp-down of a change ends, the channel switches, flushes its queue and ramps back up. -/
  | wellChangeSwitch (channel : Nat)
  /-- WELL_CHIME (R527): The WELL_CHIME level holds for 1 ms, the change is taken and event 106 is raised. -/
  | wellChime (level : Bool)
  /-- GATE_RISE (R527): The generator gate rises and the pattern starts at its first non-skipped step. -/
  | gateRise (gen : Nat)
  /-- GATE_FALL (R527): The generator gate falls and the current step finishes with its release. -/
  | gateFall (gen : Nat)
  /-- GEN_STEP_END (R526): A pattern step's duration ends and the next step, a repeat or the stop follows. -/
  | genStepEnd (gen : Nat)
  /-- WELL_GEN_CFG_WRITE (R525): A generator configuration or step write updates AMP, GATE or a step for the next boundary or step start. -/
  | wellGenCfgWrite (gen : Nat) (step : Option (Fin 4)) (value : BitVec 64)
  /-- HB_TOGGLE (R534): The heartbeat generator toggles HB_TX every 1,024 core cycles. -/
  | hbToggle
  /-- HB_FAULT (R538): HB_RX is silent for 12,288 cycles while Siphon frames arrive, so HB_FAULT is set. -/
  | hbFault
  /-- PARTNER_LOST (R538): No heartbeat edge and no frame for 12,288 cycles, so the partner is lost and the role changes (Contest or Solo). -/
  | partnerLost
  /-- GONE (R537): A GONE frame from the partner declares it lost and starts the switchover. -/
  | gone (hdr : FrameHdr) (cause : Nat)
  /-- CLAIM_HOLD_RELEASE (R535): The analogue hold releases CLAIM 4 µs after the last HB_TX toggle. -/
  | claimHoldRelease
  /-- CLAIM_TAKE (R542): The unit drives CLAIM low under the claim rule and drives its outputs. -/
  | claimTake (highFor : Nat) (witnessOk : Bool)
  /-- CONTEST_WAIT_END (R547): After 50 µs of CLAIM high, a rank-1 unit queries the witness or ends the contest. -/
  | contestWaitEnd (high witnessOk : Bool)
  /-- CONTEST_TMO (R542): The partner's heartbeat has been absent for CONTEST_TMO, which allows a rank-1 claim. -/
  | contestTmo
  /-- WITNESS_QUERY (R548): An EXEC of object 0x8030.01 on a witness probes the named partner. -/
  | witnessQuery (node : Nat)
  /-- WITNESS_PROBE_END (R548): The witness's probe is answered or times out after WIT_PROBE, and it replies ALIVE, DEAD or UNKNOWN. -/
  | witnessProbeEnd (alive : Bool)
  /-- WITNESS_REPLY (R548): The contesting unit receives the witness reply, or its timeout passes, and claims or diverges. -/
  | witnessReply (reply : Nat)
  /-- SIPH_LANE_UP (R549): A Siphon lane holds block lock for 10 µs and comes up. -/
  | siphLaneUp (lane : Nat)
  /-- SIPH_LANE_DOWN (R549): A Siphon lane loses lock for 1 µs and goes down; with both lanes down the Siphon is down. -/
  | siphLaneDown (lane : Nat)
  /-- SIPH_LANE_RETRAIN_TIMEOUT (R569): A Siphon lane gets no block lock within 10 s of retraining and is retired. -/
  | siphLaneRetrainTimeout (lane : Nat)
  /-- MARKER (R551): A MARKER frame updates the link delay, the partner's grid and the release block. -/
  | marker (hdr : FrameHdr) (body : Marker)
  /-- STATUS (R551): A STATUS frame carries ACK and flags when no other frame has left. -/
  | statusFrame (hdr : FrameHdr)
  /-- STATUS_TIMER (R551): No frame has left for 4,096 core cycles and a STATUS frame is sent. -/
  | statusTimer
  /-- NAK (R552): A NAK makes the sender resend from the named SEQ out of its replay buffer. -/
  | nak (hdr : FrameHdr) (first : Nat)
  /-- SEQ_GAP_TIMEOUT (R552): A SEQ gap lasts 2 µs and the receiver sends a NAK. -/
  | seqGapTimeout
  /-- HELLO (R562): A HELLO is checked for the join and answered, or the join is refused with event 62. -/
  | hello (hdr : FrameHdr) (body : Hello)
  /-- LEDGER (R558): Ledger records are stored for application at their APPLY boundary, and a gap or late record causes divergence. -/
  | ledger (hdr : FrameHdr) (recs : List LedgerRec)
  /-- DIGEST (R560): The partner's block digests are compared with the unit's own, and a mismatch causes divergence. -/
  | digest (hdr : FrameHdr) (blk out tdmIn : Nat)
  /-- DIGEST_SEND (R559): Once the egress blocks have formed every word of a block, both digests are sent. -/
  | digestSend (blk : Nat)
  /-- PREP (R372): A PREP frame reports that the partner's Press preparation is complete. -/
  | prep (hdr : FrameHdr) (counter : Nat)
  /-- EPOCH_END (R563): An image epoch is checked and committed or asked again. -/
  | epochEnd (hdr : FrameHdr) (epoch bytes crc : Nat)
  /-- EPOCH_ACK (R563): An EPOCH_ACK moves the copy on to the next epoch, or has the epoch sent again. -/
  | epochAck (hdr : FrameHdr) (epoch result : Nat)
  /-- INGRESS (R553): An INGRESS frame writes an ingress slot into the standby's Cistern, and fetches or drops are posted. -/
  | ingress (hdr : FrameHdr) (edge : Nat) (dropped : Bool) (off : Nat) (words : List Nat)
  /-- SNAP (R563): A SNAP frame delivers image bytes of the current epoch. -/
  | snap (hdr : FrameHdr) (epoch off : Nat) (data : List Byte)
  /-- SWITCH (R546): SWITCH with KEY, or an EXEC of object 0x8010.10, stamps a planned handover boundary. -/
  | switchOver
  /-- REJOIN (R540): REJOIN, or an EXEC of object 0x8010.11 with argument 0, makes a Diverged unit try to rejoin now. -/
  | rejoin
  /-- PARTNER_DIVERGE_REQUEST (R560): REJOIN on an Active unit, or an EXEC of object 0x8010.11 with argument 1, makes the partner Diverged with cause 11. -/
  | partnerDivergeRequest
  /-- REJOIN_WAIT_EXPIRY (R540): REJOIN_WAIT passes with AUTO_REJOIN set and a Diverged unit sends HELLO. -/
  | rejoinWaitExpiry
  /-- SYNC_TIMEOUT (R565): No lockstep within 120 s of K, and the copy fails with cause 9. -/
  | syncTimeout
  /-- ERR_WIN_EXPIRY (R573): A counted error is forgotten ERR_WIN after it was counted. -/
  | errWinExpiry
  /-- SPARE_CLUSTER_READY (R576): A spare cluster is powered, reset and its memories copied, ready for mapping at the next boundary. -/
  | spareClusterReady (site : Nat) (ok : Bool)
  /-- HLTH_RETIRE (R573): A keyed HLTH_RETIRE write, or an EXEC of object 0x9010.03, retires a resource manually. -/
  | hlthRetire (kind site : Nat)
  /-- RETIREMENT_RECORD_WRITE (R578): Within 1 s of a mapping, the retirement record is written to the boot flash. -/
  | retirementRecordWrite (ok : Bool)
  /-- BRINE_BORROW (R586): Brine copies a row to the shadow row and starts its March test. -/
  | brineBorrow (addr : Nat)
  /-- BRINE_BORROW_END (R586): The March test of a borrowed row ends, the shadow is written back and the row is released. -/
  | brineBorrowEnd (memId : Nat) (pass : Bool)
  /-- BRINE_YIELD (R587): An access to a borrowed row makes Brine restore and release the row within 40 cycles. -/
  | brineYield (memId : Nat)
  /-- BRINE_SCRUB (R584): Brine reads a row to scrub it. -/
  | brineScrub (addr : Nat) (ecc : Ecc)
  /-- BRINE_SPARE_TEST (R585): Brine powers a spare cluster or bank site and tests all its rows. -/
  | brineSpareTest (cluster : Bool) (site : Nat)
  /-- BRINE_SPARE_TEST_END (R585): The spare test ends, the memories are zeroed and the site is powered off. -/
  | brineSpareTestEnd (pass : Bool)
  /-- BRINE_SHADOW (R589): Every SHADOW_INT blocks, Brine dispatches a chosen task on the spare lane in lockstep. -/
  | brineShadow (site lane : Nat)
  /-- BRINE_SHADOW_END (R591): A shadow run ends and its stores and flags are compared with the active lane's. -/
  | brineShadowEnd (site : Nat)
  /-- MONITOR_SAMPLE (R593): Once per second the monitors are sampled and warnings are raised. -/
  | monitorSample (values : List Int) (osc : List Nat)
  /-- SOUND_FRAME_RESULT (R597): After a pilot frame, admittance and earth ratio are formed and the line state is updated. -/
  | soundFrameResult (feed frame : Nat) (corr : Corr)
  /-- SOUND_LEARN (R598): An EXEC of object 0x9100.20 starts learning a baseline. -/
  | soundLearn (feed : Nat)
  /-- SOUND_LEARN_END (R598): 64 frames complete, the baseline is stored and event 155 is raised. -/
  | soundLearnEnd (feed : Nat)
  /-- SOUND_NIGHTLY (R601): At NIGHT_SOD the nightly summary is written and event 156 is raised. -/
  | soundNightly
  /-- EVT_OVERFLOW (R652): A full event queue has space again and event 5 is raised with the count of dropped records. -/
  | evtOverflow (route : Nat)
  /-- RECORDER_WRITE (R653): Queued event records are written to the recorder region in SEQ order. -/
  | recorderWrite
  /-- BLOCK_BOUNDARY (R668): A block boundary is reached and steps 0 to 8 run in their fixed order. -/
  | blockBoundary
  /-- REGISTER_WRITE (R12): A write to a register field that has no row of its own, under the access codes and the KEY and reserved-bit rules. -/
  | registerWrite (master addr : Nat) (value : BitVec 64)
  /-- BROWN_OUT_END (R692): VDD_CORE rises back above its rising brown-out threshold, ending the Power-on Reset that the brown-out started. -/
  | brownOutEnd (straps : BitVec 12) (rank : Bool)
  /-- VSTBY_RISE (R62): VSTBY rises above the standby reset level, ending the standby-domain reset with POR_STANDBY set and the scratch words zero. -/
  | vstbyRise (straps : BitVec 12) (rank : Bool)
  /-- SDSREF_RESTORED (R96): A lost SerDes reference returns within tolerance, which sets SDSREF0_OK or SDSREF1_OK again so the links or Siphon lanes can retrain. -/
  | sdsrefRestored (input : Nat)
  /-- WELLHEAD_REFERENCES_SETTLED (R65): The Wellhead references finish settling (safe-sequencer step 6), which allows the first DAC write of step 7. -/
  | wellheadReferencesSettled
  /-- HB_RX_EDGE (R538): An edge arrives on HB_RX from the partner, which restarts the 12,288-cycle loss timer and sets HB_OK. -/
  | hbRxEdge
  /-- POP_EXEC (R622): An EXEC message is taken whole, checked for object, access and role, and dispatched, or refused with UNKNOWN_OBJECT, ACCESS, ROLE or MALFORMED. -/
  | popExec (src : PopFrom) (msg : List Byte)
  /-- BOOT_FLASH_WRITE_END (R70): A boot-flash write of a scene store, startup configuration or baseline ends with its commit marker written. -/
  | bootFlashWriteEnd
  /-- REPLAY_BLOCK_COMPLETE (R563): The joining unit finishes replaying one stored block, forms and compares its digests, and reduces BACKLOG toward lockstep entry. -/
  | replayBlockComplete (out tdmIn : Nat)
deriving DecidableEq, Repr

end Sys2Proof
end

