-- ==== Sys2Proof/Decode.lean ====
section
/-! DEFINITION. Words of the command table. spec/opcode_table.json gives no row any bits: the engine takes its commands as
operations of its registers, buses, protocols and pins, and no row is an instruction word. -/

namespace Sys2Proof

/-- The command that a word spells by the bits of the table: none, since no row of the table has bits (log entry 1). -/
def decodeTableWord (_nbits _w : Nat) : Option Instr := none

end Sys2Proof
end

