-- ==== Sys2Proof/Config.lean ====
section
/-! DEFINITION. What the model leaves free: values that the spec leaves open, and nothing else (log entry 3). -/

namespace Sys2Proof.Config

/-- The value of width `w` that the engine produces where the spec leaves a result open. The argument is the
state's free-value counter at that point, so that two open values need not be equal. It has no body: nothing can be
proved about the value itself. -/
opaque freeValue (w : Nat) (n : Nat) : BitVec w

/-- Result of a check that a rule asks for and whose algorithm the spec does not state (a hash, a signature or a
message authentication code over `bytes`). -/
opaque freeDigest (w : Nat) (bytes : List Byte) : BitVec w

/-- Code of the enumerated value number `n` that event or field `table` carries, where the spec names the value and
states no code for it. -/
opaque freeCode (table n : Nat) : BitVec 8

/-- Whether the quotient of `a` by `b`, whose rounding the spec does not state, takes its upper neighbour. -/
opaque roundsUp (a b : Int) : Bool

/-- Serial number of the engine, fixed at manufacture (object 0x0001.06, R612). -/
opaque serialNumber : List Byte

end Sys2Proof.Config
end

