-- ==== Sys2Proof/Machine/Maps.lean ====
section
/-! DEFINITION. Sparse maps in one canonical form: keys strictly rising, no entry equal to the default. Every indexed
table of the engine (register fields, crosspoints, ports, streams, sites) is one of these. -/

namespace Sys2Proof.Machine

/-- The value at key `k`, or the default `d` where the map lists none. -/
def nget {α : Type} (d : α) (m : NMap α) (k : Nat) : α :=
  match m with
  | [] => d
  | (a, v) :: r => if k = a then v else nget d r k

/-- Insert or replace the entry of key `k`, keeping the keys sorted. -/
def nput {α : Type} (m : NMap α) (k : Nat) (v : α) : NMap α :=
  match m with
  | [] => [(k, v)]
  | (a, w) :: r => if k < a then (k, v) :: (a, w) :: r else if k = a then (k, v) :: r else (a, w) :: nput r k v

/-- Remove the entry of key `k`. -/
def nerase {α : Type} (m : NMap α) (k : Nat) : NMap α := m.filter (fun e => e.1 != k)

/-- Write key `k`; writing the default removes the entry, so that equal maps are equal data. -/
def nset {α : Type} [DecidableEq α] (d : α) (m : NMap α) (k : Nat) (v : α) : NMap α :=
  if v = d then nerase m k else nput m k v

/-- Every key of the map is greater than `lo`, and the keys rise strictly. -/
def nabove {α : Type} (lo : Nat) (m : NMap α) : Bool :=
  match m with
  | [] => true
  | (a, _) :: r => decide (lo < a) && nabove a r

/-- The keys of the map rise strictly. -/
def nsorted {α : Type} (m : NMap α) : Bool :=
  match m with
  | [] => true
  | (a, _) :: r => nabove a r

/-- Keep the entries whose key satisfies `p`. -/
def nkeep {α : Type} (p : Nat → Bool) (m : NMap α) : NMap α := m.filter (fun e => p e.1)

/-- Apply `f` to `n`, `n + 1`, …, `n + k - 1` in turn. -/
def forFrom {σ : Type} (n k : Nat) (f : Nat → σ → σ) (s : σ) : σ :=
  match k with
  | 0 => s
  | k + 1 => forFrom (n + 1) k f (f n s)

/-- Apply `f` to `0`, …, `k - 1` in turn. -/
def forN {σ : Type} (k : Nat) (f : Nat → σ → σ) (s : σ) : σ := forFrom 0 k f s

/-- Apply `f` to each element of a list in order. -/
def forL {σ α : Type} (l : List α) (f : α → σ → σ) (s : σ) : σ := l.foldl (fun s a => f a s) s

/-- Bit `b` of `w`. -/
def bit (w b : Nat) : Bool := w.testBit b

/-- Bits `hi` down to `lo` of `w`. -/
def bits (w hi lo : Nat) : Nat := (w >>> lo) % 2 ^ (hi + 1 - lo)

/-- `w` with bit `b` set to `v`. -/
def putBit (w b : Nat) (v : Bool) : Nat :=
  if v then w ||| 2 ^ b else if w.testBit b then w - 2 ^ b else w

/-- `w` with bits `hi` down to `lo` replaced by `v`. -/
def putBits (w hi lo v : Nat) : Nat :=
  w - ((w >>> lo) % 2 ^ (hi + 1 - lo)) * 2 ^ lo + (v % 2 ^ (hi + 1 - lo)) * 2 ^ lo

/-- The `w`-bit two's-complement reading of `n`. -/
def sx (w n : Nat) : Int := if (n % 2 ^ w) < 2 ^ (w - 1) then ((n % 2 ^ w : Nat) : Int) else ((n % 2 ^ w : Nat) : Int) - 2 ^ w

/-- The low `w` bits of an integer in two's complement. -/
def unsx (w : Nat) (i : Int) : Nat := (i % (2 ^ w : Int)).toNat

/-- `i` clamped to the range `lo` to `hi`. -/
def clampI (lo hi i : Int) : Int := if i < lo then lo else if hi < i then hi else i

/-- The nearest `w`-bit signed value (saturation). -/
def satS (w : Nat) (i : Int) : Int := clampI (-(2 ^ (w - 1))) (2 ^ (w - 1) - 1) i

/-- `i` saturated to `w` bits, in two's complement. -/
def satBits (w : Nat) (i : Int) : Nat := unsx w (satS w i)

/-- A natural number clamped from below and above, as the clamping register fields do. -/
def clampN (lo hi n : Nat) : Nat := if n < lo then lo else if hi < n then hi else n

/-- Quotient of two integers rounded to the nearest integer, halves to the even neighbour (R195). -/
def divEven (a b : Int) : Int :=
  let q := a / b
  let r := a % b
  if 2 * r < b then q else if b < 2 * r then q + 1 else if q % 2 = 0 then q else q + 1

/-- Quotient rounded to the nearest integer where the spec states no rule for halves: those go either way (log entry 93). -/
def divNear (a b : Int) : Int :=
  let q := a / b
  let r := a % b
  if 2 * r < b then q else if b < 2 * r || Config.roundsUp a b then q + 1 else q

/-- Quotient whose rounding the spec does not state: exact where `b` divides `a`, else either neighbour (log entry 93). -/
def divOpen (a b : Int) : Int := if a % b = 0 then a / b else if Config.roundsUp a b then a / b + 1 else a / b

/-- Remove the first element equal to `a`. -/
def eraseOne {α : Type} [DecidableEq α] (l : List α) (a : α) : List α := l.erase a

/-- The smallest element of `l` under the strict order `lt`, or `none` of the empty list. -/
def minBy {α : Type} (lt : α → α → Bool) (l : List α) : Option α :=
  l.foldl (fun m a => match m with | none => some a | some b => if lt a b then some a else some b) none

/-- Insertion of `a` into a list sorted by the natural-number key `key`. -/
def insertBy {α : Type} (key : α → Nat) (a : α) (l : List α) : List α :=
  match l with
  | [] => [a]
  | b :: r => if key a < key b then a :: b :: r else b :: insertBy key a r

/-- The list sorted by the natural-number key, ties in order of appearance. -/
def sortBy {α : Type} (key : α → Nat) (l : List α) : List α := l.foldl (fun acc a => insertBy key a acc) []

/-- The median of a list of integers: the middle element once sorted, the mean of the two middle ones of an even count
(log entry 15), zero of an empty list. -/
def medianI (l : List Int) : Int :=
  let off := l.foldl (fun m a => if a < m then a else m) 0
  let s := sortBy (fun a => (a - off).toNat) l
  if s.length % 2 = 1 then s.getD (s.length / 2) 0
  else divOpen (s.getD (s.length / 2 - 1) 0 + s.getD (s.length / 2) 0) 2

/-- Little-endian bytes of `n`, `k` of them. -/
def leBytes (k n : Nat) : List Byte :=
  match k with
  | 0 => []
  | k + 1 => BitVec.ofNat 8 n :: leBytes k (n / 256)

/-- The number whose little-endian bytes are `l`. -/
def ofLeBytes (l : List Byte) : Nat :=
  match l with
  | [] => 0
  | b :: r => b.toNat + 256 * ofLeBytes r

end Sys2Proof.Machine
end

