-- ==== Sys2Proof/Machine/Regs.lean ====
section
/-! DEFINITION. The register and descriptor fields of the engine, one constant per field, transcribed from the field
tables of spec 02 to 19, with each register's fields, width and place in the fabric map (R679, R684, R686). -/

namespace Sys2Proof.Machine

/-- The access codes of R10 and R11: read-only, read/write, write-only, write-one-to-clear, staged read/write. -/
inductive Acc where
  | ro | rw | wo | w1c | rws
deriving DecidableEq, Repr

/-- A field of a register or descriptor word: a number of its own, its bits, its access code and its reset value.
`special` marks a field whose reset depends on the register's index (`Fd.resetAt`). -/
structure Fd where
  id : Nat
  hi : Nat
  lo : Nat
  acc : Acc
  rst : Nat
  special : Bool
deriving DecidableEq, Repr

/-- Width of a field in bits. -/
def Fd.width (f : Fd) : Nat := f.hi + 1 - f.lo

/-- The value a field has inside the word `w`. -/
def Fd.of (f : Fd) (w : Nat) : Nat := bits w f.hi f.lo

/-- The word `w` with this field replaced by `v`. -/
def Fd.into (f : Fd) (w v : Nat) : Nat := putBits w f.hi f.lo v

/-! ### SYS_PWR_CTRL -/

/-- A write changes TARGET only when KEY = 0xA5 in the same write. -/
def fSYS_PWR_CTRL_KEY : Fd := ⟨100, 23, 16, .wo, 0, false⟩
/-- 0 = starting, 1 = Idle, 2 = Run, 3 = entering Deep Standby, 4 = Deep Standby reached … -/
def fSYS_PWR_CTRL_STATE : Fd := ⟨101, 11, 8, .ro, 0, false⟩
/-- 0b00 = Run, 0b01 = Idle, 0b10 = Deep Standby. 0b11 is ignored. -/
def fSYS_PWR_CTRL_TARGET : Fd := ⟨102, 3, 2, .rw, 0, false⟩
/-- 1 = GPIO15 is the rails-off request of R52 and is driven high outside Deep Standby. -/
def fSYS_PWR_CTRL_STBY_GPIO : Fd := ⟨103, 1, 1, .rw, 0, false⟩
/-- 1 while a state change is in progress. A write of TARGET while BUSY = 1 is ignored. -/
def fSYS_PWR_CTRL_BUSY : Fd := ⟨104, 0, 0, .ro, 0, false⟩
/-! ### SYS_RESET_CTRL -/

/-- A write acts only when KEY = 0x5A3C in the same write. Otherwise the write is ignored. -/
def fSYS_RESET_CTRL_KEY : Fd := ⟨105, 31, 16, .wo, 0, false⟩
/-- Cluster site number, 0–35, for CLUSTER_RST. A value above 35 makes CLUSTER_RST ignored. -/
def fSYS_RESET_CTRL_CLUSTER : Fd := ⟨106, 15, 8, .wo, 0, false⟩
/-- 1 = Cluster Reset of the cluster site named in CLUSTER -/
def fSYS_RESET_CTRL_CLUSTER_RST : Fd := ⟨107, 2, 2, .wo, 0, false⟩
/-- 1 = Session Reset -/
def fSYS_RESET_CTRL_SESSION_RST : Fd := ⟨108, 1, 1, .wo, 0, false⟩
/-- 1 = Engine Reset -/
def fSYS_RESET_CTRL_ENGINE_RST : Fd := ⟨109, 0, 0, .wo, 0, false⟩
/-! ### SYS_RESET_CAUSE -/

/-- Engine Resets since the last Power-on Reset, saturating at 0xFFFF -/
def fSYS_RESET_CAUSE_ENG_COUNT : Fd := ⟨1800, 31, 16, .ro, 0, false⟩
/-- Session Reset by request -/
def fSYS_RESET_CAUSE_SES_REQUEST : Fd := ⟨1801, 10, 10, .w1c, 0, false⟩
/-- Cluster Reset by the health unit -/
def fSYS_RESET_CAUSE_CLU_HEALTH : Fd := ⟨1802, 9, 9, .w1c, 0, false⟩
/-- Cluster Reset by request -/
def fSYS_RESET_CAUSE_CLU_REQUEST : Fd := ⟨1803, 8, 8, .w1c, 0, false⟩
/-- Power-on Reset after a reset of the standby domain, at first application of VSTBY or … -/
def fSYS_RESET_CAUSE_POR_STANDBY : Fd := ⟨1804, 7, 7, .w1c, 0, false⟩
/-- Engine Reset by the thermal trip -/
def fSYS_RESET_CAUSE_ENG_THERMAL : Fd := ⟨1805, 6, 6, .w1c, 0, false⟩
/-- Engine Reset by watchdog expiry -/
def fSYS_RESET_CAUSE_ENG_WATCHDOG : Fd := ⟨1806, 5, 5, .w1c, 0, false⟩
/-- Engine Reset by register or object -/
def fSYS_RESET_CAUSE_ENG_REQUEST : Fd := ⟨1807, 4, 4, .w1c, 0, false⟩
/-- Power-on Reset by VDD_CORE brown-out -/
def fSYS_RESET_CAUSE_POR_BROWNOUT : Fd := ⟨1808, 3, 3, .w1c, 0, false⟩
/-- Power-on Reset after WAKE from Deep Standby -/
def fSYS_RESET_CAUSE_POR_WAKE : Fd := ⟨1809, 2, 2, .w1c, 0, false⟩
/-- Power-on Reset by RESET_N -/
def fSYS_RESET_CAUSE_POR_RESET_N : Fd := ⟨1810, 1, 1, .w1c, 0, false⟩
/-- Power-on Reset by PWR_GOOD, including first power-up -/
def fSYS_RESET_CAUSE_POR_PWR_GOOD : Fd := ⟨1811, 0, 0, .w1c, 0, false⟩
/-! ### SYS_STRAP -/

/-- 1 = BOOT carried a value that is not used, 0b110 or 0b111 (R68). Every value of the … -/
def fSYS_STRAP_STRAP_INVALID : Fd := ⟨110, 12, 12, .ro, 0, false⟩
/-- Gain of the safe path: 0b00 = 0 dB, 0b01 = −6 dB, 0b10 = −12 dB, 0b11 = −20 dB -/
def fSYS_STRAP_SAFE_GAIN : Fd := ⟨111, 11, 10, .ro, 0, false⟩
/-- 0 = native delta-sigma mode, 1 = compatibility mode -/
def fSYS_STRAP_SAFE_DAC : Fd := ⟨112, 9, 9, .ro, 0, false⟩
/-- Full-scale range: 0 = 2 Vrms, 1 = 4 Vrms -/
def fSYS_STRAP_SAFE_RANGE : Fd := ⟨113, 8, 8, .ro, 0, false⟩
/-- TDM0 slots: 0b00 = 16 bits, offset 0; 0b01 = 24 bits, offset 0; 0b10 = 32 bits, offset … -/
def fSYS_STRAP_SAFE_WIDTH : Fd := ⟨114, 7, 6, .ro, 0, false⟩
/-- TDM0: 0 = slave, 1 = master -/
def fSYS_STRAP_SAFE_ROLE : Fd := ⟨115, 5, 5, .ro, 0, false⟩
/-- Rate family before the startup configuration is read: 0 = 48 kHz, 1 = 44.1 kHz -/
def fSYS_STRAP_SAFE_FAM : Fd := ⟨116, 4, 4, .ro, 0, false⟩
/-- 1 = the minimal safe path is enabled -/
def fSYS_STRAP_SAFE_EN : Fd := ⟨117, 3, 3, .ro, 0, false⟩
/-- Boot source, as given under "Boot source and secure boot" -/
def fSYS_STRAP_BOOT : Fd := ⟨118, 2, 0, .ro, 0, false⟩
/-! ### SYS_BOOT_STATUS -/

/-- 0x0 = safe stage, 0x1 = boot ROM verifying, 0x2 = firmware starting, 0x3 = graph … -/
def fSYS_BOOT_STATUS_STAGE : Fd := ⟨119, 31, 28, .ro, 0, false⟩
/-- Security version of the running image -/
def fSYS_BOOT_STATUS_SEC_VERSION : Fd := ⟨120, 15, 8, .ro, 0, false⟩
/-- 1 = the safe path is live -/
def fSYS_BOOT_STATUS_SAFE_LIVE : Fd := ⟨121, 6, 6, .ro, 0, false⟩
/-- 1 = XO_IN was not qualified (R67) -/
def fSYS_BOOT_STATUS_XO_MISSING : Fd := ⟨122, 5, 5, .ro, 0, false⟩
/-- 1 = slot B failed R71 at the last boot -/
def fSYS_BOOT_STATUS_SIG_FAIL_B : Fd := ⟨123, 4, 4, .ro, 0, false⟩
/-- 1 = slot A failed R71 at the last boot -/
def fSYS_BOOT_STATUS_SIG_FAIL_A : Fd := ⟨124, 3, 3, .ro, 0, false⟩
/-- 1 = the image came from the second slot tried -/
def fSYS_BOOT_STATUS_FALLBACK : Fd := ⟨125, 2, 2, .ro, 0, false⟩
/-- Image running: 0 = slot A, 1 = slot B -/
def fSYS_BOOT_STATUS_SLOT : Fd := ⟨126, 1, 1, .ro, 0, false⟩
/-- 1 = R74 was applied at this start -/
def fSYS_BOOT_STATUS_FAMILY_CHANGED : Fd := ⟨127, 0, 0, .ro, 0, false⟩
/-! ### SYS_CTRL -/

/-- A write acts only when KEY = 0x96 in the same write. -/
def fSYS_CTRL_KEY : Fd := ⟨128, 31, 24, .wo, 0, false⟩
/-- R438, R439 -/
def fSYS_CTRL_REMAP : Fd := ⟨129, 0, 0, .rw, 0, false⟩
/-! ### SYS_CLU_CLK -/

/-- Bit n = 1: cluster site n is powered and clocked -/
def fSYS_CLU_CLK_CLOCKED : Fd := ⟨130, 35, 0, .ro, 0, false⟩
/-! ### SYS_SCRATCH -/

/-- The whole register. -/
def fSYS_SCRATCH_VALUE : Fd := ⟨1812, 31, 0, .rw, 0, false⟩
/-! ### FAB_CTRL -/

/-- 1 = the debug master may issue requests (R418). Only the control processor may write … -/
def fFAB_CTRL_DBG_EN : Fd := ⟨200, 0, 0, .rw, 0, false⟩
/-! ### FAB_ERR_LOG -/

/-- 1 = the log holds an error -/
def fFAB_ERR_LOG_VALID : Fd := ⟨201, 63, 63, .w1c, 0, false⟩
/-- 1 = an error arrived while VALID = 1 -/
def fFAB_ERR_LOG_OVERRUN : Fd := ⟨202, 62, 62, .w1c, 0, false⟩
/-- Master code -/
def fFAB_ERR_LOG_MASTER : Fd := ⟨203, 61, 56, .ro, 0, false⟩
/-- Target number. 0x7F with cause DECODE means that no target was decoded. -/
def fFAB_ERR_LOG_TARGET : Fd := ⟨204, 55, 49, .ro, 0, false⟩
/-- R423 -/
def fFAB_ERR_LOG_CAUSE : Fd := ⟨205, 48, 45, .ro, 0, false⟩
/-- Address of the first beat refused -/
def fFAB_ERR_LOG_ADDR : Fd := ⟨206, 35, 0, .ro, 0, false⟩
/-! ### FAB_TGTt_CTRL -/

/-- Default master (R429). A write of a reserved code is ignored. -/
def fFAB_TGTt_CTRL_PARK : Fd := ⟨207, 31, 26, .rw, 0x3e, true⟩
/-- 1 = a locked sequence is open -/
def fFAB_TGTt_CTRL_LOCKED : Fd := ⟨208, 25, 25, .ro, 0, false⟩
/-- Holder of the open lock -/
def fFAB_TGTt_CTRL_LOCK_MASTER : Fd := ⟨209, 24, 19, .ro, 0, false⟩
/-- 1 = a burst was aborted (R436) -/
def fFAB_TGTt_CTRL_ABORTED : Fd := ⟨210, 18, 18, .w1c, 0, false⟩
/-- Master of the last aborted burst -/
def fFAB_TGTt_CTRL_ABORT_MASTER : Fd := ⟨211, 17, 12, .ro, 0, false⟩
/-- Beats of the last aborted burst that were written or read, 0–16 -/
def fFAB_TGTt_CTRL_ABORT_BEATS : Fd := ⟨212, 11, 7, .ro, 0, false⟩
/-- 1 = a lock timed out (R433) -/
def fFAB_TGTt_CTRL_LOCK_TMO : Fd := ⟨213, 6, 6, .w1c, 0, false⟩
/-- Aborted bursts, saturating at 63 -/
def fFAB_TGTt_CTRL_ABORT_COUNT : Fd := ⟨214, 5, 0, .ro, 0, false⟩
/-! ### EVT_CFGe -/

/-- Raises since the last reset, saturating -/
def fEVT_CFGe_COUNT : Fd := ⟨300, 31, 16, .ro, 0, false⟩
/-- 1 = route to the recorder -/
def fEVT_CFGe_REC : Fd := ⟨301, 8, 8, .rw, 1, true⟩
/-- 1 = route to POP subscribers -/
def fEVT_CFGe_NTF : Fd := ⟨302, 7, 7, .rw, 1, false⟩
/-- 1 = STATUS drives EVT_N1 -/
def fEVT_CFGe_PIN1 : Fd := ⟨303, 6, 6, .rw, 0, false⟩
/-- 1 = STATUS drives EVT_N0 -/
def fEVT_CFGe_PIN0 : Fd := ⟨304, 5, 5, .rw, 1, true⟩
/-- 1 = route to the control processor -/
def fEVT_CFGe_CP : Fd := ⟨305, 4, 4, .rw, 1, false⟩
/-- 1 = no route and no pin (R648) -/
def fEVT_CFGe_MASK : Fd := ⟨306, 3, 3, .rw, 0, false⟩
/-- Priority (R644) -/
def fEVT_CFGe_PRIO : Fd := ⟨307, 2, 0, .rw, 0, true⟩
/-! ### EVT_STATUSw -/

/-- Bit b: event 32w + b has been raised (R647) -/
def fEVT_STATUSw_STATUS : Fd := ⟨308, 31, 0, .w1c, 0, false⟩
/-! ### EVT_CTRL -/

/-- 1 = the recorder is written (R653) -/
def fEVT_CTRL_REC_EN : Fd := ⟨309, 31, 31, .rw, 1, false⟩
/-- R656 -/
def fEVT_CTRL_REC_OK : Fd := ⟨310, 30, 30, .ro, 0, false⟩
/-- Records dropped from any queue, saturating (R652) -/
def fEVT_CTRL_LOST : Fd := ⟨311, 15, 0, .ro, 0, false⟩
/-! ### TIM_CTRL -/

/-- Seconds. A write below 10 stores 10, and a write above 3,600 stores 3,600. -/
def fTIM_CTRL_REACQ_HOLD : Fd := ⟨400, 27, 16, .rw, 0x3c, false⟩
/-- Units of 0.1 s. A write below 5 stores 5, and a write above 600 stores 600. -/
def fTIM_CTRL_VALID_WIN : Fd := ⟨401, 15, 6, .rw, 0x14, false⟩
/-- 1 = accept a persisting jump with no other domain locked (R170) -/
def fTIM_CTRL_SOLO_ACCEPT : Fd := ⟨402, 3, 3, .rw, 0, false⟩
/-- 1 = transparent-clock correction on (R150) -/
def fTIM_CTRL_TC_EN : Fd := ⟨403, 2, 2, .rw, 1, false⟩
/-- R160 -/
def fTIM_CTRL_TIME_SEL : Fd := ⟨404, 1, 0, .rw, 0, false⟩
/-! ### TIM_SNAP_CTRL -/

/-- A write of 1 latches a snapshot (R145). Reads 1 until the latch completes. -/
def fTIM_SNAP_CTRL_TAKE : Fd := ⟨405, 0, 0, .rw, 0, false⟩
/-! ### TIM_MAP_STATUS -/

/-- R162 -/
def fTIM_MAP_STATUS_MAP_VALID : Fd := ⟨406, 31, 31, .ro, 0, false⟩
/-- R167 -/
def fTIM_MAP_STATUS_TIME_SET : Fd := ⟨407, 30, 30, .ro, 0, false⟩
/-- R167 -/
def fTIM_MAP_STATUS_CATCHUP : Fd := ⟨408, 29, 29, .ro, 0, false⟩
/-- Time source: 0 = P0, 1 = P1 -/
def fTIM_MAP_STATUS_SRC : Fd := ⟨409, 28, 28, .ro, 0, false⟩
/-- Anchors since Power-on Reset, saturating at 0xFFF -/
def fTIM_MAP_STATUS_ANCHORS : Fd := ⟨410, 27, 16, .ro, 0, false⟩
/-- R165, two's complement, saturating -/
def fTIM_MAP_STATUS_MAP_PHASE : Fd := ⟨411, 15, 0, .ro, 0, false⟩
/-! ### TIM_Dn_CFG -/

/-- 1 = domain enabled -/
def fTIM_Dn_CFG_EN : Fd := ⟨412, 31, 31, .rw, 0, false⟩
/-- PTP domain number, 0–127. A write above 127 is ignored. -/
def fTIM_Dn_CFG_DOMAIN : Fd := ⟨413, 23, 16, .rw, 0, false⟩
/-- Bit k = 1: port k belongs to the port set -/
def fTIM_Dn_CFG_PORTS : Fd := ⟨414, 15, 12, .rw, 3, true⟩
/-- 0b00 = AES67 media, 0b01 = ST 2059-2. A write of 0b10 or 0b11 is ignored. -/
def fTIM_Dn_CFG_PROFILE : Fd := ⟨415, 11, 10, .rw, 0, false⟩
/-- Loop bandwidth in units of 0.001 Hz. A write below 5 stores 5, and a write above 1,000 … -/
def fTIM_Dn_CFG_BW : Fd := ⟨416, 9, 0, .rw, 0x32, false⟩
/-! ### TIM_Dn_STATUS -/

/-- Encoded as in R156 -/
def fTIM_Dn_STATUS_STATE : Fd := ⟨417, 31, 28, .ro, 0, false⟩
/-- R157 -/
def fTIM_Dn_STATUS_HAS_LOCKED : Fd := ⟨418, 27, 27, .ro, 0, false⟩
/-- R141 -/
def fTIM_Dn_STATUS_RATE_CLAMP : Fd := ⟨419, 26, 26, .w1c, 0, false⟩
/-- Port of the master followed -/
def fTIM_Dn_STATUS_PORT : Fd := ⟨420, 25, 24, .ro, 0, false⟩
/-- Grandmaster clockClass -/
def fTIM_Dn_STATUS_GM_CLASS : Fd := ⟨421, 23, 16, .ro, 0xff, false⟩
/-- Grandmaster clockAccuracy -/
def fTIM_Dn_STATUS_GM_ACC : Fd := ⟨422, 15, 8, .ro, 0xfe, false⟩
/-- Held Syncs discarded (R168), saturating at 0xFF -/
def fTIM_Dn_STATUS_JUMP_GLITCH : Fd := ⟨423, 7, 0, .ro, 0, false⟩
/-! ### TIM_Dn_OFFSET -/

/-- Last offset e in ns, two's complement, saturating -/
def fTIM_Dn_OFFSET_OFFSET : Fd := ⟨424, 63, 32, .ro, 0, false⟩
/-- Median path delay in units of 2^−8 ns -/
def fTIM_Dn_OFFSET_MPD : Fd := ⟨425, 31, 0, .ro, 0, false⟩
/-! ### TIM_Dn_JUMP -/

/-- Last evaluation: 0b00 = none, 0b01 = accepted, 0b10 = rejected, 0b11 = dropped -/
def fTIM_Dn_JUMP_OUTCOME : Fd := ⟨426, 63, 62, .ro, 0, false⟩
/-- Last confirmed jump in ns, two's complement, saturating -/
def fTIM_Dn_JUMP_J : Fd := ⟨427, 47, 0, .ro, 0, false⟩
/-! ### TIM_Dn_GM -/

/-- The whole register. -/
def fTIM_Dn_GM_VALUE : Fd := ⟨428, 63, 0, .ro, 0, false⟩
/-! ### TIM_COUNT_LO -/

/-- The whole register. -/
def fTIM_COUNT_LO_VALUE : Fd := ⟨429, 63, 0, .ro, 0, false⟩
/-! ### TIM_COUNT_HI -/

/-- The whole register. -/
def fTIM_COUNT_HI_VALUE : Fd := ⟨430, 15, 0, .ro, 0, false⟩
/-! ### TIM_SNAP_ROOT_LO -/

/-- The whole register. -/
def fTIM_SNAP_ROOT_LO_VALUE : Fd := ⟨431, 63, 0, .ro, 0, false⟩
/-! ### TIM_SNAP_ROOT_HI -/

/-- The whole register. -/
def fTIM_SNAP_ROOT_HI_VALUE : Fd := ⟨432, 16, 0, .ro, 0, false⟩
/-! ### TIM_SNAP_P0_SEC -/

/-- The whole register. -/
def fTIM_SNAP_P0_SEC_VALUE : Fd := ⟨433, 63, 0, .ro, 0, false⟩
/-! ### TIM_SNAP_P0_NS -/

/-- The whole register. -/
def fTIM_SNAP_P0_NS_VALUE : Fd := ⟨434, 47, 0, .ro, 0, false⟩
/-! ### TIM_SNAP_P1_SEC -/

/-- The whole register. -/
def fTIM_SNAP_P1_SEC_VALUE : Fd := ⟨435, 63, 0, .ro, 0, false⟩
/-! ### TIM_SNAP_P1_NS -/

/-- The whole register. -/
def fTIM_SNAP_P1_NS_VALUE : Fd := ⟨436, 47, 0, .ro, 0, false⟩
/-! ### TIM_SNAP_E_SEC -/

/-- The whole register. -/
def fTIM_SNAP_E_SEC_VALUE : Fd := ⟨437, 63, 0, .ro, 0, false⟩
/-! ### TIM_SNAP_E_NS -/

/-- The whole register. -/
def fTIM_SNAP_E_NS_VALUE : Fd := ⟨438, 47, 0, .ro, 0, false⟩
/-! ### TIM_DIFF -/

/-- The whole register. -/
def fTIM_DIFF_VALUE : Fd := ⟨439, 63, 0, .ro, 0, false⟩
/-! ### TIM_MAP_OFS -/

/-- The whole register. -/
def fTIM_MAP_OFS_VALUE : Fd := ⟨440, 63, 0, .ro, 0, false⟩
/-! ### TIM_TC_COUNT -/

/-- The whole register. -/
def fTIM_TC_COUNT_VALUE : Fd := ⟨441, 63, 0, .ro, 0, false⟩
/-! ### TIM_PORTn_ASYM -/

/-- delayAsymmetry in ps, two's complement (R175) -/
def fTIM_PORTn_ASYM_CORR : Fd := ⟨442, 63, 32, .rw, 0, false⟩
/-- 1 = LEARNED holds a classified change -/
def fTIM_PORTn_ASYM_LVALID : Fd := ⟨443, 31, 31, .ro, 0, false⟩
/-- R174, in ps, two's complement -/
def fTIM_PORTn_ASYM_LEARNED : Fd := ⟨444, 30, 0, .ro, 0, false⟩
/-! ### REF_RPLL_WORD -/

/-- Integer part of the multiplier in force -/
def fREF_RPLL_WORD_INT : Fd := ⟨500, 47, 40, .ro, 0x64, false⟩
/-- Fraction of the multiplier in force, in units of 2^−40 -/
def fREF_RPLL_WORD_FRAC : Fd := ⟨501, 39, 0, .ro, 0, false⟩
/-! ### REF_RPLL_STATUS -/

/-- 1 = the Siphon SerDes take SDSREF0 (R96). A change takes effect only while both Siphon … -/
def fREF_RPLL_STATUS_SIPH_FROM_0 : Fd := ⟨502, 8, 8, .rw, 0, false⟩
/-- 1 = SDSREF1 is present and within tolerance -/
def fREF_RPLL_STATUS_SDSREF1_OK : Fd := ⟨503, 7, 7, .ro, 0, false⟩
/-- 1 = SDSREF0 is present and within tolerance -/
def fREF_RPLL_STATUS_SDSREF0_OK : Fd := ⟨504, 6, 6, .ro, 0, false⟩
/-- 1 = a family change slew is in progress (R90) -/
def fREF_RPLL_STATUS_SLEWING : Fd := ⟨505, 5, 5, .ro, 0, false⟩
/-- 1 = the oscillator tuning is frozen (R88) -/
def fREF_RPLL_STATUS_FROZEN : Fd := ⟨506, 4, 4, .ro, 0, false⟩
/-- 1 = XO_IN has been lost since this bit was last cleared -/
def fREF_RPLL_STATUS_XO_LOST : Fd := ⟨507, 3, 3, .w1c, 0, false⟩
/-- Family in force: 0 = 48 kHz, 1 = 44.1 kHz -/
def fREF_RPLL_STATUS_FAMILY : Fd := ⟨508, 1, 1, .ro, 0, false⟩
/-- 1 = the RPLL is locked (R87) -/
def fREF_RPLL_STATUS_LOCKED : Fd := ⟨509, 0, 0, .ro, 0, false⟩
/-! ### REF_DRIFT -/

/-- Widening of the limits while the holdover word is not valid, in units of 0.01 ppm -/
def fREF_DRIFT_XO_TOL : Fd := ⟨510, 31, 16, .rw, 0x1f4, false⟩
/-- Drift limit in units of 0.01 ppm per hour -/
def fREF_DRIFT_DRIFT_LIM : Fd := ⟨511, 15, 0, .rw, 0xc8, false⟩
/-! ### REF_CTRL -/

/-- Wait-to-restore time in seconds. A write above 3,600 stores 3,600. -/
def fREF_CTRL_WTR : Fd := ⟨512, 63, 52, .rw, 0x12c, false⟩
/-- Holdover window in seconds. A write above 3,600 stores 3,600. -/
def fREF_CTRL_HOLD_WIN : Fd := ⟨513, 51, 40, .rw, 0x258, false⟩
/-- Guard time in seconds. A write above 600 stores 600. -/
def fREF_CTRL_GUARD : Fd := ⟨514, 39, 30, .rw, 0x3c, false⟩
/-- Phase slope limit in units of 0.1 ppm. A write below 1 stores 1, and a write above 500 … -/
def fREF_CTRL_SLOPE : Fd := ⟨515, 29, 20, .rw, 0x32, false⟩
/-- Quality penalty while DEGRADED -/
def fREF_CTRL_DEG_PEN : Fd := ⟨516, 19, 16, .rw, 4, false⟩
/-- Quality added to the partner's advertisement -/
def fREF_CTRL_PARTNER_PEN : Fd := ⟨517, 15, 12, .rw, 1, false⟩
/-- Candidate to select while eligible, when FORCE_EN = 1 -/
def fREF_CTRL_FORCE : Fd := ⟨518, 6, 4, .rw, 7, false⟩
/-- 1 = FORCE takes precedence over rank (R123) -/
def fREF_CTRL_FORCE_EN : Fd := ⟨519, 3, 3, .rw, 0, false⟩
/-! ### REF_LIMITS -/

/-- Hard limit, 1 s window -/
def fREF_LIMITS_HARD_1S : Fd := ⟨520, 63, 48, .rw, 0x3e8, false⟩
/-- Soft limit, 1 s window -/
def fREF_LIMITS_SOFT_1S : Fd := ⟨521, 47, 32, .rw, 0x64, false⟩
/-- Hard limit, 64 s window -/
def fREF_LIMITS_HARD_64S : Fd := ⟨522, 31, 16, .rw, 0xc8, false⟩
/-- Soft limit, 64 s window -/
def fREF_LIMITS_SOFT_64S : Fd := ⟨523, 15, 0, .rw, 0x14, false⟩
/-! ### REF_SEL_STATUS -/

/-- Selected candidate -/
def fREF_SEL_STATUS_SELECTED : Fd := ⟨524, 31, 29, .ro, 7, false⟩
/-- 0b00 = locked, 0b01 = pass-through, 0b10 = holdover, 0b11 = free-run -/
def fREF_SEL_STATUS_MODE : Fd := ⟨525, 28, 27, .ro, 3, false⟩
/-- 1 = REF_DISPUTE condition holds (R123) -/
def fREF_SEL_STATUS_DISPUTE : Fd := ⟨526, 26, 26, .ro, 0, false⟩
/-- 1 = the holdover word is valid (R131) -/
def fREF_SEL_STATUS_HOLD_VALID : Fd := ⟨527, 25, 25, .ro, 0, false⟩
/-- R116 -/
def fREF_SEL_STATUS_XO_SUSPECT : Fd := ⟨528, 24, 24, .ro, 0, false⟩
/-- Seconds in holdover or free-run, saturating at 0xFF_FFFF. Set to zero when a reference … -/
def fREF_SEL_STATUS_HOLD_AGE : Fd := ⟨529, 23, 0, .ro, 0, false⟩
/-! ### REF_HOLD_WORD -/

/-- Valid entries in the current window -/
def fREF_HOLD_WORD_HIST : Fd := ⟨530, 59, 48, .ro, 0, false⟩
/-- Integer part of the holdover word -/
def fREF_HOLD_WORD_INT : Fd := ⟨531, 47, 40, .ro, 0x64, false⟩
/-- Fraction of the holdover word, in units of 2^−40 -/
def fREF_HOLD_WORD_FRAC : Fd := ⟨532, 39, 0, .ro, 0, false⟩
/-! ### REF_CANDn_CFG -/

/-- 1 = candidate enabled -/
def fREF_CANDn_CFG_EN : Fd := ⟨533, 31, 31, .rw, 0, true⟩
/-- Quality. For n = 4–6, the value computed under R107 or R108. -/
def fREF_CANDn_CFG_QUALITY : Fd := ⟨534, 27, 24, .rw, 8, true⟩
/-- Priority -/
def fREF_CANDn_CFG_PRIORITY : Fd := ⟨535, 23, 20, .rw, 8, true⟩
/-- 0b00 = frequency only, 0b01 = sample-aligned (R105). A write of 0b10 or 0b11 is ignored. -/
def fREF_CANDn_CFG_ALIGN : Fd := ⟨536, 19, 18, .rw, 0, false⟩
/-! ### REF_CANDn_FREQ -/

/-- Nominal input frequency in Hz: 1, or 8,000 to 100,000,000. A write of any other … -/
def fREF_CANDn_FREQ_FREQ : Fd := ⟨537, 31, 0, .rw, 0, false⟩
/-! ### REF_CANDn_STATUS -/

/-- State, encoded as in R118 -/
def fREF_CANDn_STATUS_STATE : Fd := ⟨538, 31, 28, .ro, 0, true⟩
/-- Effective quality (R109) -/
def fREF_CANDn_STATUS_EFF_QUALITY : Fd := ⟨539, 27, 24, .ro, 0xf, false⟩
/-- Seconds left in WAIT_RESTORE -/
def fREF_CANDn_STATUS_WTR_LEFT : Fd := ⟨540, 23, 12, .ro, 0, false⟩
/-- R120 -/
def fREF_CANDn_STATUS_RETURNED : Fd := ⟨541, 7, 7, .ro, 0, false⟩
/-- Drift limit crossed (R115) -/
def fREF_CANDn_STATUS_DRIFT : Fd := ⟨542, 6, 6, .ro, 0, false⟩
/-- SOFT_64S crossed -/
def fREF_CANDn_STATUS_SOFT_64 : Fd := ⟨543, 5, 5, .ro, 0, false⟩
/-- SOFT_1S crossed -/
def fREF_CANDn_STATUS_SOFT_1 : Fd := ⟨544, 4, 4, .ro, 0, false⟩
/-- HARD_64S crossed -/
def fREF_CANDn_STATUS_HARD_64 : Fd := ⟨545, 3, 3, .ro, 0, false⟩
/-- HARD_1S crossed -/
def fREF_CANDn_STATUS_HARD_1 : Fd := ⟨546, 2, 2, .ro, 0, false⟩
/-- 1 = loss of signal since this bit was last cleared -/
def fREF_CANDn_STATUS_LOS : Fd := ⟨547, 1, 1, .w1c, 0, false⟩
/-- 1 = this candidate is selected -/
def fREF_CANDn_STATUS_SELECTED : Fd := ⟨548, 0, 0, .ro, 0, true⟩
/-! ### REF_CANDn_OFFSET -/

/-- Last completed 1 s window -/
def fREF_CANDn_OFFSET_OFS_1S : Fd := ⟨549, 63, 32, .ro, 0, false⟩
/-- Last completed 64 s window -/
def fREF_CANDn_OFFSET_OFS_64S : Fd := ⟨550, 31, 0, .ro, 0, false⟩
/-! ### REF_PULSEn_CTRL -/

/-- 1 = output enabled -/
def fREF_PULSEn_CTRL_EN : Fd := ⟨551, 31, 31, .rw, 0, false⟩
/-- 0b000–0b011 = REF0–REF3, 0b100 = P0 seconds, 0b101 = P1 seconds, 0b110 = engine TIME96 … -/
def fREF_PULSEn_CTRL_SOURCE : Fd := ⟨552, 30, 28, .rw, 0, false⟩
/-- 0 = active high, 1 = active low -/
def fREF_PULSEn_CTRL_POL : Fd := ⟨553, 27, 27, .rw, 0, false⟩
/-- R135 -/
def fREF_PULSEn_CTRL_FLYWHEEL : Fd := ⟨554, 26, 26, .ro, 0, false⟩
/-- 1 = a write to REF_PULSEn_OFS was out of range -/
def fREF_PULSEn_CTRL_OFS_ERR : Fd := ⟨555, 25, 25, .w1c, 0, false⟩
/-- 1 = the output has realigned (R135) -/
def fREF_PULSEn_CTRL_REALIGNED : Fd := ⟨556, 24, 24, .w1c, 0, false⟩
/-- Pulse width in µs. A write above 500,000 stores 500,000. -/
def fREF_PULSEn_CTRL_WIDTH : Fd := ⟨557, 19, 0, .rw, 0x2710, false⟩
/-! ### REF_PULSEn_OFS -/

/-- Offset in root cycles, two's complement (R134) -/
def fREF_PULSEn_OFS_OFFSET : Fd := ⟨558, 31, 0, .rw, 0, false⟩
/-! ### HLTH_CTRL -/

/-- 1 = Brine runs its March tests and scrubbing (R584) -/
def fHLTH_CTRL_BRINE_EN : Fd := ⟨600, 31, 31, .rw, 1, false⟩
/-- 1 = shadow execution (R589) -/
def fHLTH_CTRL_SHADOW_EN : Fd := ⟨601, 30, 30, .rw, 1, false⟩
/-- Error window in hours. A write of 0 stores 1, and a write above 168 stores 168. -/
def fHLTH_CTRL_ERR_WIN : Fd := ⟨602, 23, 16, .rw, 0x18, false⟩
/-- Brine pass time in hours. A write of 0 stores 1, and a write above 24 stores 24. -/
def fHLTH_CTRL_PASS : Fd := ⟨603, 15, 8, .rw, 1, false⟩
/-- Blocks between shadow runs. 0 = none. -/
def fHLTH_CTRL_SHADOW_INT : Fd := ⟨604, 7, 0, .rw, 0x40, false⟩
/-! ### HLTH_SPARES -/

/-- Spare lanes free over all cluster sites, 0–36 -/
def fHLTH_SPARES_LANES : Fd := ⟨605, 31, 26, .ro, 0x24, false⟩
/-- Spare clusters free, 0–4 -/
def fHLTH_SPARES_CLUSTERS : Fd := ⟨606, 25, 23, .ro, 4, false⟩
/-- Spare banks free, 0–4 -/
def fHLTH_SPARES_BANKS : Fd := ⟨607, 22, 20, .ro, 4, false⟩
/-- Siphon lanes not retired, 0–2 -/
def fHLTH_SPARES_SIPH : Fd := ⟨608, 19, 18, .ro, 2, false⟩
/-- Fewest free spare rows in any segment, 0–8 -/
def fHLTH_SPARES_ROWS_MIN : Fd := ⟨609, 17, 14, .ro, 8, false⟩
/-- R594, 0–100 -/
def fHLTH_SPARES_WEAR : Fd := ⟨610, 13, 7, .ro, 0, false⟩
/-! ### HLTH_BRINE_STATUS -/

/-- Shadow mismatches (R591) -/
def fHLTH_BRINE_STATUS_MISMATCH : Fd := ⟨611, 63, 48, .ro, 0, false⟩
/-- Borrows ended by an access (R587) -/
def fHLTH_BRINE_STATUS_YIELDS : Fd := ⟨612, 47, 32, .ro, 0, false⟩
/-- March failures (R588) -/
def fHLTH_BRINE_STATUS_MARCH_FAIL : Fd := ⟨613, 31, 16, .ro, 0, false⟩
/-- Progress of the current pass, 0–100 % -/
def fHLTH_BRINE_STATUS_PASS_PCT : Fd := ⟨614, 15, 8, .ro, 0, false⟩
/-- Passes completed -/
def fHLTH_BRINE_STATUS_PASSES : Fd := ⟨615, 7, 0, .ro, 0, false⟩
/-! ### HLTH_RETIRE -/

/-- A write acts only when KEY = 0xE7 in the same write -/
def fHLTH_RETIRE_KEY : Fd := ⟨616, 63, 56, .wo, 0, false⟩
/-- As in R578. Other values make the write ignored. -/
def fHLTH_RETIRE_KIND : Fd := ⟨617, 55, 52, .wo, 0, false⟩
/-- Lane: 16n + m. Cluster: n. Row: bank site × 66,560 + r. Here r = 0–65,535 is a row of … -/
def fHLTH_RETIRE_SITE : Fd := ⟨618, 23, 0, .wo, 0, false⟩
/-! ### HLTH_LMAPn -/

/-- Bit m = 1: lane site m is retired -/
def fHLTH_LMAPn_RETIRED : Fd := ⟨619, 63, 55, .ro, 0, false⟩
/-- Bits 4k+3:4k: lane site, 0–8, of logical lane k -/
def fHLTH_LMAPn_LANES : Fd := ⟨620, 31, 0, .ro, 0x76543210, false⟩
/-! ### HLTH_CMAPk -/

/-- Cluster site of logical cluster k -/
def fHLTH_CMAPk_SITE : Fd := ⟨621, 5, 0, .ro, 0, true⟩
/-! ### SIPH_CTRL -/

/-- SWITCH and REJOIN act only when KEY = 0x6D in the same write -/
def fSIPH_CTRL_KEY : Fd := ⟨700, 63, 56, .wo, 0, false⟩
/-- 1 = the engine pairs (R533). A write outside Solo is ignored. -/
def fSIPH_CTRL_PAIR_EN : Fd := ⟨701, 55, 55, .rw, 0, false⟩
/-- 1 = a Diverged unit tries to rejoin after REJOIN_WAIT -/
def fSIPH_CTRL_AUTO_REJOIN : Fd := ⟨702, 54, 54, .rw, 1, false⟩
/-- 1 = planned switchover (R546) -/
def fSIPH_CTRL_SWITCH : Fd := ⟨703, 53, 53, .wo, 0, false⟩
/-- 1 on a Diverged unit: rejoin now. 1 on an Active unit: make the partner Diverged with … -/
def fSIPH_CTRL_REJOIN : Fd := ⟨704, 52, 52, .wo, 0, false⟩
/-- Contest timeout in ms. A write below 10 stores 10, and a write above 10,000 stores … -/
def fSIPH_CTRL_CONTEST_TMO : Fd := ⟨705, 47, 32, .rw, 0xc8, false⟩
/-- Seconds. A write of 0 stores 1. -/
def fSIPH_CTRL_REJOIN_WAIT : Fd := ⟨706, 31, 24, .rw, 0xa, false⟩
/-- Witness probe time in ms (R548). A write below 5 stores 5. -/
def fSIPH_CTRL_WIT_PROBE : Fd := ⟨707, 23, 16, .rw, 0x14, false⟩
/-! ### SIPH_STATUS -/

/-- R539. Values 6–15 are not used. -/
def fSIPH_STATUS_ROLE : Fd := ⟨708, 31, 28, .ro, 0, false⟩
/-- Cause of the last change to Diverged (R560) -/
def fSIPH_STATUS_CAUSE : Fd := ⟨709, 27, 24, .ro, 0, false⟩
/-- 1 = this unit drives CLAIM low -/
def fSIPH_STATUS_CLAIM_HELD : Fd := ⟨710, 23, 23, .ro, 0, false⟩
/-- Level of the CLAIM line -/
def fSIPH_STATUS_CLAIM_LINE : Fd := ⟨711, 22, 22, .ro, 0, false⟩
/-- 1 = an HB_RX edge arrived within the last 10 µs -/
def fSIPH_STATUS_HB_OK : Fd := ⟨712, 21, 21, .ro, 0, false⟩
/-- 1 = a valid Siphon frame arrived within the last 10 µs -/
def fSIPH_STATUS_PARTNER_SEEN : Fd := ⟨713, 20, 20, .ro, 0, false⟩
/-- Level of WITNESS_OK -/
def fSIPH_STATUS_WITNESS_OK : Fd := ⟨714, 19, 19, .ro, 0, false⟩
/-- PAIR_RANK as latched (R532) -/
def fSIPH_STATUS_RANK : Fd := ⟨715, 18, 18, .ro, 0, false⟩
/-- R549 -/
def fSIPH_STATUS_LANE1_UP : Fd := ⟨716, 17, 17, .ro, 0, false⟩
/-- R549 -/
def fSIPH_STATUS_LANE0_UP : Fd := ⟨717, 16, 16, .ro, 0, false⟩
/-- R538 -/
def fSIPH_STATUS_HB_FAULT : Fd := ⟨718, 15, 15, .w1c, 0, false⟩
/-- R546, R562 -/
def fSIPH_STATUS_REFUSED : Fd := ⟨719, 14, 14, .w1c, 0, false⟩
/-- Last HELLO refusal code (R562) -/
def fSIPH_STATUS_REFUSE : Fd := ⟨720, 13, 10, .ro, 0, false⟩
/-! ### SIPH_LINK -/

/-- One-way link delay in root cycles (R551) -/
def fSIPH_LINK_DELAY : Fd := ⟨721, 31, 16, .ro, 0, false⟩
/-- Partner boundary minus own boundary, in root cycles, two's complement, saturating -/
def fSIPH_LINK_GRID_ERR : Fd := ⟨722, 15, 0, .ro, 0, false⟩
/-! ### SIPH_COUNT -/

/-- Switchovers under R543 and R546 -/
def fSIPH_COUNT_SWITCHOVERS : Fd := ⟨723, 63, 48, .ro, 0, false⟩
/-- Changes to Diverged -/
def fSIPH_COUNT_DIVERGES : Fd := ⟨724, 47, 32, .ro, 0, false⟩
/-- Frames resent (R552) -/
def fSIPH_COUNT_REPLAYS : Fd := ⟨725, 31, 16, .ro, 0, false⟩
/-- Frames discarded for a bad CRC -/
def fSIPH_COUNT_CRC_ERR : Fd := ⟨726, 15, 0, .ro, 0, false⟩
/-! ### SIPH_SYNC -/

/-- Epochs committed in the copy in progress -/
def fSIPH_SYNC_EPOCH : Fd := ⟨727, 63, 48, .ro, 0, false⟩
/-- Epochs in the image -/
def fSIPH_SYNC_EPOCHS : Fd := ⟨728, 47, 32, .ro, 0, false⟩
/-- Blocks that the replay lies behind real time. Zero outside Syncing. -/
def fSIPH_SYNC_BACKLOG : Fd := ⟨729, 31, 0, .ro, 0, false⟩
/-! ### WELLm_CFG -/

/-- 1 = channel enabled (R518) -/
def fWELLm_CFG_EN : Fd := ⟨800, 31, 31, .rw, 0, false⟩
/-- 0 = native, 1 = compatibility (R519) -/
def fWELLm_CFG_MODE : Fd := ⟨801, 30, 30, .rw, 0, false⟩
/-- 0 = 2 Vrms, 1 = 4 Vrms (R519) -/
def fWELLm_CFG_RANGE : Fd := ⟨802, 29, 29, .rw, 0, false⟩
/-- R510 -/
def fWELLm_CFG_FEED : Fd := ⟨803, 28, 28, .rw, 0, false⟩
/-- 1 = generator 0 is added (R520) -/
def fWELLm_CFG_CHIME : Fd := ⟨804, 27, 27, .rw, 0, false⟩
/-- R522 -/
def fWELLm_CFG_FALLBACK : Fd := ⟨805, 26, 26, .rw, 0, false⟩
/-- Held ticks before the underflow ramp, 0–255 (R514) -/
def fWELLm_CFG_UF_HOLD : Fd := ⟨806, 23, 16, .rw, 1, false⟩
/-! ### WELLm_STATUS -/

/-- R518. Values 6–15 are not used. -/
def fWELLm_STATUS_STATE : Fd := ⟨807, 31, 28, .ro, 0, false⟩
/-- R521 -/
def fWELLm_STATUS_SAFE_ACTIVE : Fd := ⟨808, 27, 27, .ro, 0, false⟩
/-- R514 -/
def fWELLm_STATUS_UNDERFLOW : Fd := ⟨809, 26, 26, .w1c, 0, false⟩
/-- R513 -/
def fWELLm_STATUS_OVERFLOW : Fd := ⟨810, 25, 25, .w1c, 0, false⟩
/-- Codes in the queue, 0–16 -/
def fWELLm_STATUS_FILL : Fd := ⟨811, 24, 20, .ro, 0, false⟩
/-- Underflow runs, saturating -/
def fWELLm_STATUS_UF_COUNT : Fd := ⟨812, 15, 0, .ro, 0, false⟩
/-! ### WELLm_CODE -/

/-- Left-justified code (R511). Only the control processor and the debug master may write … -/
def fWELLm_CODE_CODE : Fd := ⟨813, 31, 0, .wo, 0, false⟩
/-! ### WELL_GENg_CFG -/

/-- Gate when GATE_SRC = 0 -/
def fWELL_GENg_CFG_GATE : Fd := ⟨814, 63, 63, .rw, 0, false⟩
/-- 0 = GATE, 1 = WELL_CHIME (R527) -/
def fWELL_GENg_CFG_GATE_SRC : Fd := ⟨815, 62, 62, .rw, 0, true⟩
/-- 1 = the pattern repeats while gated -/
def fWELL_GENg_CFG_REPEAT : Fd := ⟨816, 61, 61, .rw, 0, true⟩
/-- 1 = a pattern is playing -/
def fWELL_GENg_CFG_PLAYING : Fd := ⟨817, 60, 60, .ro, 0, false⟩
/-- Step in progress -/
def fWELL_GENg_CFG_STEP : Fd := ⟨818, 59, 58, .ro, 0, false⟩
/-- Attack in ms -/
def fWELL_GENg_CFG_ATT : Fd := ⟨819, 55, 48, .rw, 0, true⟩
/-- Release in ms -/
def fWELL_GENg_CFG_REL : Fd := ⟨820, 47, 40, .rw, 0, true⟩
/-- Amplitude; 0x80_0000 = 0 dBFS peak (R524). A write here does not glide (R525). -/
def fWELL_GENg_CFG_AMP : Fd := ⟨821, 23, 0, .rw, 0, true⟩
/-! ### WELL_GENg_STEPk -/

/-- Phase increment per sample, 0 to 0x8000_0000. A write above 0x8000_0000 is ignored … -/
def fWELL_GENg_STEPk_FREQ : Fd := ⟨822, 63, 32, .rw, 0, false⟩
/-- Duration in ms. 0 = skipped, 0xFFFF = until the gate falls (R526). -/
def fWELL_GENg_STEPk_DUR : Fd := ⟨823, 31, 16, .rw, 0, false⟩
/-! ### TDMn_CFG -/

/-- Lead-in frames, 0–255 (R466) -/
def fTDMn_CFG_PRE : Fd := ⟨900, 63, 56, .rw, 8, false⟩
/-- Lead-out frames, 0–255 (R467) -/
def fTDMn_CFG_POST : Fd := ⟨901, 55, 48, .rw, 8, false⟩
/-- Slots per frame, 0–32 (R446) -/
def fTDMn_CFG_NSLOT : Fd := ⟨902, 47, 42, .rw, 8, false⟩
/-- Receive slot count. 0 = receive disabled (R450). -/
def fTDMn_CFG_COUNT_IN : Fd := ⟨903, 41, 36, .rw, 8, true⟩
/-- Transmit slot count. 0 = transmit disabled. -/
def fTDMn_CFG_COUNT_OUT : Fd := ⟨904, 35, 30, .rw, 0, false⟩
/-- Buffer words per frame, receive (R459) -/
def fTDMn_CFG_STRIDE_IN : Fd := ⟨905, 29, 24, .rw, 8, true⟩
/-- Buffer words per frame, transmit -/
def fTDMn_CFG_STRIDE_OUT : Fd := ⟨906, 23, 18, .rw, 0, false⟩
/-- First-slot offset in bit clocks (R447) -/
def fTDMn_CFG_OFFSET : Fd := ⟨907, 17, 13, .rw, 0, false⟩
/-- 0b00 = 16, 0b01 = 24, 0b10 = 32 bits -/
def fTDMn_CFG_WIDTH : Fd := ⟨908, 12, 11, .rw, 0, true⟩
/-- 0 = slave, 1 = master -/
def fTDMn_CFG_ROLE : Fd := ⟨909, 10, 10, .rw, 0, false⟩
/-- 0 = rising edge starts the frame, 1 = falling edge -/
def fTDMn_CFG_FS_POL : Fd := ⟨910, 9, 9, .rw, 0, false⟩
/-- 0 = one bit period, 1 = half frame (R449) -/
def fTDMn_CFG_FS_WIDTH : Fd := ⟨911, 8, 8, .rw, 0, false⟩
/-- R448 -/
def fTDMn_CFG_EDGE : Fd := ⟨912, 7, 7, .rw, 0, false⟩
/-- 1 = SDO at high impedance outside selected output slots (R450) -/
def fTDMn_CFG_TRI : Fd := ⟨913, 6, 6, .rw, 0, false⟩
/-! ### TDMn_MASK_IN -/

/-- Bit s = 1: slot s selected (R459, R461). A read returns the staged value until it … -/
def fTDMn_MASK_IN_MASK : Fd := ⟨914, 31, 0, .rws, 0xff, true⟩
/-! ### TDMn_MASK_OUT -/

/-- Bit s = 1: slot s selected (R459, R461). A read returns the staged value until it … -/
def fTDMn_MASK_OUT_MASK : Fd := ⟨915, 31, 0, .rws, 0xff, false⟩
/-! ### TDMn_EPOCH_IN -/

/-- Masks applied since reset, wrapping -/
def fTDMn_EPOCH_IN_EPOCH : Fd := ⟨916, 63, 48, .ro, 0, false⟩
/-- Frame within the block of the first frame of the epoch, 0–63 -/
def fTDMn_EPOCH_IN_FRAME : Fd := ⟨917, 47, 42, .ro, 0, false⟩
/-- Low 42 bits of the block index of that frame -/
def fTDMn_EPOCH_IN_BLOCK : Fd := ⟨918, 41, 0, .ro, 0, false⟩
/-! ### TDMn_EPOCH_OUT -/

/-- Masks applied since reset, wrapping -/
def fTDMn_EPOCH_OUT_EPOCH : Fd := ⟨919, 63, 48, .ro, 0, false⟩
/-- Frame within the block of the first frame of the epoch, 0–63 -/
def fTDMn_EPOCH_OUT_FRAME : Fd := ⟨920, 47, 42, .ro, 0, false⟩
/-- Low 42 bits of the block index of that frame -/
def fTDMn_EPOCH_OUT_BLOCK : Fd := ⟨921, 41, 0, .ro, 0, false⟩
/-! ### TDMn_STATUS -/

/-- R464 -/
def fTDMn_STATUS_STATE : Fd := ⟨922, 31, 28, .ro, 0, false⟩
/-- 1 = a slave is locked, or a master is running frames -/
def fTDMn_STATUS_LOCKED : Fd := ⟨923, 27, 27, .ro, 0, false⟩
/-- 1 = TDM_GATE holds SDO low (R325) -/
def fTDMn_STATUS_GATED : Fd := ⟨924, 26, 26, .ro, 0, false⟩
/-- 1 = lock was lost (R454) -/
def fTDMn_STATUS_FRAME_ERR : Fd := ⟨925, 25, 25, .w1c, 0, false⟩
/-- 1 = a mask write was ignored (R460) -/
def fTDMn_STATUS_MASK_ERR : Fd := ⟨926, 24, 24, .w1c, 0, false⟩
/-- 1 = a configuration write was ignored (R468, R469) -/
def fTDMn_STATUS_CFG_ERR : Fd := ⟨927, 23, 23, .w1c, 0, false⟩
/-- 1 = a start or stop did not apply to this port (R465, R469) -/
def fTDMn_STATUS_CMD_ERR : Fd := ⟨928, 22, 22, .w1c, 0, false⟩
/-- Losses of lock, saturating -/
def fTDMn_STATUS_LOSSES : Fd := ⟨929, 15, 8, .ro, 0, false⟩
/-- Slips (R455), saturating -/
def fTDMn_STATUS_SLIPS : Fd := ⟨930, 7, 0, .ro, 0, false⟩
/-! ### TDMn_PHASE -/

/-- PHASE − PHASE0 of the last frame, in root cycles, two's complement. Zero for a master. -/
def fTDMn_PHASE_PHASE : Fd := ⟨931, 31, 0, .ro, 0, false⟩
/-! ### TDM_START -/

/-- Bit n = 1: port n is armed -/
def fTDM_START_GROUP : Fd := ⟨932, 63, 48, .wo, 0, false⟩
/-- R465 -/
def fTDM_START_TRIG : Fd := ⟨933, 47, 44, .wo, 0, false⟩
/-- 1 = arm the ports in GROUP -/
def fTDM_START_GO : Fd := ⟨934, 43, 43, .wo, 0, false⟩
/-- Low 40 bits of the block index for TRIG = 0x1 -/
def fTDM_START_AT : Fd := ⟨935, 39, 0, .wo, 0, false⟩
/-! ### TDM_STOP -/

/-- Bit n = 1: port n is stopped (R467) -/
def fTDM_STOP_GROUP : Fd := ⟨936, 31, 16, .wo, 0, false⟩
/-- 1 = stop the ports in GROUP -/
def fTDM_STOP_GO : Fd := ⟨937, 0, 0, .wo, 0, false⟩
/-! ### NET_PORTp_CFG -/

/-- 1 = port enabled -/
def fNET_PORTp_CFG_EN : Fd := ⟨1000, 31, 31, .rw, 0, false⟩
/-- 0b00 = 25GBASE-R, 0b01 = 25GBASE-R with RS-FEC, 0b10 = 10GBASE-R. A write of 0b11 is … -/
def fNET_PORTp_CFG_MODE : Fd := ⟨1001, 30, 29, .rw, 0, false⟩
/-! ### NET_PORTp_STATUS -/

/-- 1 = link up (R475) -/
def fNET_PORTp_STATUS_LINK : Fd := ⟨1002, 31, 31, .ro, 0, false⟩
/-- 1 = the link has changed state -/
def fNET_PORTp_STATUS_LINK_CHG : Fd := ⟨1003, 30, 30, .w1c, 0, false⟩
/-- Losses of link, saturating -/
def fNET_PORTp_STATUS_LINK_DOWNS : Fd := ⟨1004, 15, 0, .ro, 0, false⟩
/-! ### NET_PORTp_COUNT -/

/-- Frames dropped for a bad FCS -/
def fNET_PORTp_COUNT_FCS_ERR : Fd := ⟨1005, 63, 48, .ro, 0, false⟩
/-- R475 -/
def fNET_PORTp_COUNT_OVERSIZE : Fd := ⟨1006, 47, 32, .ro, 0, false⟩
/-- Q2 and Q3 drops (R481) -/
def fNET_PORTp_COUNT_MEDIA_DROP : Fd := ⟨1007, 31, 16, .ro, 0, false⟩
/-- Q0 and Q1 drops -/
def fNET_PORTp_COUNT_OTHER_DROP : Fd := ⟨1008, 15, 0, .ro, 0, false⟩
/-! ### NET_PLANEx_CFG -/

/-- Plane address. 0 = none. -/
def fNET_PLANEx_CFG_IPV4 : Fd := ⟨1009, 63, 32, .rw, 0, false⟩
/-- Prefix length. A write above 32 is ignored. -/
def fNET_PLANEx_CFG_PREFIX : Fd := ⟨1010, 31, 26, .rw, 0x18, false⟩
/-- Media VLAN, 0 = untagged. A write of 4,095 is ignored. -/
def fNET_PLANEx_CFG_MEDIA_VID : Fd := ⟨1011, 25, 14, .rw, 0, false⟩
/-- Management VLAN, as MEDIA_VID -/
def fNET_PLANEx_CFG_MGMT_VID : Fd := ⟨1012, 13, 2, .rw, 0, false⟩
/-- R477 -/
def fNET_PLANEx_CFG_ADDR_CONFLICT : Fd := ⟨1013, 1, 1, .w1c, 0, false⟩
/-- R477 -/
def fNET_PLANEx_CFG_PROBING : Fd := ⟨1014, 0, 0, .ro, 0, false⟩
/-! ### NET_PLANEx_GW -/

/-- The whole register. -/
def fNET_PLANEx_GW_VALUE : Fd := ⟨1015, 31, 0, .rw, 0, false⟩
/-! ### NET_PLANEx_MAC -/

/-- The whole register. -/
def fNET_PLANEx_MAC_VALUE : Fd := ⟨1016, 47, 0, .ro, 0, false⟩
/-! ### NET_QOS -/

/-- DSCP of PTP, queue Q3 -/
def fNET_QOS_DSCP_PTP : Fd := ⟨1017, 31, 26, .rw, 0x2e, false⟩
/-- DSCP of streams and SAP, queue Q2 -/
def fNET_QOS_DSCP_MEDIA : Fd := ⟨1018, 25, 20, .rw, 0x22, false⟩
/-- IP TTL of streams and SAP -/
def fNET_QOS_TTL : Fd := ⟨1019, 19, 12, .rw, 0x10, false⟩
/-! ### NET_SW_CTRL -/

/-- R479 -/
def fNET_SW_CTRL_TRUNK : Fd := ⟨1020, 31, 31, .rw, 0, false⟩
/-- R480 -/
def fNET_SW_CTRL_SNOOP : Fd := ⟨1021, 30, 30, .rw, 1, false⟩
/-- MAC ageing in s. A write below 10 stores 10. -/
def fNET_SW_CTRL_AGE : Fd := ⟨1022, 11, 0, .rw, 0x12c, false⟩
/-! ### NET_EDGEe_MAP -/

/-- 0 = ingress, 1 = egress (R496) -/
def fNET_EDGEe_MAP_DIR : Fd := ⟨1023, 31, 31, .rw, 0, false⟩
/-- First receive or transmit channel -/
def fNET_EDGEe_MAP_FIRST : Fd := ⟨1024, 30, 19, .rw, 0, false⟩
/-- Channels, 0–4,096 -/
def fNET_EDGEe_MAP_COUNT : Fd := ⟨1025, 18, 6, .rw, 0, false⟩
/-! ### STRM_RXs_W0 -/

/-- 1 = enabled (R497) -/
def fSTRM_RXs_EN : Fd := ⟨1100, 63, 63, .rw, 0, false⟩
/-- 0b00 = L16, 0b01 = L24, 0b10 = AM824. A write of 0b11 is ignored. -/
def fSTRM_RXs_FMT : Fd := ⟨1101, 62, 61, .rw, 1, false⟩
/-- 0b000 = 125 µs, 0b001 = 250 µs, 0b010 = 333 µs, 0b011 = 1 ms, 0b100 = 4 ms. Other … -/
def fSTRM_RXs_PTIME : Fd := ⟨1102, 60, 58, .rw, 3, false⟩
/-- Channels, 0–64. A write above 64 is ignored. -/
def fSTRM_RXs_CHANS : Fd := ⟨1103, 57, 51, .rw, 0, false⟩
/-- First receive channel -/
def fSTRM_RXs_FIRST : Fd := ⟨1104, 50, 39, .rw, 0, false⟩
/-- Bit 0 = plane A, bit 1 = plane B -/
def fSTRM_RXs_PLANES : Fd := ⟨1105, 38, 37, .rw, 3, false⟩
/-- D in samples (R487) -/
def fSTRM_RXs_LINK_OFS : Fd := ⟨1106, 36, 25, .rw, 0x60, false⟩
/-- Payload type -/
def fSTRM_RXs_PT : Fd := ⟨1107, 24, 18, .rw, 0x61, false⟩
/-! ### STRM_RXs_W1 -/

/-- Plane A destination address -/
def fSTRM_RXs_DST_A : Fd := ⟨1108, 63, 32, .rw, 0, false⟩
/-- Plane A source filter. 0 = any. -/
def fSTRM_RXs_SRC_A : Fd := ⟨1109, 31, 0, .rw, 0, false⟩
/-! ### STRM_RXs_W2 -/

/-- Plane B destination address -/
def fSTRM_RXs_DST_B : Fd := ⟨1110, 63, 32, .rw, 0, false⟩
/-- Plane B source filter. 0 = any. -/
def fSTRM_RXs_SRC_B : Fd := ⟨1111, 31, 0, .rw, 0, false⟩
/-! ### STRM_RXs_W3 -/

/-- Plane A UDP port -/
def fSTRM_RXs_PORT_A : Fd := ⟨1112, 63, 48, .rw, 0x138c, false⟩
/-- Plane B UDP port -/
def fSTRM_RXs_PORT_B : Fd := ⟨1113, 47, 32, .rw, 0x138c, false⟩
/-- RTP timestamp offset (R486) -/
def fSTRM_RXs_MCLK_OFS : Fd := ⟨1114, 31, 0, .rw, 0, false⟩
/-! ### STRM_TXs_W0 -/

/-- 1 = enabled (R497) -/
def fSTRM_TXs_EN : Fd := ⟨1115, 63, 63, .rw, 0, false⟩
/-- 0b00 = L16, 0b01 = L24, 0b10 = AM824. A write of 0b11 is ignored. -/
def fSTRM_TXs_FMT : Fd := ⟨1116, 62, 61, .rw, 1, false⟩
/-- 0b000 = 125 µs, 0b001 = 250 µs, 0b010 = 333 µs, 0b011 = 1 ms, 0b100 = 4 ms. Other … -/
def fSTRM_TXs_PTIME : Fd := ⟨1117, 60, 58, .rw, 3, false⟩
/-- Channels, 0–64. A write above 64 is ignored. -/
def fSTRM_TXs_CHANS : Fd := ⟨1118, 57, 51, .rw, 0, false⟩
/-- First transmit channel -/
def fSTRM_TXs_FIRST : Fd := ⟨1119, 50, 39, .rw, 0, false⟩
/-- Bit 0 = plane A, bit 1 = plane B -/
def fSTRM_TXs_PLANES : Fd := ⟨1120, 38, 37, .rw, 3, false⟩
/-- R492 -/
def fSTRM_TXs_PHASE : Fd := ⟨1121, 36, 27, .rw, 0, false⟩
/-- Payload type -/
def fSTRM_TXs_PT : Fd := ⟨1122, 26, 20, .rw, 0x61, false⟩
/-! ### STRM_TXs_W1 -/

/-- Plane A destination address -/
def fSTRM_TXs_DST_A : Fd := ⟨1123, 63, 32, .rw, 0, false⟩
/-- Plane A UDP port -/
def fSTRM_TXs_PORT_A : Fd := ⟨1124, 31, 16, .rw, 0x138c, false⟩
/-! ### STRM_TXs_W2 -/

/-- Plane B destination address -/
def fSTRM_TXs_DST_B : Fd := ⟨1125, 63, 32, .rw, 0, false⟩
/-- Plane B UDP port -/
def fSTRM_TXs_PORT_B : Fd := ⟨1126, 31, 16, .rw, 0x138c, false⟩
/-! ### STRM_TXs_W3 -/

/-- SSRC -/
def fSTRM_TXs_SSRC : Fd := ⟨1127, 63, 32, .rw, 0, false⟩
/-! ### STRM_RXs_STATUS -/

/-- R491 -/
def fSTRM_RXs_STATUS_STATE : Fd := ⟨1128, 31, 28, .ro, 0, false⟩
/-- Code of the last refusal (R499) -/
def fSTRM_RXs_STATUS_REFUSE : Fd := ⟨1129, 27, 24, .ro, 0, false⟩
/-- R491 -/
def fSTRM_RXs_STATUS_LEG_A : Fd := ⟨1130, 23, 23, .ro, 0, false⟩
/-- R491 -/
def fSTRM_RXs_STATUS_LEG_B : Fd := ⟨1131, 22, 22, .ro, 0, false⟩
/-- R501 -/
def fSTRM_RXs_STATUS_DOMAIN_MM : Fd := ⟨1132, 21, 21, .ro, 0, false⟩
/-- R487 -/
def fSTRM_RXs_STATUS_DEEP : Fd := ⟨1133, 20, 20, .ro, 0, false⟩
/-! ### STRM_RXs_COUNT -/

/-- R488 -/
def fSTRM_RXs_COUNT_LATE : Fd := ⟨1134, 63, 48, .ro, 0, false⟩
/-- R488 -/
def fSTRM_RXs_COUNT_EARLY : Fd := ⟨1135, 47, 32, .ro, 0, false⟩
/-- R488 -/
def fSTRM_RXs_COUNT_BAD : Fd := ⟨1136, 31, 16, .ro, 0, false⟩
/-- R490 -/
def fSTRM_RXs_COUNT_CONCEAL : Fd := ⟨1137, 15, 0, .ro, 0, false⟩
/-! ### STRM_RXs_PKTS -/

/-- Valid packets on plane A -/
def fSTRM_RXs_PKTS_PKTS_A : Fd := ⟨1138, 63, 32, .ro, 0, false⟩
/-- Valid packets on plane B -/
def fSTRM_RXs_PKTS_PKTS_B : Fd := ⟨1139, 31, 0, .ro, 0, false⟩
/-! ### STRM_TXs_STATUS -/

/-- 0 = OFF, 1 = WAIT_TIME, 2 = SENDING, 4 = REFUSED. Other values are not used. -/
def fSTRM_TXs_STATUS_STATE : Fd := ⟨1140, 63, 60, .ro, 0, false⟩
/-- R499 -/
def fSTRM_TXs_STATUS_REFUSE : Fd := ⟨1141, 59, 56, .ro, 0, false⟩
/-- R494, saturating -/
def fSTRM_TXs_STATUS_UNDERRUN : Fd := ⟨1142, 47, 32, .ro, 0, false⟩
/-- Packets handed to port E, wrapping -/
def fSTRM_TXs_STATUS_PKTS : Fd := ⟨1143, 31, 0, .ro, 0, false⟩
/-! ### CIS_BANKk_CTRL -/

/-- Owner code (R392) -/
def fCIS_BANKk_CTRL_OWNER : Fd := ⟨1200, 31, 26, .ro, 0x3a, false⟩
/-- Owner for the next handover -/
def fCIS_BANKk_CTRL_NEW_OWNER : Fd := ⟨1201, 25, 20, .rw, 0x3a, false⟩
/-- 1 = start a handover to NEW_OWNER (R393) -/
def fCIS_BANKk_CTRL_REQ : Fd := ⟨1202, 19, 19, .wo, 0, false⟩
/-- 1 = a handover is in progress (R394) -/
def fCIS_BANKk_CTRL_PENDING : Fd := ⟨1203, 18, 18, .ro, 0, false⟩
/-- 1 = a write was ignored under R393 or R402 -/
def fCIS_BANKk_CTRL_HO_ERR : Fd := ⟨1204, 17, 17, .w1c, 0, false⟩
/-- 1 = fabric-port writes are allowed. 0 = each fabric-port write receives an error … -/
def fCIS_BANKk_CTRL_FAB_WR : Fd := ⟨1205, 16, 16, .rw, 1, false⟩
/-- 1 = retention allowed (R400) -/
def fCIS_BANKk_CTRL_RET : Fd := ⟨1206, 15, 15, .rw, 0, false⟩
/-- 1 = the bank is in retention now -/
def fCIS_BANKk_CTRL_RETAINED : Fd := ⟨1207, 14, 14, .ro, 0, false⟩
/-- Physical bank site, 0–67 -/
def fCIS_BANKk_CTRL_PHYS : Fd := ⟨1208, 6, 0, .ro, 0, true⟩
/-! ### CIS_BANKk_ERR -/

/-- Corrected rows (R396) -/
def fCIS_BANKk_ERR_CORRECTED : Fd := ⟨1209, 63, 48, .ro, 0, false⟩
/-- Uncorrectable reads -/
def fCIS_BANKk_ERR_UNCORRECTED : Fd := ⟨1210, 47, 32, .ro, 0, false⟩
/-- Fabric writes answered COLLIDED (R390) -/
def fCIS_BANKk_ERR_COLLIDED : Fd := ⟨1211, 31, 16, .ro, 0, false⟩
/-- Wakes from retention, saturating at 31 -/
def fCIS_BANKk_ERR_WAKES : Fd := ⟨1212, 15, 11, .ro, 0, false⟩
/-- Spare rows in use, 0–1,024 -/
def fCIS_BANKk_ERR_SPARE_ROWS : Fd := ⟨1213, 10, 0, .ro, 0, false⟩
/-! ### DCIS_CFG -/

/-- 1 = Deep Cistern fitted and enabled -/
def fDCIS_CFG_EN : Fd := ⟨1300, 31, 31, .rw, 0, false⟩
/-- 0b00 = 4,266, 0b01 = 3,733, 0b10 = 3,200 MT/s. A write of 0b11 is ignored. -/
def fDCIS_CFG_RATE : Fd := ⟨1301, 30, 29, .rw, 0, false⟩
/-- 0b01 = channel 0 alone, 0b11 = both. A write of 0b00 or 0b10 is ignored. -/
def fDCIS_CFG_CHANNELS : Fd := ⟨1302, 28, 27, .rw, 3, false⟩
/-- 0 = one rank per channel, 1 = two -/
def fDCIS_CFG_RANKS : Fd := ⟨1303, 26, 26, .rw, 0, false⟩
/-- 0b000 = 8, 0b001 = 12, 0b010 = 16, 0b011 = 24, 0b100 = 32 Gb. A write of another value … -/
def fDCIS_CFG_DENSITY : Fd := ⟨1304, 25, 23, .rw, 2, false⟩
/-! ### DCIS_STATUS -/

/-- 0 = off, 1 = training, 2 = ready, 3 = self-refresh, 4 = zeroing (R405), 5 = failed … -/
def fDCIS_STATUS_STATE : Fd := ⟨1305, 31, 28, .ro, 0, false⟩
/-- 1 = channel 1 failed -/
def fDCIS_STATUS_CH1_FAIL : Fd := ⟨1306, 27, 27, .ro, 0, false⟩
/-- 1 = channel 0 failed -/
def fDCIS_STATUS_CH0_FAIL : Fd := ⟨1307, 26, 26, .ro, 0, false⟩
/-- Abandoned moves (R410), saturating -/
def fDCIS_STATUS_LATE : Fd := ⟨1308, 23, 16, .ro, 0, false⟩
/-- Installed capacity in units of 64 MiB -/
def fDCIS_STATUS_INSTALLED : Fd := ⟨1309, 15, 8, .ro, 0, false⟩
/-- Usable capacity in units of 64 MiB -/
def fDCIS_STATUS_USABLE : Fd := ⟨1310, 7, 0, .ro, 0, false⟩
/-! ### DCIS_REGIONr -/

/-- R406. 0 = unused. A write of 7–15 is ignored. -/
def fDCIS_REGIONr_KIND : Fd := ⟨1311, 63, 60, .rw, 0, false⟩
/-- 1 for KIND 1 and 2 -/
def fDCIS_REGIONr_KEEP : Fd := ⟨1312, 59, 59, .ro, 0, false⟩
/-- Size in MiB -/
def fDCIS_REGIONr_SIZE : Fd := ⟨1313, 44, 32, .rw, 0, false⟩
/-- Start in MiB from 0x1_0000_0000 -/
def fDCIS_REGIONr_BASE : Fd := ⟨1314, 12, 0, .rw, 0, false⟩
/-! ### DCIS_STR_W0 -/

/-- 1 = stream runs from the next block boundary -/
def fDCIS_STR_EN : Fd := ⟨1315, 63, 63, .rw, 0, false⟩
/-- 0 = write stream (Cistern to DRAM), 1 = read stream -/
def fDCIS_STR_DIR : Fd := ⟨1316, 62, 62, .rw, 0, false⟩
/-- Staging slots, 2–8 (R408). A write above 8 is ignored. -/
def fDCIS_STR_SLOTS : Fd := ⟨1317, 61, 58, .rw, 0, false⟩
/-- Words per block -/
def fDCIS_STR_LEN : Fd := ⟨1318, 57, 42, .rw, 0, false⟩
/-- Cistern byte offset of slot 0, in units of 512 bytes -/
def fDCIS_STR_CIS : Fd := ⟨1319, 41, 26, .rw, 0, false⟩
/-- Extra words read before the block, 0–63 (read streams) -/
def fDCIS_STR_MARGIN : Fd := ⟨1320, 25, 20, .rw, 0, false⟩
/-! ### DCIS_STR_W1 -/

/-- Ring start, in units of 4 KiB from 0x1_0000_0000 (write streams) -/
def fDCIS_STR_RING_BASE : Fd := ⟨1321, 63, 32, .rw, 0, false⟩
/-- Ring length in words (write streams) -/
def fDCIS_STR_RING_LEN : Fd := ⟨1322, 31, 0, .rw, 0, false⟩
/-! ### DCIS_STR_W2 -/

/-- Delay in samples, at least 3B (read streams) -/
def fDCIS_STR_OFFSET : Fd := ⟨1323, 63, 32, .rw, 0, false⟩
/-- Index of the paired write stream (read streams) -/
def fDCIS_STR_PAIR : Fd := ⟨1324, 31, 22, .rw, 0, false⟩
/-! ### DCIS_STR_W3 -/

/-- Ring position, in words, of the next block -/
def fDCIS_STR_POS : Fd := ⟨1325, 63, 32, .ro, 0, false⟩
/-! ### CLUn_LARITHm -/

/-- 1 = a residue mismatch stopped the last dispatch (R210) -/
def fCLUn_LARITHm_RES_ERR : Fd := ⟨1400, 27, 27, .w1c, 0, false⟩
/-- 1 = a register-width operation clamped (R197, R203) -/
def fCLUn_LARITHm_RSAT : Fd := ⟨1401, 25, 25, .w1c, 0, false⟩
/-- Bit k = 1: accumulator k clamped (R188) -/
def fCLUn_LARITHm_ASAT : Fd := ⟨1402, 23, 20, .w1c, 0, false⟩
/-- Bit k = 1: accumulator k wrapped (R187) -/
def fCLUn_LARITHm_AOV : Fd := ⟨1403, 19, 16, .w1c, 0, false⟩
/-- Bit k: clamp latch of accumulator k (R189) -/
def fCLUn_LARITHm_CL : Fd := ⟨1404, 15, 12, .ro, 0, false⟩
/-- Bit k = 1: the stored residue of accumulator k is 1 or 2. For test use only. -/
def fCLUn_LARITHm_RES : Fd := ⟨1405, 11, 8, .ro, 0, false⟩
/-- Low 8 bits of the task slot of the last dispatch on the lane; bit 8 of the slot is in … -/
def fCLUn_LARITHm_TASK : Fd := ⟨1406, 7, 0, .ro, 0, false⟩
/-! ### CLUn_LACNTm -/

/-- Dispatches that completed with any AOV bit set (R194) -/
def fCLUn_LACNTm_AOV_TASKS : Fd := ⟨1407, 63, 48, .ro, 0, false⟩
/-- Dispatches that completed with any ASAT bit set -/
def fCLUn_LACNTm_ASAT_TASKS : Fd := ⟨1408, 47, 32, .ro, 0, false⟩
/-- Dispatches that completed with RSAT set -/
def fCLUn_LACNTm_RSAT_TASKS : Fd := ⟨1409, 31, 16, .ro, 0, false⟩
/-- Residue errors on this lane site, injected ones included -/
def fCLUn_LACNTm_RES_COUNT : Fd := ⟨1410, 15, 9, .ro, 0, false⟩
/-- Bit 8 of the task slot of the last dispatch -/
def fCLUn_LACNTm_TASK8 : Fd := ⟨1411, 8, 8, .ro, 0, false⟩
/-! ### CLUn_LSTATm -/

/-- 0b000 = idle or gated, 0b001 = running, 0b010 = interlock stall, 0b011 = fetch stall, … -/
def fCLUn_LSTATm_STATE : Fd := ⟨1412, 28, 26, .ro, 0, false⟩
/-- 0x0 = none, 0x1 = residue mismatch (R210), 0x2 = third loop level, 0x3 = inner body … -/
def fCLUn_LSTATm_CAUSE : Fd := ⟨1413, 25, 22, .ro, 0, false⟩
/-- Rotation count -/
def fCLUn_LSTATm_RRB : Fd := ⟨1414, 21, 17, .ro, 0, false⟩
/-- Address of the bundle last in D -/
def fCLUn_LSTATm_PC : Fd := ⟨1415, 12, 0, .ro, 0, false⟩
/-! ### CLUn_ARITH_MASK -/

/-- 1 = RSAT raises event 72 (R193) -/
def fCLUn_ARITH_MASK_RSAT_EN : Fd := ⟨1416, 2, 2, .rw, 1, false⟩
/-- 1 = any ASAT bit raises event 72 -/
def fCLUn_ARITH_MASK_ASAT_EN : Fd := ⟨1417, 1, 1, .rw, 1, false⟩
/-- 1 = any AOV bit raises event 72 -/
def fCLUn_ARITH_MASK_AOV_EN : Fd := ⟨1418, 0, 0, .rw, 0, false⟩
/-! ### CLUn_ARITH_CTRL -/

/-- A write acts only when KEY = 0xC3 in the same write. Otherwise it is ignored. -/
def fCLUn_ARITH_CTRL_KEY : Fd := ⟨1419, 31, 24, .wo, 0, false⟩
/-- Lane site for RES_INJ, 0–8. A value above 8 makes the write ignored. -/
def fCLUn_ARITH_CTRL_INJ_LANE : Fd := ⟨1420, 11, 8, .wo, 0, false⟩
/-- 1 = inject one residue error (R214) -/
def fCLUn_ARITH_CTRL_RES_INJ : Fd := ⟨1421, 0, 0, .wo, 0, false⟩
/-! ### CLUn_MEM_STAT -/

/-- Corrected errors in X memory -/
def fCLUn_MEM_STAT_X_CORR : Fd := ⟨1422, 63, 48, .ro, 0, false⟩
/-- Corrected errors in Y memory -/
def fCLUn_MEM_STAT_Y_CORR : Fd := ⟨1423, 47, 32, .ro, 0, false⟩
/-- Corrected errors in program memory and the Pump area -/
def fCLUn_MEM_STAT_P_CORR : Fd := ⟨1424, 31, 24, .ro, 0, false⟩
/-- Uncorrectable errors in any memory of the site -/
def fCLUn_MEM_STAT_UNCORR : Fd := ⟨1425, 23, 16, .ro, 0, false⟩
/-- Pump-port writes not performed (R379) -/
def fCLUn_MEM_STAT_PUMP_LOST : Fd := ⟨1426, 15, 8, .ro, 0, false⟩
/-- Memory of the last uncorrectable error: 0b00 = X, 0b01 = Y, 0b10 = program, 0b11 = … -/
def fCLUn_MEM_STAT_LAST_MEM : Fd := ⟨1427, 5, 4, .ro, 0, false⟩
/-! ### PUMPn_CMD -/

/-- 0x1 = LOAD, 0x2 = ARM, 0x3 = CANCEL, 0x4 = UNLOAD, 0x5 = FLAG. Other values are ignored. -/
def fPUMPn_CMD_OP : Fd := ⟨1500, 31, 28, .wo, 0, false⟩
/-- Task slot -/
def fPUMPn_CMD_SLOT : Fd := ⟨1501, 16, 8, .wo, 0, false⟩
/-- Flag bit for FLAG, 0–30 -/
def fPUMPn_CMD_BIT : Fd := ⟨1502, 4, 0, .wo, 0, false⟩
/-! ### PUMPn_STATUS -/

/-- 1 = a command was ignored (R285) -/
def fPUMPn_STATUS_CMD_ERR : Fd := ⟨1503, 31, 31, .w1c, 0, false⟩
/-- 1 = at least one lane is HELD -/
def fPUMPn_STATUS_HOLDING : Fd := ⟨1504, 30, 30, .ro, 0, false⟩
/-- READY tasks outside a queue (R265) -/
def fPUMPn_STATUS_PENDING : Fd := ⟨1505, 25, 16, .ro, 0, false⟩
/-- Entries in the post queue, 0–63. A full queue of 64 reads 63 with HOLDING or the … -/
def fPUMPn_STATUS_POSTQ : Fd := ⟨1506, 15, 10, .ro, 0, false⟩
/-- Tasks in ARMED, READY, RUNNING or HELD -/
def fPUMPn_STATUS_ARMED : Fd := ⟨1507, 9, 0, .ro, 0, false⟩
/-! ### PUMPn_QSTAT -/

/-- Entries in the priority 7 queue, 0–64 -/
def fPUMPn_QSTAT_Q7 : Fd := ⟨1508, 55, 49, .ro, 0, false⟩
/-- Priority 6 -/
def fPUMPn_QSTAT_Q6 : Fd := ⟨1509, 48, 42, .ro, 0, false⟩
/-- Priority 5 -/
def fPUMPn_QSTAT_Q5 : Fd := ⟨1510, 41, 35, .ro, 0, false⟩
/-- Priority 4 -/
def fPUMPn_QSTAT_Q4 : Fd := ⟨1511, 34, 28, .ro, 0, false⟩
/-- Priority 3 -/
def fPUMPn_QSTAT_Q3 : Fd := ⟨1512, 27, 21, .ro, 0, false⟩
/-- Priority 2 -/
def fPUMPn_QSTAT_Q2 : Fd := ⟨1513, 20, 14, .ro, 0, false⟩
/-- Priority 1 -/
def fPUMPn_QSTAT_Q1 : Fd := ⟨1514, 13, 7, .ro, 0, false⟩
/-- Priority 0 -/
def fPUMPn_QSTAT_Q0 : Fd := ⟨1515, 6, 0, .ro, 0, false⟩
/-! ### PUMPn_MISS -/

/-- Misses with reason WAIT -/
def fPUMPn_MISS_MISS_WAIT : Fd := ⟨1516, 63, 48, .ro, 0, false⟩
/-- Misses with reason CREDIT -/
def fPUMPn_MISS_MISS_CREDIT : Fd := ⟨1517, 47, 32, .ro, 0, false⟩
/-- Misses with reason RUN -/
def fPUMPn_MISS_MISS_RUN : Fd := ⟨1518, 31, 16, .ro, 0, false⟩
/-- Misses with reason ERROR -/
def fPUMPn_MISS_MISS_ERROR : Fd := ⟨1519, 15, 0, .ro, 0, false⟩
/-! ### PUMPn_COUNT -/

/-- Retries dispatched (R280) -/
def fPUMPn_COUNT_RETRIES : Fd := ⟨1520, 63, 48, .ro, 0, false⟩
/-- Ingress blocks dropped (R273) -/
def fPUMPn_COUNT_INGRESS_DROPS : Fd := ⟨1521, 47, 32, .ro, 0, false⟩
/-- Quiesce skips (R281) -/
def fPUMPn_COUNT_SKIPS : Fd := ⟨1522, 31, 16, .ro, 0, false⟩
/-- Completions that entered HELD (R269) -/
def fPUMPn_COUNT_HOLDS : Fd := ⟨1523, 15, 0, .ro, 0, false⟩
/-! ### PUMPn_TIMERk -/

/-- 1 = timer enabled (R259) -/
def fPUMPn_TIMERk_EN : Fd := ⟨1524, 63, 63, .rw, 0, false⟩
/-- Task slot -/
def fPUMPn_TIMERk_SLOT : Fd := ⟨1525, 50, 42, .rw, 0, false⟩
/-- Flag bit, 0–29 -/
def fPUMPn_TIMERk_BIT : Fd := ⟨1526, 41, 37, .rw, 0, false⟩
/-- Core cycles after each block boundary -/
def fPUMPn_TIMERk_DELAY : Fd := ⟨1527, 23, 0, .rw, 0, false⟩
/-! ### TASK_W0 -/

/-- Bundle address of the kernel entry -/
def fTASK_ENTRY : Fd := ⟨1600, 63, 51, .rw, 0, false⟩
/-- Bit k = 1: logical lane k may run the task -/
def fTASK_AFFINITY : Fd := ⟨1601, 50, 43, .rw, 0, false⟩
/-- Dispatch priority. 7 is dispatched first. -/
def fTASK_PRIO : Fd := ⟨1602, 42, 40, .rw, 0, false⟩
/-- Survival class. Shedding takes class 0 first and class 7 last, as set out in "Health, … -/
def fTASK_SURV : Fd := ⟨1603, 39, 37, .rw, 0, false⟩
/-- Task state (R261) -/
def fTASK_STATE : Fd := ⟨1604, 36, 33, .ro, 0, false⟩
/-- Declared substitute: 0 = zero, 1 = hold last (R276) -/
def fTASK_SUBST : Fd := ⟨1605, 32, 32, .rw, 0, false⟩
/-- 1 = the task is skipped when it becomes ready (R281) -/
def fTASK_QUIESCE : Fd := ⟨1606, 31, 31, .rw, 0, false⟩
/-- Deadline in core cycles after the block boundary. 0 = the end of the block (R274). -/
def fTASK_DEADLINE : Fd := ⟨1607, 23, 0, .rw, 0, false⟩
/-! ### TASK_W1 -/

/-- Event flag bits (R258) -/
def fTASK_FLAGS : Fd := ⟨1608, 63, 32, .ro, 0, false⟩
/-- Flag bits that readiness requires -/
def fTASK_MASK : Fd := ⟨1609, 31, 0, .rw, 0, false⟩
/-! ### TASK_W2 -/

/-- Input reference 3 (R253) -/
def fTASK_REF3 : Fd := ⟨1610, 63, 48, .rw, 0, false⟩
/-- Input reference 2 -/
def fTASK_REF2 : Fd := ⟨1611, 47, 32, .rw, 0, false⟩
/-- Input reference 1 -/
def fTASK_REF1 : Fd := ⟨1612, 31, 16, .rw, 0, false⟩
/-- Input reference 0 -/
def fTASK_REF0 : Fd := ⟨1613, 15, 0, .rw, 0, false⟩
/-! ### TASK_W3 -/

/-- Output reference 3 -/
def fTASK_REF7 : Fd := ⟨1614, 63, 48, .rw, 0, false⟩
/-- Output reference 2 -/
def fTASK_REF6 : Fd := ⟨1615, 47, 32, .rw, 0, false⟩
/-- Output reference 1 -/
def fTASK_REF5 : Fd := ⟨1616, 31, 16, .rw, 0, false⟩
/-- Output reference 0 -/
def fTASK_REF4 : Fd := ⟨1617, 15, 0, .rw, 0, false⟩
/-! ### STAT_W0 -/

/-- Core cycles from the first bundle in F to the end bundle leaving W, for the last … -/
def fSTAT_LAST_RUN : Fd := ⟨1618, 63, 40, .ro, 0, false⟩
/-- Largest LAST_RUN since LOAD -/
def fSTAT_MAX_RUN : Fd := ⟨1619, 39, 16, .ro, 0, false⟩
/-- Misses since LOAD, saturating -/
def fSTAT_MISSES : Fd := ⟨1620, 15, 0, .ro, 0, false⟩
/-! ### STAT_W1 -/

/-- Dispatches since LOAD, saturating -/
def fSTAT_DISPATCHES : Fd := ⟨1621, 63, 32, .ro, 0, false⟩
/-- Retries since LOAD, saturating -/
def fSTAT_RETRIES : Fd := ⟨1622, 31, 16, .ro, 0, false⟩
/-- Reason of the last miss (R275) -/
def fSTAT_LAST_REASON : Fd := ⟨1623, 15, 14, .ro, 0, false⟩
/-! ### POST -/

/-- 0b00 = set a flag, 0b01 = fetch request to a CIS_IN descriptor, 0b10 = credit return, … -/
def fPOST_TYPE : Fd := ⟨1624, 31, 30, .rw, 0, false⟩
/-- Target cluster site, 0–35, or 0x3E for the network block or 0x3F for the TDM block -/
def fPOST_CLU : Fd := ⟨1625, 29, 24, .rw, 0, false⟩
/-- Task slot for TYPE 0b00, and buffer index for TYPE 0b01 and 0b10 -/
def fPOST_INDEX : Fd := ⟨1626, 23, 13, .rw, 0, false⟩
/-- Flag bit to set, 0–29, for TYPE 0b00 -/
def fPOST_BIT : Fd := ⟨1627, 12, 8, .rw, 0, false⟩
/-! ### BUF_W0 -/

/-- 0b00 = LOCAL: state, coefficients or scratch, with no credits. 0b01 = EDGE: an edge in … -/
def fBUF_KIND : Fd := ⟨1628, 63, 62, .rw, 0, false⟩
/-- 0 = X memory, 1 = Y memory -/
def fBUF_MEM : Fd := ⟨1629, 61, 61, .rw, 0, false⟩
/-- 1 = consumers of block j read the producer's block j − 1 -/
def fBUF_DELAY : Fd := ⟨1630, 60, 60, .rw, 0, false⟩
/-- Word address of slot 0 -/
def fBUF_BASE : Fd := ⟨1631, 59, 45, .rw, 0, false⟩
/-- Words per slot, 0–32,768 -/
def fBUF_LEN : Fd := ⟨1632, 44, 29, .rw, 0, false⟩
/-- Number of slots, 0–8. 0 = a flag-only edge (R258). -/
def fBUF_SLOTS : Fd := ⟨1633, 28, 25, .rw, 0, false⟩
/-- Number of post entries, 0–32 -/
def fBUF_CONS : Fd := ⟨1634, 24, 19, .rw, 0, false⟩
/-- Index of the first post entry: 0–4,095 in a cluster, 0–8,191 in the network block, … -/
def fBUF_POST : Fd := ⟨1635, 18, 6, .rw, 0, false⟩
/-- 1 = a LOCAL buffer that is restored before a retry (R279) -/
def fBUF_RETAIN : Fd := ⟨1636, 5, 5, .rw, 0, false⟩
/-! ### BUF_W1 -/

/-- Cistern byte offset of slot 0, in units of 512 bytes (CIS_OUT, CIS_IN) -/
def fBUF_CIS : Fd := ⟨1637, 63, 48, .rw, 0, false⟩
/-- For slot s, bits 6s+5:6s hold the consumers that have not yet released the slot -/
def fBUF_PEND : Fd := ⟨1638, 47, 0, .ro, 0, false⟩
/-! ### BUF_W2 -/

/-- Word address of the shadow copy of a RETAIN buffer, in the same memory -/
def fBUF_SHADOW : Fd := ⟨1639, 63, 49, .rw, 0, false⟩
/-- For CIS_IN: the producer's cluster site, 0–35. 0x3E = network block, 0x3F = TDM block. -/
def fBUF_RCLU : Fd := ⟨1640, 48, 43, .rw, 0, false⟩
/-- For CIS_IN: the producer's buffer index, or the stream or port edge number of the … -/
def fBUF_RBUF : Fd := ⟨1641, 42, 32, .rw, 0, false⟩
/-! ### ROUTE -/

/-- Source number (R288) -/
def fROUTE_SRC : Fd := ⟨1700, 63, 48, .rw, 0xffff, false⟩
/-- 0 = block path. 1 = direct path. -/
def fROUTE_PATH : Fd := ⟨1701, 47, 47, .rw, 0, false⟩
/-- Direct path only. 1 = the sink carries zero. -/
def fROUTE_MUTE : Fd := ⟨1702, 46, 46, .rw, 0, false⟩
/-- Wire sinks only. This is the rounding setting of R204: 0 = convergent, 1 = truncation. -/
def fROUTE_RND : Fd := ⟨1703, 45, 45, .rw, 0, false⟩
/-- Crossfade time in ms for a route change. 0 = Direct (R15). A write of 1 stores 2, and … -/
def fROUTE_XF : Fd := ⟨1704, 44, 38, .rw, 0xa, false⟩
/-- Direct path only. Gain in Q2.30. -/
def fROUTE_DGAIN : Fd := ⟨1705, 31, 0, .rw, 0x40000000, false⟩
/-! ### XP -/

/-- Current gain, Q2.30. The matrix multiplies by this value. -/
def fXP_CUR : Fd := ⟨1706, 63, 32, .rw, 0, false⟩
/-- Target gain, Q2.22 -/
def fXP_TGT : Fd := ⟨1707, 31, 8, .rw, 0, false⟩
/-- Glide tag. 0 = at rest. 1–255 select a glide. -/
def fXP_TAG : Fd := ⟨1708, 7, 0, .rw, 0, false⟩
/-! ### DET -/

/-- 1 = detector enabled -/
def fDET_EN : Fd := ⟨1709, 31, 31, .rw, 0, false⟩
/-- 1 = events 96 and 97 are raised -/
def fDET_FLAG : Fd := ⟨1710, 30, 30, .rw, 1, false⟩
/-- R324 -/
def fDET_WELL_OFF : Fd := ⟨1711, 29, 29, .rw, 0, false⟩
/-- R325 -/
def fDET_TDM_GATE : Fd := ⟨1712, 28, 28, .rw, 0, false⟩
/-- 1 = quiescing allowed (R318, R320) -/
def fDET_QUIESCE : Fd := ⟨1713, 27, 27, .rw, 0, false⟩
/-- Threshold in −dBFS, 60–120. A write outside the range stores the nearer end. -/
def fDET_THRESH : Fd := ⟨1714, 26, 20, .rw, 0x5a, false⟩
/-- Hold time in units of 0.1 s, 1–6,000. A write of 0 stores 1, and a write above 6,000 … -/
def fDET_HOLD : Fd := ⟨1715, 12, 0, .rw, 0x64, false⟩

/-- The registers and descriptor words of R686 and R678. -/
inductive Reg where
  | SYS_PWR_CTRL | SYS_RESET_CTRL | SYS_RESET_CAUSE | SYS_STRAP | SYS_BOOT_STATUS | SYS_CTRL | SYS_CLU_CLK
  | SYS_SCRATCH | FAB_CTRL | FAB_ERR_LOG | FAB_TGTt_CTRL | EVT_CFGe | EVT_STATUSw | EVT_CTRL | TIM_CTRL
  | TIM_SNAP_CTRL | TIM_MAP_STATUS | TIM_Dn_CFG | TIM_Dn_STATUS | TIM_Dn_OFFSET | TIM_Dn_JUMP | TIM_Dn_GM
  | TIM_COUNT_LO | TIM_COUNT_HI | TIM_SNAP_ROOT_LO | TIM_SNAP_ROOT_HI | TIM_SNAP_P0_SEC | TIM_SNAP_P0_NS
  | TIM_SNAP_P1_SEC | TIM_SNAP_P1_NS | TIM_SNAP_E_SEC | TIM_SNAP_E_NS | TIM_DIFF | TIM_MAP_OFS | TIM_TC_COUNT
  | TIM_PORTn_ASYM | REF_RPLL_WORD | REF_RPLL_STATUS | REF_DRIFT | REF_CTRL | REF_LIMITS | REF_SEL_STATUS
  | REF_HOLD_WORD | REF_CANDn_CFG | REF_CANDn_FREQ | REF_CANDn_STATUS | REF_CANDn_OFFSET | REF_PULSEn_CTRL
  | REF_PULSEn_OFS | HLTH_CTRL | HLTH_SPARES | HLTH_BRINE_STATUS | HLTH_RETIRE | HLTH_LMAPn | HLTH_CMAPk
  | SIPH_CTRL | SIPH_STATUS | SIPH_LINK | SIPH_COUNT | SIPH_SYNC | WELLm_CFG | WELLm_STATUS | WELLm_CODE
  | WELL_GENg_CFG | WELL_GENg_STEPk | TDMn_CFG | TDMn_MASK_IN | TDMn_MASK_OUT | TDMn_EPOCH_IN | TDMn_EPOCH_OUT
  | TDMn_STATUS | TDMn_PHASE | TDM_START | TDM_STOP | NET_PORTp_CFG | NET_PORTp_STATUS | NET_PORTp_COUNT
  | NET_PLANEx_CFG | NET_PLANEx_GW | NET_PLANEx_MAC | NET_QOS | NET_SW_CTRL | NET_EDGEe_MAP | STRM_RXs_W0
  | STRM_RXs_W1 | STRM_RXs_W2 | STRM_RXs_W3 | STRM_TXs_W0 | STRM_TXs_W1 | STRM_TXs_W2 | STRM_TXs_W3
  | STRM_RXs_STATUS | STRM_RXs_COUNT | STRM_RXs_PKTS | STRM_TXs_STATUS | CIS_BANKk_CTRL | CIS_BANKk_ERR
  | DCIS_CFG | DCIS_STATUS | DCIS_REGIONr | DCIS_STR_W0 | DCIS_STR_W1 | DCIS_STR_W2 | DCIS_STR_W3 | CLUn_LARITHm
  | CLUn_LACNTm | CLUn_LSTATm | CLUn_ARITH_MASK | CLUn_ARITH_CTRL | CLUn_MEM_STAT | PUMPn_CMD | PUMPn_STATUS
  | PUMPn_QSTAT | PUMPn_MISS | PUMPn_COUNT | PUMPn_TIMERk | TASK_W0 | TASK_W1 | TASK_W2 | TASK_W3 | STAT_W0
  | STAT_W1 | POST | BUF_W0 | BUF_W1 | BUF_W2 | BUF_W3 | ROUTE | XP | DET
deriving DecidableEq, Repr

/-- The fields of a register, most significant first. -/
def Reg.layout (r : Reg) : List Fd :=
  match r with
  | .SYS_PWR_CTRL => [fSYS_PWR_CTRL_KEY, fSYS_PWR_CTRL_STATE, fSYS_PWR_CTRL_TARGET, fSYS_PWR_CTRL_STBY_GPIO, fSYS_PWR_CTRL_BUSY]
  | .SYS_RESET_CTRL => [fSYS_RESET_CTRL_KEY, fSYS_RESET_CTRL_CLUSTER, fSYS_RESET_CTRL_CLUSTER_RST, fSYS_RESET_CTRL_SESSION_RST, fSYS_RESET_CTRL_ENGINE_RST]
  | .SYS_RESET_CAUSE => [fSYS_RESET_CAUSE_ENG_COUNT, fSYS_RESET_CAUSE_SES_REQUEST, fSYS_RESET_CAUSE_CLU_HEALTH, fSYS_RESET_CAUSE_CLU_REQUEST, fSYS_RESET_CAUSE_POR_STANDBY, fSYS_RESET_CAUSE_ENG_THERMAL, fSYS_RESET_CAUSE_ENG_WATCHDOG, fSYS_RESET_CAUSE_ENG_REQUEST, fSYS_RESET_CAUSE_POR_BROWNOUT, fSYS_RESET_CAUSE_POR_WAKE, fSYS_RESET_CAUSE_POR_RESET_N, fSYS_RESET_CAUSE_POR_PWR_GOOD]
  | .SYS_STRAP => [fSYS_STRAP_STRAP_INVALID, fSYS_STRAP_SAFE_GAIN, fSYS_STRAP_SAFE_DAC, fSYS_STRAP_SAFE_RANGE, fSYS_STRAP_SAFE_WIDTH, fSYS_STRAP_SAFE_ROLE, fSYS_STRAP_SAFE_FAM, fSYS_STRAP_SAFE_EN, fSYS_STRAP_BOOT]
  | .SYS_BOOT_STATUS => [fSYS_BOOT_STATUS_STAGE, fSYS_BOOT_STATUS_SEC_VERSION, fSYS_BOOT_STATUS_SAFE_LIVE, fSYS_BOOT_STATUS_XO_MISSING, fSYS_BOOT_STATUS_SIG_FAIL_B, fSYS_BOOT_STATUS_SIG_FAIL_A, fSYS_BOOT_STATUS_FALLBACK, fSYS_BOOT_STATUS_SLOT, fSYS_BOOT_STATUS_FAMILY_CHANGED]
  | .SYS_CTRL => [fSYS_CTRL_KEY, fSYS_CTRL_REMAP]
  | .SYS_CLU_CLK => [fSYS_CLU_CLK_CLOCKED]
  | .SYS_SCRATCH => [fSYS_SCRATCH_VALUE]
  | .FAB_CTRL => [fFAB_CTRL_DBG_EN]
  | .FAB_ERR_LOG => [fFAB_ERR_LOG_VALID, fFAB_ERR_LOG_OVERRUN, fFAB_ERR_LOG_MASTER, fFAB_ERR_LOG_TARGET, fFAB_ERR_LOG_CAUSE, fFAB_ERR_LOG_ADDR]
  | .FAB_TGTt_CTRL => [fFAB_TGTt_CTRL_PARK, fFAB_TGTt_CTRL_LOCKED, fFAB_TGTt_CTRL_LOCK_MASTER, fFAB_TGTt_CTRL_ABORTED, fFAB_TGTt_CTRL_ABORT_MASTER, fFAB_TGTt_CTRL_ABORT_BEATS, fFAB_TGTt_CTRL_LOCK_TMO, fFAB_TGTt_CTRL_ABORT_COUNT]
  | .EVT_CFGe => [fEVT_CFGe_COUNT, fEVT_CFGe_REC, fEVT_CFGe_NTF, fEVT_CFGe_PIN1, fEVT_CFGe_PIN0, fEVT_CFGe_CP, fEVT_CFGe_MASK, fEVT_CFGe_PRIO]
  | .EVT_STATUSw => [fEVT_STATUSw_STATUS]
  | .EVT_CTRL => [fEVT_CTRL_REC_EN, fEVT_CTRL_REC_OK, fEVT_CTRL_LOST]
  | .TIM_CTRL => [fTIM_CTRL_REACQ_HOLD, fTIM_CTRL_VALID_WIN, fTIM_CTRL_SOLO_ACCEPT, fTIM_CTRL_TC_EN, fTIM_CTRL_TIME_SEL]
  | .TIM_SNAP_CTRL => [fTIM_SNAP_CTRL_TAKE]
  | .TIM_MAP_STATUS => [fTIM_MAP_STATUS_MAP_VALID, fTIM_MAP_STATUS_TIME_SET, fTIM_MAP_STATUS_CATCHUP, fTIM_MAP_STATUS_SRC, fTIM_MAP_STATUS_ANCHORS, fTIM_MAP_STATUS_MAP_PHASE]
  | .TIM_Dn_CFG => [fTIM_Dn_CFG_EN, fTIM_Dn_CFG_DOMAIN, fTIM_Dn_CFG_PORTS, fTIM_Dn_CFG_PROFILE, fTIM_Dn_CFG_BW]
  | .TIM_Dn_STATUS => [fTIM_Dn_STATUS_STATE, fTIM_Dn_STATUS_HAS_LOCKED, fTIM_Dn_STATUS_RATE_CLAMP, fTIM_Dn_STATUS_PORT, fTIM_Dn_STATUS_GM_CLASS, fTIM_Dn_STATUS_GM_ACC, fTIM_Dn_STATUS_JUMP_GLITCH]
  | .TIM_Dn_OFFSET => [fTIM_Dn_OFFSET_OFFSET, fTIM_Dn_OFFSET_MPD]
  | .TIM_Dn_JUMP => [fTIM_Dn_JUMP_OUTCOME, fTIM_Dn_JUMP_J]
  | .TIM_Dn_GM => [fTIM_Dn_GM_VALUE]
  | .TIM_COUNT_LO => [fTIM_COUNT_LO_VALUE]
  | .TIM_COUNT_HI => [fTIM_COUNT_HI_VALUE]
  | .TIM_SNAP_ROOT_LO => [fTIM_SNAP_ROOT_LO_VALUE]
  | .TIM_SNAP_ROOT_HI => [fTIM_SNAP_ROOT_HI_VALUE]
  | .TIM_SNAP_P0_SEC => [fTIM_SNAP_P0_SEC_VALUE]
  | .TIM_SNAP_P0_NS => [fTIM_SNAP_P0_NS_VALUE]
  | .TIM_SNAP_P1_SEC => [fTIM_SNAP_P1_SEC_VALUE]
  | .TIM_SNAP_P1_NS => [fTIM_SNAP_P1_NS_VALUE]
  | .TIM_SNAP_E_SEC => [fTIM_SNAP_E_SEC_VALUE]
  | .TIM_SNAP_E_NS => [fTIM_SNAP_E_NS_VALUE]
  | .TIM_DIFF => [fTIM_DIFF_VALUE]
  | .TIM_MAP_OFS => [fTIM_MAP_OFS_VALUE]
  | .TIM_TC_COUNT => [fTIM_TC_COUNT_VALUE]
  | .TIM_PORTn_ASYM => [fTIM_PORTn_ASYM_CORR, fTIM_PORTn_ASYM_LVALID, fTIM_PORTn_ASYM_LEARNED]
  | .REF_RPLL_WORD => [fREF_RPLL_WORD_INT, fREF_RPLL_WORD_FRAC]
  | .REF_RPLL_STATUS => [fREF_RPLL_STATUS_SIPH_FROM_0, fREF_RPLL_STATUS_SDSREF1_OK, fREF_RPLL_STATUS_SDSREF0_OK, fREF_RPLL_STATUS_SLEWING, fREF_RPLL_STATUS_FROZEN, fREF_RPLL_STATUS_XO_LOST, fREF_RPLL_STATUS_FAMILY, fREF_RPLL_STATUS_LOCKED]
  | .REF_DRIFT => [fREF_DRIFT_XO_TOL, fREF_DRIFT_DRIFT_LIM]
  | .REF_CTRL => [fREF_CTRL_WTR, fREF_CTRL_HOLD_WIN, fREF_CTRL_GUARD, fREF_CTRL_SLOPE, fREF_CTRL_DEG_PEN, fREF_CTRL_PARTNER_PEN, fREF_CTRL_FORCE, fREF_CTRL_FORCE_EN]
  | .REF_LIMITS => [fREF_LIMITS_HARD_1S, fREF_LIMITS_SOFT_1S, fREF_LIMITS_HARD_64S, fREF_LIMITS_SOFT_64S]
  | .REF_SEL_STATUS => [fREF_SEL_STATUS_SELECTED, fREF_SEL_STATUS_MODE, fREF_SEL_STATUS_DISPUTE, fREF_SEL_STATUS_HOLD_VALID, fREF_SEL_STATUS_XO_SUSPECT, fREF_SEL_STATUS_HOLD_AGE]
  | .REF_HOLD_WORD => [fREF_HOLD_WORD_HIST, fREF_HOLD_WORD_INT, fREF_HOLD_WORD_FRAC]
  | .REF_CANDn_CFG => [fREF_CANDn_CFG_EN, fREF_CANDn_CFG_QUALITY, fREF_CANDn_CFG_PRIORITY, fREF_CANDn_CFG_ALIGN]
  | .REF_CANDn_FREQ => [fREF_CANDn_FREQ_FREQ]
  | .REF_CANDn_STATUS => [fREF_CANDn_STATUS_STATE, fREF_CANDn_STATUS_EFF_QUALITY, fREF_CANDn_STATUS_WTR_LEFT, fREF_CANDn_STATUS_RETURNED, fREF_CANDn_STATUS_DRIFT, fREF_CANDn_STATUS_SOFT_64, fREF_CANDn_STATUS_SOFT_1, fREF_CANDn_STATUS_HARD_64, fREF_CANDn_STATUS_HARD_1, fREF_CANDn_STATUS_LOS, fREF_CANDn_STATUS_SELECTED]
  | .REF_CANDn_OFFSET => [fREF_CANDn_OFFSET_OFS_1S, fREF_CANDn_OFFSET_OFS_64S]
  | .REF_PULSEn_CTRL => [fREF_PULSEn_CTRL_EN, fREF_PULSEn_CTRL_SOURCE, fREF_PULSEn_CTRL_POL, fREF_PULSEn_CTRL_FLYWHEEL, fREF_PULSEn_CTRL_OFS_ERR, fREF_PULSEn_CTRL_REALIGNED, fREF_PULSEn_CTRL_WIDTH]
  | .REF_PULSEn_OFS => [fREF_PULSEn_OFS_OFFSET]
  | .HLTH_CTRL => [fHLTH_CTRL_BRINE_EN, fHLTH_CTRL_SHADOW_EN, fHLTH_CTRL_ERR_WIN, fHLTH_CTRL_PASS, fHLTH_CTRL_SHADOW_INT]
  | .HLTH_SPARES => [fHLTH_SPARES_LANES, fHLTH_SPARES_CLUSTERS, fHLTH_SPARES_BANKS, fHLTH_SPARES_SIPH, fHLTH_SPARES_ROWS_MIN, fHLTH_SPARES_WEAR]
  | .HLTH_BRINE_STATUS => [fHLTH_BRINE_STATUS_MISMATCH, fHLTH_BRINE_STATUS_YIELDS, fHLTH_BRINE_STATUS_MARCH_FAIL, fHLTH_BRINE_STATUS_PASS_PCT, fHLTH_BRINE_STATUS_PASSES]
  | .HLTH_RETIRE => [fHLTH_RETIRE_KEY, fHLTH_RETIRE_KIND, fHLTH_RETIRE_SITE]
  | .HLTH_LMAPn => [fHLTH_LMAPn_RETIRED, fHLTH_LMAPn_LANES]
  | .HLTH_CMAPk => [fHLTH_CMAPk_SITE]
  | .SIPH_CTRL => [fSIPH_CTRL_KEY, fSIPH_CTRL_PAIR_EN, fSIPH_CTRL_AUTO_REJOIN, fSIPH_CTRL_SWITCH, fSIPH_CTRL_REJOIN, fSIPH_CTRL_CONTEST_TMO, fSIPH_CTRL_REJOIN_WAIT, fSIPH_CTRL_WIT_PROBE]
  | .SIPH_STATUS => [fSIPH_STATUS_ROLE, fSIPH_STATUS_CAUSE, fSIPH_STATUS_CLAIM_HELD, fSIPH_STATUS_CLAIM_LINE, fSIPH_STATUS_HB_OK, fSIPH_STATUS_PARTNER_SEEN, fSIPH_STATUS_WITNESS_OK, fSIPH_STATUS_RANK, fSIPH_STATUS_LANE1_UP, fSIPH_STATUS_LANE0_UP, fSIPH_STATUS_HB_FAULT, fSIPH_STATUS_REFUSED, fSIPH_STATUS_REFUSE]
  | .SIPH_LINK => [fSIPH_LINK_DELAY, fSIPH_LINK_GRID_ERR]
  | .SIPH_COUNT => [fSIPH_COUNT_SWITCHOVERS, fSIPH_COUNT_DIVERGES, fSIPH_COUNT_REPLAYS, fSIPH_COUNT_CRC_ERR]
  | .SIPH_SYNC => [fSIPH_SYNC_EPOCH, fSIPH_SYNC_EPOCHS, fSIPH_SYNC_BACKLOG]
  | .WELLm_CFG => [fWELLm_CFG_EN, fWELLm_CFG_MODE, fWELLm_CFG_RANGE, fWELLm_CFG_FEED, fWELLm_CFG_CHIME, fWELLm_CFG_FALLBACK, fWELLm_CFG_UF_HOLD]
  | .WELLm_STATUS => [fWELLm_STATUS_STATE, fWELLm_STATUS_SAFE_ACTIVE, fWELLm_STATUS_UNDERFLOW, fWELLm_STATUS_OVERFLOW, fWELLm_STATUS_FILL, fWELLm_STATUS_UF_COUNT]
  | .WELLm_CODE => [fWELLm_CODE_CODE]
  | .WELL_GENg_CFG => [fWELL_GENg_CFG_GATE, fWELL_GENg_CFG_GATE_SRC, fWELL_GENg_CFG_REPEAT, fWELL_GENg_CFG_PLAYING, fWELL_GENg_CFG_STEP, fWELL_GENg_CFG_ATT, fWELL_GENg_CFG_REL, fWELL_GENg_CFG_AMP]
  | .WELL_GENg_STEPk => [fWELL_GENg_STEPk_FREQ, fWELL_GENg_STEPk_DUR]
  | .TDMn_CFG => [fTDMn_CFG_PRE, fTDMn_CFG_POST, fTDMn_CFG_NSLOT, fTDMn_CFG_COUNT_IN, fTDMn_CFG_COUNT_OUT, fTDMn_CFG_STRIDE_IN, fTDMn_CFG_STRIDE_OUT, fTDMn_CFG_OFFSET, fTDMn_CFG_WIDTH, fTDMn_CFG_ROLE, fTDMn_CFG_FS_POL, fTDMn_CFG_FS_WIDTH, fTDMn_CFG_EDGE, fTDMn_CFG_TRI]
  | .TDMn_MASK_IN => [fTDMn_MASK_IN_MASK]
  | .TDMn_MASK_OUT => [fTDMn_MASK_OUT_MASK]
  | .TDMn_EPOCH_IN => [fTDMn_EPOCH_IN_EPOCH, fTDMn_EPOCH_IN_FRAME, fTDMn_EPOCH_IN_BLOCK]
  | .TDMn_EPOCH_OUT => [fTDMn_EPOCH_OUT_EPOCH, fTDMn_EPOCH_OUT_FRAME, fTDMn_EPOCH_OUT_BLOCK]
  | .TDMn_STATUS => [fTDMn_STATUS_STATE, fTDMn_STATUS_LOCKED, fTDMn_STATUS_GATED, fTDMn_STATUS_FRAME_ERR, fTDMn_STATUS_MASK_ERR, fTDMn_STATUS_CFG_ERR, fTDMn_STATUS_CMD_ERR, fTDMn_STATUS_LOSSES, fTDMn_STATUS_SLIPS]
  | .TDMn_PHASE => [fTDMn_PHASE_PHASE]
  | .TDM_START => [fTDM_START_GROUP, fTDM_START_TRIG, fTDM_START_GO, fTDM_START_AT]
  | .TDM_STOP => [fTDM_STOP_GROUP, fTDM_STOP_GO]
  | .NET_PORTp_CFG => [fNET_PORTp_CFG_EN, fNET_PORTp_CFG_MODE]
  | .NET_PORTp_STATUS => [fNET_PORTp_STATUS_LINK, fNET_PORTp_STATUS_LINK_CHG, fNET_PORTp_STATUS_LINK_DOWNS]
  | .NET_PORTp_COUNT => [fNET_PORTp_COUNT_FCS_ERR, fNET_PORTp_COUNT_OVERSIZE, fNET_PORTp_COUNT_MEDIA_DROP, fNET_PORTp_COUNT_OTHER_DROP]
  | .NET_PLANEx_CFG => [fNET_PLANEx_CFG_IPV4, fNET_PLANEx_CFG_PREFIX, fNET_PLANEx_CFG_MEDIA_VID, fNET_PLANEx_CFG_MGMT_VID, fNET_PLANEx_CFG_ADDR_CONFLICT, fNET_PLANEx_CFG_PROBING]
  | .NET_PLANEx_GW => [fNET_PLANEx_GW_VALUE]
  | .NET_PLANEx_MAC => [fNET_PLANEx_MAC_VALUE]
  | .NET_QOS => [fNET_QOS_DSCP_PTP, fNET_QOS_DSCP_MEDIA, fNET_QOS_TTL]
  | .NET_SW_CTRL => [fNET_SW_CTRL_TRUNK, fNET_SW_CTRL_SNOOP, fNET_SW_CTRL_AGE]
  | .NET_EDGEe_MAP => [fNET_EDGEe_MAP_DIR, fNET_EDGEe_MAP_FIRST, fNET_EDGEe_MAP_COUNT]
  | .STRM_RXs_W0 => [fSTRM_RXs_EN, fSTRM_RXs_FMT, fSTRM_RXs_PTIME, fSTRM_RXs_CHANS, fSTRM_RXs_FIRST, fSTRM_RXs_PLANES, fSTRM_RXs_LINK_OFS, fSTRM_RXs_PT]
  | .STRM_RXs_W1 => [fSTRM_RXs_DST_A, fSTRM_RXs_SRC_A]
  | .STRM_RXs_W2 => [fSTRM_RXs_DST_B, fSTRM_RXs_SRC_B]
  | .STRM_RXs_W3 => [fSTRM_RXs_PORT_A, fSTRM_RXs_PORT_B, fSTRM_RXs_MCLK_OFS]
  | .STRM_TXs_W0 => [fSTRM_TXs_EN, fSTRM_TXs_FMT, fSTRM_TXs_PTIME, fSTRM_TXs_CHANS, fSTRM_TXs_FIRST, fSTRM_TXs_PLANES, fSTRM_TXs_PHASE, fSTRM_TXs_PT]
  | .STRM_TXs_W1 => [fSTRM_TXs_DST_A, fSTRM_TXs_PORT_A]
  | .STRM_TXs_W2 => [fSTRM_TXs_DST_B, fSTRM_TXs_PORT_B]
  | .STRM_TXs_W3 => [fSTRM_TXs_SSRC]
  | .STRM_RXs_STATUS => [fSTRM_RXs_STATUS_STATE, fSTRM_RXs_STATUS_REFUSE, fSTRM_RXs_STATUS_LEG_A, fSTRM_RXs_STATUS_LEG_B, fSTRM_RXs_STATUS_DOMAIN_MM, fSTRM_RXs_STATUS_DEEP]
  | .STRM_RXs_COUNT => [fSTRM_RXs_COUNT_LATE, fSTRM_RXs_COUNT_EARLY, fSTRM_RXs_COUNT_BAD, fSTRM_RXs_COUNT_CONCEAL]
  | .STRM_RXs_PKTS => [fSTRM_RXs_PKTS_PKTS_A, fSTRM_RXs_PKTS_PKTS_B]
  | .STRM_TXs_STATUS => [fSTRM_TXs_STATUS_STATE, fSTRM_TXs_STATUS_REFUSE, fSTRM_TXs_STATUS_UNDERRUN, fSTRM_TXs_STATUS_PKTS]
  | .CIS_BANKk_CTRL => [fCIS_BANKk_CTRL_OWNER, fCIS_BANKk_CTRL_NEW_OWNER, fCIS_BANKk_CTRL_REQ, fCIS_BANKk_CTRL_PENDING, fCIS_BANKk_CTRL_HO_ERR, fCIS_BANKk_CTRL_FAB_WR, fCIS_BANKk_CTRL_RET, fCIS_BANKk_CTRL_RETAINED, fCIS_BANKk_CTRL_PHYS]
  | .CIS_BANKk_ERR => [fCIS_BANKk_ERR_CORRECTED, fCIS_BANKk_ERR_UNCORRECTED, fCIS_BANKk_ERR_COLLIDED, fCIS_BANKk_ERR_WAKES, fCIS_BANKk_ERR_SPARE_ROWS]
  | .DCIS_CFG => [fDCIS_CFG_EN, fDCIS_CFG_RATE, fDCIS_CFG_CHANNELS, fDCIS_CFG_RANKS, fDCIS_CFG_DENSITY]
  | .DCIS_STATUS => [fDCIS_STATUS_STATE, fDCIS_STATUS_CH1_FAIL, fDCIS_STATUS_CH0_FAIL, fDCIS_STATUS_LATE, fDCIS_STATUS_INSTALLED, fDCIS_STATUS_USABLE]
  | .DCIS_REGIONr => [fDCIS_REGIONr_KIND, fDCIS_REGIONr_KEEP, fDCIS_REGIONr_SIZE, fDCIS_REGIONr_BASE]
  | .DCIS_STR_W0 => [fDCIS_STR_EN, fDCIS_STR_DIR, fDCIS_STR_SLOTS, fDCIS_STR_LEN, fDCIS_STR_CIS, fDCIS_STR_MARGIN]
  | .DCIS_STR_W1 => [fDCIS_STR_RING_BASE, fDCIS_STR_RING_LEN]
  | .DCIS_STR_W2 => [fDCIS_STR_OFFSET, fDCIS_STR_PAIR]
  | .DCIS_STR_W3 => [fDCIS_STR_POS]
  | .CLUn_LARITHm => [fCLUn_LARITHm_RES_ERR, fCLUn_LARITHm_RSAT, fCLUn_LARITHm_ASAT, fCLUn_LARITHm_AOV, fCLUn_LARITHm_CL, fCLUn_LARITHm_RES, fCLUn_LARITHm_TASK]
  | .CLUn_LACNTm => [fCLUn_LACNTm_AOV_TASKS, fCLUn_LACNTm_ASAT_TASKS, fCLUn_LACNTm_RSAT_TASKS, fCLUn_LACNTm_RES_COUNT, fCLUn_LACNTm_TASK8]
  | .CLUn_LSTATm => [fCLUn_LSTATm_STATE, fCLUn_LSTATm_CAUSE, fCLUn_LSTATm_RRB, fCLUn_LSTATm_PC]
  | .CLUn_ARITH_MASK => [fCLUn_ARITH_MASK_RSAT_EN, fCLUn_ARITH_MASK_ASAT_EN, fCLUn_ARITH_MASK_AOV_EN]
  | .CLUn_ARITH_CTRL => [fCLUn_ARITH_CTRL_KEY, fCLUn_ARITH_CTRL_INJ_LANE, fCLUn_ARITH_CTRL_RES_INJ]
  | .CLUn_MEM_STAT => [fCLUn_MEM_STAT_X_CORR, fCLUn_MEM_STAT_Y_CORR, fCLUn_MEM_STAT_P_CORR, fCLUn_MEM_STAT_UNCORR, fCLUn_MEM_STAT_PUMP_LOST, fCLUn_MEM_STAT_LAST_MEM]
  | .PUMPn_CMD => [fPUMPn_CMD_OP, fPUMPn_CMD_SLOT, fPUMPn_CMD_BIT]
  | .PUMPn_STATUS => [fPUMPn_STATUS_CMD_ERR, fPUMPn_STATUS_HOLDING, fPUMPn_STATUS_PENDING, fPUMPn_STATUS_POSTQ, fPUMPn_STATUS_ARMED]
  | .PUMPn_QSTAT => [fPUMPn_QSTAT_Q7, fPUMPn_QSTAT_Q6, fPUMPn_QSTAT_Q5, fPUMPn_QSTAT_Q4, fPUMPn_QSTAT_Q3, fPUMPn_QSTAT_Q2, fPUMPn_QSTAT_Q1, fPUMPn_QSTAT_Q0]
  | .PUMPn_MISS => [fPUMPn_MISS_MISS_WAIT, fPUMPn_MISS_MISS_CREDIT, fPUMPn_MISS_MISS_RUN, fPUMPn_MISS_MISS_ERROR]
  | .PUMPn_COUNT => [fPUMPn_COUNT_RETRIES, fPUMPn_COUNT_INGRESS_DROPS, fPUMPn_COUNT_SKIPS, fPUMPn_COUNT_HOLDS]
  | .PUMPn_TIMERk => [fPUMPn_TIMERk_EN, fPUMPn_TIMERk_SLOT, fPUMPn_TIMERk_BIT, fPUMPn_TIMERk_DELAY]
  | .TASK_W0 => [fTASK_ENTRY, fTASK_AFFINITY, fTASK_PRIO, fTASK_SURV, fTASK_STATE, fTASK_SUBST, fTASK_QUIESCE, fTASK_DEADLINE]
  | .TASK_W1 => [fTASK_FLAGS, fTASK_MASK]
  | .TASK_W2 => [fTASK_REF3, fTASK_REF2, fTASK_REF1, fTASK_REF0]
  | .TASK_W3 => [fTASK_REF7, fTASK_REF6, fTASK_REF5, fTASK_REF4]
  | .STAT_W0 => [fSTAT_LAST_RUN, fSTAT_MAX_RUN, fSTAT_MISSES]
  | .STAT_W1 => [fSTAT_DISPATCHES, fSTAT_RETRIES, fSTAT_LAST_REASON]
  | .POST => [fPOST_TYPE, fPOST_CLU, fPOST_INDEX, fPOST_BIT]
  | .BUF_W0 => [fBUF_KIND, fBUF_MEM, fBUF_DELAY, fBUF_BASE, fBUF_LEN, fBUF_SLOTS, fBUF_CONS, fBUF_POST, fBUF_RETAIN]
  | .BUF_W1 => [fBUF_CIS, fBUF_PEND]
  | .BUF_W2 => [fBUF_SHADOW, fBUF_RCLU, fBUF_RBUF]
  | .BUF_W3 => []
  | .ROUTE => [fROUTE_SRC, fROUTE_PATH, fROUTE_MUTE, fROUTE_RND, fROUTE_XF, fROUTE_DGAIN]
  | .XP => [fXP_CUR, fXP_TGT, fXP_TAG]
  | .DET => [fDET_EN, fDET_FLAG, fDET_WELL_OFF, fDET_TDM_GATE, fDET_QUIESCE, fDET_THRESH, fDET_HOLD]

/-- The width of a register in bits (R686). -/
def Reg.width (r : Reg) : Nat :=
  match r with
  | .TIM_COUNT_HI => 16
  | .TIM_SNAP_ROOT_HI => 17
  | .TIM_SNAP_P0_NS | .TIM_SNAP_P1_NS | .TIM_SNAP_E_NS | .NET_PLANEx_MAC => 48
  | .SYS_CLU_CLK | .FAB_ERR_LOG | .TIM_Dn_OFFSET | .TIM_Dn_JUMP | .TIM_Dn_GM | .TIM_COUNT_LO | .TIM_SNAP_ROOT_LO | .TIM_SNAP_P0_SEC | .TIM_SNAP_P1_SEC | .TIM_SNAP_E_SEC | .TIM_DIFF | .TIM_MAP_OFS | .TIM_TC_COUNT | .TIM_PORTn_ASYM | .REF_RPLL_WORD | .REF_CTRL | .REF_LIMITS | .REF_HOLD_WORD | .REF_CANDn_OFFSET | .HLTH_BRINE_STATUS | .HLTH_RETIRE | .HLTH_LMAPn | .SIPH_CTRL | .SIPH_COUNT | .SIPH_SYNC | .WELL_GENg_CFG | .WELL_GENg_STEPk | .TDMn_CFG | .TDMn_EPOCH_IN | .TDMn_EPOCH_OUT | .TDM_START | .NET_PORTp_COUNT | .NET_PLANEx_CFG | .STRM_RXs_W0 | .STRM_RXs_W1 | .STRM_RXs_W2 | .STRM_RXs_W3 | .STRM_TXs_W0 | .STRM_TXs_W1 | .STRM_TXs_W2 | .STRM_TXs_W3 | .STRM_RXs_COUNT | .STRM_RXs_PKTS | .STRM_TXs_STATUS | .CIS_BANKk_ERR | .DCIS_REGIONr | .DCIS_STR_W0 | .DCIS_STR_W1 | .DCIS_STR_W2 | .DCIS_STR_W3 | .CLUn_LACNTm | .CLUn_MEM_STAT | .PUMPn_QSTAT | .PUMPn_MISS | .PUMPn_COUNT | .PUMPn_TIMERk | .TASK_W0 | .TASK_W1 | .TASK_W2 | .TASK_W3 | .STAT_W0 | .STAT_W1 | .BUF_W0 | .BUF_W1 | .BUF_W2 | .BUF_W3 | .ROUTE | .XP => 64
  | _ => 32

/-- One run of equal registers in the fabric map: register, first address, first index, stride and count of the first
index, stride and count of the second. -/
structure RegWin where
  reg : Reg
  base : Nat
  i0 : Nat
  si : Nat
  ci : Nat
  sj : Nat
  cj : Nat
deriving DecidableEq, Repr

/-- Register places of the SYS block (R679, R686). -/
def regWinsSys : List RegWin :=
  [ ⟨.SYS_PWR_CTRL, 0x10000000, 0, 0x0, 1, 0, 1⟩
  , ⟨.SYS_RESET_CTRL, 0x10000004, 0, 0x0, 1, 0, 1⟩
  , ⟨.SYS_RESET_CAUSE, 0x10000008, 0, 0x0, 1, 0, 1⟩
  , ⟨.SYS_STRAP, 0x1000000C, 0, 0x0, 1, 0, 1⟩
  , ⟨.SYS_BOOT_STATUS, 0x10000010, 0, 0x0, 1, 0, 1⟩
  , ⟨.SYS_CTRL, 0x10000014, 0, 0x0, 1, 0, 1⟩
  , ⟨.SYS_CLU_CLK, 0x10000018, 0, 0x0, 1, 0, 1⟩
  , ⟨.SYS_SCRATCH, 0x10000020, 0, 0x4, 2, 0, 1⟩ ]

/-- Register places of the FAB block (R679, R686). -/
def regWinsFab : List RegWin :=
  [ ⟨.FAB_CTRL, 0x10010000, 0, 0x0, 1, 0, 1⟩
  , ⟨.FAB_ERR_LOG, 0x10010008, 0, 0x0, 1, 0, 1⟩
  , ⟨.FAB_TGTt_CTRL, 0x10010100, 0, 0x4, 128, 0, 1⟩ ]

/-- Register places of the EVT block (R679, R686). -/
def regWinsEvt : List RegWin :=
  [ ⟨.EVT_CFGe, 0x10040000, 0, 0x4, 256, 0, 1⟩
  , ⟨.EVT_STATUSw, 0x10040400, 0, 0x4, 8, 0, 1⟩
  , ⟨.EVT_CTRL, 0x10040480, 0, 0x0, 1, 0, 1⟩ ]

/-- Register places of the TIM block (R679, R686). -/
def regWinsTim : List RegWin :=
  [ ⟨.TIM_CTRL, 0x10050000, 0, 0x0, 1, 0, 1⟩
  , ⟨.TIM_SNAP_CTRL, 0x10050004, 0, 0x0, 1, 0, 1⟩
  , ⟨.TIM_MAP_STATUS, 0x10050008, 0, 0x0, 1, 0, 1⟩
  , ⟨.TIM_Dn_CFG, 0x10050040, 0, 0x40, 2, 0, 1⟩
  , ⟨.TIM_Dn_STATUS, 0x10050044, 0, 0x40, 2, 0, 1⟩
  , ⟨.TIM_Dn_OFFSET, 0x10050048, 0, 0x40, 2, 0, 1⟩
  , ⟨.TIM_Dn_JUMP, 0x10050050, 0, 0x40, 2, 0, 1⟩
  , ⟨.TIM_Dn_GM, 0x10050058, 0, 0x40, 2, 0, 1⟩
  , ⟨.TIM_COUNT_LO, 0x10050100, 0, 0x0, 1, 0, 1⟩
  , ⟨.TIM_COUNT_HI, 0x10050108, 0, 0x0, 1, 0, 1⟩
  , ⟨.TIM_SNAP_ROOT_LO, 0x10050110, 0, 0x0, 1, 0, 1⟩
  , ⟨.TIM_SNAP_ROOT_HI, 0x10050118, 0, 0x0, 1, 0, 1⟩
  , ⟨.TIM_SNAP_P0_SEC, 0x10050120, 0, 0x0, 1, 0, 1⟩
  , ⟨.TIM_SNAP_P0_NS, 0x10050128, 0, 0x0, 1, 0, 1⟩
  , ⟨.TIM_SNAP_P1_SEC, 0x10050130, 0, 0x0, 1, 0, 1⟩
  , ⟨.TIM_SNAP_P1_NS, 0x10050138, 0, 0x0, 1, 0, 1⟩
  , ⟨.TIM_SNAP_E_SEC, 0x10050140, 0, 0x0, 1, 0, 1⟩
  , ⟨.TIM_SNAP_E_NS, 0x10050148, 0, 0x0, 1, 0, 1⟩
  , ⟨.TIM_DIFF, 0x10050150, 0, 0x0, 1, 0, 1⟩
  , ⟨.TIM_MAP_OFS, 0x10050158, 0, 0x0, 1, 0, 1⟩
  , ⟨.TIM_TC_COUNT, 0x10050160, 0, 0x0, 1, 0, 1⟩
  , ⟨.TIM_PORTn_ASYM, 0x10050200, 0, 0x8, 4, 0, 1⟩ ]

/-- Register places of the REF block (R679, R686). -/
def regWinsRef : List RegWin :=
  [ ⟨.REF_RPLL_WORD, 0x10060000, 0, 0x0, 1, 0, 1⟩
  , ⟨.REF_RPLL_STATUS, 0x10060008, 0, 0x0, 1, 0, 1⟩
  , ⟨.REF_DRIFT, 0x1006000C, 0, 0x0, 1, 0, 1⟩
  , ⟨.REF_CTRL, 0x10060010, 0, 0x0, 1, 0, 1⟩
  , ⟨.REF_LIMITS, 0x10060018, 0, 0x0, 1, 0, 1⟩
  , ⟨.REF_SEL_STATUS, 0x10060020, 0, 0x0, 1, 0, 1⟩
  , ⟨.REF_HOLD_WORD, 0x10060028, 0, 0x0, 1, 0, 1⟩
  , ⟨.REF_CANDn_CFG, 0x10060040, 0, 0x4, 8, 0, 1⟩
  , ⟨.REF_CANDn_FREQ, 0x10060060, 0, 0x4, 4, 0, 1⟩
  , ⟨.REF_CANDn_STATUS, 0x10060080, 0, 0x4, 8, 0, 1⟩
  , ⟨.REF_CANDn_OFFSET, 0x100600C0, 0, 0x8, 8, 0, 1⟩
  , ⟨.REF_PULSEn_CTRL, 0x10060100, 0, 0x4, 4, 0, 1⟩
  , ⟨.REF_PULSEn_OFS, 0x10060110, 0, 0x4, 4, 0, 1⟩ ]

/-- Register places of the HLTH block (R679, R686). -/
def regWinsHlth : List RegWin :=
  [ ⟨.HLTH_CTRL, 0x10070000, 0, 0x0, 1, 0, 1⟩
  , ⟨.HLTH_SPARES, 0x10070004, 0, 0x0, 1, 0, 1⟩
  , ⟨.HLTH_BRINE_STATUS, 0x10070008, 0, 0x0, 1, 0, 1⟩
  , ⟨.HLTH_RETIRE, 0x10070010, 0, 0x0, 1, 0, 1⟩
  , ⟨.HLTH_LMAPn, 0x10070100, 0, 0x8, 36, 0, 1⟩
  , ⟨.HLTH_CMAPk, 0x10070300, 0, 0x4, 32, 0, 1⟩ ]

/-- Register places of the SIPH block (R679, R686). -/
def regWinsSiph : List RegWin :=
  [ ⟨.SIPH_CTRL, 0x10080000, 0, 0x0, 1, 0, 1⟩
  , ⟨.SIPH_STATUS, 0x10080008, 0, 0x0, 1, 0, 1⟩
  , ⟨.SIPH_LINK, 0x1008000C, 0, 0x0, 1, 0, 1⟩
  , ⟨.SIPH_COUNT, 0x10080010, 0, 0x0, 1, 0, 1⟩
  , ⟨.SIPH_SYNC, 0x10080018, 0, 0x0, 1, 0, 1⟩ ]

/-- Register places of the WELL block (R679, R686). -/
def regWinsWell : List RegWin :=
  [ ⟨.WELLm_CFG, 0x10090000, 0, 0x10, 8, 0, 1⟩
  , ⟨.WELLm_STATUS, 0x10090004, 0, 0x10, 8, 0, 1⟩
  , ⟨.WELLm_CODE, 0x10090008, 0, 0x10, 8, 0, 1⟩
  , ⟨.WELL_GENg_CFG, 0x10090100, 0, 0x40, 16, 0, 1⟩
  , ⟨.WELL_GENg_STEPk, 0x10090108, 0, 0x40, 16, 8, 4⟩ ]

/-- Register places of the TDM block (R679, R686). -/
def regWinsTdm : List RegWin :=
  [ ⟨.TDMn_CFG, 0x100A0000, 0, 0x40, 16, 0, 1⟩
  , ⟨.TDMn_MASK_IN, 0x100A0008, 0, 0x40, 16, 0, 1⟩
  , ⟨.TDMn_MASK_OUT, 0x100A000C, 0, 0x40, 16, 0, 1⟩
  , ⟨.TDMn_EPOCH_IN, 0x100A0010, 0, 0x40, 16, 0, 1⟩
  , ⟨.TDMn_EPOCH_OUT, 0x100A0018, 0, 0x40, 16, 0, 1⟩
  , ⟨.TDMn_STATUS, 0x100A0020, 0, 0x40, 16, 0, 1⟩
  , ⟨.TDMn_PHASE, 0x100A0024, 0, 0x40, 16, 0, 1⟩
  , ⟨.TDM_START, 0x100A0400, 0, 0x0, 1, 0, 1⟩
  , ⟨.TDM_STOP, 0x100A0408, 0, 0x0, 1, 0, 1⟩ ]

/-- Register places of the NET block (R679, R686). -/
def regWinsNet : List RegWin :=
  [ ⟨.NET_PORTp_CFG, 0x100B0000, 0, 0x10, 4, 0, 1⟩
  , ⟨.NET_PORTp_STATUS, 0x100B0004, 0, 0x10, 4, 0, 1⟩
  , ⟨.NET_PORTp_COUNT, 0x100B0008, 0, 0x10, 4, 0, 1⟩
  , ⟨.NET_PLANEx_CFG, 0x100B0040, 0, 0x20, 2, 0, 1⟩
  , ⟨.NET_PLANEx_GW, 0x100B0048, 0, 0x20, 2, 0, 1⟩
  , ⟨.NET_PLANEx_MAC, 0x100B0050, 0, 0x20, 2, 0, 1⟩
  , ⟨.NET_QOS, 0x100B0080, 0, 0x0, 1, 0, 1⟩
  , ⟨.NET_SW_CTRL, 0x100B0084, 0, 0x0, 1, 0, 1⟩
  , ⟨.NET_EDGEe_MAP, 0x100B0400, 0, 0x4, 256, 0, 1⟩ ]

/-- Register places of the STRM block (R679, R686). -/
def regWinsStrm : List RegWin :=
  [ ⟨.STRM_RXs_W0, 0x10100000, 0, 0x20, 1024, 0, 1⟩
  , ⟨.STRM_RXs_W1, 0x10100008, 0, 0x20, 1024, 0, 1⟩
  , ⟨.STRM_RXs_W2, 0x10100010, 0, 0x20, 1024, 0, 1⟩
  , ⟨.STRM_RXs_W3, 0x10100018, 0, 0x20, 1024, 0, 1⟩
  , ⟨.STRM_TXs_W0, 0x10108000, 0, 0x20, 1024, 0, 1⟩
  , ⟨.STRM_TXs_W1, 0x10108008, 0, 0x20, 1024, 0, 1⟩
  , ⟨.STRM_TXs_W2, 0x10108010, 0, 0x20, 1024, 0, 1⟩
  , ⟨.STRM_TXs_W3, 0x10108018, 0, 0x20, 1024, 0, 1⟩
  , ⟨.STRM_RXs_STATUS, 0x10110000, 0, 0x4, 1024, 0, 1⟩
  , ⟨.STRM_RXs_COUNT, 0x10112000, 0, 0x8, 1024, 0, 1⟩
  , ⟨.STRM_RXs_PKTS, 0x10114000, 0, 0x8, 1024, 0, 1⟩
  , ⟨.STRM_TXs_STATUS, 0x10116000, 0, 0x8, 1024, 0, 1⟩ ]

/-- Register places of the CIS block (R679, R686). -/
def regWinsCis : List RegWin :=
  [ ⟨.CIS_BANKk_CTRL, 0x10200000, 0, 0x4, 64, 0, 1⟩
  , ⟨.CIS_BANKk_ERR, 0x10200100, 0, 0x8, 64, 0, 1⟩ ]

/-- Register places of the DCIS block (R679, R686). -/
def regWinsDcis : List RegWin :=
  [ ⟨.DCIS_CFG, 0x10210000, 0, 0x0, 1, 0, 1⟩
  , ⟨.DCIS_STATUS, 0x10210004, 0, 0x0, 1, 0, 1⟩
  , ⟨.DCIS_REGIONr, 0x10210040, 0, 0x8, 8, 0, 1⟩
  , ⟨.DCIS_STR_W0, 0x10218000, 0, 0x20, 1024, 0, 1⟩
  , ⟨.DCIS_STR_W1, 0x10218008, 0, 0x20, 1024, 0, 1⟩
  , ⟨.DCIS_STR_W2, 0x10218010, 0, 0x20, 1024, 0, 1⟩
  , ⟨.DCIS_STR_W3, 0x10218018, 0, 0x20, 1024, 0, 1⟩ ]

/-- Register places of the CLU block (R679, R686). -/
def regWinsClu : List RegWin :=
  [ ⟨.CLUn_LARITHm, 0x11000000, 0, 0x10000, 36, 4, 9⟩
  , ⟨.CLUn_LACNTm, 0x11000040, 0, 0x10000, 36, 8, 9⟩
  , ⟨.CLUn_LSTATm, 0x110000C0, 0, 0x10000, 36, 4, 9⟩
  , ⟨.CLUn_ARITH_MASK, 0x11000100, 0, 0x10000, 36, 0, 1⟩
  , ⟨.CLUn_ARITH_CTRL, 0x11000104, 0, 0x10000, 36, 0, 1⟩
  , ⟨.CLUn_MEM_STAT, 0x11000108, 0, 0x10000, 36, 0, 1⟩ ]

/-- Register places of the PUMP block (R679, R686). -/
def regWinsPump : List RegWin :=
  [ ⟨.PUMPn_CMD, 0x12000000, 0, 0x10000, 36, 0, 1⟩
  , ⟨.PUMPn_STATUS, 0x12000004, 0, 0x10000, 36, 0, 1⟩
  , ⟨.PUMPn_QSTAT, 0x12000008, 0, 0x10000, 36, 0, 1⟩
  , ⟨.PUMPn_MISS, 0x12000010, 0, 0x10000, 36, 0, 1⟩
  , ⟨.PUMPn_COUNT, 0x12000018, 0, 0x10000, 36, 0, 1⟩
  , ⟨.PUMPn_TIMERk, 0x12000020, 0, 0x10000, 36, 8, 4⟩ ]

/-- Register places of the DESC block (R679, R686). -/
def regWinsDesc : List RegWin :=
  [ ⟨.TASK_W0, 0x20050000, 0, 0x100000, 36, 32, 512⟩
  , ⟨.TASK_W1, 0x20050008, 0, 0x100000, 36, 32, 512⟩
  , ⟨.TASK_W2, 0x20050010, 0, 0x100000, 36, 32, 512⟩
  , ⟨.TASK_W3, 0x20050018, 0, 0x100000, 36, 32, 512⟩
  , ⟨.STAT_W0, 0x20054000, 0, 0x100000, 36, 16, 512⟩
  , ⟨.STAT_W1, 0x20054008, 0, 0x100000, 36, 16, 512⟩
  , ⟨.POST, 0x20056000, 0, 0x100000, 36, 4, 4096⟩
  , ⟨.POST, 0x100A2000, 63, 0x0, 1, 4, 1024⟩
  , ⟨.POST, 0x100B8000, 62, 0x0, 1, 4, 8192⟩
  , ⟨.BUF_W0, 0x20060000, 0, 0x100000, 36, 32, 2048⟩
  , ⟨.BUF_W0, 0x100A1000, 63, 0x0, 1, 32, 32⟩
  , ⟨.BUF_W0, 0x100B2000, 62, 0x0, 1, 32, 256⟩
  , ⟨.BUF_W1, 0x20060008, 0, 0x100000, 36, 32, 2048⟩
  , ⟨.BUF_W1, 0x100A1008, 63, 0x0, 1, 32, 32⟩
  , ⟨.BUF_W1, 0x100B2008, 62, 0x0, 1, 32, 256⟩
  , ⟨.BUF_W2, 0x20060010, 0, 0x100000, 36, 32, 2048⟩
  , ⟨.BUF_W2, 0x100A1010, 63, 0x0, 1, 32, 32⟩
  , ⟨.BUF_W2, 0x100B2010, 62, 0x0, 1, 32, 256⟩
  , ⟨.BUF_W3, 0x20060018, 0, 0x100000, 36, 32, 2048⟩
  , ⟨.BUF_W3, 0x100A1018, 63, 0x0, 1, 32, 32⟩
  , ⟨.BUF_W3, 0x100B2018, 62, 0x0, 1, 32, 256⟩ ]

/-- All register places. -/
def regWins : List RegWin :=
  regWinsSys ++ regWinsFab ++ regWinsEvt ++ regWinsTim ++ regWinsRef ++ regWinsHlth ++ regWinsSiph ++ regWinsWell ++ regWinsTdm ++ regWinsNet ++ regWinsStrm ++ regWinsCis ++ regWinsDcis ++ regWinsClu ++ regWinsPump ++ regWinsDesc

/-- The default priority of each event (R642); `none` for a reserved number. -/
def evtDefault (e : Nat) : Option Nat :=
  let t : List (Nat × List Nat) :=
    [ (0, [2, 5, 3, 7, 5, 4, 3, 4]), (8, [1, 1, 4, 5, 3, 2]), (16, [6, 6, 3]), (19, [3, 4, 5, 2, 5, 5, 3, 4])
    , (27, [2, 4, 4, 4, 5, 4, 3, 3]), (40, [4, 3, 3, 4, 3, 3, 2, 4, 3, 5]), (56, [5, 7, 7, 6, 4, 5, 4, 5])
    , (72, [1, 3, 5]), (80, [4, 2, 4, 3]), (88, [1, 4, 0, 4, 6, 3, 3, 4]), (96, [1, 1, 2, 2, 5, 4, 1])
    , (104, [4, 6, 3, 3]), (112, [2, 4, 3]), (144, [4, 5, 3, 5, 5, 5, 6, 7, 3, 5, 5, 2, 2]) ]
  t.foldl (fun acc r => if r.1 ≤ e then (match r.2[e - r.1]? with | some p => some p | none => acc) else acc) none

/-- The reset value of a field at index `i`: the table's constant, or the value its row gives for that index. -/
def Fd.resetAt (f : Fd) (i : Nat) : Nat :=
  if f.special then
    if f = fREF_CANDn_CFG_EN then (if i = 7 then 1 else 0)
    else if f = fREF_CANDn_CFG_QUALITY then (if i < 4 then 0x8 else if i = 7 then 0xE else 0xF)
    else if f = fREF_CANDn_CFG_PRIORITY then (if i = 7 then 0xF else 0x8)
    else if f = fREF_CANDn_STATUS_STATE then (if i = 7 then 3 else 0)
    else if f = fREF_CANDn_STATUS_SELECTED then (if i = 7 then 1 else 0)
    else if f = fTIM_Dn_CFG_PORTS then (if i = 0 then 0b0011 else 0b1100)
    else if f = fCIS_BANKk_CTRL_PHYS then i
    else if f = fFAB_TGTt_CTRL_PARK then (if i = 4 then 0x3E else 0x3A)
    else if f = fTDMn_CFG_COUNT_IN then (if i = 0 then 8 else 0)
    else if f = fTDMn_CFG_STRIDE_IN then (if i = 0 then 8 else 0)
    else if f = fTDMn_CFG_WIDTH then (if i = 0 then 0 else 0b10)
    else if f = fTDMn_MASK_IN_MASK then (if i = 0 then 0xFF else 0)
    else if f = fHLTH_CMAPk_SITE then i
    else if f = fWELL_GENg_CFG_GATE_SRC then (if i = 0 then 1 else 0)
    else if f = fWELL_GENg_CFG_REPEAT then (if i = 0 then 1 else 0)
    else if f = fWELL_GENg_CFG_ATT then (if i = 0 then 5 else 0)
    else if f = fWELL_GENg_CFG_REL then (if i = 0 then 200 else 0)
    else if f = fWELL_GENg_CFG_AMP then (if i = 0 then 0x2026FF else 0)
    else if f = fEVT_CFGe_REC then (match evtDefault i with | some p => if 3 ≤ p then 1 else 0 | none => 0)
    else if f = fEVT_CFGe_PIN0 then (match evtDefault i with | some p => if 5 ≤ p then 1 else 0 | none => 0)
    else if f = fEVT_CFGe_PRIO then (evtDefault i).getD 0
    else f.rst
  else f.rst

/-- The block that a field belongs to, numbered as in `keyBlock`. -/
def Fd.blk (f : Fd) : Nat := f.id / 100

/-- The key of a field's value in the register map: field number, first index, second index. -/
def Fd.key (f : Fd) (i j : Nat) : Nat := f.id * 2 ^ 40 + (i % 2 ^ 20) * 2 ^ 20 + j % 2 ^ 20

/-- The field number of a key. -/
def keyId (k : Nat) : Nat := k / 2 ^ 40

/-- The first index of a key. -/
def keyI (k : Nat) : Nat := k / 2 ^ 20 % 2 ^ 20

/-- The second index of a key. -/
def keyJ (k : Nat) : Nat := k % 2 ^ 20

/-- The block of a key: 1 SYS, 2 FAB, 3 EVT, 4 TIM, 5 REF, 6 HLTH, 7 SIPH, 8 WELL, 9 TDM, 10 NET, 11 STRM, 12 CIS,
13 DCIS, 14 CLU, 15 PUMP, 16 descriptors, 18 standby domain. -/
def keyBlock (k : Nat) : Nat := keyId k / 100

/-- The slot of a register in bytes (R680). -/
def Reg.bytes (r : Reg) : Nat := if r.width ≤ 32 then 4 else 8

/-- Address of register `r` at indices `i`, `j` in one run of the map. -/
def RegWin.addr (w : RegWin) (i j : Nat) : Nat := w.base + (i - w.i0) * w.si + j * w.sj

/-- The register, its indices and the byte offset inside it that an address falls on, within one run. -/
def RegWin.find (w : RegWin) (a : Nat) : Option (Reg × Nat × Nat × Nat) :=
  if a < w.base then none
  else
    let d := a - w.base
    let i := if w.si = 0 then 0 else d / w.si
    let r := if w.si = 0 then d else d % w.si
    let j := if w.sj = 0 then 0 else r / w.sj
    let o := if w.sj = 0 then r else r % w.sj
    if i < w.ci ∧ j < w.cj ∧ o < w.reg.bytes then some (w.reg, i + w.i0, j, o) else none

/-- The register that a fabric address falls on, with its indices and the byte offset inside it. -/
def regAt (a : Nat) : Option (Reg × Nat × Nat × Nat) := regWins.findSome? (fun w => w.find a)

end Sys2Proof.Machine
end

