-- ==== Sys2Proof/Machine/State.lean ====
section
/-! DEFINITION. The state of the mixing engine as plain data: one structure per unit, the register-field map, the byte
memories, and the queue of waiting commands. Register fields that the spec tables live in `regs` (Machine/Regs.lean);
the structures hold what the spec describes beside them. -/

namespace Sys2Proof.Machine

open Sys2Proof

/-- Why a step stops with a fault. -/
inductive Fault where
  /-- A rail other than VDD_CORE left its range while PWR_GOOD was high: R693 calls the behaviour not defined. Raised by
  no command of the table (the table has no row for the rail); kept for the reader. Safe. -/
  | railOutOfRange
deriving DecidableEq, Repr

/-- Why a command is refused. -/
inductive Refusal where
  /-- No meaning yet for the command whose mnemonic is given. Safe: no claim about it can be proved. -/
  | notModelled (mnemonic : String)
deriving DecidableEq, Repr

/-! ### Power, reset and the staged start (spec 02, 03) -/

/-- Where the engine stands between supply and operation: held in Power-on Reset, up, or Deep Standby reached. -/
inductive Phase where
  | por | up | deepStandby
deriving DecidableEq, Repr

/-- Power, reset and start-up state beside the SYS registers. -/
structure Sys where
  /-- Power-on Reset held, running, or Deep Standby reached (R47, R52). -/
  phase : Phase := .por
  /-- Level of the PWR_GOOD ball (R46). -/
  pwrGood : Bool := false
  /-- Level of the RESET_N ball (R54). -/
  resetN : Bool := false
  /-- VDD_CORE is below its brown-out threshold (R48, R692). -/
  brownOut : Bool := false
  /-- The standby domain is supplied (R44, R693). -/
  vstby : Bool := true
  /-- The Power-on Reset under way was entered from Deep Standby, so that WAKE still counts (R53, R693). -/
  standby : Bool := false
  /-- XO_IN is qualified (R65 step 2). -/
  xoQual : Bool := false
  /-- Last step of the safe sequencer that has been taken, 0 to 8 (R65). -/
  safeStep : Nat := 0
  /-- The start-up oscillator clocks the sequencer and the control processor (R92). -/
  startupOsc : Bool := false
  /-- The Wellhead references have settled (R65 step 6). -/
  refsSettled : Bool := false
  /-- An Engine Reset is in progress (R56, R58). -/
  engReset : Bool := false
  /-- The thermal trip holds the Engine Reset (R55). -/
  thermal : Bool := false
  /-- Cluster sites in Cluster Reset, bit n for site n (R59). -/
  cluReset : Nat := 0
  /-- A Session Reset waits for the next boundary (R60). -/
  sesReq : Bool := false
  /-- Boot ROM and firmware run; false while halted by BOOT 0b100 to 0b111 or in recovery (R68, R72). -/
  fwRunning : Bool := false
  /-- BOOT_ROM_VERIFY used the second slot; event 4 waits for events to run (R71). -/
  fallbackDue : Bool := false
  /-- Rate class in force: 0 base, 1 double, 2 quad (R30). -/
  rateClass : Nat := 0
  /-- Block size B in force (R30). -/
  blk : Nat := 16
  /-- Startup configuration in force, if one was valid (R30, R69). -/
  cfg : Option StartupCfg := none
  /-- The startup Press has executed (stage 3 ended). -/
  started : Bool := false
  /-- The reset that the present start follows was an Engine Reset (R609). -/
  warm : Bool := false
  /-- The firmware image that runs, with the attributes that the checks of R71 found. -/
  image : FwSlot := {}
  /-- Family change abandoned by a loss of XO_IN and due to restart (R91). -/
  slewDue : Bool := false
  /-- TDM0 has been reconfigured after the handover of every Wellhead channel (R76). -/
  tdm0Done : Bool := false
deriving DecidableEq, Repr

/-- One entry of the retirement record (R578): KIND, SITE, CAUSE and WHEN. -/
structure Retired where
  kind : Nat
  site : Nat
  cause : Nat := 0
  sec : Nat := 0
deriving DecidableEq, Repr

/-- What the boot flash holds (R69, R70): external to the die, kept by every reset. -/
structure Flash where
  /-- Firmware slot A. -/
  fwA : FwSlot := {}
  /-- Firmware slot B. -/
  fwB : FwSlot := {}
  /-- Startup configuration slots A and B; the valid one with the higher number is used. -/
  cfgs : List StartupCfg := []
  /-- Security version in the anti-rollback fuse counter (on-die fuses, R71). -/
  antiRollback : Nat := 0
  /-- Retirement record (R578). -/
  retired : List Retired := []
  /-- Last committed scene of the scene store. -/
  scene : List SceneEntry := []
  /-- Sounding baselines stored (R598): feed and baseline number. -/
  baselines : List (Nat × Nat) := []
  /-- Writes begun and not yet closed by their commit marker (R70). -/
  jobs : List FlashJob := []
deriving DecidableEq, Repr

/-! ### Root clock (spec 03) -/

/-- Root-clock state beside REF_RPLL_WORD, REF_RPLL_STATUS and SYS_CLU_CLK. -/
structure Clk where
  /-- Lane clocks gated by the Pump (R101): site n, lane site m at key 16 n + m. -/
  laneGated : NMap Bool := []
  /-- Cistern bank clocks gated (R102), by logical bank. -/
  bankGated : NMap Bool := []
  /-- SIPH_FROM_0 as in effect (R96). -/
  siphFrom0 : Bool := false
  /-- Multiplier word at which the tuning was frozen (R88). -/
  frozenWord : Nat := 0
deriving DecidableEq, Repr

/-! ### Reference unit (spec 04) -/

/-- Measurement history of one candidate beside its REF_CAND registers (R110 to R120). -/
structure Cand where
  /-- Consecutive 1 s windows with no limit crossed while QUALIFYING (R118). -/
  clean : Nat := 0
  /-- Consecutive windows at or below half the limit: HARD_1S, SOFT_1S, HARD_64S, SOFT_64S, DRIFT_LIM (R114, R115). -/
  clrH1 : Nat := 0
  clrS1 : Nat := 0
  clrH64 : Nat := 0
  clrS64 : Nat := 0
  clrD : Nat := 0
  /-- XO-referred offset of the last 1 s window, in 10⁻¹². -/
  ofs1 : Int := 0
  /-- XO-referred offset of the last 64 s window, in 10⁻¹². -/
  ofs64 : Int := 0
  /-- 64 s offsets since the candidate entered QUALIFYING, newest first, at most eight (R115). -/
  hist : List Int := []
deriving DecidableEq, Repr

/-- One PULSE output beside its registers (R134, R135). -/
structure Pulse where
  /-- The source has delivered one instant since EN = 1. -/
  active : Bool := false
  /-- Last source instant, in root cycles. -/
  instant : Int := 0
  /-- Root edge of the last leading edge emitted; `none` before the first. -/
  edge : Option Int := none
deriving DecidableEq, Repr

/-- Reference-unit state beside the REF registers. -/
structure Ref where
  cands : NMap Cand := []
  pulses : NMap Pulse := []
  /-- Selection that waits for the next block boundary (R126). -/
  pendSel : Option Nat := none
  /-- Holdover word fixed when the selected candidate became ineligible (R132). -/
  holdFix : Option Nat := none
  /-- Holdover history, newest first, at most 4,200 entries; `some` word where the entry is valid (R130). -/
  hist : List (Option Nat) := []
  /-- Consecutive 64 s windows without the condition of R116. -/
  suspectClr : Nat := 0
  /-- Quality the pair partner advertises (R108). -/
  partnerQ : Nat := 15
deriving DecidableEq, Repr

/-! ### Time unit (spec 05) -/

/-- One timescale x of R141: OFS_x in 2⁻¹⁶ ns, RATE_FF and RATE_SV in 2⁻⁴⁸, and whether it advances at half rate
(engine time in CATCHUP, R167). -/
structure Scale where
  ofs : Int := 0
  rateFF : Int := 0
  rateSV : Int := 0
  half : Bool := false
deriving DecidableEq, Repr

/-- Servo data of one port of a domain (R158, R173, R175); times in 2⁻¹⁶ ns. -/
structure PtpPort where
  /-- t1, corr_s and t2 of the last Sync. -/
  last : Option (Int × Int × Int) := none
  dly : List Int := []
  out : List Int := []
  mpd : Int := 0
  tmp : Int := 0
  /-- CORR in effect, in ps, and whether a written CORR waits for the next Sync (R175). -/
  corr : Int := 0
  corrDue : Bool := false
  /-- Offsets before the first outlying delay, the other domain's offset then, and the offsets since (R173). -/
  before : List Int := []
  otherBefore : Int := 0
  after : List Int := []
  /-- A path change ΔD that waits for its fourth offset. -/
  change : Option Int := none
  /-- Median path delay before the classified change (R175). -/
  preMed : Option Int := none
deriving DecidableEq, Repr

/-- A foreign master (R154): its last Announce, the counter value at its receipt, and whether it is qualified. -/
structure Foreign where
  ann : Announce
  port : Nat
  seen : Nat
  qualified : Bool
deriving DecidableEq, Repr

/-- The validation of one jump (R168 to R170). -/
structure JumpWin where
  /-- Counter value at the first held Sync. -/
  start : Nat
  /-- State the domain was in. -/
  from' : Nat
  /-- J in 2⁻¹⁶ ns. -/
  j : Int
  /-- Offsets of the window. -/
  offs : List Int
deriving DecidableEq, Repr

/-- One PTP domain beside its TIM_Dn registers. -/
structure Dom where
  scale : Scale := {}
  ports : NMap PtpPort := []
  foreign : List Foreign := []
  /-- Clock identity of the master followed. -/
  master : Option Nat := none
  first : Bool := true
  integ : Int := 0
  lockCnt : Nat := 0
  unlockCnt : Nat := 0
  /-- Offsets of the Syncs held by the jump check, oldest first, and the counter value of the first (R168). -/
  held : List Int := []
  heldAt : Nat := 0
  win : Option JumpWin := none
  /-- Last jump confirmed, with its counter value (R170). -/
  conf : Option (Int × Nat) := none
  /-- Accepted jump that waits for the next boundary (R171). -/
  pendJump : Option Int := none
  /-- Last offset e, and the last eight, newest first. -/
  e : Int := 0
  eHist : List Int := []
  /-- Value about which the offsets of a REJECTED domain have stayed within STEP_TOL (R157). -/
  reacq : Option Int := none
  /-- (t1, t2) of recent Syncs, newest first, for rate_estimate. -/
  syncs : List (Int × Int) := []
  /-- Root count at which the Delay_Req now open left (R158). -/
  req : Option Nat := none
  utcOffset : Int := 0
deriving DecidableEq, Repr

/-- Time-unit state beside the TIM registers. -/
structure Tim where
  /-- The 80-bit counter of core cycles (R138). -/
  cnt : Nat := 0
  /-- The sample count has started (R140). -/
  running : Bool := false
  /-- Counter value of sample 0. -/
  cSamp : Nat := 0
  /-- Block index of the last boundary reached; `none` before the first. -/
  blkIdx : Option Nat := none
  /-- P as a fraction of ns (R141, R144). -/
  pNum : Nat := 625
  pDen : Nat := 768
  doms : NMap Dom := []
  eng : Scale := {}
  /-- Follow_Ups held until their Sync has left: sequence and correctionField (R151). -/
  fuHeld : List (Nat × Int) := []
  /-- Residence times of two-step Syncs that have left, by sequence (R151). -/
  syncRes : List (Nat × Int) := []
  /-- correctionField of the PTP frame forwarded last (R151). -/
  tcLast : Option Int := none
  /-- The startup configuration changes the rate class or B at the next boundary (R140). -/
  restart : Option (Nat × Nat) := none
  /-- Anchor of the ledger for the boundary under way, and the anchor that this Active unit is about to stamp: change of
  MAP_OFS, step of E and event (R166). -/
  ledgerAnchor : Option (Int × Int × Nat) := none
  anchorOut : Option (Int × Int × Nat) := none
  /-- Time source that the mapping still follows while a domain that TIME_SEL names is not LOCKED (R160). -/
  mapSrc : Option Nat := none
  /-- The time source has been LOCKED (R162). -/
  srcLocked : Bool := false
  /-- Last boundary at which a step of R668 other than step 0 acted, the steps that acted, and the core cycles from it to
  the last TICK (R675). -/
  actBlk : Nat := 0
  actMask : Nat := 0
  actTick : Nat := 0
deriving DecidableEq, Repr

/-! ### Events (spec 19) -/

/-- One event record of R645; ARGS as bytes, zero-padded to sixteen. -/
structure EvRec where
  num : Nat
  prio : Nat
  role : Nat
  cont : Bool
  seq : Nat
  root : Nat
  e : Nat
  block : Nat
  args : List Byte
deriving DecidableEq, Repr

/-- A record in the intake queue with the routes it takes (control processor, subscribers, recorder). -/
structure Routed where
  rcd : EvRec
  cp : Bool
  ntf : Bool
  recd : Bool
deriving DecidableEq, Repr

/-- Event-controller state beside the EVT registers. -/
structure Evt where
  /-- SEQ of the next record (R645, R655). -/
  seq : Nat := 0
  /-- Intake queue, at most 512 records (R652). -/
  intake : List Routed := []
  /-- Control processor queue, at most 256 records, in SEQ order (R650). -/
  cpq : List EvRec := []
  /-- Recorder queue, at most 1,024 records (R653). -/
  recq : List EvRec := []
  /-- Records dropped per route since its last event 5: intake, control processor, recorder (R652). -/
  dropped : NMap Nat := []
  /-- NEXT of the recorder header in the Deep Cistern region (R654), and records since it was written. -/
  hdrNext : Nat := 0
  sinceHdr : Nat := 0
  /-- The header's capacity and the records held in the region, by s mod C (R654). -/
  store : NMap (Option EvRec) := []
  /-- Counter value + 1 of the last event 5 of each route (R652). -/
  ovfAt : NMap Nat := []
deriving DecidableEq, Repr

/-! ### Lanes (spec 06, 07) -/

/-- One accumulator: 80-bit value, clamp latch and stored residue (R183). -/
structure LAcc where
  val : Word80 := 0
  cl : Bool := false
  res : Nat := 0
deriving DecidableEq, Repr

/-- One hardware loop level (R216): first and last bundle of the body, iterations that remain, and ROT. -/
structure LoopLvl where
  first : Nat
  last : Nat
  remaining : Nat
  rot : Bool
deriving DecidableEq, Repr

/-- A store that has issued and waits for its W stage: cycle counted from the dispatch (0 until its bundle has ended),
memory, word address, data. -/
structure StoreW where
  w : Nat
  y : Bool
  addr : Nat
  data : Word32
deriving DecidableEq, Repr

/-- One lane site (R216), with the stage cycles of the bundle under way (R242). -/
structure Lane where
  /-- Task slot that runs on the lane; `none` while the lane is free. -/
  task : Option Nat := none
  /-- Physical data registers 0 to 63. -/
  d : NMap Word32 := []
  acc : NMap LAcc := []
  a : NMap Nat := []
  b : NMap Nat := []
  l : NMap Nat := []
  /-- Modifiers, as signed 16-bit values; 1 unless written (R217). -/
  m : NMap Int := []
  xd : Word32 := 0
  yd : Word32 := 0
  z : Bool := false
  n : Bool := false
  rrb : Nat := 0
  /-- Active loop levels, innermost first. -/
  loops : List LoopLvl := []
  /-- Fill staging registers of 64 bits (R233). -/
  stag : NMap Nat := []
  /-- Address of the bundle under way or next to issue. -/
  pc : Nat := 0
  /-- Where a flow operation of the bundle under way sends PC. -/
  target : Option Nat := none
  /-- The bundle under way carries end. -/
  ending : Bool := false
  /-- The end bundle has issued; no further bundle issues (R248). -/
  ended : Bool := false
  /-- Fills that commit with the bundle under way (R244). -/
  fills : NMap LAcc := []
  /-- Stores that have not reached W, oldest first. -/
  stores : List StoreW := []
  /-- Stores of a dispatch that Brine shadows, for its comparison (R589). -/
  log : List StoreW := []
  /-- This dispatch is compared by Brine: the lane is shadowed or shadows. -/
  logging : Bool := false
  /-- On a spare lane: the lane site whose dispatch it shadows (R589). -/
  shadow : Option Nat := none
  /-- Counter value at which the first bundle entered F. -/
  start : Nat := 0
  /-- D, M and E1 cycles of the bundle under way, and E1 of the bundle before it. -/
  tD : Nat := 1
  tM : Nat := 2
  tE : Nat := 3
  eP : Nat := 0
  /-- Cycle at whose end the last write of a register lands: data registers 0 to 63, address side 64 + 8 kind + index,
  condition flags 96 (R243). -/
  lands : NMap Nat := []
deriving DecidableEq, Repr

/-! ### The Pump (spec 08) -/

/-- One entry of a post queue (R269): a post with its entry word, or a write-back; with the block and the buffer slot of
the run that made it (R272). -/
structure PostItem where
  writeBack : Bool
  /-- The post entry word (R255). -/
  word : Nat
  buf : Nat
  slot : Nat
  blk : Nat
deriving DecidableEq, Repr

/-- One request of a transfer engine (R271): a fetch into, or a write-back of, buffer `buf`. -/
structure XferReq where
  writeBack : Bool
  buf : Nat
  blk : Nat
  slot : Nat
deriving DecidableEq, Repr

/-- Run-time data of one task beside its descriptor and statistics record. -/
structure TaskRt where
  /-- Block for which it became ready or was dispatched. -/
  blk : Nat := 0
  /-- Lane site that runs it. -/
  lane : Nat := 0
  /-- CANCEL takes effect once the completion has posted (R262). -/
  cancel : Bool := false
  /-- ARM takes effect at the next boundary (R262). -/
  armDue : Bool := false
  /-- Block of its first lane error (R280). -/
  errBlk : Option Nat := none
  /-- Lane site on which it failed, while a retry is due. -/
  retry : Option Nat := none
  /-- It has completed a block since its last miss (R278). -/
  good : Bool := false
  /-- The copy of RETAIN buffers to SHADOW runs (R279). -/
  copying : Bool := false
  /-- Last block for which it completed, missed or stood in. -/
  done : Option Nat := none
  /-- Entries of a completion that the post queue has not taken (R269). -/
  held : List PostItem := []
deriving DecidableEq, Repr

/-- The queues of one Pump. -/
structure PumpSt where
  /-- The eight dispatch queues, by priority (R264). -/
  queues : NMap (List Nat) := []
  /-- READY tasks outside a queue, in order (R265). -/
  outside : List Nat := []
  postq : List PostItem := []
  xfers : List XferReq := []
  /-- Counter value at the cluster's last TICK (R675). -/
  tick : Nat := 0
deriving DecidableEq, Repr

/-- The Pumps, their cluster's lanes, the post channel and the graph images. -/
structure Pump where
  /-- Lane site m of cluster site n at key 16 n + m. -/
  lanes : NMap Lane := []
  /-- RES_INJ armed, by lane key (R214). -/
  inj : NMap Bool := []
  /-- Cycle and lane of the last lane write of a word, as 16 × cycle + lane + 1 (R234). -/
  stamps : NMap Nat := []
  sites : NMap PumpSt := []
  /-- Task t of site n at key 512 n + t. -/
  rt : NMap TaskRt := []
  /-- Credit returns under way on the post channel: target, buffer, slot (R270). -/
  credits : List (Nat × Nat × Nat) := []
  /-- Blocks posted to the egress edges of the network and TDM blocks: block + 1, by
  (site × 2¹⁶ + edge) × 16 + slot (R271). -/
  egress : NMap Nat := []
  /-- Kernel costs of the loaded tasks in core cycles per block, by task key (R283). -/
  costs : NMap Nat := []
  /-- Program image of the accepted graph (region kind 5 of R406): bundle at key 8192 n + address. -/
  image : NMap Nat := []
  /-- Tasks that shedding has cancelled until the next graph load (R583), by task key. -/
  shed : List Nat := []
deriving DecidableEq, Repr
/-! ### Routing and mixing (spec 09) -/

/-- The block `blk` of one router source as the egress blocks and the strips read it: measure and samples (R294, R315). -/
structure SrcBlk where
  blk : Nat
  measure : Nat
  samples : List Int
deriving DecidableEq, Repr

/-- A route crossfade under way (R329): the entry it leaves, first sample and length in samples. -/
structure Fade where
  old : Nat
  start : Nat
  len : Nat
deriving DecidableEq, Repr

/-- A linear move of a direct-path gain (R311), in Q2.30: from, to, first sample and length. -/
structure GainMove where
  frm : Int
  to' : Int
  start : Nat
  len : Nat
deriving DecidableEq, Repr

/-- A silence detector (R316, R317): state and count of silent blocks, and its drained blocks (R318). -/
structure Det where
  state : Nat := 0
  count : Nat := 0
  drained : Nat := 0
  /-- THRESH and HOLD in effect. -/
  thresh : Nat := 0x5A
  hold : Nat := 100
deriving DecidableEq, Repr

/-- Router, mixing and detector state. -/
structure Route where
  /-- Source blocks, by 4 × source number + block mod 4. -/
  srcs : NMap SrcBlk := []
  /-- Samples of TDM inputs and sine generators collected since the last boundary, newest first, by source number (R294). -/
  collect : NMap (List Int) := []
  /-- Router entry in force where it differs from the committed one, plus one, by sink number (R332). -/
  inForce : NMap Nat := []
  fades : NMap Fade := []
  /-- The last crossfade that has ended at a sink, for blocks that the egress still forms. -/
  past : NMap Fade := []
  /-- Held router entry, plus one, by sink number (R332). -/
  held : NMap Nat := []
  /-- Sinks whose router entry a commit of this boundary has written, in order (R333). -/
  due : List Nat := []
  dmoves : NMap GainMove := []
  /-- Last TDM input word in the internal format, by source number (R307). -/
  words : NMap Int := []
  /-- Last word delivered on the direct path, in the internal format, by sink number (R308, R310). -/
  direct : NMap Int := []
  /-- Direct words of network transmit channels, newest first, by sink number (R310). -/
  netWords : NMap (List Int) := []
  /-- Ramps to zero of sinks fed by a processed path while the engine is in Idle (R50): last sample and the position of the
  first ramped one, by sink number. -/
  ramps : NMap (Int × Nat) := []
  /-- Blocks that the egress blocks have formed for wire sinks, by 4 × sink number + block mod 4 (R294, R331). -/
  outs : NMap SrcBlk := []
  /-- Detectors, by 4,096 × kind + number; kind 0 channel, 1 bus, 2 feed. -/
  dets : NMap Det := []
  /-- Detector configurations as in effect (R328), plus one, by the same key. -/
  detCfg : NMap Nat := []
  /-- Units that tasks process, from the graph (R321). -/
  serves : List GServe := []
  /-- Placement of parameters, from the graph (R356). -/
  places : List GPlace := []
  /-- Parameters that graph kernels declare (R614). -/
  params : List GParam := []
  /-- Tasks that read the factor table (R345). -/
  readers : List Nat := []
  /-- Deepest gain reduction of the last block by feed, in 0.01 dB (R306). -/
  reduction : NMap Nat := []
deriving DecidableEq, Repr

/-! ### Parameters, scenes, Vat and Press (spec 10) -/

/-- A gain word (R298, R342): CUR in Q2.30 and TGT in Q2.22 as signed values, and TAG. -/
structure GainWord where
  cur : Int := 0
  tgt : Int := 0
  tag : Nat := 0
deriving DecidableEq, Repr

/-- A glide tag in use (R343 to R345): law, length K in blocks and the block of the glide, 1 to K, that its factor is for. -/
structure Tag where
  law : Nat
  len : Nat
  k : Nat
deriving DecidableEq, Repr

/-- A glide that waits for a tag (R346): object key, target, law and length. -/
structure WaitGlide where
  key : Nat
  tgt : Int
  law : Nat
  len : Nat
deriving DecidableEq, Repr

/-- A change of one parameter on its way to a boundary: object key, stored value, TIME and LAW (R337). -/
structure Change where
  key : Nat
  val : PVal
  time : Nat
  law : Nat
deriving DecidableEq, Repr

/-- One filter stage (R348 to R350): first sample and length of its crossfade, whether it still runs, and the changes held. -/
structure Stage where
  start : Nat := 0
  len : Nat := 0
  running : Bool := false
  held : List Change := []
deriving DecidableEq, Repr

/-- One delay (R351 to R353): the position reached and the target in 1/64 sample, the first sample and length of a
crossfade (length 0: none), whether it slews, and the change held. -/
structure DelayMove where
  frm : Int := 0
  to' : Int := 0
  start : Nat := 0
  len : Nat := 0
  slew : Bool := false
  held : Option Change := none
deriving DecidableEq, Repr

/-- One Vat entry (R354), keyed by its object key. -/
structure VatEnt where
  val : PVal
  time : Nat
  law : Nat
  session : Nat
deriving DecidableEq, Repr

/-- A pending Press (R358 to R363): KIND of R375, expected digest, INSTANT when timed, its target block, whether it is
prepared, and whether it will report LATE. -/
structure PressReq where
  kind : Nat
  digest : Nat
  instant : Option Int
  target : Nat
  prepared : Bool
  late : Bool
  /-- Entries of a startup Press or a Press of R51, which do not come from the Vat. -/
  entries : List Change
  /-- Both units have reported preparation, and the stamped block in a pair (R372). -/
  partnerReady : Bool
  stamped : Option Nat
deriving DecidableEq, Repr

/-- Parameters, Vat and Press. -/
structure Scene where
  /-- Gain words by object key (R342). -/
  gains : NMap GainWord := []
  tags : NMap Tag := []
  waits : List WaitGlide := []
  /-- Filter stages by object key of the strip with the stage as sub-index. -/
  stages : NMap Stage := []
  /-- Delays by object key. -/
  delays : NMap DelayMove := []
  vat : NMap VatEnt := []
  press : Option PressReq := none
  /-- The startup Press or the Press of R51, which leaves the Vat alone. -/
  auto' : Option PressReq := none
  /-- WRITEs of STG objects that wait for the next boundary, in arrival order (R338). -/
  writes : List Change := []
  /-- Committed-scene counter (R367). -/
  counter : Nat := 0
  /-- Last Press record: BLOCK, MEDIA, SCENE, ENTRIES, STATUS, KIND (R375). -/
  lastBlock : Nat := 0
  lastMedia : Int := 0
  lastScene : Nat := 0
  lastEntries : Nat := 0
  lastStatus : Nat := 0
  lastKind : Nat := 0
deriving DecidableEq, Repr


/-! ### Memories (spec 11) -/

/-- A bank handover under way: bank, new owner, counter value at step 1 (R394). -/
structure Handover where
  bank : Nat
  newOwner : Nat
  at' : Nat
deriving DecidableEq, Repr

/-- Memory state beside the CIS and DCIS registers and the bytes of `State.mem`. -/
structure Mem where
  /-- Word addresses whose check bits read as uncorrectable until written in full (R382, R396). -/
  bad : NMap Bool := []
  /-- Corrected words that wait for their write-back (R381, R396). -/
  writeBack : List Nat := []
  handovers : List Handover := []
  /-- Counter value of the last access to a bank, by logical bank (R400). -/
  lastAccess : NMap Nat := []
  /-- Counter value of the last event 88, by memory (R381, R396). -/
  lastCorr : NMap Nat := []
  /-- Stream moves not yet done: stream and the block whose move it is (R407). -/
  moves : List (Nat × Nat) := []
deriving DecidableEq, Repr

/-! ### Bus matrix (spec 12) -/

/-- A request to the matrix (R419). BE holds 8 bits per beat, beat 0 lowest; `data` one 64-bit word per beat. -/
structure FabBurst where
  master : Nat
  tag : Nat
  addr : Nat
  write : Bool
  len : Nat
  be : List Nat
  data : List Nat
  lock : Bool
  target : Nat
  /-- Counter value at which it reached its target. -/
  at' : Nat := 0
deriving DecidableEq, Repr

/-- The answer to a request (R421): code per request, NOTDONE mask, and read data by beat. -/
structure FabResp where
  master : Nat
  tag : Nat
  code : Nat
  notDone : Nat
  data : List Nat
deriving DecidableEq, Repr

/-- An open locked sequence: holder, beats so far, counter value at the end of its last request (R432). -/
structure FabLock where
  master : Nat
  beats : Nat
  at' : Nat
deriving DecidableEq, Repr

/-- State of the matrix beside the FAB registers. -/
structure Fab where
  /-- Requests that wait at their targets, in order of arrival. -/
  queue : List FabBurst := []
  /-- Responses returned, newest first; the last one per master. -/
  resp : NMap FabResp := []
  locks : NMap FabLock := []
  /-- Master last granted per class at a target: key 2 t for class A, 2 t + 1 for class B. -/
  last : NMap Nat := []
  /-- Grants to class A at a target while a class B request waits (R428). -/
  run : NMap Nat := []
  /-- Holders of locks that have timed out, whose next request is refused (R433). -/
  dead : List Nat := []
  /-- Counter value + 1 of the last grant at a target. -/
  grantAt : NMap Nat := []
  /-- Counter value + 1 of the last event 93 per master (R444). -/
  lastErr : NMap Nat := []
deriving DecidableEq, Repr
/-! ### TDM ports (spec 13) -/

/-- One TDM port beside its registers (R445 to R470). -/
structure TdmPort where
  /-- The mask in force while a staged one waits for the next frame (R461); `none`: the register's value is in force. -/
  actIn : Option Nat := none
  actOut : Option Nat := none
  /-- TRIG of the start that waits, and the block at which TRIG = 0x1 fires (R465). -/
  trig : Nat := 0
  at' : Nat := 0
  /-- Lead-in or lead-out frames that have begun (R466, R467). -/
  frames : Nat := 0
  /-- A stop takes effect at the next boundary (R467). -/
  stop : Bool := false
  /-- Root count of the last FSYNC edge, M of the last frame, and matching complete frames in a search (R453). -/
  edge : Option Nat := none
  m : Nat := 0
  good : Nat := 0
  /-- Assigned sample of the present frame, and PHASE0 (R455). -/
  asg : Nat := 0
  phase0 : Int := 0
  /-- An FSYNC edge of a locked slave has begun a frame: 1 as it stands, 2 after a sample without a frame, 3 discarded. -/
  due : Nat := 0
  /-- Compacted frames received in this collection period, newest first (R459). -/
  rx : List (List Int) := []
  /-- Words of the frame received last, by slot, for a slip (R455). -/
  last : NMap Int := []
  /-- Words on SDO in the frame under way, by slot, in the wire format, and the counter value at its start (R450). -/
  tx : NMap Int := []
  frameAt : Nat := 0
deriving DecidableEq, Repr

/-! ### Network (spec 14) -/

/-- A learned MAC address (R478): plane, address, port and counter value when last seen. -/
structure MacEnt where
  plane : Nat
  mac : Nat
  port : Nat
  seen : Nat
deriving DecidableEq, Repr

/-- A multicast group snooped on a plane (R480): ports that reported it, bit p for port p. -/
structure GroupEnt where
  plane : Nat
  group : Nat
  ports : Nat
deriving DecidableEq, Repr

/-- Egress queues of one port (R481): frame lengths in Q0 to Q3, head first, bytes of line time left over, and the
counter value when last served. -/
structure SwPort where
  q0 : List Nat := []
  q1 : List Nat := []
  q2 : List Nat := []
  q3 : List Nat := []
  spare : Nat := 0
  at' : Nat := 0
  /-- Counter value + 1 of the last event 48. -/
  dropAt : Nat := 0
deriving DecidableEq, Repr

/-- A receive stream beside its descriptor and status (R486 to R491). -/
structure RxStream where
  /-- Enable or disable that waits for the next boundary (R497), and the fade-out after a disable. -/
  want : Option Bool := none
  fading : Bool := false
  /-- Filled positions: channel × 2⁶⁴ + media count. -/
  buf : NMap Int := []
  /-- First media count still to be read; `none` before the first block. -/
  read : Option Int := none
  /-- Concealment count, and last filled sample, by channel; whether any position was ever filled. -/
  conc : NMap Nat := []
  hold : NMap Int := []
  begun : Bool := false
  /-- A missing run is in progress. -/
  missing : Bool := false
  /-- Sample index + 1 of the last valid packet on planes A and B, and counter value + 1 of the last event 42. -/
  lastA : Nat := 0
  lastB : Nat := 0
  concAt : Nat := 0
  /-- Rate, and grandmaster with domain, that the last SDP named (R499, R501). -/
  sdpRate : Option Nat := none
  sdpRef : Option (Nat × Nat) := none
deriving DecidableEq, Repr

/-- A transmit stream beside its descriptor and status (R492 to R498). -/
structure TxStream where
  want : Option Bool := none
  /-- S0 of the next packet, and the boundary sample at which it stops. -/
  next : Nat := 0
  stopAt : Option Nat := none
  /-- Samples formed for its channels and not yet sent, by sample index (R492). -/
  buf : NMap (List Int) := []
  /-- A run of blocks not posted is in progress (R494). -/
  under : Bool := false
  /-- Counter value + 1 of the last SAP announcement (R503). -/
  sapAt : Nat := 0
deriving DecidableEq, Repr

/-- A transmit packet as handed to port E (R492, R493): plane, addresses, ports, header fields and payload. -/
structure TxPkt where
  stream : Nat
  plane : Nat
  src : Nat
  dst : Nat
  port : Nat
  ttl : Nat
  dscp : Nat
  seq : Nat
  stamp : Nat
  ssrc : Nat
  pt : Nat
  payload : List Byte
deriving DecidableEq, Repr

/-- An SDP heard by SAP (R503): source and message hash, text, counter value when last heard, and the interval seen. -/
structure SapEnt where
  src : Nat
  hash : Nat
  text : List Byte
  heard : Nat
  interval : Nat
deriving DecidableEq, Repr

/-- Network state beside the NET and STRM registers. -/
structure Net where
  macs : List MacEnt := []
  groups : List GroupEnt := []
  /-- Ports on which an IGMP query was heard, and on which only IGMPv2 queries were, by plane (R480). -/
  queriers : NMap Nat := []
  igmpV3 : NMap Bool := []
  ports : NMap SwPort := []
  /-- Ports to which the last frame was forwarded, and its queue: bit p for port p, bit 4 for E. -/
  fwd : Nat × Nat := (0, 0)
  /-- Address in use, by plane (R477). -/
  addr : NMap Nat := []
  rx : NMap RxStream := []
  tx : NMap TxStream := []
  /-- Copies of the packet that closed last (R493). -/
  out : List TxPkt := []
  sap : List SapEnt := []
  /-- SAP announcements and deletions sent last: stream, deletion flag and SDP. -/
  sapOut : List (Nat × Bool × List Byte) := []
  /-- TXT record announced last by mDNS (R502). -/
  mdns : List Byte := []
  /-- IGMP reports due: plane, group, source filter, version. -/
  reports : List (Nat × Nat × Nat × Nat) := []
deriving DecidableEq, Repr

/-! ### Wellhead (spec 15) -/

/-- One Wellhead channel beside its registers (R510 to R529). -/
structure WellCh where
  /-- Output queue, head first, at most 16 codes (R513). -/
  queue : List Int := []
  /-- g, h and e of R514. -/
  g : Nat := 0
  h : Int := 0
  e : Nat := 0
  /-- State of R518 other than RELEASED. -/
  st : Nat := 0
  /-- EN has been cleared, or WELL_OFF acts: the channel ramps down (R518, R324). -/
  stop : Bool := false
  sleep : Bool := false
  /-- MODE, RANGE and FEED in force while a change is in progress (R519), where it leads, and the change held (R529). -/
  act : Option (Nat × Nat × Nat) := none
  goal : Nat × Nat × Nat := (0, 0, 0)
  held : Option (Nat × Nat × Nat) := none
  /-- Phase of a change: 0 none, 1 ramping down, 2 ramping up; and its ramp, counted down. -/
  phase : Nat := 0
  ramp : Nat := 0
  /-- The block under way was not posted by its first tick (R512). -/
  skip : Bool := false
  /-- Last sample of the safe route, and the start and length of the crossfade from or to it (R521, R58). -/
  safe : Int := 0
  fadeAt : Nat := 0
  fadeLen : Nat := 0
  /-- The crossfade runs towards the safe route (R58); its old codes are held at `from'`. -/
  toSafe : Bool := false
  from' : Int := 0
  /-- SAFE_ACTIVE was set by fallback, and blocks posted on time since (R522). -/
  fallback : Bool := false
  onTime : Nat := 0
  /-- Output of the last tick, in the DAC's code width (R514). -/
  out : Int := 0
  /-- Counter value + 1 of the last events 104 and 107. -/
  ufAt : Nat := 0
  ovAt : Nat := 0
deriving DecidableEq, Repr

/-- One sine generator beside its registers (R524 to R527). -/
structure Gen where
  /-- Phase accumulator P. -/
  p : Nat := 0
  /-- Sample of the step in progress, its length (`none` until the gate falls) and its FREQ. -/
  k : Nat := 0
  len : Option Nat := none
  freq : Nat := 0
  /-- Sample of the step at which the fall of the gate was taken; the step is the last (R526, R527). -/
  rel : Option Nat := none
  /-- AMP_CUR at the end of the previous block and of this one (R525). -/
  ampPrev : Int := 0
  ampNew : Int := 0
  /-- Gate level, and a rise or fall that has not been acted on (R527). -/
  gate : Bool := false
  edge : Bool := false
  /-- Last output sample. -/
  out : Int := 0
  /-- Steps written since the Power-on Reset, bit k for step k (R528). -/
  written : Nat := 0
deriving DecidableEq, Repr

/-- The Wellhead. -/
structure Well where
  chs : NMap WellCh := []
  gens : NMap Gen := []
  /-- WELL_CHIME as sampled, for how many ticks it has differed from the level taken, and the level taken (R527). -/
  ball : Bool := false
  ballRun : Nat := 0
  level : Bool := false
deriving DecidableEq, Repr

/-! ### Pairing (spec 16) -/

/-- A piece of an ingress slot that a Syncing unit keeps for its replay (R563): block, edge site and edge, whether the slot
was dropped, word offset and words. -/
structure Stored where
  blk : Nat
  site : Nat
  edge : Nat
  dropped : Bool
  off : Nat
  words : List Nat
deriving DecidableEq, Repr

/-- A state copy in progress (R563 to R565). -/
structure Copy where
  /-- Capture boundary K and the counter value at it. -/
  k : Nat := 0
  at' : Nat := 0
  /-- The image at K, as the Active unit's copy-on-write log keeps it. -/
  image : List Host.Cell := []
  /-- Joining unit: epoch being received, with byte offset and bytes of each piece, and how often it has failed. -/
  epoch : Nat := 0
  pieces : List (Nat × List Byte) := []
  fails : Nat := 0
  /-- Bytes of the image committed so far. -/
  done : Nat := 0
  /-- The last epoch has committed; next block to replay, and replayed blocks' digests. -/
  replay : Option Nat := none
  /-- Joining unit: K is known. -/
  begun : Bool := false
  /-- Ingress and own TDM input blocks from K, oldest first. -/
  stored : List Stored := []
deriving DecidableEq, Repr

/-- Pairing state beside the SIPH registers. -/
structure Pair where
  /-- Inputs that wait for their boundary, in RSEQ order (R558, R668 step 3). -/
  inputs : List LedgerRec := []
  /-- RSEQ of the next record sent, and of the next expected from the partner (R555). -/
  rseq : Nat := 0
  rxRseq : Nat := 0
  /-- Level of HB_TX, counter value at its last toggle, and whether the generator runs (R534). -/
  hbTx : Bool := false
  hbAt : Nat := 0
  hbRun : Bool := false
  /-- Counter value + 1 of the last HB_RX edge and of the last valid Siphon frame (R538). -/
  hbRx : Nat := 0
  frameAt : Nat := 0
  /-- GONE has been received and acted on (R538). -/
  gone : Bool := false
  /-- The partner as last seen: role (15 none), whether it holds CLAIM, and node number. -/
  partner : Nat := 15
  partnerClaim : Bool := false
  node : Nat := 0xFFFFFFFF
  /-- Counter value at the entry into the present role (R542). -/
  roleAt : Nat := 0
  /-- CONTEST_TMO has passed; the witness has been asked; its answer: 0 ALIVE, 1 DEAD, 2 UNKNOWN, 15 none (R547, R548). -/
  tmo : Bool := false
  asked : Bool := false
  askedAt : Nat := 0
  witness : Nat := 15
  /-- A probe that this unit runs as a witness: node and counter value, and its last reply. -/
  probe : Option (Nat × Nat) := none
  reply : Nat := 15
  /-- CLAIM is released at the next boundary (R540). -/
  dropClaim : Bool := false
  /-- Next SEQ sent and next SEQ expected; frames that arrived out of order, at most 64 (R552). -/
  txSeq : Nat := 0
  rxSeq : Nat := 0
  early : List (FrameHdr × FrameBody) := []
  /-- Counter value + 1 at which a SEQ gap was found, and at which the last frame left. -/
  gapAt : Nat := 0
  txAt : Nat := 0
  /-- Frames sent that no ACK has covered, oldest first (R552), and frames the last command sent or resent. -/
  replay : List (Nat × FrameBody) := []
  /-- Lanes retired or in retraining, with the counter value at which retraining began, plus one (R569). -/
  trainAt : NMap Nat := []
  /-- Highest SEQ that the partner has acknowledged, plus one (R550). -/
  acked : Nat := 0
  /-- Ledger frames sent: SEQ and highest RSEQ of each (R557). -/
  ledgerSeq : List (Nat × Nat) := []
  /-- Own and partner's digests by block: output and TDM input (R559). -/
  mine : NMap (Nat × Nat) := []
  theirs : NMap (Nat × Nat) := []
  /-- Consecutive blocks with GRID_ERR beyond ±256, and counter value at which it last left ±64 (R560, R564). -/
  gridBad : Nat := 0
  gridAt : Nat := 0
  /-- Block from which the partner's plane B ends, or this unit's (R561). -/
  release : Option Nat := none
  /-- Planned handover boundary (R546). -/
  handover : Option Nat := none
  /-- State copy. -/
  copy : Option Copy := none
  /-- Counter value at which this unit became Diverged (R540). -/
  divAt : Nat := 0
  /-- A HELLO has been sent and not answered. -/
  helloOut : Bool := false
  /-- First block whose packets this unit sends on planes A and B after it has taken the outputs (R543, R547). -/
  fromA : Nat := 0
  fromB : Nat := 0
  /-- Block index at the entry into the present role. -/
  roleBlk : Nat := 0
  /-- The next frame is taken whatever its SEQ, and the next ledger record whatever its RSEQ (log entry 38). -/
  anySeq : Bool := true
  anyRseq : Bool := true
  /-- RSEQ up to which the partner has acknowledged the ledger, plus one (R557). -/
  ackRseq : Nat := 0
  /-- Block index of the partner's last MARKER. -/
  partnerBlk : Nat := 0
  /-- Node that the last witness query named (R548). -/
  query : Option Nat := none
  /-- Prepared Press counter reported by the partner, plus one (R372). -/
  prep : Nat := 0
  /-- Block up to which Siphon ingress has arrived whole, plus one (R553). -/
  ingressTo : Nat := 0
deriving DecidableEq, Repr


/-! ### Health, spares and Sounding (spec 17) -/

/-- One counted error: resource kind and site (R578 numbering) and the counter value at which it was counted (R571). -/
structure ErrRec where
  kind : Nat
  site : Nat
  at' : Nat
deriving DecidableEq, Repr

/-- A copy to a spare: the old and the new site and whether the copy has ended (R398, R576). -/
structure SpareCopy where
  old : Nat
  new : Nat
  ready : Bool := false
deriving DecidableEq, Repr

/-- A row that Brine has borrowed: its memory (R586) and row address, with the shadow's bytes. -/
structure Borrow where
  memId : Nat
  addr : Nat
  saved : List Byte
deriving DecidableEq, Repr

/-- Confirmation of a shadow mismatch (R591): sites a and b, runs left on each, mismatches seen. -/
structure Confirm where
  a : Nat
  b : Nat
  leftA : Nat := 2
  leftB : Nat := 2
  misA : Nat := 0
  misB : Nat := 0
deriving DecidableEq, Repr

/-- One used result of a Sounding frame (R597): Y and the square of |C_V| over 2⁻³² and G, as kept for the means. -/
structure SoundVal where
  yRe : Int
  yIm : Int
  v : Nat
  vRe : Int
  vIm : Int
  g : Nat
deriving DecidableEq, Repr

/-- One speaker line of Sounding (R597 to R601); its configuration and baseline are objects 0x9100.01 and 0x9100.02. -/
structure SoundLine where
  /-- Values of the last frames, newest first, at most AVG. -/
  vals : List SoundVal := []
  state : Nat := 0
  /-- Last state whose condition held, and for how many results in a row. -/
  cond : Nat := 0
  run : Nat := 0
  /-- Latest d (0.01 dB), φ (0.01°), G (0.01 dB) and frame. -/
  d : Int := 0
  phi : Int := 0
  g : Int := 0
  frame : Nat := 0
  /-- Learning of a baseline: values so far, newest first. -/
  learn : Option (List SoundVal) := none
  /-- Smallest and largest d, largest |φ| and fault reports since the last nightly summary; `seen` once there is a d. -/
  seen : Bool := false
  dMin : Int := 0
  dMax : Int := 0
  phiMax : Nat := 0
  faults : Nat := 0
  /-- The pilot is at PILOT_SIL, and the sample index of the last change of its level, plus one (R596, R597). -/
  loud : Bool := false
  chgAt : Nat := 0
deriving DecidableEq, Repr

/-- State of the health unit beside the HLTH registers. -/
structure Hlth where
  errs : List ErrRec := []
  /-- Permanent resources whose mapping is due (R573, R574). -/
  due : List Retired := []
  /-- Resources retired and, where a spare was left, mapped out. -/
  retired : List Retired := []
  /-- Spare row in use for a retired row: bank site × 66,560 + row to 65,536 + 8 g + i (R397, R578). -/
  rowMap : NMap Nat := []
  /-- Rows copied to a spare row and due at the next boundary: row site and spare row. -/
  rowCopied : List (Nat × Nat) := []
  bankCopy : List SpareCopy := []
  cluCopy : List SpareCopy := []
  /-- Spare site that takes the posts of a retired cluster site, plus one (R570). -/
  redirect : NMap Nat := []
  /-- The retirement record waits to be written (R578). -/
  recDue : Bool := false
  borrows : List Borrow := []
  /-- Counter value at which a memory's last borrow ended (R586). -/
  borrowEnd : NMap Nat := []
  /-- Spare site under test: true = cluster, false = bank (R585). -/
  spareTest : Option (Bool × Nat) := none
  /-- Block + 1 of the last shadow run, by cluster site (R589). -/
  lastShadow : NMap Nat := []
  confirm : NMap Confirm := []
  /-- Stores that a shadowed lane made in a run that has completed, by cluster site (R589). -/
  acLog : NMap (List StoreW) := []
  /-- Rows that Brine has scrubbed in the pass in progress (R584). -/
  passRow : Nat := 0
  /-- Last value of each monitor, in table order (R593, R603). -/
  mon : NMap Int := []
  monWarn : NMap Bool := []
  /-- First stored ageing value of each oscillator, plus one (R593). -/
  ageRef : NMap Nat := []
  lines : NMap SoundLine := []
  /-- Last nightly summary (R601). -/
  nightly : List Byte := []
deriving DecidableEq, Repr
/-! ### Object dictionary, POP, SPI and I²C (spec 18) -/

/-- A subscription (R623). -/
structure Sub where
  handle : Nat
  /-- KIND 0: object key; KIND 1: first and last event and lowest priority. -/
  kind : Nat
  key : Nat
  isArr : Bool
  minMs : Nat
  firstEv : Nat
  lastEv : Nat
  minPrio : Nat
  /-- Last value sent, the counter value + 1 when it was sent, and a value that waits for MIN_MS. -/
  last : List Byte
  sent : Nat
deriving DecidableEq, Repr

/-- One remembered request (R630): number, counter value at its receipt, and the response (`none` while it runs). -/
structure ReqMem where
  req : Nat
  at' : Nat
  resp : Option (List Byte)
deriving DecidableEq, Repr

/-- A sub-request of an atomic batch: 3 = STAGE or 2 = WRITE, and its body (R624). -/
structure SubReq where
  sty : Nat
  body : List Byte
deriving DecidableEq, Repr

/-- The atomic batch of a session (R624). -/
structure Batch where
  id : Nat
  next : Nat
  at' : Nat
  subs : List SubReq
deriving DecidableEq, Repr

/-- A session (R626 to R628). -/
structure Session where
  num : Nat
  spi : Bool := false
  role : Nat := 0
  addr : Nat := 0
  port : Nat := 0
  key : List Byte := []
  opened : Nat := 0
  lastMsg : Nat := 0
  badMac : Nat := 0
  subs : List Sub := []
  mem : List ReqMem := []
  batch : Option Batch := none
  nseq : Nat := 0
  /-- NOTIFY messages that wait, oldest first, at most 64; items as handle and bytes. -/
  notify : List (Nat × List Byte) := []
  lost : Bool := false
  /-- NOTIFY messages dropped since the last event 13, and the counter value + 1 of that event (0: none). -/
  drops : Nat := 0
  lostAt : Nat := 0
  resync : Bool := false
deriving DecidableEq, Repr

/-- A handshake in progress (R626). -/
structure Handshake where
  session : Nat
  addr : Nat
  port : Nat
  role : Nat
  node : Nat
  nonceC : List Byte
  nonceE : List Byte
  at' : Nat
deriving DecidableEq, Repr

/-- A message that the engine sends: where to and its bytes. -/
structure PopOut where
  dst : PopFrom
  msg : List Byte
deriving DecidableEq, Repr

/-- A response that waits for a boundary or an ACK (R632): block at which it may be sent, RSEQ that the partner must
acknowledge first, plus one (0 = none), session, request and message. -/
structure PopWait where
  blk : Nat
  rseq : Nat
  dst : PopFrom
  session : Nat
  req : Nat
  msg : List Byte
deriving DecidableEq, Repr

/-- An atomic batch whose last part has arrived: session, last request, where the answer goes, and every sub-request. -/
structure PopJob where
  session : Nat
  req : Nat
  dst : PopFrom
  subs : List SubReq
deriving DecidableEq, Repr

/-- Failed PROOFs of one source address (R629): counter values, and the counter value until which OPEN is ignored. -/
structure AuthFail where
  times : List Nat := []
  blocked : Nat := 0
deriving DecidableEq, Repr

/-- A roster entry (R638): node, kind, flags, last heard (counter value), addresses and consistency record. -/
structure Peer where
  node : Nat
  kind : Nat
  flags : Nat
  heard : Nat
  addrA : Nat
  addrB : Nat
  record : List Byte
deriving DecidableEq, Repr

/-- POP, SPI, I²C and roster state. -/
structure Pop where
  sessions : List Session := []
  shakes : List Handshake := []
  /-- Next session number's low half, and the high half drawn at the Power-on Reset (R628). -/
  nextLow : Nat := 1
  high : Nat := 0
  /-- Messages sent on the network, oldest first, and messages queued for the SPI port (R635). -/
  sent : List PopOut := []
  spiOut : List (List Byte) := []
  spiIn : List (List Byte) := []
  /-- SENDs discarded for want of space, each to be answered with BUSY (R635): their headers. -/
  spiBusy : List (List Byte) := []
  waits : List PopWait := []
  /-- Atomic batches complete and checked at the next boundary (R624). -/
  jobs : List PopJob := []
  /-- EXEC of object 0x8030.01 whose probe runs: session, request and where the answer goes (R548). -/
  witness : Option (Nat × Nat × PopFrom) := none
  /-- STATUS, DETAIL and result byte of the last EXEC that its defining chapter answered (R622). -/
  reply : Nat × Nat × Nat := (0, 0, 0)
  fails : NMap AuthFail := []
  /-- Counter value + 1 of the last event 10 (R629). -/
  lastAuth : Nat := 0
  roster : List Peer := []
  /-- Bytes that the last I²C read returned, PEC included (R637). -/
  lastI2c : List Byte := []
  /-- NACK of the last I²C transaction. -/
  i2cNack : Bool := false
  /-- Last byte or message returned on the SPI port. -/
  spiReply : List Byte := []
  /-- Committed objects and register fields as the last boundary left them: what object 0x0001.10 covers (R615). -/
  digObjs : NMap PVal := []
  digRegs : NMap Nat := []
  digMem : List Host.Cell := []
deriving DecidableEq, Repr


/-! ### The whole machine -/

/-- The state of the engine. -/
structure State where
  /-- Register and descriptor fields that differ from their reset value, by `Fd.key`. -/
  regs : NMap Nat := []
  /-- Bytes that differ from zero, by physical fabric address: X, Y and program memories, Cistern, Deep Cistern, working
  RAM (R676, R678). -/
  mem : List Host.Cell := []
  sys : Sys := {}
  flash : Flash := {}
  clk : Clk := {}
  ref : Ref := {}
  tim : Tim := {}
  pump : Pump := {}
  memu : Mem := {}
  fab : Fab := {}
  pair : Pair := {}
  route : Route := {}
  scene : Scene := {}
  pop : Pop := {}
  /-- Objects that mirror no register and differ from their default, by object key (R609). -/
  objs : NMap PVal := []
  tdm : NMap TdmPort := []
  net : Net := {}
  well : Well := {}
  hlth : Hlth := {}
  evt : Evt := {}
  /-- How many free values the engine has produced: the model's own field, not the spec's (log entry 3). -/
  free : Nat := 0
  /-- Commands that wait, first in, first out. -/
  pending : List Instr := []
deriving DecidableEq, Repr

/-- The engine held in Power-on Reset at first power-up: every unit at its reset value, SYS_RESET_CAUSE with
POR_STANDBY and POR_PWR_GOOD (R62). -/
def State.reset : State :=
  { regs := [(fSYS_RESET_CAUSE_POR_STANDBY.key 0 0, 1), (fSYS_RESET_CAUSE_POR_PWR_GOOD.key 0 0, 1)] }

end Sys2Proof.Machine
end

