-- ==== Sys2Proof/Machine/Ops.lean ====
section
/-! DEFINITION. The named operations over registers, time and events that every meaning uses: reading and writing a
register field, saturating counters, free values, the counter and the timescales, and raising an event. -/

namespace Sys2Proof.Machine

open Sys2Proof

/-! ### Register fields -/

/-- The value of field `f` at indices `i`, `j`. -/
def State.fld (s : State) (f : Fd) (i : Nat := 0) (j : Nat := 0) : Nat := nget (f.resetAt i) s.regs (f.key i j)

/-- The field is not zero. -/
def State.flag (s : State) (f : Fd) (i : Nat := 0) (j : Nat := 0) : Bool := s.fld f i j != 0

/-- Field `f` written with the low bits of `v`. -/
def State.put (s : State) (f : Fd) (v : Nat) (i : Nat := 0) (j : Nat := 0) : State :=
  { s with regs := nset (f.resetAt i) s.regs (f.key i j) (v % 2 ^ f.width) }

/-- A two's-complement field as an integer. -/
def State.fldI (s : State) (f : Fd) (i : Nat := 0) (j : Nat := 0) : Int := sx f.width (s.fld f i j)

/-- A two's-complement field written with saturation. -/
def State.putI (s : State) (f : Fd) (v : Int) (i : Nat := 0) (j : Nat := 0) : State :=
  s.put f (satBits f.width v) i j

/-- Counter field `f` raised by `n`, saturating at its largest value. -/
def State.addSat (s : State) (f : Fd) (n : Nat) (i : Nat := 0) (j : Nat := 0) : State :=
  s.put f (min (s.fld f i j + n) (2 ^ f.width - 1)) i j

/-- Counter field `f` raised by one, saturating. -/
def State.incSat (s : State) (f : Fd) (i : Nat := 0) (j : Nat := 0) : State := s.addSat f 1 i j

/-- Counter field `f` raised by `n`, wrapping. -/
def State.addWrap (s : State) (f : Fd) (n : Nat) (i : Nat := 0) (j : Nat := 0) : State :=
  s.put f (s.fld f i j + n) i j

/-- The whole word of register `r`, composed of its fields; reserved bits read zero (R12). -/
def State.word (s : State) (r : Reg) (i : Nat := 0) (j : Nat := 0) : Nat :=
  r.layout.foldl (fun w f => w + s.fld f i j * 2 ^ f.lo) 0

/-- Every field of register `r` set from the word `w`, whatever its access code. -/
def State.setWord (s : State) (r : Reg) (w : Nat) (i : Nat := 0) (j : Nat := 0) : State :=
  r.layout.foldl (fun s f => s.put f (f.of w) i j) s

/-- The fields whose key satisfies `p` returned to their reset values. -/
def State.resetFields (s : State) (p : Nat → Bool) : State := { s with regs := nkeep (fun k => !p k) s.regs }

/-- Fabric address of register `r` of indices `i`, `j` (R686). -/
def regAddr (r : Reg) (i : Nat) (j : Nat := 0) : Nat :=
  match regWins.find? (fun w => w.reg = r && decide (w.i0 ≤ i) && decide (i < w.i0 + w.ci)) with
  | some w => w.addr i j
  | none => 0

/-! ### Free values -/

/-- The next free value of width `w`, and the state with the free-value counter advanced (log entry 3). -/
def State.takeFree (s : State) (w : Nat) : BitVec w × State :=
  (Config.freeValue w s.free, { s with free := s.free + 1 })

/-- `a / b` where the rounding is left open: exact when `b` divides `a`, otherwise one of the two neighbours, by free
value number `n` (log entry 3). -/
def openDiv (n : Nat) (a b : Int) : Int :=
  if a % b = 0 then a / b else a / b + ((Config.freeValue 1 n).toNat : Int)

/-! ### Time -/

/-- The rate family in force: 0 = 48 kHz, 1 = 44.1 kHz (R30). -/
def State.family (s : State) : Nat := s.fld fREF_RPLL_STATUS_FAMILY

/-- Core cycles per sample, N of R140. -/
def State.perSample (s : State) : Nat :=
  if s.sys.rateClass = 0 then 25600 else if s.sys.rateClass = 1 then 12800 else 6400

/-- The sample rate in Hz (R31). -/
def State.fs (s : State) : Nat := (if s.family = 0 then 48000 else 44100) * 2 ^ s.sys.rateClass

/-- Root cycles per second of the family (R81). -/
def State.rootPerSec (s : State) : Nat := if s.family = 0 then 2457600000 else 2257920000

/-- Core cycles per second of the family (R82). -/
def State.corePerSec (s : State) : Nat := s.rootPerSec / 2

/-- Core cycles of `ms` milliseconds. -/
def State.msCycles (s : State) (ms : Nat) : Nat := ms * s.corePerSec / 1000

/-- Root count of the present core cycle (R148). -/
def State.root (s : State) : Nat := 2 * s.tim.cnt

/-- Samples since the sample count started (R140). -/
def State.sampleIdx (s : State) : Nat := (s.tim.cnt - s.tim.cSamp) / s.perSample

/-- The block index in force. -/
def State.blkIndex (s : State) : Nat := s.tim.blkIdx.getD 0

/-- C × P of R141 in 2⁻¹⁶ ns, by exact integer division. -/
def State.cp (s : State) (c : Int) : Int := c * (s.tim.pNum : Int) * 65536 / (s.tim.pDen : Int)

/-- The time since counter value 0 at rate RATE_FF + RATE_SV, halved while the scale runs at half rate. -/
def State.elapsed (s : State) (x : Scale) (c : Int) : Int :=
  let t := s.cp c
  let u := t + t * (x.rateFF + x.rateSV) / 2 ^ 48
  if x.half then u / 2 else u

/-- T_x at counter value `c` in 2⁻¹⁶ ns (R141). -/
def State.timeAt (s : State) (x : Scale) (c : Int) : Int := x.ofs + s.elapsed x c

/-- T_x at a root count (R148). -/
def State.timeAtRoot (s : State) (x : Scale) (rc : Int) : Int :=
  x.ofs + (let t := rc * (s.tim.pNum : Int) * 65536 / (2 * (s.tim.pDen : Int))
           let u := t + t * (x.rateFF + x.rateSV) / 2 ^ 48
           if x.half then u / 2 else u)

/-- T_x now. -/
def State.now (s : State) (x : Scale) : Int := s.timeAt x s.tim.cnt

/-- The scale `y` with its offset moved so that it reads what `x` reads now (R142). -/
def State.rebase (s : State) (x y : Scale) : Scale := { y with ofs := s.timeAt x s.tim.cnt - s.elapsed y s.tim.cnt }

/-- A domain of the time unit. -/
def State.dom (s : State) (d : Nat) : Dom := nget {} s.tim.doms d

/-- A domain replaced. -/
def State.setDom (s : State) (d : Nat) (x : Dom) : State :=
  { s with tim := { s.tim with doms := nset {} s.tim.doms d x } }

/-- A time in 2⁻¹⁶ ns as a TIME96 word: SECONDS in bits 95:32, NANOSECONDS in bits 31:0 (R146). -/
def time96 (t : Int) : Nat :=
  let ns := t / 65536
  unsx 64 (ns / 1000000000) * 2 ^ 32 + (ns % 1000000000).toNat

/-- The time in 2⁻¹⁶ ns of a TIME96 word. -/
def ofTime96 (w : Nat) : Int := (((w / 2 ^ 32) * 1000000000 + w % 2 ^ 32 : Nat) : Int) * 65536

/-- A TIME96 word is valid when NANOSECONDS is at most 999,999,999 (R147). -/
def time96Ok (w : Nat) : Bool := decide (w % 2 ^ 32 ≤ 999999999)

/-! ### Events (R642 to R659) -/

/-- One argument of an event: its width in bytes and its value; a negative value is two's complement (R646). -/
abbrev EvArg := Nat × Int

/-- A U8 argument. -/
def a8 (n : Nat) : EvArg := (1, n)
/-- A U16 argument. -/
def a16 (n : Nat) : EvArg := (2, n)
/-- A U32 argument. -/
def a32 (n : Nat) : EvArg := (4, n)
/-- A U64 argument. -/
def a64 (n : Nat) : EvArg := (8, n)
/-- An I32 argument in ns, saturating. -/
def aI32 (i : Int) : EvArg := (4, satS 32 i)
/-- An I64 argument. -/
def aI64 (i : Int) : EvArg := (8, satS 64 i)

/-- The ARGS bytes of a list of arguments, packed little-endian (R646). -/
def argBytes (l : List EvArg) : List Byte := l.flatMap (fun a => leBytes a.1 (unsx (8 * a.1) a.2))

/-- ARGS padded with zeros to sixteen bytes. -/
def padArgs (l : List Byte) : List Byte := (l ++ List.replicate 16 0).take 16

/-- The role field of SIPH_STATUS (R539). -/
def State.role (s : State) : Nat := s.fld fSIPH_STATUS_ROLE

/-- The unit is Syncing or Standby: it takes its inputs, anchors and reference from its partner (R123, R166, R558). -/
def State.following (s : State) : Bool := s.role = 1 || s.role = 3

/-- The unit is Syncing, Active or Standby: its inputs go through the ledger (R556, R557). -/
def State.paired (s : State) : Bool := s.role = 2 || s.following

/-- The record that event `e` forms now (R645). -/
def State.mkRec (s : State) (e : Nat) (cont : Bool) (args : List Byte) : EvRec :=
  { num := e, prio := s.fld fEVT_CFGe_PRIO e, role := s.role, cont := cont, seq := s.evt.seq
    root := s.root % 2 ^ 64
    e := if s.flag fTIM_MAP_STATUS_TIME_SET then time96 (s.now s.tim.eng) else 0
    block := s.blkIndex % 2 ^ 32, args := padArgs args }

/-- A record dropped on route `r` (0 intake, 1 control processor, 2 recorder): counted in LOST (R652). -/
def State.dropRec (s : State) (r : Nat) : State :=
  let s := s.incSat fEVT_CTRL_LOST
  { s with evt := { s.evt with dropped := nset 0 s.evt.dropped r (nget 0 s.evt.dropped r + 1) } }

/-- Form one record of event `e` and offer it to the intake queue of 512 (R645, R652). -/
def State.formRec (s : State) (e : Nat) (cont : Bool) (args : List Byte) : State :=
  let r : Routed := { rcd := s.mkRec e cont args, cp := s.flag fEVT_CFGe_CP e, ntf := s.flag fEVT_CFGe_NTF e
                      recd := s.flag fEVT_CFGe_REC e && s.flag fEVT_CTRL_REC_EN }
  let s1 := { s with evt := { s.evt with seq := (s.evt.seq + 1) % 2 ^ 32 } }
  if s.evt.intake.length < 512 then { s1 with evt := { s1.evt with intake := s1.evt.intake ++ [r] } }
  else s1.dropRec 0

/-- STATUS and COUNT of event `e` (R647). -/
def State.countEvent (s : State) (e : Nat) : State :=
  let s := s.put fEVT_STATUSw_STATUS (putBit (s.fld fEVT_STATUSw_STATUS (e / 32)) (e % 32) true) (e / 32)
  s.incSat fEVT_CFGe_COUNT e

/-- Events are captured from step 3 of the safe sequencer on (spec 19, opening). -/
def State.eventsOn (s : State) : Bool := decide (s.sys.phase = .up) && decide (3 ≤ s.sys.safeStep)

/-- Raise event `e` with the given arguments: STATUS and COUNT always, a record unless masked (R647, R648). A reserved
number is never raised (R642). -/
def State.raise (s : State) (e : Nat) (args : List EvArg) : State :=
  if !s.eventsOn || (evtDefault e).isNone then s
  else
    let s1 := s.countEvent e
    if s.flag fEVT_CFGe_MASK e then s1 else s1.formRec e false (argBytes args)

/-- Raise event `e` whose arguments exceed sixteen bytes: consecutive records, CONT in each after the first (R655). -/
def State.raiseLong (s : State) (e : Nat) (args : List EvArg) : State :=
  if !s.eventsOn || (evtDefault e).isNone then s
  else
    let s1 := s.countEvent e
    if s.flag fEVT_CFGe_MASK e then s1
    else
      let b := argBytes args
      forN ((b.length + 15) / 16) (fun k s => s.formRec e (k != 0) ((b.drop (16 * k)).take 16)) s1

/-- Level of the EVT_N pin whose routing field is `f`: false (low) while an unmasked routed STATUS bit is set (R649). -/
def State.evtPin (s : State) (f : Fd) : Bool :=
  !(s.eventsOn && (List.range 256).any (fun e =>
      bit (s.fld fEVT_STATUSw_STATUS (e / 32)) (e % 32) && !s.flag fEVT_CFGe_MASK e && s.flag f e))

/-- A session replaced by its number. -/
def State.setSess (s : State) (x : Session) : State :=
  { s with pop := { s.pop with sessions := s.pop.sessions.map (fun y => if y.num = x.num then x else y) } }

/-- A NOTIFY item of session `num` is queued; with 64 waiting the oldest is dropped, the next one sent will have LOST set, and
event 13 is raised at most once per second and session (R623, R633, R641). -/
def State.pushNote (s : State) (num handle : Nat) (item : List Byte) : State :=
  match s.pop.sessions.find? (fun x => x.num = num) with
  | none => s
  | some x =>
    if s.role != 0 && s.role != 2 then s
    else if x.notify.length < 64 then s.setSess { x with notify := x.notify ++ [(handle, item)] }
    else
      let x := { x with notify := x.notify.drop 1 ++ [(handle, item)], lost := true, drops := x.drops + 1 }
      if x.lostAt = 0 || decide (x.lostAt - 1 + s.corePerSec ≤ s.tim.cnt) then
        (s.setSess { x with drops := 0, lostAt := s.tim.cnt + 1 }).raise 13 [a64 num, a32 (min x.drops (2 ^ 32 - 1))]
      else s.setSess x

/-- An event item of NOTIFY (R623). -/
def noteBytes (r : EvRec) : List Byte :=
  leBytes 1 r.num ++ leBytes 1 r.prio ++ [0, 0] ++ leBytes 8 r.root ++ leBytes 8 (r.e / 2 ^ 32) ++ leBytes 4 r.e ++ padArgs r.args

/-- A record reaches the event subscriptions that cover it (R623, R650). -/
def State.noteRec (s : State) (r : EvRec) : State :=
  let hits := s.pop.sessions.flatMap (fun x => (x.subs.filter (fun b =>
    b.kind = 1 && decide (b.firstEv ≤ r.num) && decide (r.num ≤ b.lastEv) && decide (b.minPrio ≤ r.prio))).map (fun b => (x.num, b.handle)))
  forL hits (fun h s => s.pushNote h.1 h.2 (noteBytes r)) s

/-- One record leaves the intake queue for its routes (R650 to R653). -/
def State.drainOne (s : State) : State :=
  match s.evt.intake with
  | [] => s
  | r :: rest =>
    let s := { s with evt := { s.evt with intake := rest } }
    let s := if r.cp then
        (if s.evt.cpq.length < 256 then { s with evt := { s.evt with cpq := s.evt.cpq ++ [r.rcd] } } else s.dropRec 1)
      else s
    let s := if r.ntf then s.noteRec r.rcd else s
    if r.recd then
      (if s.evt.recq.length < 1024 then { s with evt := { s.evt with recq := s.evt.recq ++ [r.rcd] } } else s.dropRec 2)
    else s

/-- Up to `n` records leave the intake queue. -/
def State.drain (s : State) (n : Nat) : State := forN (min n s.evt.intake.length) (fun _ s => s.drainOne) s

/-! ### Shared guards -/

/-- The engine is out of Power-on Reset and not in Deep Standby: it takes requests (R47, R52). -/
def State.up (s : State) : Bool := decide (s.sys.phase = .up)

/-- The derived clocks run: step 3 of the safe sequencer has been taken (R65). -/
def State.clocked (s : State) : Bool := s.up && decide (3 ≤ s.sys.safeStep)

/-- The units that an Engine Reset holds are running (R56, R58). -/
def State.live (s : State) : Bool := s.clocked && !s.sys.engReset

/-- Apply `f` when `c` holds; otherwise the event has not happened and nothing changes (log entry 5). -/
def State.when (s : State) (c : Bool) (f : State → State) : State := if c then f s else s

end Sys2Proof.Machine
end

