-- ==== Sys2Proof/Machine/Memory.lean ====
section
/-! DEFINITION. Byte memory by physical fabric address (R676, R678), its words, SECDED read outcomes (R381, R382, R396),
and the health unit's counting of errors (R571 to R573). -/

namespace Sys2Proof.Machine

open Sys2Proof

/-! ### Bytes and words -/

/-- The canonical form of the byte memory: addresses rise strictly and no listed byte is zero. -/
def Memory.wf (m : List Host.Cell) : Bool := nsorted m && m.all (fun c => decide (c.2 ≠ 0))

/-- The byte at address `a`; zero where nothing is listed (R380, R399; log entry 7). -/
def memGet (m : List Host.Cell) (a : Nat) : Byte := nget 0 m a

/-- Byte `a` written; a zero removes its entry. -/
def memSet (m : List Host.Cell) (a : Nat) (v : Byte) : List Host.Cell := nset 0 m a v

/-- The bytes from `a` written in order. -/
def memSetList (m : List Host.Cell) (a : Nat) (l : List Byte) : List Host.Cell :=
  match l with
  | [] => m
  | b :: r => memSetList (memSet m a b) (a + 1) r

/-- Every byte from `a` up to, not including, `b` zero. -/
def memZero (m : List Host.Cell) (a b : Nat) : List Host.Cell := nkeep (fun k => !(decide (a ≤ k) && decide (k < b))) m

/-- The number whose `n` little-endian bytes begin at `a`. -/
def memNum (m : List Host.Cell) (a n : Nat) : Nat :=
  match n with
  | 0 => 0
  | n + 1 => (memGet m a).toNat + 256 * memNum m (a + 1) n

/-- `n` bytes from `a`. -/
def memBytes (m : List Host.Cell) (a n : Nat) : List Byte := (List.range n).map (fun k => memGet m (a + k))

/-- The little-endian number of `n` bytes at `a`. -/
def State.rdMem (s : State) (a n : Nat) : Nat := memNum s.mem a n

/-- Start of the ECC word that holds byte `a`: 32-bit words in X and Y memory, 64-bit rows elsewhere (R377, R584). -/
def eccWord (a : Nat) : Nat :=
  if 0x20000000 ≤ a ∧ a < 0x22400000 ∧ a % 0x100000 < 0x40000 then a / 4 * 4 else a / 8 * 8

/-- Length in bytes of the ECC word at `a`. -/
def eccLen (a : Nat) : Nat := if 0x20000000 ≤ a ∧ a < 0x22400000 ∧ a % 0x100000 < 0x40000 then 4 else 8

/-- A write reached bytes `a` to `a + n - 1`: every ECC word written in full has good check bits again, and a
write-back of a word so written is dropped (R381, R382). -/
def State.wroteMem (s : State) (a n : Nat) : State :=
  let m := s.memu
  let full (w : Nat) : Bool := decide (a ≤ w) && decide (w + eccLen w ≤ a + n)
  let hit (w : Nat) : Bool := decide (a < w + eccLen w) && decide (w < a + n)
  { s with memu := { m with bad := nkeep (fun w => !full w) m.bad, writeBack := m.writeBack.filter (fun w => !hit w) } }

/-- `n` bytes written little-endian at `a`. -/
def State.wrMem (s : State) (a n v : Nat) : State :=
  let s := { s with mem := memSetList s.mem a (leBytes n v) }
  s.wroteMem a n

/-- Bytes `a` up to, not including, `b` zeroed with valid ECC. -/
def State.zeroMem (s : State) (a b : Nat) : State :=
  { s with mem := memZero s.mem a b
           memu := { s.memu with bad := nkeep (fun w => !(decide (a ≤ w) && decide (w < b))) s.memu.bad
                                 writeBack := s.memu.writeBack.filter (fun w => !(decide (a ≤ w) && decide (w < b))) } }

/-- Base of cluster slot `n` of the cluster memory window (R678). -/
def cluBase (n : Nat) : Nat := 0x20000000 + n * 0x100000

/-- Address of word `k` of X (`y = false`) or Y memory of site `n` (R678). -/
def xyAddr (n : Nat) (y : Bool) (k : Nat) : Nat := cluBase n + (if y then 0x20000 else 0) + 4 * (k % 32768)

/-- Address of bundle `k` of site `n` (R220, R678). -/
def progAddr (n k : Nat) : Nat := cluBase n + 0x40000 + 8 * k

/-- Word `k` of X or Y memory. -/
def State.rdXY (s : State) (n : Nat) (y : Bool) (k : Nat) : Word32 := BitVec.ofNat 32 (s.rdMem (xyAddr n y k) 4)

/-- Word `k` of X or Y memory written. -/
def State.wrXY (s : State) (n : Nat) (y : Bool) (k : Nat) (v : Word32) : State := s.wrMem (xyAddr n y k) 4 v.toNat

/-- Fabric address of Cistern byte offset `x` (R386). -/
def cisAddr (x : Nat) : Nat := 0x40000000 + x % 0x2000000

/-- Fabric address of Deep Cistern byte offset `x` (R404). -/
def dcisAddr (x : Nat) : Nat := 0x100000000 + x

/-- `k` words copied from `src` to `dst`, each four bytes, in rising order. -/
def State.copyWords (s : State) (src dst k : Nat) : State :=
  forN k (fun i s => s.wrMem (dst + 4 * i) 4 (s.rdMem (src + 4 * i) 4)) s

/-- The memories of cluster site `n` zeroed (R380). -/
def State.zeroCluster (s : State) (n : Nat) : State := s.zeroMem (cluBase n) (cluBase n + 0x50000)

/-! ### The health unit's error counting (R571 to R573) -/

/-- ERR_WIN in core cycles (R573). -/
def State.errWin (s : State) : Nat := s.fld fHLTH_CTRL_ERR_WIN * 3600 * s.corePerSec

/-- The resource is retired or waits for its mapping. -/
def State.isPermanent (s : State) (kind site : Nat) : Bool :=
  (s.hlth.due ++ s.hlth.retired).any (fun r => r.kind = kind && r.site = site)

/-- SECONDS of E, or zero while TIME_SET = 0 (R578). -/
def State.recWhen (s : State) : Nat :=
  if s.flag fTIM_MAP_STATUS_TIME_SET then (s.now s.tim.eng / 65536 / 1000000000).toNat % 2 ^ 64 else 0

/-- Spare rows of segment `g` of bank site `b` in use (R397). -/
def State.segRows (s : State) (b g : Nat) : List Nat :=
  (s.hlth.rowMap.filterMap (fun e => if e.1 / 66560 = b && decide (65536 ≤ e.2) && (e.2 - 65536) / 8 = g then some e.2 else none))
    ++ (s.hlth.rowCopied.filterMap (fun e => if e.1 / 66560 = b && decide (65536 ≤ e.2) && (e.2 - 65536) / 8 = g then some e.2 else none))

/-- Segment of row `r` of a bank site, a spare row included (R386, R584). -/
def rowSeg (r : Nat) : Nat := if r < 65536 then r / 512 else (r - 65536) / 8

/-- The lowest free spare row of segment `g`: not in use and not itself retired (R397, R569). -/
def State.freeRow (s : State) (b g : Nat) : Option Nat :=
  (List.range 8).map (fun i => 65536 + 8 * g + i) |>.find? (fun r =>
    !(s.segRows b g).contains r && !s.isPermanent 3 (b * 66560 + r))

/-- Logical bank that a bank site serves. -/
def State.bankOf (s : State) (site : Nat) : Option Nat :=
  (List.range 64).find? (fun k => s.fld fCIS_BANKk_CTRL_PHYS k = site)

/-- Spare bank sites: serving no logical bank, not retired, and no copy target (R387, R398). -/
def State.freeBanks (s : State) : List Nat :=
  (List.range 68).filter (fun b => (s.bankOf b).isNone && !s.isPermanent 4 b && !s.hlth.bankCopy.any (fun c => c.new = b))

/-- The logical cluster that a cluster site serves. -/
def State.clusterOf (s : State) (site : Nat) : Option Nat :=
  (List.range 32).find? (fun k => s.fld fHLTH_CMAPk_SITE k = site)

/-- Spare cluster sites: serving no logical cluster, not retired, and no copy target (R569, R576). -/
def State.freeClusters (s : State) : List Nat :=
  (List.range 36).filter (fun n => (s.clusterOf n).isNone && !s.isPermanent 2 n && !s.hlth.cluCopy.any (fun c => c.new = n))

/-- Brine's test of a spare site ends at once (R585). -/
def State.endSpareTest (s : State) (cluster : Bool) (site : Nat) : State :=
  if s.hlth.spareTest = some (cluster, site) then { s with hlth := { s.hlth with spareTest := none } } else s

/-- Cluster site `n` powered and clocked, or not (R99, R100). -/
def State.setClocked (s : State) (n : Nat) (v : Bool) : State :=
  s.put fSYS_CLU_CLK_CLOCKED (putBit (s.fld fSYS_CLU_CLK_CLOCKED) n v)

/-- Cluster site `n` is powered and clocked (R99). -/
def State.siteClocked (s : State) (n : Nat) : Bool := bit (s.fld fSYS_CLU_CLK_CLOCKED) n

/-- Start of a bank's copy to the lowest spare bank site (R398). -/
def State.startBankCopy (s : State) (site : Nat) : State :=
  match s.freeBanks with
  | [] => s
  | b :: _ =>
    let s := s.endSpareTest false b
    { s with hlth := { s.hlth with bankCopy := s.hlth.bankCopy ++ [{ old := site, new := b }] } }

/-- Steps 1 and 2 of a cluster retirement: the lowest spare site is chosen and powered (R576). -/
def State.startClusterCopy (s : State) (site : Nat) : State :=
  match s.freeClusters with
  | [] => s
  | n :: _ =>
    let s := (s.endSpareTest true n).setClocked n true
    { s with hlth := { s.hlth with cluCopy := s.hlth.cluCopy ++ [{ old := site, new := n }] } }

/-- A task's lane that Brine shadows or that shadows stops being compared (R574, R580, R590). -/
def State.endShadow (s : State) (site : Nat) : State :=
  let k := 16 * site + 8
  let sp := nget {} s.pump.lanes k
  match sp.shadow with
  | none => s
  | some m =>
    let ka := 16 * site + m
    let ac := nget {} s.pump.lanes ka
    let ls := nset {} s.pump.lanes ka { ac with logging := false, log := [] }
    { s with pump := { s.pump with lanes := nset {} ls k {} } }

/-- WEAR of R594: the largest share of lane, cluster and bank spares used, and of ageing against 10 %. The ageing share
is the last value of the slowest oscillator, stored by MONITOR_SAMPLE in 0.01 % slower. -/
def State.setWear (s : State) : State :=
  let used (total free : Nat) : Nat := (total - free) * 100 / total
  let age := (List.range 16).foldl (fun a k => max a (nget 0 s.hlth.mon (25 + k)).toNat) 0
  let w := max (max (used 36 (s.fld fHLTH_SPARES_LANES)) (used 4 (s.fld fHLTH_SPARES_CLUSTERS)))
    (max (used 4 (s.fld fHLTH_SPARES_BANKS)) (min 100 (age / 10)))
  s.put fHLTH_SPARES_WEAR w

/-- One spare of a counted kind leaves the free pool; the last one raises event 150 (R581). -/
def State.useSpare (s : State) (f : Fd) (kind : Nat) : State :=
  let n := s.fld f
  if n = 0 then s
  else
    let s := (s.put f (n - 1)).setWear
    if n = 1 then s.raise 150 [a8 kind] else s

/-- A resource becomes permanent, with the cause of R578 (R573, R574, R577). -/
def State.permanent (s : State) (kind site cause : Nat) : State :=
  if s.isPermanent kind site then s
  else
    let r : Retired := { kind := kind, site := site, cause := cause, sec := 0 }
    let add (s : State) : State := { s with hlth := { s.hlth with due := s.hlth.due ++ [r] } }
    if kind = 1 then
      -- the spare lane is clocked and any Brine use of it ends (R574)
      (add s).endShadow (site / 16)
    else if kind = 2 then
      if (s.clusterOf site).isSome then (add s).startClusterCopy site else add s
    else if kind = 3 then
      let b := site / 66560
      let g := rowSeg (site % 66560)
      if (s.freeRow b g).isSome || decide (65536 ≤ site % 66560) then add s
      else
        -- no free spare row: the row's bank shows its stuck fault (R569)
        let s := add s
        if s.isPermanent 4 b then s
        else
          let rb : Retired := { kind := 4, site := b, cause := 2, sec := 0 }
          let s := { s with hlth := { s.hlth with due := s.hlth.due ++ [rb] } }
          if (s.bankOf b).isSome then s.startBankCopy b else s
    else if kind = 4 then
      if (s.bankOf site).isSome then (add s).startBankCopy site else add s
    else
      -- a Siphon lane is retired at once (R577)
      let s := { s with hlth := { s.hlth with retired := s.hlth.retired ++ [{ r with sec := s.recWhen }], recDue := true } }
      let s := s.put fHLTH_SPARES_SIPH (s.fld fHLTH_SPARES_SIPH - 1)
      s.raise 149 [a8 site]

/-- HEALTH_ERROR (R571): a counted error is charged to its resource; the third within ERR_WIN makes it permanent
(R573). `cause` numbers the error source; its code in event 144 is not stated (log entry 21). -/
def State.healthError (s : State) (kind site cause : Nat) : State :=
  let s := s.raise 144 [a8 kind, a32 site, a8 (Config.freeCode 144 cause).toNat]
  let r : ErrRec := { kind := kind, site := site, at' := s.tim.cnt }
  let s : State := { s with hlth := { s.hlth with errs := s.hlth.errs ++ [r] } }
  let mine : List ErrRec := s.hlth.errs.filter (fun e =>
    e.kind = kind && e.site = site && decide (s.tim.cnt < e.at' + s.errWin))
  if decide (3 ≤ mine.length) then s.permanent kind site 1 else s

/-- A stuck fault of a resource (R573). -/
def State.healthStuck (s : State) (kind site : Nat) : State := s.permanent kind site 2

/-! ### ECC outcomes -/

/-- What a read of the ECC word at `a` finds: an uncorrectable word stays so until it is written (R382). -/
def State.eccOf (s : State) (a : Nat) (e : Ecc) : Ecc := if nget false s.memu.bad (eccWord a) then .uncorrectable else e

/-- Event 88 at most once per second for each memory (R381, R396, R413). -/
def State.corrEvent (s : State) (mem : Nat) (args : List EvArg) : State :=
  let last := nget 0 s.memu.lastCorr mem
  if last = 0 || decide (last + s.corePerSec ≤ s.tim.cnt + 1) then
    ({ s with memu := { s.memu with lastCorr := nset 0 s.memu.lastCorr mem (s.tim.cnt + 1) } }).raise 88 args
  else s

/-- A write-back of the corrected word is scheduled (R381, R396). -/
def State.planWriteBack (s : State) (a : Nat) : State :=
  if s.memu.writeBack.contains (eccWord a) then s
  else { s with memu := { s.memu with writeBack := s.memu.writeBack ++ [eccWord a] } }

/-- ECC_CORRECTED in a cluster memory (R381): `mem` 0 = X, 1 = Y, 2 = program, 3 = Pump area. -/
def State.cluCorrected (s : State) (n mem a : Nat) : State :=
  let s := if mem = 0 then s.incSat fCLUn_MEM_STAT_X_CORR n
    else if mem = 1 then s.incSat fCLUn_MEM_STAT_Y_CORR n else s.incSat fCLUn_MEM_STAT_P_CORR n
  (s.planWriteBack a).corrEvent (4 * n + mem) []

/-- ECC_UNCORRECTED in a cluster memory (R382): event 89, UNCORR and LAST_MEM, and the error is charged to the cluster
site (R569). The word keeps its bad check bits. -/
def State.cluUncorrected (s : State) (n mem a : Nat) : State :=
  let s := { s with memu := { s.memu with bad := nset false s.memu.bad (eccWord a) true } }
  let s := (s.incSat fCLUn_MEM_STAT_UNCORR n).put fCLUn_MEM_STAT_LAST_MEM mem n
  (s.raise 89 []).healthError 2 n 1

/-- Which memory of a cluster slot the offset lies in: 0 = X, 1 = Y, 2 = program, 3 = Pump area (R678). -/
def cluMemOf (off : Nat) : Nat := if off < 0x20000 then 0 else if off < 0x40000 then 1 else if off < 0x50000 then 2 else 3

/-- Bank, row and bank site of a Cistern byte offset (R386, R387). -/
def cisBank (x : Nat) : Nat := x / 0x80000
/-- Row of a Cistern byte offset inside its bank. -/
def cisRow (x : Nat) : Nat := x % 0x80000 / 8

/-- A Cistern read finds a single-bit error (R396). -/
def State.cisCorrected (s : State) (x : Nat) : State :=
  let k := cisBank x
  let s := (s.incSat fCIS_BANKk_ERR_CORRECTED k).planWriteBack (cisAddr x)
  s.corrEvent (1000 + k) [a16 k, a32 (cisRow x)]

/-- A Cistern read finds an uncorrectable error (R396); it is charged to the row (R569). -/
def State.cisUncorrected (s : State) (x : Nat) : State :=
  let k := cisBank x
  let s := { s with memu := { s.memu with bad := nset false s.memu.bad (eccWord (cisAddr x)) true } }
  let s := (s.incSat fCIS_BANKk_ERR_UNCORRECTED k).raise 89 [a16 k, a32 (cisRow x)]
  let site := s.fld fCIS_BANKk_CTRL_PHYS k
  let r := cisRow x
  let phys := match s.hlth.rowMap.find? (fun e => e.1 = site * 66560 + r) with | some e => e.2 | none => r
  s.healthError 3 (site * 66560 + phys) 1

/-- The health of one read at fabric address `a` (R381, R382, R396, R404). -/
def State.eccRead (s : State) (a : Nat) (e : Ecc) : State :=
  match s.eccOf a e with
  | .ok => s
  | .corrected =>
    if 0x20000000 ≤ a ∧ a < 0x22400000 then s.cluCorrected ((a - 0x20000000) / 0x100000) (cluMemOf (a % 0x100000)) a
    else if 0x40000000 ≤ a ∧ a < 0x42000000 then s.cisCorrected (a - 0x40000000)
    else s.planWriteBack a
  | .uncorrectable =>
    if 0x20000000 ≤ a ∧ a < 0x22400000 then s.cluUncorrected ((a - 0x20000000) / 0x100000) (cluMemOf (a % 0x100000)) a
    else if 0x40000000 ≤ a ∧ a < 0x42000000 then s.cisUncorrected (a - 0x40000000)
    else
      let s := { s with memu := { s.memu with bad := nset false s.memu.bad (eccWord a) true } }
      s.raise 89 []

/-! ### Cistern banks in use (R400, R401) -/

/-- Bank `k` is accessed: its clock runs (R102) and, in retention, it wakes first, counted in WAKES (R401). -/
def State.touchBank (s : State) (k : Nat) : State :=
  let s := if s.flag fCIS_BANKk_CTRL_RETAINED k then
      (s.put fCIS_BANKk_CTRL_RETAINED 0 k).incSat fCIS_BANKk_ERR_WAKES k
    else s
  { s with memu := { s.memu with lastAccess := nset 0 s.memu.lastAccess k (s.tim.cnt + 1) }
           clk := { s.clk with bankGated := nset false s.clk.bankGated k false } }

end Sys2Proof.Machine
end

