-- ==== Sys2Proof/Machine/LaneOps.lean ====
section
/-! DEFINITION. The lane's own operations (spec 06, 07): register names and the rotating window, stage cycles and
interlocks, address generation, accumulators, ALU results, loops and branches. -/

namespace Sys2Proof.Machine

open Sys2Proof

/-! ### Register names -/

/-- Physical register of a data register name (R240). -/
def Lane.phys (x : Lane) (nm : Nat) : Nat := if nm < 32 then nm else 32 + (nm + 32 - 32 - x.rrb % 32) % 32

/-- Value of the data register named `nm`. -/
def Lane.dreg (x : Lane) (nm : Nat) : Word32 := nget 0 x.d (x.phys nm)

/-- Data register `nm` written. -/
def Lane.setD (x : Lane) (nm : Nat) (v : Word32) : Lane := { x with d := nset 0 x.d (x.phys nm) v }

/-- One rotation of the window (R240). -/
def Lane.rotate (x : Lane) : Lane := { x with rrb := (x.rrb + 1) % 32 }

/-! ### Stage cycles and interlocks (R242 to R244) -/

/-- Hold the bundle in D until cycle `t`. -/
def Lane.holdD (x : Lane) (t : Nat) : Lane :=
  let d := max x.tD t
  let m := max x.tM (d + 1)
  { x with tD := d, tM := m, tE := max x.tE (m + 1) }

/-- Hold the bundle before M until cycle `t`. -/
def Lane.holdM (x : Lane) (t : Nat) : Lane :=
  let m := max x.tM t
  { x with tM := m, tE := max x.tE (m + 1) }

/-- Hold the bundle in E1 until cycle `t`. -/
def Lane.holdE (x : Lane) (t : Nat) : Lane := { x with tE := max x.tE t }

/-- Cycle at whose end the last write of register `r` lands. -/
def Lane.land (x : Lane) (r : Nat) : Nat := nget 0 x.lands r

/-- Number of an address-side register: kind 0 = a, 1 = b, 2 = l, 3 = m, and its index (R229). -/
def asReg (kind idx : Nat) : Nat := 64 + 8 * kind + idx

/-- Number of the condition flags among the registers that interlock. -/
def condReg : Nat := 96

/-- A read of `r` in E1 waits for its write. -/
def Lane.useE (x : Lane) (r : Nat) : Lane := x.holdE (x.land r + 1)

/-- A read of `r` in D waits for its write. -/
def Lane.useD (x : Lane) (r : Nat) : Lane := x.holdD (x.land r + 1)

/-- A write of `r` that lands in D. -/
def Lane.landD (x : Lane) (r : Nat) : Lane :=
  let x := x.holdD (x.land r)
  { x with lands := nset 0 x.lands r x.tD }

/-- A write of `r` that lands in M. -/
def Lane.landM (x : Lane) (r : Nat) : Lane :=
  let x := x.holdM (x.land r)
  { x with lands := nset 0 x.lands r x.tM }

/-- A write of `r` that lands in E1. -/
def Lane.landE (x : Lane) (r : Nat) : Lane :=
  let x := x.holdE (x.land r)
  { x with lands := nset 0 x.lands r x.tE }

/-- A write of `r` that lands in E2. -/
def Lane.landE2 (x : Lane) (r : Nat) : Lane :=
  let x := x.holdE (x.land r - 1)
  { x with lands := nset 0 x.lands r (x.tE + 1) }

/-! ### The address side (R229, R232, R233) -/

/-- The address-side register that a name gives (R229). -/
def Lane.asGet (x : Lane) (kind idx : Nat) : Word32 :=
  if kind = 0 then BitVec.ofNat 32 (nget 0 x.a idx)
  else if kind = 1 then BitVec.ofNat 32 (nget 0 x.b idx)
  else if kind = 2 then BitVec.ofNat 32 (nget 0 x.l idx)
  else BitVec.ofInt 32 (nget 1 x.m idx)

/-- An address-side register written from a 32-bit source (R229). -/
def Lane.asSet (x : Lane) (kind idx : Nat) (v : Word32) : Lane :=
  if kind = 0 then { x with a := nset 0 x.a idx (v.toNat % 2 ^ 15) }
  else if kind = 1 then { x with b := nset 0 x.b idx (v.toNat % 2 ^ 15) }
  else if kind = 2 then { x with l := nset 0 x.l idx (min (v.toNat % 2 ^ 16) 32768) }
  else { x with m := nset 1 x.m idx (sx 16 (v.toNat % 2 ^ 16)) }

/-- The post-modify of R232: the new address from a, b, l and the step. -/
def postModify (a b l : Nat) (st : Int) : Nat :=
  if l = 0 then (((a : Int) + st) % 32768).toNat
  else
    let o : Int := ((a : Int) - b) % 32768
    (((b : Int) + (o + st) % (l : Int)) % 32768).toNat

/-- The step of MOD for address register `i` (R231). -/
def Lane.step (x : Lane) (md i : Nat) : Int := if md = 0 then 0 else if md = 1 then 1 else if md = 2 then -1 else nget 1 x.m i

/-- succ(a) of R233. -/
def Lane.succ (x : Lane) (i : Nat) : Nat := postModify (nget 0 x.a i) (nget 0 x.b i) (nget 0 x.l i) 1

/-- Address register of a slot: a0–a3 in X, a4–a7 in Y (R231). -/
def slotReg (y : Bool) (ar : Nat) : Nat := (if y then 4 else 0) + ar % 4

/-- The D-stage reads of an X or Y slot wait for older writes (R243). -/
def Lane.useAddr (x : Lane) (i md : Nat) : Lane :=
  let x := ((x.useD (asReg 0 i)).useD (asReg 1 i)).useD (asReg 2 i)
  if md = 3 then x.useD (asReg 3 i) else x

/-- The post-modify of a slot (R231, R232). -/
def Lane.modify (x : Lane) (i md : Nat) : Lane :=
  if md = 0 then x
  else
    let v := postModify (nget 0 x.a i) (nget 0 x.b i) (nget 0 x.l i) (x.step md i)
    { x with a := nset 0 x.a i v }.landD (asReg 0 i)

/-! ### Accumulators (R183 to R191) -/

/-- The accumulator that a MAC slot reads: the value before any fill of the same bundle (R244). -/
def Lane.accOf (x : Lane) (k : Nat) : LAcc := nget {} x.acc k

/-- The accumulator with value `v`, latch `cl` and the residue of its value (R183, R207). -/
def mkAcc (v : Int) (cl : Bool) : LAcc := { val := BitVec.ofInt 80 v, cl := cl, res := (sx 80 (unsx 80 v) % 3).toNat }

/-- Outcome of one accumulate: the accumulator, and whether AOV or ASAT is set (R185 to R189). -/
structure AccOut where
  acc : LAcc
  aov : Bool
  asat : Bool
deriving DecidableEq, Repr

/-- Accumulate `p` exactly into `a` under S (R185, R187 to R189). -/
def accumulate (a : LAcc) (p : Int) (s : Bool) : AccOut :=
  if a.cl then ⟨a, false, false⟩
  else
    let e := a.val.toInt + p
    if -(2 ^ 79) ≤ e ∧ e < 2 ^ 79 then ⟨mkAcc e false, false, false⟩
    else if s then ⟨mkAcc (if 0 ≤ e then 2 ^ 79 - 1 else -(2 ^ 79)) true, false, true⟩
    else ⟨mkAcc e false, true, false⟩

/-- A product operand, signed or unsigned (R182, R224). -/
def operand (v : Word32) (signed : Bool) : Int := if signed then v.toInt else (v.toNat : Int)

/-- Round v ÷ 2^k under RND (R195): 0 convergent, 1 truncation. -/
def roundShift (v : Int) (k : Nat) (trunc : Bool) : Int :=
  if k = 0 then v else if trunc then v / 2 ^ k else divEven v (2 ^ k)

/-- The extraction of R197: the register value and whether it clamped. -/
def extract (a : LAcc) (sh : Nat) (s trunc : Bool) : Word32 × Bool :=
  let r := roundShift a.val.toInt sh trunc
  if s then (BitVec.ofInt 32 (satS 32 r), decide (satS 32 r ≠ r)) else (BitVec.ofInt 32 r, false)

/-- The deposit of R199. -/
def deposit (v : Word32) (sh : Nat) : LAcc := mkAcc (v.toInt * 2 ^ sh) false

/-- Word `w` of a spilled accumulator (R201). -/
def spillWord (a : LAcc) (w : Nat) : Word32 :=
  if w = 0 then BitVec.ofNat 32 (a.val.toNat % 2 ^ 32)
  else if w = 1 then BitVec.ofNat 32 (a.val.toNat / 2 ^ 32 % 2 ^ 32)
  else BitVec.ofNat 32 ((if a.cl then 2 ^ 16 else 0) + a.val.toNat / 2 ^ 64)

/-- The accumulator that a fill restores from the staging register and word 2 (R201, R233). -/
def fillAcc (stag : Nat) (w2 : Word32) : LAcc :=
  let v := stag % 2 ^ 64 + (w2.toNat % 2 ^ 16) * 2 ^ 64
  mkAcc (sx 80 v) (w2.getLsbD 16)

/-! ### ALU results (R203) -/

/-- A result under S: clamped or wrapped, and whether it clamped. -/
def alu32 (e : Int) (s : Bool) : Word32 × Bool :=
  if s then (BitVec.ofInt 32 (satS 32 e), decide (satS 32 e ≠ e)) else (BitVec.ofInt 32 e, false)

/-- Arithmetic left shift by `k` (R203). -/
def aslR (v : Word32) (k : Nat) (s : Bool) : Word32 × Bool :=
  if k < 32 then alu32 (v.toInt * 2 ^ k) s
  else if !s || v = 0 then (0, false)
  else (if v.toInt < 0 then BitVec.ofInt 32 (-(2 ^ 31)) else BitVec.ofInt 32 (2 ^ 31 - 1), true)

/-- Arithmetic right shift by `k` (R203). -/
def asrR (v : Word32) (k : Nat) (trunc : Bool) : Word32 × Bool :=
  if k < 32 then (BitVec.ofInt 32 (roundShift v.toInt k trunc), false)
  else if trunc && decide (v.toInt < 0) then (BitVec.ofInt 32 (-1), false) else (0, false)

/-- Logical shifts by `k`, zero for 32 to 63 (R227). -/
def lslR (v : Word32) (k : Nat) : Word32 × Bool := (if k < 32 then BitVec.ofNat 32 (v.toNat * 2 ^ k) else 0, false)
/-- Logical right shift. -/
def lsrR (v : Word32) (k : Nat) : Word32 × Bool := (if k < 32 then BitVec.ofNat 32 (v.toNat / 2 ^ k) else 0, false)

/-- COND of R228 on the flags Z and N. -/
def condHolds (c : Nat) (z n : Bool) : Bool :=
  if c = 0 then true else if c = 1 then z else if c = 2 then !z else if c = 3 then n else if c = 4 then !n
  else if c = 5 then !z && !n else if c = 6 then z || n else false

/-! ### Loops, branches and bundle ends (R235 to R241) -/

/-- The loops that a taken branch or jump to `t` leaves active (R239). -/
def leaveLoops (t : Nat) (l : List LoopLvl) : List LoopLvl :=
  match l with
  | [] => []
  | x :: r => if x.first ≤ t ∧ t ≤ x.last then x :: r else leaveLoops t r

/-- The innermost loop's body has ended and its return or exit is due (R237, R238). -/
def Lane.atLoopEnd (x : Lane) : Bool :=
  match x.loops with
  | [] => false
  | l :: _ => x.pc = l.last + 1

/-- A fresh lane state as a dispatch sets it (R217), apart from the address registers. -/
def Lane.fresh (slot entry start : Nat) : Lane := { task := some slot, pc := entry, start := start }

/-- The bundle under way ends: fills commit, and the next bundle's stage cycles and address follow (R242 to R244). A
taken branch, jump or skipped loop costs one cycle (R247). -/
def Lane.endBundle (x : Lane) : Lane :=
  let d := max (x.tD + 1) x.tM + (if x.target.isSome then 1 else 0)
  let m := max (max (d + 1) (x.tM + 1)) (x.eP + 1)
  let e := max (m + 1) (x.tE + 1)
  let acc := x.fills.foldl (fun a f => nset {} a f.1 f.2) x.acc
  let w := x.tE + 2
  let sts := x.stores.map (fun q => if q.w = 0 then { q with w := w } else q)
  let x := { x with acc := acc, fills := [], stores := sts, eP := x.tE, tD := d, tM := m, tE := e }
  if x.ending then { x with ended := true, loops := [] }
  else match x.target with
    | some t => { x with pc := t, target := none }
    | none => { x with pc := x.pc + 1 }

/-! ### The lane inside the state -/

/-- Key of lane site `m` of cluster site `n`. -/
def laneKey (n m : Nat) : Nat := 16 * n + m

/-- Lane site `m` of cluster site `n`. -/
def State.lane (s : State) (n m : Nat) : Lane := nget {} s.pump.lanes (laneKey n m)

/-- A lane replaced, with CL, RES, RRB and PC shown in its registers (spec 06, R249). -/
def State.setLane (s : State) (n m : Nat) (x : Lane) : State :=
  { s with pump := { s.pump with lanes := nset {} s.pump.lanes (laneKey n m) x } }

/-- Accumulator `k` written, with its CL and RES bits (R183, CLUn_LARITHm). -/
def State.setAcc (s : State) (n m k : Nat) (a : LAcc) : State :=
  let x := s.lane n m
  let s := s.setLane n m { x with acc := nset {} x.acc k a }
  let s := s.put fCLUn_LARITHm_CL (putBit (s.fld fCLUn_LARITHm_CL n m) k a.cl) n m
  s.put fCLUn_LARITHm_RES (putBit (s.fld fCLUn_LARITHm_RES n m) k (a.res != 0)) n m

/-- The lane's change by a function of the lane alone. -/
def State.onLane (s : State) (n m : Nat) (f : Lane → Lane) : State := s.setLane n m (f (s.lane n m))

/-- The sticky flag register of a flag number: 0 AOV, 1 ASAT, else RSAT. -/
def stickyFd (flag : Nat) : Fd :=
  if flag = 0 then fCLUn_LARITHm_AOV else if flag = 1 then fCLUn_LARITHm_ASAT else fCLUn_LARITHm_RSAT

/-- The event enable of a sticky flag. -/
def stickyEn (flag : Nat) : Fd :=
  if flag = 0 then fCLUn_ARITH_MASK_AOV_EN else if flag = 1 then fCLUn_ARITH_MASK_ASAT_EN else fCLUn_ARITH_MASK_RSAT_EN

/-- A sticky flag is set: flag 0 = AOV, 1 = ASAT, 2 = RSAT. Its 0 to 1 change raises event 72 when enabled, unless the
lane shadows (R213) or the bundle fails its residue check (R193, R212). -/
def State.setSticky (s : State) (n m flag k : Nat) (quiet : Bool) : State :=
  let old := s.fld (stickyFd flag) n m
  if bit old k then s
  else
    let s := s.put (stickyFd flag) (putBit old k true) n m
    let x := s.lane n m
    if s.flag (stickyEn flag) n && !quiet && x.shadow.isNone then
      s.raise 72 [a8 n, a8 m, a16 (x.task.getD 0), a8 (Config.freeCode 72 flag).toNat, a8 k]
    else s

/-- One store performed in X or Y memory. Of two lanes' writes of one word in one core cycle the higher-numbered lane
site's takes effect (R234). -/
def State.doStore (s : State) (n m : Nat) (start : Nat) (t : StoreW) : State :=
  let key := n * 2 ^ 17 + (if t.y then 2 ^ 16 else 0) + t.addr
  let cyc := start + t.w
  let st := nget 0 s.pump.stamps key
  if st / 16 = cyc ∧ m + 1 < st % 16 then s
  else
    let s := s.wrXY n t.y t.addr t.data
    { s with pump := { s.pump with stamps := nset 0 s.pump.stamps key (16 * cyc + m + 1) } }

/-- The stores whose W stage lies before cycle `t` are performed, oldest first (R245). -/
def State.flushStores (s : State) (n m t : Nat) : State :=
  let x := s.lane n m
  let due (q : StoreW) : Bool := q.w != 0 && decide (q.w < t)
  let go := x.stores.filter due
  let s := s.setLane n m { x with stores := x.stores.filter (fun q => !due q) }
  if go.isEmpty then s else forL go (fun q s => s.doStore n m x.start q) s

/-- A store issued by the bundle under way, whose W cycle the end of the bundle fixes; a shadowing lane's stores are only recorded (R589). -/
def State.issueStore (s : State) (n m : Nat) (y : Bool) (addr : Nat) (v : Word32) : State :=
  s.onLane n m (fun x =>
    let q : StoreW := { w := 0, y := y, addr := addr % 32768, data := v }
    let x := if x.logging then { x with log := x.log ++ [q] } else x
    if x.shadow.isSome then x else { x with stores := x.stores ++ [q] })

/-- The lane runs and its next bundle or slot may issue (R216, R248). -/
def State.laneRuns (s : State) (n m : Nat) : Bool :=
  let x := s.lane n m
  s.live && decide (n < 36) && decide (m < 9) && s.siteClocked n && x.task.isSome && !x.ended && !x.atLoopEnd

/-- The last slot of a bundle has issued: the bundle ends, and LSTAT shows its address and the rotation count (R249). -/
def State.endSlot (s : State) (n m : Nat) (eob : Bool) : State :=
  let x := s.lane n m
  if !eob || x.task.isNone then s
  else
    let s := s.put fCLUn_LSTATm_PC x.pc n m
    let s := forL x.fills (fun f s => s.setAcc n m f.1 f.2) s
    let s := s.onLane n m Lane.endBundle
    s.put fCLUn_LSTATm_RRB (s.lane n m).rrb n m

end Sys2Proof.Machine
end

