-- ==== Sys2Proof/Machine/Pump.lean ====
section
/-! DEFINITION. The Pump's operations (spec 08): descriptors, readiness, dispatch, completion, posts, credits, substitutes,
misses and retries; they are shared by the Pump's commands and by a lane's stops. -/

namespace Sys2Proof.Machine

open Sys2Proof

/-! ### Tasks and buffers -/

/-- Key of task slot `t` of cluster site `n`. -/
def taskKey (n t : Nat) : Nat := 512 * n + t

/-- Run-time data of a task. -/
def State.rt (s : State) (n t : Nat) : TaskRt := nget {} s.pump.rt (taskKey n t)

/-- Run-time data of a task replaced. -/
def State.setRt (s : State) (n t : Nat) (x : TaskRt) : State :=
  { s with pump := { s.pump with rt := nset {} s.pump.rt (taskKey n t) x } }

/-- The queues of one Pump. -/
def State.pumpSt (s : State) (n : Nat) : PumpSt := nget {} s.pump.sites n

/-- The queues of one Pump replaced, with the counts that its registers show (R269, PUMPn_STATUS, PUMPn_QSTAT). -/
def State.setPumpSt (s : State) (n : Nat) (x : PumpSt) : State :=
  let s := { s with pump := { s.pump with sites := nset {} s.pump.sites n x } }
  let q (p : Nat) : Nat := (nget [] x.queues p).length
  let s := ((s.put fPUMPn_QSTAT_Q0 (q 0) n).put fPUMPn_QSTAT_Q1 (q 1) n).put fPUMPn_QSTAT_Q2 (q 2) n
  let s := ((s.put fPUMPn_QSTAT_Q3 (q 3) n).put fPUMPn_QSTAT_Q4 (q 4) n).put fPUMPn_QSTAT_Q5 (q 5) n
  let s := (s.put fPUMPn_QSTAT_Q6 (q 6) n).put fPUMPn_QSTAT_Q7 (q 7) n
  (s.put fPUMPn_STATUS_PENDING x.outside.length n).put fPUMPn_STATUS_POSTQ (min x.postq.length 63) n

/-- State of a task (R261). -/
def State.tState (s : State) (n t : Nat) : Nat := s.fld fTASK_STATE n t

/-- ARMED, READY, RUNNING or HELD (R258). -/
def armedLike (st : Nat) : Bool := decide (2 ≤ st) && decide (st ≤ 5)

/-- The task's state changes; ARMED and HOLDING of PUMPn_STATUS follow. -/
def State.setTState (s : State) (n t st : Nat) : State :=
  let old := s.tState n t
  let s := s.put fTASK_STATE st n t
  let a := s.fld fPUMPn_STATUS_ARMED n
  let a := if armedLike st && !armedLike old then a + 1 else if !armedLike st && armedLike old then a - 1 else a
  let s := s.put fPUMPn_STATUS_ARMED a n
  if st = 5 || old = 5 then
    s.put fPUMPn_STATUS_HOLDING (if (List.range 512).any (fun k => s.tState n k = 5) then 1 else 0) n
  else s

/-- The four input references (R253). -/
def refIn : List Fd := [fTASK_REF0, fTASK_REF1, fTASK_REF2, fTASK_REF3]
/-- The four output references. -/
def refOut : List Fd := [fTASK_REF4, fTASK_REF5, fTASK_REF6, fTASK_REF7]

/-- Buffer index of a reference word, when it is in use (R253). -/
def refBuf (w : Nat) : Option Nat := if w.testBit 15 then some (w % 2048) else none

/-- Buffers of a task's valid references among `l`. -/
def State.bufsOf (s : State) (l : List Fd) (n t : Nat) : List Nat := l.filterMap (fun f => refBuf (s.fld f n t))

/-- KIND of buffer `b` (R254): 0 LOCAL, 1 EDGE, 2 CIS_OUT, 3 CIS_IN. -/
def State.bKind (s : State) (n b : Nat) : Nat := s.fld fBUF_KIND n b

/-- Slots of buffer `b`; at most eight (R254). -/
def State.bSlots (s : State) (n b : Nat) : Nat := min (s.fld fBUF_SLOTS n b) 8

/-- Slot for block `j` of an output reference (R256). -/
def State.outSlot (s : State) (n b j : Nat) : Nat := if s.bSlots n b = 0 then 0 else j % s.bSlots n b

/-- Slot for block `j` of an input reference: (j − DELAY) mod SLOTS (R256). -/
def State.inSlot (s : State) (n b j : Nat) : Nat :=
  let k := s.bSlots n b
  if k = 0 then 0 else (((j : Int) - s.fld fBUF_DELAY n b) % (k : Int)).toNat

/-- PEND of slot `sl` (R254). -/
def State.pend (s : State) (n b sl : Nat) : Nat := bits (s.fld fBUF_PEND n b) (6 * sl + 5) (6 * sl)

/-- PEND of slot `sl` written. -/
def State.setPend (s : State) (n b sl v : Nat) : State :=
  s.put fBUF_PEND (putBits (s.fld fBUF_PEND n b) (6 * sl + 5) (6 * sl) v) n b

/-- Address of word `i` of slot `sl` of a buffer in X or Y memory (R256). -/
def State.slotAddr (s : State) (n b sl i : Nat) : Nat :=
  xyAddr n (s.flag fBUF_MEM n b) (s.fld fBUF_BASE n b + sl * s.fld fBUF_LEN n b + i)

/-- Cistern byte offset of slot `sl` (R256). -/
def State.cisSlot (s : State) (n b sl : Nat) : Nat := s.fld fBUF_CIS n b * 512 + sl * s.fld fBUF_LEN n b * 4

/-- Block length in core cycles: N × B. -/
def State.blkLen (s : State) : Nat := s.perSample * s.sys.blk

/-- Counter value of boundary `j` (R666). -/
def State.boundaryAt (s : State) (j : Nat) : Nat := s.tim.cSamp + j * s.blkLen

/-- Deadline of a task in core cycles after the boundary (R274). -/
def State.deadline (s : State) (n t : Nat) : Nat :=
  let d := s.fld fTASK_DEADLINE n t
  if d = 0 || decide (s.blkLen < d) then s.blkLen else d

/-! ### Posts, credits and releases (R268 to R273) -/

/-- Cluster site that now takes posts addressed to `c`: the spare of a retired site (R570). -/
def State.redirected (s : State) (c : Nat) : Nat := let r := nget 0 s.hlth.redirect c; if r = 0 then c else r - 1

/-- A consumer releases slot `sl` of buffer `b`; a CIS_IN window whose count reaches zero sends a credit return (R270),
which changes nothing when it names the window itself (R407). -/
def State.release (s : State) (n b sl : Nat) : State :=
  let p := s.pend n b sl
  if s.bSlots n b = 0 || p = 0 then s
  else
    let s := s.setPend n b sl (p - 1)
    let rc := s.fld fBUF_RCLU n b
    let rb := s.fld fBUF_RBUF n b
    if s.bKind n b = 3 && p = 1 && !(s.redirected rc = n && rb = b) then
      { s with pump := { s.pump with credits := s.pump.credits ++ [(s.redirected rc, rb, sl)] } }
    else s

/-- A flag post reaches task `t` of site `n` for block `blk`, made for buffer `b` of site `src` (R271, R272, R263, R277). -/
def State.flagPost (s : State) (n t bitNo blk src b : Nat) : State :=
  let sl := s.outSlot src b blk
  if blk < s.blkIndex then s.release src b sl
  else
    let s := s.put fTASK_FLAGS (putBit (s.fld fTASK_FLAGS n t) bitNo true) n t
    if s.tState n t = 6 || s.tState n t = 7 then s.release src b sl else s

/-- Block `blk` of an edge of the network or TDM block is in place (R271). -/
def State.egressPost (s : State) (c e blk : Nat) : State :=
  let sl := s.outSlot c e blk
  { s with pump := { s.pump with egress := nset 0 s.pump.egress ((c * 2 ^ 16 + e) * 16 + sl) (blk + 1) } }

/-- A post entry takes effect at its target (R255, R271). -/
def State.deliver (s : State) (src : Nat) (p : PostItem) : State :=
  let ty := fPOST_TYPE.of p.word
  let c := s.redirected (fPOST_CLU.of p.word)
  let ix := fPOST_INDEX.of p.word
  if ty = 0 then
    if c < 36 then s.flagPost c (ix % 512) (fPOST_BIT.of p.word) p.blk src p.buf else s.egressPost c ix p.blk
  else if ty = 1 then
    if c < 36 then
      let x := s.pumpSt c
      s.setPumpSt c { x with xfers := x.xfers ++ [{ writeBack := false, buf := ix, blk := p.blk, slot := s.outSlot c ix p.blk }] }
    else s.egressPost c ix p.blk
  else if ty = 2 then
    let sl := s.outSlot c ix p.blk
    s.setPend c ix sl (s.pend c ix sl - 1)
  else s

/-- The post list of a buffer of site `n` as post queue entries for block `blk` (R254). -/
def State.postList (s : State) (n b blk : Nat) : List PostItem :=
  (List.range (s.fld fBUF_CONS n b)).map (fun i =>
    { writeBack := false, word := s.word .POST n (s.fld fBUF_POST n b + i), buf := b, slot := s.outSlot n b blk, blk := blk })

/-- What the completion of one output places in the post queue (R268). -/
def State.outItems (s : State) (n b blk : Nat) : List PostItem :=
  if s.bKind n b = 1 then s.postList n b blk
  else if s.bKind n b = 2 then [{ writeBack := true, word := 0, buf := b, slot := s.outSlot n b blk, blk := blk }]
  else []

/-- PEND of an output slot is set to CONS (R268; for CIS_OUT with its write-back request, log entry 22). -/
def State.outPend (s : State) (n b blk : Nat) : State :=
  if (s.bKind n b = 1 || s.bKind n b = 2) && s.bSlots n b != 0 then
    s.setPend n b (s.outSlot n b blk) (s.fld fBUF_CONS n b)
  else s

/-- Every output of the task with SLOTS > 0 has credit for block `j` (R260). -/
def State.outCredit (s : State) (n b j : Nat) : Bool :=
  !((s.bKind n b = 1 || s.bKind n b = 2) && s.bSlots n b != 0) || s.pend n b (s.outSlot n b j) = 0

/-- The input slots of block `j` of a task that has become ready are released (R268, R275). -/
def State.releaseInputs (s : State) (n t j : Nat) : State :=
  forL (s.bufsOf refIn n t) (fun b s =>
    if s.bKind n b = 1 || s.bKind n b = 3 then s.release n b (s.inSlot n b j) else s) s

/-- The block of buffer `b` that task `t` reads has arrived: a flag that its posts set in the task stands (R260, R263). -/
def State.arrived (s : State) (n t b : Nat) : Bool :=
  let own := (s.postList n b 0).filter (fun p =>
    fPOST_TYPE.of p.word = 0 && s.redirected (fPOST_CLU.of p.word) = n && fPOST_INDEX.of p.word % 512 = t)
  own.isEmpty || own.any (fun p => bit (s.fld fTASK_FLAGS n t) (fPOST_BIT.of p.word))

/-- The input slots of block `j` that have arrived at a task that has not become ready are released (R275, R277). -/
def State.releaseArrived (s : State) (n t j : Nat) : State :=
  forL ((s.bufsOf refIn n t).filter (fun b => s.arrived n t b)) (fun b s =>
    if s.bKind n b = 1 || s.bKind n b = 3 then s.release n b (s.inSlot n b j) else s) s

/-! ### Queues (R264, R265) -/

/-- A READY task enters the queue of its PRIO, or waits outside it. -/
def State.enqueue (s : State) (n t : Nat) : State :=
  let x := s.pumpSt n
  let p := s.fld fTASK_PRIO n t
  let q := nget [] x.queues p
  if q.length < 64 then s.setPumpSt n { x with queues := nset [] x.queues p (q ++ [t]) }
  else s.setPumpSt n { x with outside := x.outside ++ [t] }

/-- Tasks outside a queue enter it as entries free, in order (R265). -/
def State.refillQueues (s : State) (n : Nat) : State :=
  let x := s.pumpSt n
  let r := x.outside.foldl (fun (acc : NMap (List Nat) × List Nat) t =>
    let p := s.fld fTASK_PRIO n t
    let q := nget [] acc.1 p
    if q.length < 64 then (nset [] acc.1 p (q ++ [t]), acc.2) else (acc.1, acc.2 ++ [t])) (x.queues, [])
  s.setPumpSt n { x with queues := r.1, outside := r.2 }

/-- The task leaves its queue. -/
def State.dequeue (s : State) (n t : Nat) : State :=
  let x := s.pumpSt n
  let qs := x.queues.map (fun e => (e.1, e.2.filter (fun k => k != t)))
  (s.setPumpSt n { x with queues := qs.filter (fun e => !e.2.isEmpty), outside := x.outside.filter (fun k => k != t) }).refillQueues n

/-- The task returns to the head of its priority queue (R280). -/
def State.enqueueHead (s : State) (n t : Nat) : State :=
  let x := s.pumpSt n
  let p := s.fld fTASK_PRIO n t
  s.setPumpSt n { x with queues := nset [] x.queues p (t :: nget [] x.queues p) }

/-! ### Lanes that may run a task (R264, R266, R570, R574) -/

/-- Lane site of logical lane `k` of cluster site `n` (R570). -/
def State.laneSite (s : State) (n k : Nat) : Nat := bits (s.fld fHLTH_LMAPn_LANES n) (4 * k + 3) (4 * k)

/-- Logical lane `k` is free and may take a dispatch. -/
def State.laneFree (s : State) (n k : Nat) : Bool :=
  let m := s.laneSite n k
  decide (m < 9) && (s.lane n m).task.isNone && !s.isPermanent 1 (16 * n + m)

/-- Lowest-numbered free logical lane in the task's AFFINITY, other than lane site `avoid` unless it is the sole one
(R266, R280). -/
def State.pickLane (s : State) (n t : Nat) (avoid : Option Nat) : Option Nat :=
  let ok (k : Nat) : Bool := bit (s.fld fTASK_AFFINITY n t) k && s.laneFree n k
  match (List.range 8).find? (fun k => ok k && some (s.laneSite n k) != avoid) with
  | some k => some (s.laneSite n k)
  | none => ((List.range 8).find? ok).map (fun k => s.laneSite n k)

/-- The first task in queue order, by priority, that a free lane may run (R264). -/
def State.pickTask (s : State) (n : Nat) : Option (Nat × Nat) :=
  let x := s.pumpSt n
  [7, 6, 5, 4, 3, 2, 1, 0].findSome? (fun p =>
    (nget [] x.queues p).findSome? (fun t => (s.pickLane n t (s.rt n t).retry).map (fun m => (t, m))))

/-- The address registers that the task's valid references set (R257); a later reference wins. -/
def State.dispatchRegs (s : State) (n t j : Nat) (x : Lane) : Lane :=
  let one (isIn : Bool) (x : Lane) (f : Fd) : Lane :=
    let w := s.fld f n t
    match refBuf w with
    | none => x
    | some b =>
      let r := w / 2 ^ 12 % 8
      let len := s.fld fBUF_LEN n b
      let base := s.fld fBUF_BASE n b
      let sl := if isIn then s.inSlot n b j else s.outSlot n b j
      let a := if s.bKind n b = 0 || s.bSlots n b = 0 then base else (base + sl * len) % 32768
      { x with a := nset 0 x.a r a, b := nset 0 x.b r a, l := nset 0 x.l r (min len 32768) }
  let x := refIn.foldl (one true) x
  refOut.foldl (one false) x

/-- Flags, lane registers and counts as a dispatch sets them (R192, R217, R267). -/
def State.dispatchOn (s : State) (n t m : Nat) : State :=
  let j := (s.rt n t).blk
  let s := s.dequeue n t
  let s := s.put fTASK_FLAGS (s.fld fTASK_FLAGS n t &&& (2 ^ 32 - 1 - s.fld fTASK_MASK n t)) n t
  let x := s.dispatchRegs n t j (Lane.fresh t (s.fld fTASK_ENTRY n t) (s.tim.cnt + 12))
  let s := s.setLane n m x
  let s := ((s.put fCLUn_LARITHm_AOV 0 n m).put fCLUn_LARITHm_ASAT 0 n m).put fCLUn_LARITHm_RSAT 0 n m
  let s := ((s.put fCLUn_LARITHm_RES_ERR 0 n m).put fCLUn_LARITHm_CL 0 n m).put fCLUn_LARITHm_RES 0 n m
  let s := (s.put fCLUn_LARITHm_TASK t n m).put fCLUn_LACNTm_TASK8 (t / 256) n m
  let s := (s.put fCLUn_LSTATm_STATE 1 n m).put fCLUn_LSTATm_CAUSE 0 n m
  let s := (s.put fCLUn_LSTATm_RRB 0 n m).put fCLUn_LSTATm_PC (s.fld fTASK_ENTRY n t) n m
  let s := { s with clk := { s.clk with laneGated := nset false s.clk.laneGated (laneKey n m) false } }
  let s := s.setTState n t 4
  let r := s.rt n t
  (s.setRt n t { r with lane := m, retry := none }).incSat fSTAT_DISPATCHES n t

/-! ### Freeing a lane, substitutes and misses -/

/-- The lane is free again; its registers stay readable (R192, R249). -/
def State.freeLane (s : State) (n m st : Nat) : State :=
  (s.setLane n m {}).put fCLUn_LSTATm_STATE st n m

/-- The substitute of R276 in slot `sl` of output `b`, or zero words when the task stands in (R277). -/
def State.substitute (s : State) (n t b sl : Nat) (zero : Bool) : State :=
  let len := s.fld fBUF_LEN n b
  let k := s.bSlots n b
  if !zero && s.flag fTASK_SUBST n t then
    (if k ≤ 1 then s
     else
      let p := (sl + k - 1) % k
      forN len (fun i s => s.wrMem (s.slotAddr n b sl i) 4 (s.rdMem (s.slotAddr n b p i) 4)) s)
  else forN len (fun i s => s.wrMem (s.slotAddr n b sl i) 4 0) s

/-- Entries placed in a post queue. -/
def State.queuePosts (s : State) (n : Nat) (l : List PostItem) : State :=
  if l.isEmpty then s else let x := s.pumpSt n; s.setPumpSt n { x with postq := x.postq ++ l }

/-- Every output slot of block `j` with credit receives its substitute and is posted (R275 steps 2 and 3). -/
def State.standIn (s : State) (n t j : Nat) (zero : Bool) : State :=
  forL ((s.bufsOf refOut n t).filter (fun b => s.bKind n b = 1 || s.bKind n b = 2)) (fun b s =>
    if !s.outCredit n b j then s
    else
      let s := if s.bSlots n b = 0 then s else s.substitute n t b (s.outSlot n b j) zero
      let items := s.outItems n b j
      (s.outPend n b j).queuePosts n items) s

/-- The FLAGS bits in MASK are cleared (R260). -/
def State.clearFlags (s : State) (n t : Nat) : State :=
  s.put fTASK_FLAGS (s.fld fTASK_FLAGS n t &&& (2 ^ 32 - 1 - s.fld fTASK_MASK n t)) n t

/-- The miss counter of a reason. -/
def missFd (reason : Nat) : Fd :=
  if reason = 0 then fPUMPn_MISS_MISS_WAIT else if reason = 1 then fPUMPn_MISS_MISS_CREDIT
  else if reason = 2 then fPUMPn_MISS_MISS_RUN else fPUMPn_MISS_MISS_ERROR

/-- A miss with reason 0 WAIT, 1 CREDIT, 2 RUN or 3 ERROR, handled in the steps of R275; `st` is the state after it. -/
def State.missTask (s : State) (n t j reason st : Nat) : State :=
  let r := s.rt n t
  let waits := s.tState n t = 2
  let s := if s.tState n t = 4 then s.freeLane n r.lane 0 else s
  let s := (s.dequeue n t).standIn n t j false
  let s := if waits then s.releaseArrived n t j else s.releaseInputs n t j
  let s := (s.clearFlags n t).setTState n t st
  let s := (s.incSat (missFd reason) n).incSat fSTAT_MISSES n t
  let s := s.put fSTAT_LAST_REASON reason n t
  let s := if r.good then s.raise 80 [a8 n, a16 t, a8 reason, a32 j] else s
  s.setRt n t { (s.rt n t) with good := false, done := some j, retry := none, held := [] }

/-- Words of the task's RETAIN buffers (R279). -/
def State.retainBufs (s : State) (n t : Nat) : List Nat :=
  (s.bufsOf (refIn ++ refOut) n t).filter (fun b => s.bKind n b = 0 && s.flag fBUF_RETAIN n b)

/-- RETAIN buffers copied to (`true`) or from their SHADOW (R279, R280). -/
def State.copyRetain (s : State) (n t : Nat) (save : Bool) : State :=
  forL (s.retainBufs n t) (fun b s =>
    let y := s.flag fBUF_MEM n b
    forN (s.fld fBUF_LEN n b) (fun i s =>
      let live := xyAddr n y (s.fld fBUF_BASE n b + i)
      let shad := xyAddr n y (s.fld fBUF_SHADOW n b + i)
      if save then s.wrMem shad 4 (s.rdMem live 4) else s.wrMem live 4 (s.rdMem shad 4)) s) s

/-- Cycles to restore the task's RETAIN buffers, one word per core cycle (R280). -/
def State.restoreTime (s : State) (n t : Nat) : Nat := (s.retainBufs n t).foldl (fun k b => k + s.fld fBUF_LEN n b) 0

/-- A lane error of the task allows a retry (R280). -/
def State.retryAllowed (s : State) (n t : Nat) : Bool :=
  let r := s.rt n t
  let last := s.fld fSTAT_LAST_RUN n t
  let left := s.boundaryAt r.blk + s.deadline n t - s.tim.cnt
  r.errBlk != some r.blk && (last = 0 || decide (s.restoreTime n t + 16 + last ≤ left))

/-- A lane stops the task as R210 says: older stores are performed, and each store of the failing bundle may have been
(log entry 23). The lane is free with STATE 5 and the given CAUSE. -/
def State.stopLane (s : State) (n m cause : Nat) : State :=
  let x := s.lane n m
  let own := x.stores.filter (fun q => q.w = 0)
  let s := s.flushStores n m (x.tE + 100)
  let s := forL own (fun q s =>
    let v := s.takeFree 1
    if v.1 = 1 then v.2.doStore n m x.start { q with w := x.tE + 2 } else v.2) s
  let s := if x.logging then s.endShadow n else s
  (s.freeLane n m 5).put fCLUn_LSTATm_CAUSE cause n m

/-- A lane error on the task: a retry when R280 allows one, else a miss with reason ERROR at once (R262, R275). -/
def State.taskError (s : State) (n t m : Nat) (mayRetry : Bool) : State :=
  let r := s.rt n t
  if mayRetry && s.retryAllowed n t then s.setRt n t { r with errBlk := some r.blk, retry := some m }
  else s.missTask n t r.blk 3 (if r.cancel then 6 else 2)

/-- RESIDUE_MISMATCH (R210, R211, R214): RES_ERR, the stop, event 73, and the lane error. An injected error is not
counted toward retirement. On a lane that shadows, the error is reported against the spare site and touches no task
(R213, R571). -/
def State.residueError (s : State) (n m : Nat) (injected : Bool) : State :=
  let x := s.lane n m
  let s := (s.put fCLUn_LARITHm_RES_ERR 1 n m).incSat fCLUn_LACNTm_RES_COUNT n m
  let s := s.stopLane n m 1
  let s := s.raise 73 []
  if x.shadow.isSome then s
  else
    let s := match x.task with | some t => s.taskError n t m true | none => s
    if injected then s else s.healthError 1 (laneKey n m) 2

/-- LANE_ILLEGAL (R249): the stop, event 74, and a program fault: the task is FAULTED after a miss with reason ERROR. -/
def State.laneIllegal (s : State) (n m cause : Nat) : State :=
  let x := s.lane n m
  let t := x.task.getD 0
  let s := s.put fCLUn_LSTATm_PC x.pc n m
  let s := s.stopLane n m cause
  if x.shadow.isSome then s
  else
    let s := s.raise 74 [a8 n, a8 m, a16 t, a16 x.pc, a8 cause]
    s.missTask n t (s.rt n t).blk 3 7

/-- An uncorrectable read by a lane slot or fetch (R382): event 89 and UNCORR, and the lane stops the task; a fetch error
is not retried in that block. -/
def State.laneEcc (s : State) (n m a : Nat) (fetch : Bool) : State :=
  let x := s.lane n m
  let s := s.eccRead a .uncorrectable
  let s := s.stopLane n m 0
  if x.shadow.isSome then s
  else match x.task with | some t => s.taskError n t m (!fetch) | none => s

end Sys2Proof.Machine
end

