-- ==== Sys2Proof/Machine/Tasks.lean ====
section
/-! DEFINITION. The Pump's commands (spec 08): readiness, dispatch, completion, posts, transfers, deadlines, retries, and
the five Pump commands of the host. -/

namespace Sys2Proof.Machine

open Sys2Proof

/-- The Pump of site `n` runs: clocked, and no Cluster Reset holds it (R59, R99). -/
def State.pumpRuns (s : State) (n : Nat) : Bool :=
  s.live && decide (n < 36) && s.siteClocked n && !bit s.sys.cluReset n

/-- The conditions of R260 for block `j`. -/
def State.readyNow (s : State) (n t j : Nat) : Bool :=
  let f := s.fld fTASK_FLAGS n t
  let k := s.fld fTASK_MASK n t
  s.tState n t = 2 && (f &&& k) = k && !(s.rt n t).copying && (s.bufsOf refOut n t).all (fun b => s.outCredit n b j)

/-- TASK_READY (R260, R262, R281): to READY and its queue; with QUIESCE = 1 the task is skipped. -/
def execTaskReady (site slot : Nat) (s : State) : Host.Outcome State Fault Refusal :=
  .next (s.when (s.pumpRuns site && decide (slot < 512) && s.tim.blkIdx.isSome && s.readyNow site slot s.blkIndex) fun s =>
    let j := s.blkIndex
    if s.flag fTASK_QUIESCE site slot then
      let s := s.standIn site slot j true
      let s := (s.releaseInputs site slot j).clearFlags site slot
      let s := s.setRt site slot { (s.rt site slot) with done := some j }
      s.incSat fPUMPn_COUNT_SKIPS site
    else
      let s := s.setRt site slot { (s.rt site slot) with blk := j }
      (s.setTState site slot 3).enqueue site slot)

/-- TASK_DISPATCH (R264 to R267): arbitration selects the first task in queue order that a free lane may run; the lane
state is set and the first bundle enters F twelve cycles later. `ecc` is the outcome of the first line's fetch (R382). -/
def execTaskDispatch (site : Nat) (ecc : Ecc) (s : State) : Host.Outcome State Fault Refusal :=
  .next (s.when (s.pumpRuns site && (s.pickTask site).isSome) fun s =>
    match s.pickTask site with
    | none => s
    | some (t, m) =>
      let retry := (s.rt site t).retry.isSome
      let s := s.dispatchOn site t m
      let s := if retry then ((s.incSat fPUMPn_COUNT_RETRIES site).incSat fSTAT_RETRIES site t) else s
      let a := progAddr site (s.fld fTASK_ENTRY site t)
      match s.eccOf a ecc with
      | .uncorrectable => s.laneEcc site m a true
      | e => s.eccRead a e)

/-- The stores of a shadowed dispatch are kept for the comparison when its lane is freed (R589). -/
def State.keepShadowLog (s : State) (n m : Nat) : State :=
  if (s.lane n 8).shadow = some m then
    { s with hlth := { s.hlth with acLog := nset [] s.hlth.acLog n (s.lane n m).log } }
  else s

/-- A completion that has posted in full: ARMED, or CANCELLED when a CANCEL waits (R262, R263). -/
def State.finishTask (s : State) (n t : Nat) : State :=
  let r := s.rt n t
  let s := (s.keepShadowLog n r.lane).freeLane n r.lane 0
  let s := s.setTState n t (if r.cancel then 6 else 2)
  s.setRt n t { r with cancel := false, held := [] }

/-- TASK_COMPLETE (R268, R269, R194): the end bundle leaves W. PEND is set, posts and write-backs enter the post queue,
inputs are released, and the lane is freed or holds. -/
def execTaskComplete (site slot : Nat) (s : State) : Host.Outcome State Fault Refusal :=
  let r0 := s.rt site slot
  .next (s.when (s.live && s.tState site slot = 4 && (s.lane site r0.lane).ended && (s.lane site r0.lane).task = some slot) fun s =>
    let n := site; let t := slot
    let r := s.rt n t
    let m := r.lane
    let x := s.lane n m
    let s := s.flushStores n m (x.eP + 100)
    let s := if s.flag fCLUn_LARITHm_AOV n m then s.incSat fCLUn_LACNTm_AOV_TASKS n m else s
    let s := if s.flag fCLUn_LARITHm_ASAT n m then s.incSat fCLUn_LACNTm_ASAT_TASKS n m else s
    let s := if s.flag fCLUn_LARITHm_RSAT n m then s.incSat fCLUn_LACNTm_RSAT_TASKS n m else s
    let outs := (s.bufsOf refOut n t).filter (fun b => s.bKind n b = 1 || s.bKind n b = 2)
    let items := outs.flatMap (fun b => s.outItems n b r.blk)
    let s := forL outs (fun b s => s.outPend n b r.blk) s
    let s := s.releaseInputs n t r.blk
    let run := x.eP + 2
    let s := s.put fSTAT_LAST_RUN run n t
    let s := s.put fSTAT_MAX_RUN (max (s.fld fSTAT_MAX_RUN n t) run) n t
    let s := s.setRt n t { r with good := true, done := some r.blk, copying := !(s.retainBufs n t).isEmpty }
    let room := 64 - (s.pumpSt n).postq.length
    let s := s.queuePosts n (items.take room)
    if items.length ≤ room then s.finishTask n t
    else
      let s := s.setRt n t { (s.rt n t) with held := items.drop room }
      let s := (s.setTState n t 5).incSat fPUMPn_COUNT_HOLDS n
      s.put fCLUn_LSTATm_STATE 4 n m)

/-- HELD_RELEASE (R269): the post queue takes the remaining entries. -/
def execHeldRelease (site slot : Nat) (s : State) : Host.Outcome State Fault Refusal :=
  .next (s.when (s.live && s.tState site slot = 5 &&
      decide ((s.rt site slot).held.length + (s.pumpSt site).postq.length ≤ 64)) fun s =>
    (s.queuePosts site (s.rt site slot).held).finishTask site slot)

/-- RETAIN_COPY_END (R279): the RETAIN buffers stand in their SHADOW and the task may become ready again. -/
def execRetainCopyEnd (site slot : Nat) (s : State) : Host.Outcome State Fault Refusal :=
  .next (s.when (s.live && (s.rt site slot).copying) fun s =>
    let s := s.copyRetain site slot true
    s.setRt site slot { (s.rt site slot) with copying := false })

/-- Words copied from the Cistern into X or Y memory, or back, with the bank touched. -/
def State.xferWords (s : State) (n b sl : Nat) (toCis : Bool) : State :=
  let x := s.cisSlot n b sl
  let s := s.touchBank (cisBank x)
  forN (s.fld fBUF_LEN n b) (fun i s =>
    let c := cisAddr (x + 4 * i)
    let l := s.slotAddr n b sl i
    if toCis then s.wrMem c 4 (s.rdMem l 4) else s.wrMem l 4 (s.rdMem c 4)) s

/-- FETCH_COMPLETE (R271): the window's words have landed, PEND is set to CONS, and the flags of its post list are set. An
uncorrectable read that repeats posts no flag (R396). -/
def execFetchComplete (site : Nat) (ecc : Ecc) (s : State) : Host.Outcome State Fault Refusal :=
  .next (s.when (s.live && (match (s.pumpSt site).xfers with | q :: _ => !q.writeBack | [] => false)) fun s =>
    let x := s.pumpSt site
    match x.xfers with
    | [] => s
    | q :: rest =>
      let s := s.setPumpSt site { x with xfers := rest }
      let sl := s.outSlot site q.buf q.blk
      let src := s.cisSlot site q.buf sl
      let bad := s.fld fBUF_LEN site q.buf != 0 && ((List.range (s.fld fBUF_LEN site q.buf)).any (fun i =>
        nget false s.memu.bad (eccWord (cisAddr (src + 4 * i)))) || ecc = .uncorrectable)
      if bad then s.eccRead (cisAddr src) .uncorrectable
      else
        let s := if s.fld fBUF_LEN site q.buf = 0 then s else (s.eccRead (cisAddr src) ecc).xferWords site q.buf sl false
        let s := if s.bSlots site q.buf = 0 then s else s.setPend site q.buf sl (s.fld fBUF_CONS site q.buf)
        forL (s.postList site q.buf q.blk) (fun p s => s.deliver site p) s)

/-- CREDIT_RETURN (R270): a credit return under way lowers the producer's PEND count of the slot. -/
def execCreditReturn (site buf slot : Nat) (s : State) : Host.Outcome State Fault Refusal :=
  .next (s.when (s.live && s.pump.credits.contains (site, buf, slot)) fun s =>
    let s := { s with pump := { s.pump with credits := s.pump.credits.erase (site, buf, slot) } }
    s.setPend site buf slot (s.pend site buf slot - 1))

/-- The deadline handling of a task for the block in force (R275, R277), unless it has been done: a task that has not
completed its run misses; a CANCELLED or FAULTED task stands in with zero words and counts no miss. -/
def State.deadlineOf (s : State) (site slot : Nat) : State :=
  let st := s.tState site slot
  let r := s.rt site slot
  let j := s.blkIndex
  s.when (r.done != some j) fun s =>
    if st = 6 || st = 7 then
      let s := s.standIn site slot j true
      s.setRt site slot { (s.rt site slot) with done := some j }
    else if st = 2 then
      let f := s.fld fTASK_FLAGS site slot
      let k := s.fld fTASK_MASK site slot
      let credit := (s.bufsOf refOut site slot).all (fun b => s.outCredit site b j)
      s.missTask site slot j (if (f &&& k) != k then 0 else if credit then 2 else 1) 2
    else if st = 3 then s.missTask site slot j 2 2
    else if st = 4 then
      if (s.lane site r.lane).ended && (s.lane site r.lane).task = some slot then s
      else if r.cancel then
        -- deadline and cancel: cancel wins, no miss is counted (R263)
        let s := (s.freeLane site r.lane 0).setTState site slot 6
        let s := s.standIn site slot j true
        let s := (s.releaseInputs site slot j).clearFlags site slot
        s.setRt site slot { (s.rt site slot) with cancel := false, retry := none, done := some j }
      else s.missTask site slot j (if r.retry.isSome then 3 else 2) 2
    else s

/-- TASK_DEADLINE (R275, R277): the deadline instant of a task. -/
def execTaskDeadline (site slot : Nat) (s : State) : Host.Outcome State Fault Refusal :=
  .next (s.when (s.live && decide (site < 36) && s.tim.blkIdx.isSome) fun s => s.deadlineOf site slot)

/-- TASK_RETRY (R280): the RETAIN buffers are restored, the task returns to the head of its queue and is dispatched on
another lane. -/
def execTaskRetry (site slot : Nat) (s : State) : Host.Outcome State Fault Refusal :=
  .next (s.when (s.pumpRuns site && s.tState site slot = 4 && (s.rt site slot).retry.isSome) fun s =>
    let av := (s.rt site slot).retry
    let s := (s.copyRetain site slot false).setTState site slot 3
    let s := (s.enqueueHead site slot).raise 81 []
    match s.pickLane site slot av with
    | some m =>
      let s := (s.incSat fPUMPn_COUNT_RETRIES site).incSat fSTAT_RETRIES site slot
      s.dispatchOn site slot m
    | none => s)

/-! ### Pump commands (R262, R282, R285) -/

/-- A command that does not apply sets CMD_ERR (R285). -/
def State.cmdErr (s : State) (n : Nat) : State := s.put fPUMPn_STATUS_CMD_ERR 1 n

/-- LOAD: EMPTY to IDLE, with the statistics record cleared. -/
def State.pumpLoad (s : State) (n t : Nat) : State :=
  if s.tState n t != 0 then s.cmdErr n
  else
    let s := ((s.put fSTAT_LAST_RUN 0 n t).put fSTAT_MAX_RUN 0 n t).put fSTAT_MISSES 0 n t
    let s := ((s.put fSTAT_DISPATCHES 0 n t).put fSTAT_RETRIES 0 n t).put fSTAT_LAST_REASON 0 n t
    (s.setRt n t {}).setTState n t 1

/-- ARM: the task is armed at the next boundary; a shed task only after the next graph load (R583). -/
def State.pumpArm (s : State) (n t : Nat) : State :=
  let st := s.tState n t
  if (st = 1 || st = 6 || st = 7) && !s.pump.shed.contains (taskKey n t) then
    s.setRt n t { (s.rt n t) with armDue := true }
  else s.cmdErr n

/-- The task is CANCELLED, by CANCEL or by shedding (R262, R583): input slots that have arrived are released (R277), and the
FLAGS bits and the READY state of a task that is ready are cleared (R263). -/
def State.cancelTask (s : State) (n t : Nat) : State :=
  let st := s.tState n t
  let j := s.blkIndex
  if st = 3 || s.readyNow n t j then
    (((s.dequeue n t).releaseInputs n t (if st = 3 then (s.rt n t).blk else j)).put fTASK_FLAGS 0 n t).setTState n t 6
  else if st = 2 then (if (s.rt n t).done = some j then s else s.releaseArrived n t j).setTState n t 6
  else if st = 4 || st = 5 then s.setRt n t { (s.rt n t) with cancel := true }
  else s

/-- CANCEL. -/
def State.pumpCancel (s : State) (n t : Nat) : State :=
  if decide (2 ≤ s.tState n t) && decide (s.tState n t ≤ 5) then s.cancelTask n t else s.cmdErr n

/-- UNLOAD: IDLE, CANCELLED or FAULTED to EMPTY. -/
def State.pumpUnload (s : State) (n t : Nat) : State :=
  let st := s.tState n t
  if st = 1 || st = 6 || st = 7 then (s.setRt n t {}).setTState n t 0 else s.cmdErr n

/-- FLAG: a flag bit is set; bit 31 is refused. -/
def State.pumpFlag (s : State) (n t b : Nat) : State :=
  if b = 31 then s.cmdErr n else s.put fTASK_FLAGS (putBit (s.fld fTASK_FLAGS n t) b true) n t

/-- One Pump command by its OP code (PUMPn_CMD); other codes are ignored. -/
def State.pumpCmd (s : State) (op n t b : Nat) : State :=
  if op = 1 then s.pumpLoad n t else if op = 2 then s.pumpArm n t else if op = 3 then s.pumpCancel n t
  else if op = 4 then s.pumpUnload n t else if op = 5 then s.pumpFlag n t b else s

/-! ### Frames to the partner and the ledger (R550, R555, R557) -/

/-- A lane of the Siphon is up, and the engine pairs (R533, R549). -/
def State.siphUp (s : State) : Bool :=
  s.flag fSIPH_CTRL_PAIR_EN && (s.flag fSIPH_STATUS_LANE0_UP || s.flag fSIPH_STATUS_LANE1_UP)

/-- Bytes padded to the next multiple of eight (R550, R555). -/
def pad8 (n : Nat) : Nat := (n + 7) / 8 * 8

/-- Bytes of a record's BODY; contents other than messages take the eight or sixteen bytes of their values (log entry 36). -/
def ledgerBytes (b : LedgerBody) : Nat :=
  match b with
  | .pop _ m => 12 + m.length
  | .exec _ _ a => 8 + a.length
  | .shed l _ => 8 + 4 * l.length
  | .sessionOpen .. => 56
  | .pump .. | .anchor .. | .regWrite .. | .sessionClose .. => 16
  | .press _ | .chime _ _ | .sessionReset | .clusterReset _ | .capture _ | .handover _ => 8

/-- Payload bytes of a frame (R551). -/
def frameBytes (b : FrameBody) : Nat :=
  match b with
  | .gone _ => 8
  | .marker _ => 24
  | .status => 0
  | .nak _ => 8
  | .hello _ => 24
  | .ledger l => l.foldl (fun n r => n + 16 + pad8 (ledgerBytes r.body)) 0
  | .digest .. => 24
  | .prep _ => 8
  | .epochEnd .. => 16
  | .epochAck .. => 8
  | .ingress _ _ _ w => pad8 (8 + 4 * w.length)
  | .snap _ _ d => pad8 (8 + d.length)

/-- The replay buffer of 512 KiB: the oldest frames leave when a new one does not fit (R552). -/
def trimReplay (room : Nat) (l : List (Nat × FrameBody)) : List (Nat × FrameBody) :=
  match l with
  | [] => []
  | f :: r => let n := frameBytes f.2 + 24
              if n ≤ room then f :: trimReplay (room - n) r else []

/-- A frame leaves for the partner while a lane is up: it takes the next SEQ and stays in the replay buffer until an ACK
covers it (R550, R552). -/
def State.sendFrame (s : State) (b : FrameBody) : State :=
  s.when s.siphUp fun s =>
    let p := s.pair
    let l := (trimReplay 524288 ((p.txSeq, b) :: p.replay.reverse)).reverse
    { s with pair := { p with txSeq := (p.txSeq + 1) % 2 ^ 32, replay := l, txAt := s.tim.cnt } }

/-- A ledger record with its APPLY. The Active unit sends it to its partner; it applies at its boundary on both (R557). -/
def State.stamp (s : State) (apply : Nat) (b : LedgerBody) : State :=
  let r : LedgerRec := { apply := apply, rseq := s.pair.rseq, body := b }
  let s : State := { s with pair := { s.pair with inputs := s.pair.inputs ++ [r], rseq := (s.pair.rseq + 1) % 2 ^ 32 } }
  if s.role = 2 then
    let s : State := { s with pair := { s.pair with ledgerSeq := s.pair.ledgerSeq ++ [(s.pair.txSeq, r.rseq)] } }
    s.sendFrame (.ledger [r])
  else s

/-- An input submitted: two blocks ahead on the Active unit (R557), at the next boundary on a unit that runs alone (R668). A
following unit leaves it to its partner (log entry 35). -/
def State.submit (s : State) (b : LedgerBody) : State :=
  if s.following then s else s.stamp (s.blkIndex + (if s.role = 2 then 2 else 1)) b

/-- A host's Pump command: a ledger input in a pair (R282), acting at once otherwise (R262). -/
def State.hostPump (s : State) (op n t b : Nat) : State :=
  s.when (s.live && decide (n < 36) && decide (t < 512) && s.siteClocked n) fun s =>
    if s.paired then s.submit (.pump op n t b) else s.pumpCmd op n t b

/-- PUMP_LOAD (R262). -/
def execPumpLoad (site slot : Nat) (s : State) : Host.Outcome State Fault Refusal := .next (s.hostPump 1 site slot 0)

/-- PUMP_ARM (R262): at the next block boundary. -/
def execPumpArm (site slot : Nat) (s : State) : Host.Outcome State Fault Refusal := .next (s.hostPump 2 site slot 0)

/-- PUMP_CANCEL (R262, R263). -/
def execPumpCancel (site slot : Nat) (s : State) : Host.Outcome State Fault Refusal := .next (s.hostPump 3 site slot 0)

/-- PUMP_UNLOAD (R262). -/
def execPumpUnload (site slot : Nat) (s : State) : Host.Outcome State Fault Refusal := .next (s.hostPump 4 site slot 0)

/-- PUMP_FLAG (R285). -/
def execPumpFlag (site slot : Nat) (flag : BitVec 5) (s : State) : Host.Outcome State Fault Refusal :=
  .next (s.hostPump 5 site slot flag.toNat)

/-- PUMP_TIMER (R259): timer `k` of a Pump sets its bit DELAY core cycles after a boundary; never bit 30 or 31. -/
def execPumpTimer (site k : Nat) (s : State) : Host.Outcome State Fault Refusal :=
  .next (s.when (s.pumpRuns site && decide (k < 4) && s.flag fPUMPn_TIMERk_EN site k && decide (s.fld fPUMPn_TIMERk_BIT site k ≤ 29)) fun s =>
    let t := s.fld fPUMPn_TIMERk_SLOT site k
    s.put fTASK_FLAGS (putBit (s.fld fTASK_FLAGS site t) (s.fld fPUMPn_TIMERk_BIT site k) true) site t)

/-- TICK in every armed task of site `n`, with the timers whose DELAY is 0 (R258, R259). -/
def State.tickSite (s : State) (n : Nat) : State :=
  let s := forN 512 (fun t s =>
    if armedLike (s.tState n t) then s.put fTASK_FLAGS (putBit (s.fld fTASK_FLAGS n t) 31 true) n t else s) s
  forN 4 (fun k s =>
    if s.flag fPUMPn_TIMERk_EN n k && s.fld fPUMPn_TIMERk_DELAY n k = 0 && decide (s.fld fPUMPn_TIMERk_BIT n k ≤ 29) then
      let t := s.fld fPUMPn_TIMERk_SLOT n k
      s.put fTASK_FLAGS (putBit (s.fld fTASK_FLAGS n t) (s.fld fPUMPn_TIMERk_BIT n k) true) n t
    else s) s

/-- ARM takes effect (R262): FLAGS is cleared and the task is ARMED. -/
def State.applyArm (s : State) (n t : Nat) : State :=
  let r := s.rt n t
  let st := s.tState n t
  if !r.armDue then s
  else
    let s := s.setRt n t { r with armDue := false }
    if st = 1 || st = 6 || st = 7 then (s.put fTASK_FLAGS 0 n t).setTState n t 2 else s

/-- TASK_DESCRIPTOR_WRITE (R252): a fabric write of descriptor word `word` is performed only while the task is EMPTY or
IDLE; STATE and FLAGS are ignored in every state. Otherwise the master receives an error response, which the fabric
commands report. -/
def State.writeTaskWord (s : State) (n t w v : Nat) : State :=
  if decide (1 < s.tState n t) then s
  else
    let fs := if w = 0 then [fTASK_ENTRY, fTASK_AFFINITY, fTASK_PRIO, fTASK_SURV, fTASK_SUBST, fTASK_QUIESCE, fTASK_DEADLINE]
      else if w = 1 then [fTASK_MASK]
      else if w = 2 then refIn else if w = 3 then refOut else []
    forL fs (fun f s => s.put f (if decide (2 ≤ w) then f.of v &&& 0xF7FF else f.of v) n t) s

end Sys2Proof.Machine
end

