-- ==== Sys2Proof/Machine/Cistern.lean ====
section
/-! DEFINITION. Cistern and Deep Cistern commands (spec 11), and the record of an ERROR response (R423, R444). -/

namespace Sys2Proof.Machine

open Sys2Proof

/-! ### ERROR responses (R423, R444) -/

/-- Target number of an address and its offset in the target; `none` decodes to no target (R415, R438, R676). -/
def State.decodeAddr (s : State) (a : Nat) : Option Nat :=
  let remap := s.flag fSYS_CTRL_REMAP
  if a < 0x100000 then (if remap then some 1 else if a < 0x40000 then some 0 else none)
  else if 0x08000000 ≤ a ∧ a < 0x08100000 then (if remap then (if a < 0x08040000 then some 0 else none) else some 1)
  else if 0x10000000 ≤ a ∧ a < 0x20000000 then some 2
  else if 0x20000000 ≤ a ∧ a < 0x22400000 then some (0x10 + (a - 0x20000000) / 0x100000)
  else if 0x40000000 ≤ a ∧ a < 0x42000000 then some (0x40 + (a - 0x40000000) / 0x80000)
  else if 0x44000000 ≤ a ∧ a < 0x46000000 then some (0x40 + (a - 0x44000000) / 0x80000)
  else if 0x48000000 ≤ a ∧ a < 0x4A000000 then some (0x40 + (a - 0x48000000) / 0x80000)
  else if 0x80000000 ≤ a ∧ a < 0x88000000 then some 3
  else if 0x100000000 ≤ a ∧ a < 0x300000000 then some 4
  else none

/-- An ERROR response is recorded: the first since VALID was cleared in FAB_ERR_LOG, each later one in OVERRUN, and event
93 at most once per millisecond per master (R423, R444). -/
def State.fabError (s : State) (master cause addr : Nat) : State :=
  let tgt := (s.decodeAddr addr).getD 0x7F
  let s := if s.flag fFAB_ERR_LOG_VALID then s.put fFAB_ERR_LOG_OVERRUN 1
    else
      let s := ((s.put fFAB_ERR_LOG_VALID 1).put fFAB_ERR_LOG_MASTER master).put fFAB_ERR_LOG_TARGET tgt
      (s.put fFAB_ERR_LOG_CAUSE cause).put fFAB_ERR_LOG_ADDR addr
  let last := nget 0 s.fab.lastErr master
  if last = 0 || decide (last + s.msCycles 1 ≤ s.tim.cnt + 1) then
    ({ s with fab := { s.fab with lastErr := nset 0 s.fab.lastErr master (s.tim.cnt + 1) } }).raise 93
      [a8 master, a8 tgt, a8 cause, a64 addr]
  else s

/-- DBG_EN as it acts: with BOOT = 0b101 it is always set (R418). -/
def State.dbgOn (s : State) : Bool := s.flag fFAB_CTRL_DBG_EN || s.fld fSYS_STRAP_BOOT = 5

/-! ### Banks -/

/-- The master reaches bank `k` through its owner port (R416). -/
def State.viaOwner (s : State) (master k : Nat) : Bool :=
  s.fld fCIS_BANKk_CTRL_OWNER k = master && !s.flag fCIS_BANKk_CTRL_PENDING k

/-- One byte-enabled 64-bit word: byte `i` from `new` where lane `i` is enabled. -/
def mergeBytes (lanes : Nat) (old new : Nat) : Nat :=
  (List.range 8).foldl (fun w i =>
    w + (if lanes.testBit i then new / 2 ^ (8 * i) % 256 else old / 2 ^ (8 * i) % 256) * 2 ^ (8 * i)) 0

/-- A read-modify-write of the Cistern word at byte offset `off` (R389 to R391): refused when the fabric port is closed,
collided when the owner writes the row in the same fabric cycle, not performed on an uncorrectable read. -/
def State.cisRmw (s : State) (master off : Nat) (lanes : Nat) (ownerWriting : Bool) (ecc : Ecc) (f : Nat → Nat) : State :=
  let x := off / 8 * 8
  let k := cisBank x
  let own := s.viaOwner master k
  if !own && !s.flag fCIS_BANKk_CTRL_FAB_WR k then s.fabError master 7 (cisAddr off)
  else
    let s := s.touchBank k
    if !own && ownerWriting then s.incSat fCIS_BANKk_ERR_COLLIDED k
    else
      match s.eccOf (cisAddr x) ecc with
      | .uncorrectable => (s.eccRead (cisAddr x) .uncorrectable).fabError master 8 (cisAddr off)
      | e =>
        let s := s.eccRead (cisAddr x) e
        let old := s.rdMem (cisAddr x) 8
        s.wrMem (cisAddr x) 8 (mergeBytes lanes old (f old))

/-- The master may reach the Cistern (R418); a debug master only while DBG_EN = 1. -/
def State.mayCistern (s : State) (master : Nat) : Bool :=
  decide (master < 36) || (decide (0x30 ≤ master) && decide (master ≤ 0x33)) ||
    [0x38, 0x39, 0x3A, 0x3E, 0x3F].contains master || (master = 0x3C && s.dbgOn)

/-- CISTERN_BIT_SET (R391): every bit that is 1 in the enabled bytes of the data is set. -/
def execCisternBitSet (master : Nat) (off : Nat) (lanes : BitVec 8) (data : BitVec 64) (ownerWriting : Bool) (ecc : Ecc) (s : State) :
    Host.Outcome State Fault Refusal :=
  .next (s.when (s.live && decide (off < 0x2000000)) fun s =>
    if !s.mayCistern master then s.fabError master 4 (0x44000000 + off)
    else s.cisRmw master off lanes.toNat ownerWriting ecc (fun old => old ||| data.toNat))

/-- CISTERN_BIT_CLEAR (R391): every such bit is cleared. -/
def execCisternBitClear (master : Nat) (off : Nat) (lanes : BitVec 8) (data : BitVec 64) (ownerWriting : Bool) (ecc : Ecc) (s : State) :
    Host.Outcome State Fault Refusal :=
  .next (s.when (s.live && decide (off < 0x2000000)) fun s =>
    if !s.mayCistern master then s.fabError master 4 (0x48000000 + off)
    else s.cisRmw master off lanes.toNat ownerWriting ecc (fun old => old &&& (2 ^ 64 - 1 - data.toNat)))

/-- An owner code of R392 that is not reserved. -/
def ownerCodeOk (c : Nat) : Bool := decide (c < 36) || [0x38, 0x39, 0x3A, 0x3E, 0x3F].contains c

/-- The masters from which a bank's control register accepts writes (R393). -/
def State.bankWriter (s : State) (master k : Nat) : Bool :=
  master = s.fld fCIS_BANKk_CTRL_OWNER k || master = 0x3A || (master = 0x39 && !s.hlth.cluCopy.isEmpty)

/-- Step 4 and 5 of a handover: OWNER takes the new code and event 90 is raised (R394). -/
def State.handoverDone (s : State) (k : Nat) : State :=
  let old := s.fld fCIS_BANKk_CTRL_OWNER k
  let new := s.fld fCIS_BANKk_CTRL_NEW_OWNER k
  let s := (s.put fCIS_BANKk_CTRL_OWNER new k).put fCIS_BANKk_CTRL_PENDING 0 k
  let s := { s with memu := { s.memu with handovers := s.memu.handovers.filter (fun h => h.bank != k) } }
  s.raise 90 [a16 k, a8 old, a8 new]

/-- A handover request (R393 to R395). -/
def State.handoverReq (s : State) (master k new : Nat) : State :=
  let bad := !s.bankWriter master k || !ownerCodeOk new || (decide (new < 36) && !s.siteClocked new)
    || s.flag fCIS_BANKk_CTRL_PENDING k
  if bad then s.put fCIS_BANKk_CTRL_HO_ERR 1 k
  else
    let s := s.put fCIS_BANKk_CTRL_NEW_OWNER new k
    if new = s.fld fCIS_BANKk_CTRL_OWNER k then s.handoverDone k
    else
      let h : Handover := { bank := k, newOwner := new, at' := s.tim.cnt }
      let s := s.put fCIS_BANKk_CTRL_PENDING 1 k
      { s with memu := { s.memu with handovers := s.memu.handovers ++ [h] } }

/-- BANK_HANDOVER_REQ (R393, R394 step 1, R395). -/
def execBankHandoverReq (master bank newOwner : Nat) (s : State) : Host.Outcome State Fault Refusal :=
  .next (s.when (s.live && decide (bank < 64)) fun s => s.handoverReq master bank newOwner)

/-- BANK_HANDOVER (R394 steps 2 to 5): the owner port is empty. -/
def execBankHandover (bank : Nat) (s : State) : Host.Outcome State Fault Refusal :=
  .next (s.when (s.live && decide (bank < 64) && s.flag fCIS_BANKk_CTRL_PENDING bank) fun s => s.handoverDone bank)

/-- The engine is in the Idle state (SYS_PWR_CTRL.STATE = 1). -/
def State.idle (s : State) : Bool := s.fld fSYS_PWR_CTRL_STATE = 1

/-- Banks that Idle holds in retention (R400). -/
def State.idleRetains (s : State) (k : Nat) : Bool := s.idle && ! [0x3A, 0x3E, 0x3F].contains (s.fld fCIS_BANKk_CTRL_OWNER k)

/-- BANK_RETENTION_ENTER (R400). -/
def execBankRetentionEnter (bank : Nat) (s : State) : Host.Outcome State Fault Refusal :=
  .next (s.when (s.live && decide (bank < 64) && (s.flag fCIS_BANKk_CTRL_RET bank || s.idleRetains bank)) fun s =>
    s.put fCIS_BANKk_CTRL_RETAINED 1 bank)

/-- BANK_WAKE (R401): the bank wakes for a held access, counted in WAKES. -/
def execBankWake (bank : Nat) (s : State) : Host.Outcome State Fault Refusal :=
  .next (s.when (s.live && decide (bank < 64) && s.flag fCIS_BANKk_CTRL_RETAINED bank) fun s => s.touchBank bank)

/-- ECC_WRITE_BACK (R381, R396): the corrected word has been written back. -/
def execEccWriteBack (addr : Nat) (s : State) : Host.Outcome State Fault Refusal :=
  .next (s.when (s.live && s.memu.writeBack.contains (eccWord addr)) fun s =>
    { s with memu := { s.memu with writeBack := s.memu.writeBack.erase (eccWord addr) } })

/-- PROGRAM_LINE_RESTORE (R382, R406): a line of sixteen bundles that reads as uncorrectable is rewritten from the graph
image. `ecc` is the outcome of reading the image from the Deep Cistern. -/
def execProgramLineRestore (site line : Nat) (ecc : Ecc) (s : State) : Host.Outcome State Fault Refusal :=
  let base := 16 * line
  .next (s.when (s.live && decide (site < 36) && decide (line < 512) && s.fld fDCIS_STATUS_STATE = 2 &&
      (List.range 16).any (fun i => nget false s.memu.bad (progAddr site (base + i)))) fun s =>
    if ecc = .uncorrectable then s.raise 89 []
    else forN 16 (fun i s => s.wrMem (progAddr site (base + i)) 8 (nget 0 s.pump.image (8192 * site + base + i))) s)

/-- SPARE_ROW_COPY (R397): the corrected contents of a retiring row stand in a spare row of its segment, due at the next
boundary. An uncorrectable row is copied with bad check bits. -/
def execSpareRowCopy (bankSite row : Nat) (ecc : Ecc) (s : State) : Host.Outcome State Fault Refusal :=
  let site := bankSite * 66560 + row
  .next (s.when (s.live && decide (bankSite < 68) && decide (row < 65536) &&
      s.hlth.due.any (fun r => r.kind = 3 && r.site = site) && !s.hlth.rowCopied.any (fun e => e.1 = site)) fun s =>
    match s.freeRow bankSite (rowSeg row) with
    | none => s
    | some sp =>
      let s := { s with hlth := { s.hlth with rowCopied := s.hlth.rowCopied ++ [(site, sp)] } }
      match s.bankOf bankSite with
      | some k => if ecc = .uncorrectable then
          { s with memu := { s.memu with bad := nset false s.memu.bad (cisAddr (k * 0x80000 + 8 * row)) true } } else s
      | none => s)

/-- SPARE_BANK_COPY_END (R398): the copy of logical bank `bank` has ended; it moves at the next boundary. -/
def execSpareBankCopyEnd (bank : Nat) (s : State) : Host.Outcome State Fault Refusal :=
  let site := s.fld fCIS_BANKk_CTRL_PHYS bank
  .next (s.when (s.live && decide (bank < 64) && s.hlth.bankCopy.any (fun c => c.old = site)) fun s =>
    { s with hlth := { s.hlth with bankCopy := s.hlth.bankCopy.map (fun c => if c.old = site then { c with ready := true } else c) } })

/-! ### Deep Cistern (R403 to R411) -/

/-- Die density in Gb (DCIS_CFG). -/
def dcisGb (d : Nat) : Nat := if d = 0 then 8 else if d = 1 then 12 else if d = 2 then 16 else if d = 3 then 24 else 32

/-- Installed capacity in units of 64 MiB: channels × ranks × density. -/
def State.dcisInstalled (s : State) : Nat :=
  (if s.fld fDCIS_CFG_CHANNELS = 3 then 2 else 1) * (s.fld fDCIS_CFG_RANKS + 1) * dcisGb (s.fld fDCIS_CFG_DENSITY) * 2

/-- DCIS STATE (R405, R411). -/
def State.dcisState (s : State) : Nat := s.fld fDCIS_STATUS_STATE

/-- Region of kind `kind`, as (base, size) in bytes from 0x1_0000_0000 (R406). -/
def State.region (s : State) (kind : Nat) : Option (Nat × Nat) :=
  ((List.range 8).find? (fun r => s.fld fDCIS_REGIONr_KIND r = kind && s.flag fDCIS_REGIONr_SIZE r)).map
    (fun r => (s.fld fDCIS_REGIONr_BASE r * 2 ^ 20, s.fld fDCIS_REGIONr_SIZE r * 2 ^ 20))

/-- REC_OK (R656). -/
def State.setRecOk (s : State) : State :=
  s.put fEVT_CTRL_REC_OK (if s.dcisState = 2 && (s.region 2).isSome then 1 else 0)

/-- RECORDER_LOST (R656): the queued records are discarded and event 7 is raised. -/
def State.recorderLost (s : State) : State :=
  ({ s with evt := { s.evt with recq := [] } }).raise 7 [a8 s.dcisState]

/-- The whole Deep Cistern fails (R411). -/
def State.dcisFail (s : State) (ch0 ch1 : Bool) : State :=
  let s := if ch0 then s.put fDCIS_STATUS_CH0_FAIL 1 else s
  let s := if ch1 then s.put fDCIS_STATUS_CH1_FAIL 1 else s
  if s.dcisState = 5 then s
  else
    let s := ((s.put fDCIS_STATUS_STATE 5).raise 92 []).setRecOk
    let s := forN 8 (fun r s => match s.fld fDCIS_REGIONr_KEEP r with
      | 0 => s
      | _ => s.zeroMem (dcisAddr (s.fld fDCIS_REGIONr_BASE r * 2 ^ 20))
          (dcisAddr ((s.fld fDCIS_REGIONr_BASE r + s.fld fDCIS_REGIONr_SIZE r) * 2 ^ 20))) s
    s.recorderLost

/-- DCIS_TRAINING_END (R405, R411): the channels in use are trained, or a channel is marked failed. -/
def execDcisTrainingEnd (ok0 ok1 : Bool) (s : State) : Host.Outcome State Fault Refusal :=
  .next (s.when (s.live && s.dcisState = 1) fun s =>
    let both := decide (s.fld fDCIS_CFG_CHANNELS = 3)
    if ok0 && (ok1 || !both) then s.put fDCIS_STATUS_STATE 4 else s.dcisFail (!ok0) (both && !ok1))

/-- DCIS_SELF_REFRESH_EXIT (R405). -/
def execDcisSelfRefreshExit (s : State) : Host.Outcome State Fault Refusal :=
  .next (s.when (s.up && s.dcisState = 3) fun s => s.put fDCIS_STATUS_STATE 4)

/-- DCIS_ZEROING_END (R405): every region without KEEP is zero with valid ECC, and the Deep Cistern is ready. -/
def execDcisZeroingEnd (s : State) : Host.Outcome State Fault Refusal :=
  .next (s.when (s.up && s.dcisState = 4) fun s =>
    let keep := (List.range 8).filterMap (fun r =>
      if s.flag fDCIS_REGIONr_KEEP r then
        some (s.fld fDCIS_REGIONr_BASE r * 2 ^ 20, (s.fld fDCIS_REGIONr_BASE r + s.fld fDCIS_REGIONr_SIZE r) * 2 ^ 20) else none)
    let kept (a : Nat) : Bool := decide (a < 0x100000000) || decide (0x300000000 ≤ a) ||
      keep.any (fun e => decide (dcisAddr e.1 ≤ a) && decide (a < dcisAddr e.2))
    let s := { s with mem := nkeep kept s.mem, memu := { s.memu with bad := nkeep kept s.memu.bad } }
    (s.put fDCIS_STATUS_STATE 2).setRecOk)

/-- Words per staging slot of stream `i`: LEN, with MARGIN on a read stream. -/
def State.strWords (s : State) (i : Nat) : Nat :=
  s.fld fDCIS_STR_LEN i + (if s.flag fDCIS_STR_DIR i then s.fld fDCIS_STR_MARGIN i else 0)

/-- Cistern address of word `k` of staging slot `sl` of stream `i` (R407). -/
def State.stageAddr (s : State) (i sl k : Nat) : Nat :=
  cisAddr (s.fld fDCIS_STR_CIS i * 512 + (sl * s.strWords i + k) * 4)

/-- Staging slots of a stream, at least one. -/
def State.strSlots (s : State) (i : Nat) : Nat := max 1 (s.fld fDCIS_STR_SLOTS i)

/-- Deep Cistern address of word `k` of the ring of write stream `w`. -/
def State.ringAddr (s : State) (w : Nat) (k : Int) : Nat :=
  dcisAddr (s.fld fDCIS_STR_RING_BASE w * 4096 + 4 * (k % (max 1 (s.fld fDCIS_STR_RING_LEN w) : Nat)).toNat)

/-- A move leaves the list of moves to do. -/
def State.moveDone (s : State) (i blk : Nat) : State :=
  { s with memu := { s.memu with moves := s.memu.moves.erase (i, blk) } }

/-- The first move still to do of stream `i`. -/
def State.firstMove (s : State) (i : Nat) : Option Nat := (s.memu.moves.find? (fun e => e.1 = i)).map Prod.snd

/-- The ring position moves past one block (R407). -/
def State.advancePos (s : State) (i : Nat) : State :=
  s.put fDCIS_STR_POS ((s.fld fDCIS_STR_POS i + s.fld fDCIS_STR_LEN i) % max 1 (s.fld fDCIS_STR_RING_LEN i)) i

/-- DCIS_WRITE_MOVE (R407, R411): during block j, slot (j − 1) mod SLOTS goes to the ring. -/
def execDcisWriteMove (stream : Nat) (s : State) : Host.Outcome State Fault Refusal :=
  .next (s.when (s.live && !s.flag fDCIS_STR_DIR stream && (s.firstMove stream).isSome &&
      (s.dcisState = 2 || s.dcisState = 5)) fun s =>
    match s.firstMove stream with
    | none => s
    | some j =>
      let sl := (j + s.strSlots stream - 1) % s.strSlots stream
      let s := s.moveDone stream j
      let s := if s.dcisState = 5 then s
        else forN (s.fld fDCIS_STR_LEN stream) (fun k s =>
          s.wrMem (s.ringAddr stream (s.fld fDCIS_STR_POS stream + k)) 4 (s.rdMem (s.stageAddr stream sl k) 4)) s
      s.advancePos stream)

/-- Ring position of the first sample of block `j + 1` of write stream `w`: POS names the next block to be written
(R407). -/
def State.nextBlockPos (s : State) (w j : Nat) : Int :=
  let undone := (s.memu.moves.filter (fun e => e.1 = w && decide (e.2 ≤ j))).length
  (s.fld fDCIS_STR_POS w : Int) + s.fld fDCIS_STR_LEN w * ((undone : Int) + 1)

/-- DCIS_READ_MOVE (R407, R404, R411): during block j, slot (j + 1) mod SLOTS is filled with LEN + MARGIN words from the
ring of the paired write stream, OFFSET samples behind. Words that read as uncorrectable are replaced by zero. -/
def execDcisReadMove (stream : Nat) (badWords : List Nat) (s : State) : Host.Outcome State Fault Refusal :=
  .next (s.when (s.live && s.flag fDCIS_STR_DIR stream && (s.firstMove stream).isSome &&
      (s.dcisState = 2 || s.dcisState = 5)) fun s =>
    match s.firstMove stream with
    | none => s
    | some j =>
      let sl := (j + 1) % s.strSlots stream
      let w := s.fld fDCIS_STR_PAIR stream
      let from' := s.nextBlockPos w j - s.fld fDCIS_STR_OFFSET stream
      let s := s.moveDone stream j
      forN (s.strWords stream) (fun k s =>
        let src := s.ringAddr w (from' + k)
        if s.dcisState = 5 then s.wrMem (s.stageAddr stream sl k) 4 0
        else if badWords.contains k || nget false s.memu.bad (eccWord src) then
          (s.wrMem (s.stageAddr stream sl k) 4 0).raise 89 []
        else s.wrMem (s.stageAddr stream sl k) 4 (s.rdMem src 4)) s)

/-- A move is abandoned (R410): a read slot is filled with zero words, the ring keeps its old words, LATE and event 91. -/
def State.lateMove (s : State) (i j : Nat) : State :=
  let s := s.moveDone i j
  let s := if s.flag fDCIS_STR_DIR i then
      forN (s.strWords i) (fun k s => s.wrMem (s.stageAddr i ((j + 1) % s.strSlots i) k) 4 0) s
    else s.advancePos i
  (s.incSat fDCIS_STATUS_LATE).raise 91 []

/-- DCIS_LATE (R410). -/
def execDcisLate (stream : Nat) (s : State) : Host.Outcome State Fault Refusal :=
  .next (s.when (s.live && (s.firstMove stream).isSome) fun s =>
    match s.firstMove stream with | none => s | some j => s.lateMove stream j)

/-- DCIS_FAILED (R411): a channel in use fails. -/
def execDcisFailed (channel : Nat) (s : State) : Host.Outcome State Fault Refusal :=
  .next (s.when (s.live && s.flag fDCIS_CFG_EN && s.dcisState != 0 &&
      (channel = 0 || (channel = 1 && s.fld fDCIS_CFG_CHANNELS = 3))) fun s => s.dcisFail (channel = 0) (channel = 1))

/-- Moves that the boundary `j` finds abandoned, and the moves of block `j` (R407, R410). -/
def State.boundaryMoves (s : State) (j : Nat) : State :=
  let late := s.memu.moves.filter (fun e => if s.flag fDCIS_STR_DIR e.1 then decide (e.2 < j) else decide (e.2 + 1 < j))
  let s := forL late (fun e s => s.lateMove e.1 e.2) s
  if s.dcisState != 2 && s.dcisState != 5 then s
  else
    let new := (List.range 1024).filter (fun i => s.flag fDCIS_STR_EN i)
    { s with memu := { s.memu with moves := s.memu.moves ++ new.map (fun i => (i, j)) } }

/-- TASK_DESCRIPTOR_WRITE (R252): performed only while the task is EMPTY or IDLE; otherwise the master receives ERROR of
cause WRITE_BLOCKED (R423). A slot in Cluster Reset answers TARGET_RESET, an unclocked one TARGET_OFF (R380, R437). -/
def execTaskDescriptorWrite (master site slot word : Nat) (value : BitVec 64) (s : State) : Host.Outcome State Fault Refusal :=
  let a := cluBase site + 0x50000 + 32 * slot + 8 * word
  .next (s.when (s.live && decide (site < 36) && decide (slot < 512) && decide (word < 4)) fun s =>
    if !(master = 0x39 || master = 0x3A || (master = 0x3C && s.dbgOn)) then s.fabError master 4 a
    else if bit s.sys.cluReset site then s.fabError master 6 a
    else if !s.siteClocked site then s.fabError master 5 a
    else if decide (1 < s.tState site slot) then s.fabError master 7 a
    else s.writeTaskWord site slot word value.toNat)

end Sys2Proof.Machine
end

