-- ==== Sys2Proof/Machine/Num.lean ====
section
/-! DEFINITION. The elementary functions that the spec's formulas name (sine, cosine, exponential, logarithm), as integers
in 2⁻¹²⁰, and the conversions built on them: gains, glide factors, crossfade gains (R181, R204, R329, R343). The series are
cut far below the rounding step of every use (log entry 12). -/

namespace Sys2Proof.Machine

/-- The fixed-point unit, 2¹²⁰. -/
def oneF : Int := 2 ^ 120

/-- Product of two fixed-point numbers. -/
def mulF (a b : Int) : Int := a * b / oneF

/-- π in fixed point, from fifty digits. -/
def piF : Int := 314159265358979323846264338327950288419716939937510 * oneF / 10 ^ 50

/-- ln 10 in fixed point, from fifty digits. -/
def ln10F : Int := 230258509299404568401799145468436420760110148862877 * oneF / 10 ^ 50

/-- ln 2 in fixed point, from fifty digits. -/
def ln2F : Int := 69314718055994530941723212145817656807550013436026 * oneF / 10 ^ 50

/-- Tail of the Taylor series whose term `n` is `t`, with ratio `x2 / (n + 1)(n + 2)` of alternating sign. -/
def trigTail (k n : Nat) (x2 t : Int) : Int :=
  match k with
  | 0 => 0
  | k + 1 => t + trigTail k (n + 2) x2 (-(mulF t x2) / (((n + 1) * (n + 2) : Nat) : Int))

/-- sin x for x in 0 to π/2. -/
def sinQ (x : Int) : Int := trigTail 24 1 (mulF x x) x

/-- cos x for x in 0 to π/2. -/
def cosQ (x : Int) : Int := trigTail 24 0 (mulF x x) oneF

/-- sin(π n ÷ (2 d)) for n from 0 to d. -/
def sinHalf (n d : Nat) : Int := if n = d then oneF else sinQ (piF * n / (2 * (max d 1) : Nat))

/-- cos(π n ÷ (2 d)) for n from 0 to d. -/
def cosHalf (n d : Nat) : Int := sinHalf (d - n) d

/-- cos(π n ÷ d) for n from 0 to d. -/
def cosPi (n d : Nat) : Int := if 2 * n ≤ d then cosHalf (2 * n) d else -(cosHalf (2 * (d - n)) d)

/-- Tail of the exponential series from term `n`. -/
def expTail (k n : Nat) (x t : Int) : Int :=
  match k with
  | 0 => 0
  | k + 1 => t + expTail k (n + 1) x (mulF t x / ((n + 1 : Nat) : Int))

/-- e^x in fixed point. -/
def expF (x : Int) : Int :=
  let k := x / ln2F
  let r := x - k * ln2F
  let e := expTail 40 0 r oneF
  if 0 ≤ k then e * 2 ^ k.toNat else e / 2 ^ (-k).toNat

/-- Tail of the series of 2·artanh: terms z, z³/3, z⁵/5, … -/
def artanhTail (k n : Nat) (z2 p : Int) : Int :=
  match k with
  | 0 => 0
  | k + 1 => p / (n : Int) + artanhTail k (n + 2) z2 (mulF p z2)

/-- ln(a ÷ b) in fixed point for positive a and b. -/
def lnF (a b : Nat) : Int :=
  let e : Int := (a.log2 : Int) - (b.log2 : Int)
  -- m = a·2⁻ᵉ / b lies between 1/2 and 2
  let n : Int := if 0 ≤ e then (a : Int) else (a : Int) * 2 ^ (-e).toNat
  let d : Int := if 0 ≤ e then (b : Int) * 2 ^ e.toNat else (b : Int)
  let z := (n - d) * oneF / (n + d)
  e * ln2F + 2 * artanhTail 45 1 (mulF z z) z

/-- Rounding of an integer quotient to the nearest integer, halves to the even neighbour. -/
def roundQ (a b : Int) : Int := divEven a b

/-- 10^(v ÷ 20,000) × `scale`, to the nearest integer: a level of `v` in 0.001 dB as a linear gain. -/
def levelMul (scale : Nat) (v : Int) : Int := roundQ (expF (v * ln10F / 20000) * scale) oneF

/-- 20,000 × log10(a ÷ b) to the nearest integer: a linear gain as a level in 0.001 dB. -/
def levelOf (a b : Nat) : Int := roundQ (lnF a b * 20000) ln10F

/-- Rounding under the RND of R195: convergent, or truncation toward −∞. -/
def rndShift (rnd : Bool) (v : Int) (k : Nat) : Int := if rnd then v / 2 ^ k else divEven v (2 ^ k)

/-- The factor r_k of block `k` of a glide of `n` blocks, in Q2.30 (R343). -/
def glideFactor (law n k : Nat) : Nat :=
  if n ≤ k then 2 ^ 30
  else if law = 0 then (roundQ (2 ^ 30) ((n - k + 1 : Nat) : Int)).toNat
  else
    let c0 := cosPi (k - 1) n
    let c1 := cosPi k n
    (roundQ ((c0 - c1) * 2 ^ 30) (oneF + c0)).toNat

/-- The equal-power gains of sample `k` of a crossfade of `n` samples, in Q2.30 (R329). -/
def fadeGains (k n : Nat) : Int × Int :=
  let p := min (k + 1) n
  (roundQ (cosHalf p n * 2 ^ 30) oneF, roundQ (sinHalf p n * 2 ^ 30) oneF)

/-- Internal sample to a wire word of `w` bits: rounded by the sink's RND, then saturated (R204). -/
def toWire (w : Nat) (rnd : Bool) (v : Int) : Int :=
  if w = 32 then satS 32 (v * 16) else if w = 24 then satS 24 (rndShift rnd v 4) else satS 16 (rndShift rnd v 12)

/-- Wire word of `w` bits to an internal sample (R204). -/
def ofWire (w : Nat) (n : Nat) : Int :=
  if w = 32 then divEven (sx 32 n) 16 else if w = 24 then sx 24 n * 16 else sx 16 n * 4096

/-- Internal sample to a Wellhead code (R511). -/
def toCode (compat rnd : Bool) (v : Int) : Int :=
  if compat then satS 18 (rndShift rnd v 10) else satS 24 (rndShift rnd v 4)

/-- Wellhead code to an internal sample (R511). -/
def ofCode (compat : Bool) (c : Int) : Int := if compat then c * 1024 else c * 16

/-- T[k] of the quarter-wave table in Q2.30 (R524). -/
def sineTable (k : Nat) : Int := roundQ (sinHalf k 1024 * 2 ^ 30) oneF

end Sys2Proof.Machine
end

