-- ==== Sys2Proof/Machine/Objects.lean ====
section
/-! DEFINITION. The object dictionary (R605 to R614 and the object tables of every chapter): the table of objects, the
committed value of each, its encoding, what a written value becomes, and the configuration digest. -/

namespace Sys2Proof.Machine

open Sys2Proof

/-- The value types of R606; `none'` for an object without a value. -/
inductive PTy where
  | none' | bool | u8 | u16 | u32 | u64 | i16 | i32 | i64 | q31 | gain24 | f32 | time96 | time96f | string | blob
deriving DecidableEq, Repr

/-- The type code of R606. -/
def PTy.code (t : PTy) : Nat :=
  match t with
  | .none' => 0 | .bool => 1 | .u8 => 2 | .u16 => 3 | .u32 => 4 | .u64 => 5 | .i16 => 6 | .i32 => 7 | .i64 => 8 | .q31 => 9
  | .gain24 => 10 | .f32 => 11 | .time96 => 12 | .time96f => 13 | .string => 14 | .blob => 15

/-- Bytes of a value of the type; 0 for STRING and BLOB, whose length is in the value (R606). -/
def PTy.bytes (t : PTy) : Nat :=
  match t with
  | .none' => 0 | .bool | .u8 => 1 | .u16 | .i16 => 2 | .u32 | .i32 | .q31 | .f32 => 4 | .u64 | .i64 => 8 | .gain24 => 3
  | .time96 => 12 | .time96f => 16 | .string | .blob => 0

/-- The type of a type code. -/
def PTy.ofCode (n : Nat) : PTy :=
  ([.bool, .u8, .u16, .u32, .u64, .i16, .i32, .i64, .q31, .gain24, .f32, .time96, .time96f, .string, .blob] : List PTy).getD (n - 1) .none'

/-- The access rights of R607. -/
inductive OAcc where
  | ro | rw | wo | stg | exe
deriving DecidableEq, Repr

/-- The access code of DESCRIBE (R620). -/
def OAcc.code (a : OAcc) : Nat := match a with | .ro => 0 | .rw => 1 | .wo => 2 | .stg => 3 | .exe => 4

/-- Where an object's value lives: in the dictionary, in a register field, in a register word, or computed on a read. -/
inductive OSrc where
  | own
  | fld (r : Reg) (f : Fd)
  | reg (r : Reg)
  | calc
deriving DecidableEq, Repr

/-- One run of objects: index range, sub-index range, type, array length (0: no array), access, read and write role
(0 Observer to 3 Service), class (R340: 0 none, 1 gain, 2 filter, 3 route, 4 delay, 5 direct), source, whether the element
number selects the register's first index, and the default. -/
structure ObjRow where
  i0 : Nat
  i1 : Nat
  s0 : Nat
  s1 : Nat
  ty : PTy
  len : Nat
  acc : OAcc
  rr : Nat
  wr : Nat
  cls : Nat
  src : OSrc
  byElem : Bool
  dflt : PVal
deriving DecidableEq, Repr

/-- A read-only object that is computed. -/
def objRo (i0 i1 s : Nat) (ty : PTy) (len : Nat) : ObjRow :=
  ⟨i0, i1, s, s, ty, len, .ro, 0, 0, 0, .calc, false, .num 0⟩

/-- A read-only mirror of a register. -/
def objRegRo (i0 i1 s : Nat) (ty : PTy) (len : Nat) (r : Reg) (byElem : Bool) : ObjRow :=
  ⟨i0, i1, s, s, ty, len, .ro, 0, 0, 0, .reg r, byElem, .num 0⟩

/-- A read/write mirror of a register with its write role. -/
def objRegRw (i0 i1 s : Nat) (ty : PTy) (len : Nat) (r : Reg) (byElem : Bool) (wr : Nat) : ObjRow :=
  ⟨i0, i1, s, s, ty, len, .rw, 0, wr, 0, .reg r, byElem, .num 0⟩

/-- A mirror of one register field. -/
def objFld (i0 i1 s : Nat) (ty : PTy) (acc : OAcc) (r : Reg) (f : Fd) : ObjRow :=
  ⟨i0, i1, s, s, ty, 0, acc, 0, 2, 0, .fld r f, false, .num 0⟩

/-- An object of the dictionary itself. -/
def objOwn (i : Nat) (s : Nat) (ty : PTy) (len : Nat) (acc : OAcc) (rr wr cls : Nat) (d : PVal) : ObjRow :=
  ⟨i, i, s, s, ty, len, acc, rr, wr, cls, .own, false, d⟩

/-- An EXE object with its argument type and role. -/
def objExe (i0 i1 s : Nat) (arg : PTy) (wr : Nat) : ObjRow := ⟨i0, i1, s, s, arg, 0, .exe, 0, wr, 0, .calc, false, .num 0⟩

/-- The unsigned type that holds a field of `w` bits (log entry 30). -/
def PTy.ofWidth (w : Nat) : PTy := if w = 1 then .bool else if w ≤ 8 then .u8 else if w ≤ 16 then .u16 else if w ≤ 32 then .u32 else .u64

/-- One sub-index for each field of the registers, in the order of their tables (R136, R176). -/
def objFields (i : Nat) (l : List (Reg × Fd)) : List ObjRow :=
  l.mapIdx (fun k e => objFld i i (k + 1) (PTy.ofWidth e.2.width) .rw e.1 e.2)

/-- The bytes of an ASCII text. -/
def ascii (t : List Char) : List Byte := t.map (fun c => BitVec.ofNat 8 c.toNat)

/-- Identity, sessions, roster and peers (R612, R613, R638, R639). -/
def objRowsCore : List ObjRow :=
  [ objRo 0x0001 0x0001 1 .string 0, objRo 0x0001 0x0001 2 .string 0, objRo 0x0001 0x0001 3 .string 0
  , objRo 0x0001 0x0001 4 .u16 0, objRo 0x0001 0x0001 5 .u32 0, objRo 0x0001 0x0001 6 .string 0
  , objRo 0x0001 0x0001 7 .u64 0, objRo 0x0001 0x0001 0x10 .u64 0, objRo 0x0001 0x0001 0x20 .blob 0
  , objOwn 0x1000 1 .u32 0 .rw 0 3 0 (.num 0), objOwn 0x1000 2 .u16 0 .rw 0 2 0 (.num 5120)
  , objOwn 0x1000 3 .u16 0 .rw 0 2 0 (.num 60), objRo 0x1000 0x1000 4 .u8 0
  , { objRo 0x1000 0x1000 5 .blob 33 with rr := 2 }
  , objExe 0x1000 0x1000 0x10 .none' 1, objExe 0x1000 0x1000 0x11 .none' 2, objExe 0x1000 0x1000 0x12 .u64 3
  , ⟨0x1010, 0x1010, 1, 4, .blob, 0, .wo, 0, 3, 0, .own, false, .bytes (List.replicate 32 0)⟩
  , objRo 0x1010 0x1010 5 .u8 0, objOwn 0x1010 6 .u8 0 .rw 0 3 0 (.num 3)
  , objRo 0x1100 0x1100 1 .blob 256, objOwn 0x1100 2 .u16 0 .rw 0 2 0 (.num 600)
  , objOwn 0x1100 3 .blob 64 .rw 0 2 0 (.bytes (List.replicate 40 0))
  , objOwn 0x1200 1 .blob 16 .rw 0 3 0 (.bytes (List.replicate 40 0)) ]

/-- Rate, references and time (R31, R136, R176). -/
def objRowsTime : List ObjRow :=
  [ objRo 0x2000 0x2000 1 .u8 0, objRo 0x2000 0x2000 2 .u8 0, objRo 0x2000 0x2000 3 .u32 0
  , objFld 0x2100 0x2107 1 .bool .rw .REF_CANDn_CFG fREF_CANDn_CFG_EN
  , objFld 0x2100 0x2107 2 .u8 .rw .REF_CANDn_CFG fREF_CANDn_CFG_QUALITY
  , objFld 0x2100 0x2107 3 .u8 .rw .REF_CANDn_CFG fREF_CANDn_CFG_PRIORITY
  , objFld 0x2100 0x2107 4 .u8 .rw .REF_CANDn_CFG fREF_CANDn_CFG_ALIGN
  , objFld 0x2100 0x2107 5 .u32 .rw .REF_CANDn_FREQ fREF_CANDn_FREQ_FREQ
  , objFld 0x2100 0x2107 0x10 .u8 .ro .REF_CANDn_STATUS fREF_CANDn_STATUS_STATE
  , objFld 0x2100 0x2107 0x11 .i32 .ro .REF_CANDn_OFFSET fREF_CANDn_OFFSET_OFS_1S
  , objFld 0x2100 0x2107 0x12 .i32 .ro .REF_CANDn_OFFSET fREF_CANDn_OFFSET_OFS_64S
  , objRo 0x2100 0x2107 0x20 .i64 8 ]
  ++ objFields 0x2110 ((Reg.REF_CTRL.layout.map (fun f => (Reg.REF_CTRL, f))) ++
      (Reg.REF_LIMITS.layout.map (fun f => (Reg.REF_LIMITS, f))) ++ (Reg.REF_DRIFT.layout.map (fun f => (Reg.REF_DRIFT, f))))
  ++
  [ objRegRw 0x2120 0x2123 1 .u32 0 .REF_PULSEn_CTRL false 2, objRegRw 0x2120 0x2123 2 .i32 0 .REF_PULSEn_OFS false 2
  , objFld 0x2200 0x2201 1 .bool .rw .TIM_Dn_CFG fTIM_Dn_CFG_EN
  , objFld 0x2200 0x2201 2 .u8 .rw .TIM_Dn_CFG fTIM_Dn_CFG_DOMAIN
  , objFld 0x2200 0x2201 3 .u8 .rw .TIM_Dn_CFG fTIM_Dn_CFG_PORTS
  , objFld 0x2200 0x2201 4 (PTy.ofWidth fTIM_Dn_CFG_PROFILE.width) .rw .TIM_Dn_CFG fTIM_Dn_CFG_PROFILE
  , objFld 0x2200 0x2201 5 (PTy.ofWidth fTIM_Dn_CFG_BW.width) .rw .TIM_Dn_CFG fTIM_Dn_CFG_BW
  , objFld 0x2200 0x2201 0x10 .u8 .ro .TIM_Dn_STATUS fTIM_Dn_STATUS_STATE
  , objFld 0x2200 0x2201 0x11 .i32 .ro .TIM_Dn_OFFSET fTIM_Dn_OFFSET_OFFSET
  , objFld 0x2200 0x2201 0x12 .u64 .ro .TIM_Dn_GM fTIM_Dn_GM_VALUE
  , objRegRo 0x2200 0x2201 0x13 .u64 0 .TIM_Dn_JUMP false
  , objRo 0x2210 0x2210 1 .time96 0
  , objFld 0x2210 0x2210 2 .u8 .ro .TIM_MAP_STATUS fTIM_MAP_STATUS_SRC
  , objRegRo 0x2210 0x2210 3 .i64 0 .TIM_MAP_OFS false, objRegRo 0x2210 0x2210 4 .i64 0 .TIM_DIFF false
  , objRo 0x2210 0x2210 5 .blob 0
  , objFld 0x2220 0x2223 1 .i32 .rw .TIM_PORTn_ASYM fTIM_PORTn_ASYM_CORR
  , objFld 0x2220 0x2223 2 .i32 .ro .TIM_PORTn_ASYM fTIM_PORTn_ASYM_LEARNED ]
  ++ objFields 0x2230 (Reg.TIM_CTRL.layout.map (fun f => (Reg.TIM_CTRL, f)))

/-- Network, streams and discovery (R506). -/
def objRowsNet : List ObjRow :=
  [ objRegRw 0x3000 0x3003 1 .u32 0 .NET_PORTp_CFG false 2, objRegRo 0x3000 0x3003 0x10 .u32 0 .NET_PORTp_STATUS false
  , objRegRo 0x3000 0x3003 0x11 .u64 0 .NET_PORTp_COUNT false
  , objFld 0x3010 0x3011 1 .u32 .rw .NET_PLANEx_CFG fNET_PLANEx_CFG_IPV4
  , objFld 0x3010 0x3011 2 .u8 .rw .NET_PLANEx_CFG fNET_PLANEx_CFG_PREFIX
  , objRegRw 0x3010 0x3011 3 .u32 0 .NET_PLANEx_GW false 2
  , objFld 0x3010 0x3011 4 .u16 .rw .NET_PLANEx_CFG fNET_PLANEx_CFG_MEDIA_VID
  , objFld 0x3010 0x3011 5 .u16 .rw .NET_PLANEx_CFG fNET_PLANEx_CFG_MGMT_VID
  , objRegRo 0x3010 0x3011 6 .u64 0 .NET_PLANEx_MAC false
  , objRegRw 0x3020 0x3020 1 .u32 0 .NET_SW_CTRL false 2, objRegRw 0x3020 0x3020 2 .u32 0 .NET_QOS false 2
  , ⟨0x3100, 0x3100, 1, 1, .blob, 1024, .rw, 0, 2, 0, .calc, true, .bytes []⟩
  , objOwn 0x3100 2 .string 1024 .rw 0 2 0 (.bytes [])
  , objRegRo 0x3100 0x3100 0x10 .u32 1024 .STRM_RXs_STATUS true
  , objRegRo 0x3100 0x3100 0x11 .u64 1024 .STRM_RXs_COUNT true
  , objRegRo 0x3100 0x3100 0x12 .u64 1024 .STRM_RXs_PKTS true
  , ⟨0x3200, 0x3200, 1, 1, .blob, 1024, .rw, 0, 2, 0, .calc, true, .bytes []⟩
  , objRo 0x3200 0x3200 2 .string 1024, objRegRo 0x3200 0x3200 0x10 .u64 1024 .STRM_TXs_STATUS true
  , objOwn 0x3300 1 .bool 0 .rw 0 2 0 (.num 1), objOwn 0x3300 2 .bool 0 .rw 0 2 0 (.num 1)
  , objOwn 0x3300 3 .u16 0 .rw 0 2 0 (.num 30), objOwn 0x3300 4 .string 0 .rw 0 2 0 (.bytes [])
  , objRo 0x3300 0x3300 0x10 .string 1024 ]

/-- TDM ports, Wellhead and generators (R472, R530). -/
def objRowsPorts : List ObjRow :=
  [ objRegRw 0x4000 0x400F 1 .u64 0 .TDMn_CFG false 2, objRegRw 0x4000 0x400F 2 .u32 0 .TDMn_MASK_IN false 2
  , objRegRw 0x4000 0x400F 3 .u32 0 .TDMn_MASK_OUT false 2, objRegRo 0x4000 0x400F 0x10 .u32 0 .TDMn_STATUS false
  , objRegRo 0x4000 0x400F 0x11 .u64 0 .TDMn_EPOCH_IN false, objRegRo 0x4000 0x400F 0x12 .u64 0 .TDMn_EPOCH_OUT false
  , objRegRo 0x4000 0x400F 0x13 .u32 0 .TDMn_PHASE false
  , objExe 0x4010 0x4010 1 .u64 2, objExe 0x4010 0x4010 2 .u32 2
  , objRegRw 0x4100 0x4107 1 .u32 0 .WELLm_CFG false 2, objRegRo 0x4100 0x4107 2 .u32 0 .WELLm_STATUS false
  , ⟨0x4100, 0x4107, 3, 3, .u32, 0, .wo, 0, 1, 0, .reg .WELLm_CODE, false, .num 0⟩
  , objRegRw 0x4110 0x411F 1 .u64 0 .WELL_GENg_CFG false 2
  , ⟨0x4110, 0x411F, 2, 2, .gain24, 0, .stg, 0, 1, 1, .fld .WELL_GENg_CFG fWELL_GENg_CFG_AMP, false, .num 0⟩
  , objRegRw 0x4110 0x411F 3 .u64 4 .WELL_GENg_STEPk false 2 ]

/-- Defaults of strip parameters, which the spec does not state (log entry 31). -/
def stripDflt (s : Nat) : PVal :=
  if s = 0x01 || s = 0x30 then .num (2 ^ 22) else if s = 0x03 then .num 0x41200000
  else if 0x10 ≤ s && s < 0x20 then (if s % 4 = 1 then .num 0x41A00000 else if s % 4 = 3 then .num 0x3DCCCCCD else .num 0)
  else if s = 0x23 then .num 0x3F800000 else if s = 0x24 then .num 0x3DCCCCCD else if s = 0x25 then .num 0x40A00000
  else if s = 0x32 then .bytes [] else .num 0

/-- The strip parameters of one index (R614); `full` includes gate and compressor. -/
def stripRows (i len : Nat) (full : Bool) : List ObjRow :=
  let row (s : Nat) (ty : PTy) (cls : Nat) : ObjRow := objOwn i s ty len .stg 0 1 cls (stripDflt s)
  [ row 0x01 .gain24 1, row 0x02 .bool 1, row 0x03 .f32 2, row 0x04 .u8 2 ]
  ++ ([0, 1, 2, 3].flatMap (fun k => [row (0x10 + 4 * k) .u8 2, row (0x11 + 4 * k) .f32 2, row (0x12 + 4 * k) .gain24 2,
        row (0x13 + 4 * k) .f32 2]))
  ++ (if full then [ row 0x20 .gain24 5, row 0x21 .gain24 5, row 0x22 .gain24 5, row 0x23 .f32 5 ] else [])
  ++ (if full then [ row 0x24 .f32 5, row 0x25 .f32 5 ] else [])
  ++ [ row 0x30 .gain24 1, row 0x31 .bool 1, row 0x32 .string 5 ]

/-- Reset value of a router entry (R291). -/
def routeReset : Nat := 0xFFFF * 2 ^ 48 + 0x0A * 2 ^ 38 + 0x40000000

/-- Reset value of a detector configuration (R328). -/
def detReset : Nat := 2 ^ 30 + 0x5A * 2 ^ 20 + 0x64

/-- Graph, router, matrix, strips, feeds, detectors, Pumps, Vat and Press (R31, R286, R334, R374, R614). -/
def objRowsMix : List ObjRow :=
  [ objRo 0x5000 0x5000 1 .u8 0
  , objOwn 0x5100 1 .u64 4096 .stg 0 1 3 (.num routeReset), objOwn 0x5100 2 .u64 4096 .stg 0 1 3 (.num routeReset)
  , objOwn 0x5100 3 .u64 512 .stg 0 1 3 (.num routeReset), objOwn 0x5100 4 .u64 8 .stg 0 1 3 (.num routeReset)
  , objRo 0x5100 0x5100 0x11 .u8 4096, objRo 0x5100 0x5100 0x12 .u8 4096, objRo 0x5100 0x5100 0x13 .u8 512
  , objRo 0x5100 0x5100 0x14 .u8 8
  , objOwn 0x5200 1 .gain24 2097152 .stg 0 1 1 (.num 0), objOwn 0x5300 1 .u8 4096 .stg 0 1 4 (.num 0) ]
  ++ stripRows 0x5400 4096 true ++ stripRows 0x5480 512 false ++
  [ objOwn 0x5500 1 .gain24 512 .stg 0 1 1 (.num (2 ^ 22)), objOwn 0x5500 2 .u16 512 .stg 0 1 4 (.num 500)
  , objOwn 0x5500 3 .u16 512 .stg 0 1 5 (.num 50), objOwn 0x5500 4 .u32 512 .stg 0 1 4 (.num 0)
  , objRo 0x5500 0x5500 0x10 .i32 512 ]
  ++ stripRows 0x5580 512 false ++
  [ objOwn 0x5600 1 .u32 4096 .rw 0 2 0 (.num detReset), objOwn 0x5600 2 .u32 512 .rw 0 2 0 (.num detReset)
  , objOwn 0x5600 3 .u32 512 .rw 0 2 0 (.num detReset), objRo 0x5600 0x5600 0x11 .u8 4096
  , objRo 0x5600 0x5600 0x12 .u8 512, objRo 0x5600 0x5600 0x13 .u8 512
  , objRegRo 0x5E00 0x5E23 1 .u32 0 .PUMPn_STATUS false, objRegRo 0x5E00 0x5E23 2 .u64 0 .PUMPn_QSTAT false
  , objRegRo 0x5E00 0x5E23 3 .u64 0 .PUMPn_MISS false, objRegRo 0x5E00 0x5E23 4 .u64 0 .PUMPn_COUNT false
  , objRo 0x5E00 0x5E23 0x10 .blob 512, objExe 0x5E00 0x5E23 0x20 .u32 2
  , objRo 0x7000 0x7000 1 .u32 0, objRo 0x7000 0x7000 2 .u8 0, objRo 0x7000 0x7000 3 .u64 0, objRo 0x7000 0x7000 4 .u32 0
  , objRo 0x7000 0x7000 5 .blob 0, objExe 0x7000 0x7000 0x10 .blob 1, objExe 0x7000 0x7000 0x11 .none' 1
  , objExe 0x7000 0x7000 0x12 .none' 1, objExe 0x7000 0x7000 0x20 .blob 1
  , objOwn 0x7010 1 .u16 0 .rw 0 2 0 (.num 20), objOwn 0x7010 2 .u8 0 .rw 0 2 0 (.num 1)
  , objOwn 0x7010 3 .u8 0 .rw 0 2 0 (.num 10), objOwn 0x7010 4 .u8 0 .rw 0 2 0 (.num 0)
  , objOwn 0x7010 5 .u8 0 .rw 0 2 0 (.num 10), objRo 0x7020 0x7020 1 .u8 0 ]

/-- Pairing and health (R215, R412, R567, R603). -/
def objRowsHealth : List ObjRow :=
  [ objFld 0x8000 0x8000 1 .u8 .ro .SIPH_STATUS fSIPH_STATUS_ROLE, objRo 0x8000 0x8000 2 .u32 0
  , objRegRo 0x8000 0x8000 3 .u32 0 .SIPH_STATUS false, objRegRo 0x8000 0x8000 4 .u32 0 .SIPH_LINK false
  , objRegRo 0x8000 0x8000 5 .u64 0 .SIPH_COUNT false, objRegRo 0x8000 0x8000 6 .u64 0 .SIPH_SYNC false
  , objFld 0x8010 0x8010 1 .bool .rw .SIPH_CTRL fSIPH_CTRL_PAIR_EN
  , objFld 0x8010 0x8010 2 .bool .rw .SIPH_CTRL fSIPH_CTRL_AUTO_REJOIN
  , objFld 0x8010 0x8010 3 .u16 .rw .SIPH_CTRL fSIPH_CTRL_CONTEST_TMO
  , objFld 0x8010 0x8010 4 .u8 .rw .SIPH_CTRL fSIPH_CTRL_REJOIN_WAIT
  , objOwn 0x8010 5 .u32 0 .rw 0 2 0 (.num 0xFFFFFFFF)
  , objFld 0x8010 0x8010 6 .u8 .rw .SIPH_CTRL fSIPH_CTRL_WIT_PROBE
  , objExe 0x8010 0x8010 0x10 .none' 2, objExe 0x8010 0x8010 0x11 .u8 2
  , objOwn 0x8020 1 .u32 0 .rw 0 2 0 (.num 0), objOwn 0x8020 2 .u32 0 .rw 0 2 0 (.num 0), objExe 0x8030 0x8030 1 .u32 1
  , objRegRo 0x9000 0x9000 1 .u32 0 .HLTH_SPARES false, objRegRo 0x9000 0x9000 2 .u64 0 .HLTH_BRINE_STATUS false
  , objRo 0x9000 0x9000 3 .i32 41, objRegRw 0x9000 0x9000 0x10 .u32 0 .HLTH_CTRL false 2
  , objExe 0x9010 0x9010 1 .u8 3, objRo 0x9010 0x9010 2 .blob 0, objExe 0x9010 0x9010 3 .u64 3
  , objRegRo 0x9020 0x9043 1 .u64 9 .CLUn_LACNTm false, objRegRw 0x9020 0x9043 2 .u32 0 .CLUn_ARITH_MASK false 2
  , objExe 0x9020 0x9043 3 .u8 3
  , objRegRo 0x9050 0x9050 1 .u32 64 .CIS_BANKk_CTRL true, objRegRo 0x9050 0x9050 2 .u64 64 .CIS_BANKk_ERR true
  , objRegRo 0x9050 0x9050 3 .u64 36 .CLUn_MEM_STAT true, objRegRo 0x9050 0x9050 0x10 .u32 0 .DCIS_STATUS false
  , objRegRo 0x9050 0x9050 0x11 .u64 8 .DCIS_REGIONr true
  , objRegRo 0x9080 0x9080 1 .u64 36 .HLTH_LMAPn true, objRegRo 0x9080 0x9080 2 .u32 32 .HLTH_CMAPk true
  , objOwn 0x9100 1 .u64 512 .rw 0 2 0 (.num 0), objOwn 0x9100 2 .blob 512 .rw 0 2 0 (.bytes (List.replicate 16 0))
  , objRo 0x9100 0x9100 0x10 .blob 512, objExe 0x9100 0x9100 0x20 .u16 2
  , objOwn 0x9110 1 .i16 0 .rw 0 2 0 (.num (65536 - 5000)), objOwn 0x9110 2 .i16 0 .rw 0 2 0 (.num (65536 - 3000))
  , objOwn 0x9110 3 .u16 0 .rw 0 2 0 (.num 8), objOwn 0x9110 4 .u16 0 .rw 0 2 0 (.num 3)
  , objOwn 0x9110 5 .u16 0 .rw 0 2 0 (.num 30), objOwn 0x9110 6 .i16 0 .rw 0 2 0 (.num 1200)
  , objOwn 0x9110 7 .i16 0 .rw 0 2 0 (.num 1200), objOwn 0x9110 8 .i16 0 .rw 0 2 0 (.num (65536 - 3000))
  , objOwn 0x9110 9 .i16 0 .rw 0 2 0 (.num 200), objOwn 0x9110 10 .i16 0 .rw 0 2 0 (.num 15)
  , objOwn 0x9110 11 .u16 0 .rw 0 2 0 (.num 7200), objRo 0x9120 0x9120 1 .blob 0
  , objRegRo 0xF010 0xF010 1 .u64 0 .FAB_ERR_LOG false, objRegRo 0xF010 0xF010 2 .u32 128 .FAB_TGTt_CTRL true
  , { objFld 0xF010 0xF010 3 .bool .rw .FAB_CTRL fFAB_CTRL_DBG_EN with wr := 3 }
  , objRegRw 0xF020 0xF020 1 .u32 256 .EVT_CFGe true 2, objRegRw 0xF020 0xF020 2 .u32 8 .EVT_STATUSw true 1
  , objRegRw 0xF020 0xF020 3 .u32 0 .EVT_CTRL false 2, objRo 0xF020 0xF020 0x10 .blob (2 ^ 32)
  , objRo 0xF020 0xF020 0x11 .u32 0, objRo 0xF020 0xF020 0x12 .u32 0
  , objRo 0xF030 0xF030 1 .u64 0, objRo 0xF030 0xF030 2 .u16 0, objRo 0xF030 0xF030 3 .u32 0 ]

/-- Every object that a chapter defines, in rising order of index and sub-index within each list. -/
def objRows : List ObjRow := objRowsCore ++ objRowsTime ++ objRowsNet ++ objRowsPorts ++ objRowsMix ++ objRowsHealth

/-- The row of a parameter that a graph kernel declares (R614). -/
def paramRow (p : GParam) : ObjRow :=
  ⟨p.idx, p.idx, p.sub, p.sub, PTy.ofCode p.ty, p.len, .stg, 0, 1, p.cls, .own, false, p.dflt⟩

/-- The row that defines an index and sub-index, or `none` (R611). -/
def State.objRow (s : State) (idx sub : Nat) : Option ObjRow :=
  if 0x6100 ≤ idx && idx ≤ 0x6FFF then (s.route.params.find? (fun p => p.idx = idx && p.sub = sub)).map paramRow
  else objRows.find? (fun r => decide (r.i0 ≤ idx) && decide (idx ≤ r.i1) && decide (r.s0 ≤ sub) && decide (sub ≤ r.s1))

/-- Key of an element of an object: index, sub-index, element. -/
def objKey (idx sub elem : Nat) : Nat := idx * 2 ^ 40 + sub * 2 ^ 32 + elem % 2 ^ 32
/-- Index of an object key. -/
def okIdx (k : Nat) : Nat := k / 2 ^ 40
/-- Sub-index of an object key. -/
def okSub (k : Nat) : Nat := k / 2 ^ 32 % 2 ^ 8
/-- Element of an object key. -/
def okElem (k : Nat) : Nat := k % 2 ^ 32

/-- The default router entry of WELLm (R293). -/
def State.wellRouteDflt (s : State) (m : Nat) : Nat :=
  if s.flag fSYS_STRAP_SAFE_EN then
    let g := s.fld fSYS_STRAP_SAFE_GAIN
    let d := if g = 0 then 0x40000000 else if g = 1 then 0x20000000 else if g = 2 then 0x10000000 else 0x06666666
    (0x1000 + m) * 2 ^ 48 + 2 ^ 47 + 0x0A * 2 ^ 38 + d
  else routeReset

/-- The default of an element (R609): its row's default, or the default that depends on straps or registers. -/
def State.objDflt (s : State) (r : ObjRow) (idx elem : Nat) : PVal :=
  match r.src with
  | .fld _ f => .num (f.resetAt (if r.byElem then elem else idx - r.i0))
  | .reg g =>
    let i := if r.byElem then elem else idx - r.i0
    .num (g.layout.foldl (fun w f => w + f.resetAt i * 2 ^ f.lo) 0)
  | _ => if r.i0 = 0x5100 && r.s0 = 4 then .num (s.wellRouteDflt elem) else r.dflt

/-- The value of an element as the engine holds it, for objects that are not computed: a number, a gain in Q2.22, or
bytes. -/
def State.objVal (s : State) (r : ObjRow) (idx sub elem : Nat) : PVal :=
  let i := if r.byElem then elem else idx - r.i0
  let j := if r.byElem then 0 else elem
  match r.src with
  | .own => nget (s.objDflt r idx elem) s.objs (objKey idx sub elem)
  | .fld _ f => .num (s.fld f i j)
  | .reg g => .num (if g = .WELL_GENg_CFG then s.word g i j / 2 ^ 24 * 2 ^ 24 else s.word g i j)
  | .calc => r.dflt

/-- A numeric object of the dictionary. -/
def State.objNum (s : State) (idx sub elem : Nat) : Nat :=
  match s.objRow idx sub with
  | none => 0
  | some r => match s.objVal r idx sub elem with | .num n => n | .bytes _ => 0

/-- The bytes of a STRING or BLOB object. -/
def State.objBytes (s : State) (idx sub elem : Nat) : List Byte :=
  match s.objRow idx sub with
  | none => []
  | some r => match s.objVal r idx sub elem with | .num _ => [] | .bytes b => b

/-- An element of the dictionary written; its default removes the entry. -/
def State.setObj (s : State) (idx sub elem : Nat) (v : PVal) : State :=
  match s.objRow idx sub with
  | none => s
  | some r => { s with objs := nset (s.objDflt r idx elem) s.objs (objKey idx sub elem) v }

/-- The object holds a gain as a Q2.22 target (R298, R342): crosspoints, trims, faders and CEIL. -/
def isGain22 (r : ObjRow) : Bool := r.cls = 1 && r.ty = .gain24 && r.i0 != 0x4110

/-- A level in 0.001 dB as a GAIN24 pattern. -/
def gainPat (linear scale : Nat) : Nat := if linear = 0 then 0x800000 else unsx 24 (satS 24 (levelOf linear scale))

/-- The engine's value of an element converted to its POP type (R606). -/
def toPopVal (r : ObjRow) (v : PVal) : PVal :=
  match v with
  | .bytes b => .bytes b
  | .num n => if isGain22 r then .num (gainPat n (2 ^ 22)) else if r.i0 = 0x4110 && r.s0 = 2 then .num (gainPat n (2 ^ 23)) else .num n

/-- The POP encoding of a value (R606). -/
def encVal (ty : PTy) (v : PVal) : List Byte :=
  match v with
  | .bytes b => leBytes 2 b.length ++ b
  | .num n =>
    if ty = .time96 || ty = .time96f then
      leBytes 8 (n / 2 ^ 32) ++ leBytes 4 n ++ (if ty = .time96f then [0, 0, 0, 0] else [])
    else leBytes ty.bytes n

/-- One value decoded from the front of a byte list: the value and the rest, `none` when the bytes run out. -/
def decVal (ty : PTy) (b : List Byte) : Option (PVal × List Byte) :=
  if ty = .string || ty = .blob then
    let n := ofLeBytes (b.take 2)
    if b.length < 2 || b.length < 2 + n then none else some (.bytes ((b.drop 2).take n), b.drop (2 + n))
  else if b.length < ty.bytes then none
  else
    let v := b.take ty.bytes
    let n := if ty = .time96 || ty = .time96f then ofLeBytes (v.take 8) * 2 ^ 32 + ofLeBytes ((v.drop 8).take 4) else ofLeBytes v
    some (.num n, b.drop ty.bytes)

/-! ### What a written value becomes (R606, R610) -/

/-- A valid UTF-8 byte sequence; `k` continuation bytes are still due. -/
def utf8Ok (k : Nat) (b : List Byte) : Bool :=
  match b with
  | [] => k = 0
  | c :: r =>
    let n := c.toNat
    if k != 0 then decide (0x80 ≤ n) && decide (n < 0xC0) && utf8Ok (k - 1) r
    else if n < 0x80 then utf8Ok 0 r
    else
      let n2 := match r with | [] => 0 | d :: _ => d.toNat
      if 0xC2 ≤ n && n < 0xE0 then utf8Ok 1 r
      else if 0xE0 ≤ n && n < 0xF0 then (n != 0xE0 || decide (0xA0 ≤ n2)) && (n != 0xED || decide (n2 < 0xA0)) && utf8Ok 2 r
      else if 0xF0 ≤ n && n < 0xF5 then (n != 0xF0 || decide (0x90 ≤ n2)) && (n != 0xF4 || decide (n2 < 0x90)) && utf8Ok 3 r
      else false

/-- A binary32 pattern is a NaN or an infinity. -/
def f32Bad (n : Nat) : Bool := n / 2 ^ 23 % 2 ^ 8 = 255

/-- A finite binary32 pattern clamped to the range between two positive patterns. -/
def f32Clamp (lo hi n : Nat) : Nat := if n.testBit 31 then lo else clampN lo hi n

/-- A GAIN24 pattern clamped to the range `lo` to `hi` in 0.001 dB; −∞ is kept where `inf` allows it. -/
def gainClamp (inf : Bool) (lo hi : Int) (n : Nat) : Nat :=
  if n = 0x800000 then (if inf then 0x800000 else unsx 24 lo) else unsx 24 (clampI lo hi (sx 24 n))

/-- A GAIN24 pattern as a linear gain of the given scale, at most `top`. -/
def gainLin (scale top n : Nat) : Nat := if n = 0x800000 then 0 else min top (levelMul scale (sx 24 n)).toNat

/-- The strip parameters of R614: the value as held, or `none` when the write is refused with RANGE. -/
def stripAccept (sub : Nat) (v : PVal) : Option PVal :=
  match v with
  | .bytes b => if b.length ≤ 31 then some (.bytes b) else none
  | .num n =>
    if sub = 0x01 then
      some (.num (gainLin (2 ^ 22) (2 ^ 23 - 1) (gainClamp true (-60000) 6020 n)))
    else if sub = 0x30 then some (.num (gainLin (2 ^ 22) (2 ^ 23 - 1) (gainClamp true (-90000) 6020 n)))
    else if sub = 0x03 then some (.num (f32Clamp 0x41200000 0x447A0000 n))
    else if sub = 0x04 then (if n = 0 || n = 2 || n = 4 then some (.num n) else none)
    else if 0x10 ≤ sub && sub < 0x20 then
      (if sub % 4 = 0 then (if n ≤ 3 then some (.num n) else none)
       else if sub % 4 = 1 then some (.num (f32Clamp 0x41A00000 0x469C4000 n))
       else if sub % 4 = 2 then some (.num (gainClamp false (-24000) 24000 n))
       else some (.num (f32Clamp 0x3DCCCCCD 0x41800000 n)))
    else if sub = 0x20 || sub = 0x21 then some (.num (gainClamp false (-90000) 0 n))
    else if sub = 0x22 then some (.num (gainClamp false (-60000) 0 n))
    else if sub = 0x23 then some (.num (f32Clamp 0x3F800000 0x41A00000 n))
    else if sub = 0x24 then some (.num (f32Clamp 0x3DCCCCCD 0x42C80000 n))
    else if sub = 0x25 then some (.num (f32Clamp 0x40A00000 0x44FA0000 n))
    else some (.num n)

/-- A router entry as stored: XF of 1 becomes 2, above 50 becomes 50 (R291). -/
def routeStore (n : Nat) : Nat :=
  let x := bits n 44 38
  putBits n 44 38 (if x = 1 then 2 else min x 50)

/-- A detector configuration as stored (R328). -/
def detStore (n : Nat) : Nat :=
  let n := putBits n 26 20 (clampN 60 120 (bits n 26 20))
  let n := putBits n 12 0 (clampN 1 6000 (bits n 12 0))
  putBits n 19 13 0

/-- The value `n` lies within the range of field `f`, for a field whose description says that its register ignores others
(R610, log entry 100). -/
def fieldRange (f : Fd) (n : Nat) : Bool :=
  if f = fREF_CANDn_CFG_ALIGN || f = fTIM_Dn_CFG_PROFILE then decide (n < 2)
  else if f = fREF_CANDn_FREQ_FREQ then decide (n ≤ 1) || (decide (8000 ≤ n) && decide (n ≤ 100000000))
  else if f = fREF_PULSEn_CTRL_SOURCE then n != 7
  else if f = fTIM_Dn_CFG_DOMAIN then decide (n ≤ 127)
  else if f = fTIM_CTRL_TIME_SEL || f = fNET_PORTp_CFG_MODE || f = fSTRM_RXs_FMT || f = fSTRM_TXs_FMT then n != 3
  else if f = fNET_PLANEx_CFG_PREFIX then decide (n ≤ 32)
  else if f = fNET_PLANEx_CFG_MEDIA_VID || f = fNET_PLANEx_CFG_MGMT_VID then n != 4095
  else if f = fSTRM_RXs_PTIME || f = fSTRM_TXs_PTIME then decide (n ≤ 4)
  else if f = fSTRM_RXs_CHANS || f = fSTRM_TXs_CHANS then decide (n ≤ 64)
  else true

/-- The stored form of a written value of the dictionary's own objects, or `none` when it is refused with RANGE (R606,
R610 and the table of each object). Gains are converted to their lane format here (R181). -/
def State.objAccept (s : State) (r : ObjRow) (idx sub : Nat) (v : PVal) : Option PVal :=
  match v with
  | .bytes b =>
    if r.ty = .string && !utf8Ok 0 b then none
    else if idx = 0x1010 then (if b.length = 32 then some v else none)
    else if (idx = 0x1100 && sub = 3) || idx = 0x1200 then (if b.length = 40 then some v else none)
    else if idx = 0x9100 && sub = 2 then (if b.length = 16 then some v else none)
    else if idx = 0x3300 then (if b.length ≤ 63 then some v else none)
    else if idx = 0x3100 || idx = 0x3200 then (if r.ty = .string || b.length = 32 then some v else none)
    else if idx = 0x5400 || idx = 0x5480 || idx = 0x5580 then stripAccept sub v
    else some v
  | .num n =>
    if r.ty = .bool && decide (1 < n) then none
    else if r.ty = .f32 && f32Bad n then none
    else if idx = 0x5400 || idx = 0x5480 || idx = 0x5580 then stripAccept sub v
    else if idx = 0x5100 then some (.num (routeStore n))
    else if idx = 0x5200 then some (.num (gainLin (2 ^ 22) (2 ^ 23 - 1) n))
    else if idx = 0x5300 then (if n ≤ 96 then some v else none)
    else if idx = 0x5500 then
      (if sub = 1 then
        some (.num (gainLin (2 ^ 22) (2 ^ 23 - 1) (unsx 24 (divNear (sx 24 (gainClamp false (-24000) 0 n)) 10 * 10))))
       else if sub = 2 then some (.num (min n 2000))
       else if sub = 3 then some (.num (clampN 5 2000 n))
       else if n ≤ 4 * s.fs then some v else none)
    else if idx = 0x5600 then some (.num (detStore n))
    else if idx = 0x1000 then
      (if sub = 1 then (if n ≤ 262143 then some v else none) else if sub = 3 then some (.num (clampN 5 3600 n)) else some v)
    else if idx = 0x1010 then (if n ≤ 3 then some v else none)
    else if idx = 0x3300 && sub = 3 then (if 5 ≤ n && n ≤ 300 then some v else none)
    else if idx = 0x7010 then
      (if sub = 1 then some (.num (clampN 1 2000 n)) else if sub = 3 then some (.num (clampN 5 50 n))
       else if sub = 5 then some (.num (clampN 2 50 n)) else if n ≤ 1 then some v else none)
    else if r.i0 = 0x4110 && r.s0 = 3 then (if n / 2 ^ 32 ≤ 2 ^ 31 then some v else none)
    else if r.i0 = 0x4110 && r.s0 = 2 then some (.num (gainLin (2 ^ 23) (2 ^ 24 - 1) n))
    else if idx = 0x9100 then some (.num (putBits n 14 13 0))
    else if isGain22 r then some (.num (gainLin (2 ^ 22) (2 ^ 23 - 1) n))
    else some v

/-! ### The configuration digest (R559, R615) -/

/-- One byte through the reflected CRC-64 of R559; 0xC96C5795D7870F42 is the bit reversal of 0x42F0E1EBA9EA3693. -/
def crc64Byte (c : Nat) (b : Byte) : Nat :=
  forN 8 (fun _ c => if c % 2 = 1 then (c / 2) ^^^ 0xC96C5795D7870F42 else c / 2) (c ^^^ b.toNat)

/-- CRC-64 register after a byte list, from the value `c`. -/
def crc64 (c : Nat) (b : List Byte) : Nat := b.foldl crc64Byte c

/-- The initial value of R559; the final value is the complement. -/
def crcInit : Nat := 2 ^ 64 - 1

/-- The CRC-64 of a byte list (R559). -/
def crc64Of (b : List Byte) : Nat := crcInit - crc64 crcInit b

/-- The object is left out of the digest (R567, R615). -/
def digestSkips (idx sub : Nat) : Bool :=
  (decide (0x1000 ≤ idx) && decide (idx < 0x2000)) || decide (0xF000 ≤ idx) ||
    (idx = 0x8010 && decide (1 ≤ sub) && decide (sub ≤ 6)) ||
    ((idx = 0x3010 || idx = 0x3011) && (sub = 1 || sub = 2 || sub = 3 || sub = 6))

/-- The bytes of one element in the canonical sequence. -/
def canonElem (r : ObjRow) (idx sub elem : Nat) (v : PVal) : List Byte :=
  leBytes 2 idx ++ leBytes 1 sub ++ leBytes 4 elem ++ encVal r.ty (toPopVal r v)

/-- Descriptor words of a stream as 32 bytes (objects 0x3100.01 and 0x3200.01). -/
def State.strmBytes (s : State) (tx : Bool) (i : Nat) : List Byte :=
  let ws : List Reg := if tx then [.STRM_TXs_W0, .STRM_TXs_W1, .STRM_TXs_W2, .STRM_TXs_W3]
    else [.STRM_RXs_W0, .STRM_RXs_W1, .STRM_RXs_W2, .STRM_RXs_W3]
  ws.flatMap (fun r => leBytes 8 (s.word r i))

/-- The committed value of a configuration element, with a replacement for the keys of `repl`. -/
def State.cfgVal (s : State) (repl : NMap PVal) (r : ObjRow) (idx sub elem : Nat) : PVal :=
  match repl.find? (fun e => e.1 = objKey idx sub elem) with
  | some e => e.2
  | none => if r.src = .calc then .bytes (s.strmBytes (idx = 0x3200) elem) else s.objVal r idx sub elem

/-- CRC-64 over every element of one index and sub-index, from `c`. -/
def State.digestObj (s : State) (repl : NMap PVal) (idx sub c : Nat) : Nat :=
  match s.objRow idx sub with
  | none => c
  | some r =>
    if !(r.acc = .rw || r.acc = .stg) || digestSkips idx sub then c
    else forN (max 1 r.len) (fun e c => crc64 c (canonElem r idx sub e (s.cfgVal repl r idx sub e))) c

/-- The dictionary has objects at index `i`. -/
def State.hasIndex (s : State) (i : Nat) : Bool :=
  objRows.any (fun r => decide (r.i0 ≤ i) && decide (i ≤ r.i1)) || s.route.params.any (fun p => p.idx = i)

/-- The configuration digest with the keys of `repl` replaced (R615, R357). -/
def State.digestWith (s : State) (repl : NMap PVal) : Nat :=
  let c := forL ((List.range 0xF000).filter s.hasIndex) (fun idx c => forN 256 (fun sub c => s.digestObj repl idx sub c) c) crcInit
  crcInit - forN 8 (fun g c =>
    if s.flag fDCIS_REGIONr_SIZE g && (s.fld fDCIS_REGIONr_KIND g = 1 || s.fld fDCIS_REGIONr_KIND g = 5) then
      crc64 c (leBytes 8 (crc64Of (memBytes s.mem (dcisAddr (s.fld fDCIS_REGIONr_BASE g * 2 ^ 20)) (s.fld fDCIS_REGIONr_SIZE g * 2 ^ 20))))
    else c) c

/-- Object 0x0001.10: the digest of the configuration as the last boundary left it (R615). -/
def State.configDigest (s : State) : Nat :=
  ({ s with objs := s.pop.digObjs, regs := s.pop.digRegs, mem := s.pop.digMem }).digestWith []

/-- The boundary takes the present configuration over into object 0x0001.10 (R615). -/
def State.takeDigest (s : State) : State :=
  { s with pop := { s.pop with digObjs := s.objs, digRegs := s.regs, digMem := s.mem } }

/-- Object 0x7000.03: the digest with every Vat entry applied (R357). -/
def State.pendingDigest (s : State) : Nat := s.digestWith (s.scene.vat.map (fun e => (e.1, e.2.val)))

/-- The configuration with every STG object at its default (R79, R369). -/
def State.stgDefaults (s : State) : State :=
  { s with objs := nkeep (fun k => match s.objRow (okIdx k) (okSub k) with | some r => decide (r.acc ≠ .stg) | none => true) s.objs
           regs := nkeep (fun k => keyId k != fWELL_GENg_CFG_AMP.id) s.regs }

/-- The pending digest of a Scene Reassert: every STG object at its default unless staged (R369). -/
def State.reassertDigest (s : State) : Nat := s.stgDefaults.pendingDigest

end Sys2Proof.Machine
end

