-- ==== Sys2Proof/Machine/Reference.lean ====
section
/-! DEFINITION. The reference unit (spec 04): candidates, measurement, qualification, selection, holdover and the PULSE
outputs. Offsets are integers in 10⁻¹². -/

namespace Sys2Proof.Machine

open Sys2Proof

/-- Measurement data of a candidate. -/
def State.cand (s : State) (n : Nat) : Cand := nget {} s.ref.cands n

/-- Measurement data of a candidate replaced. -/
def State.setCand (s : State) (n : Nat) (c : Cand) : State :=
  { s with ref := { s.ref with cands := nset {} s.ref.cands n c } }

/-- State of a candidate (R118). -/
def State.candState (s : State) (n : Nat) : Nat := s.fld fREF_CANDn_STATUS_STATE n

/-- XO_IN is present: qualified and not declared lost (R88, R104). -/
def State.xoPresent (s : State) : Bool := s.sys.xoQual && !s.flag fREF_RPLL_STATUS_FROZEN

/-- Nominal control word of the family in force, INT × 2⁴⁰ + FRAC (R85). -/
def nominalWord (family : Nat) : Nat := if family = 0 then 0x64 * 2 ^ 40 else 0x5B * 2 ^ 40 + 0xE0_0000_0000

/-- The control word in force. -/
def State.rpllWord (s : State) : Nat := s.fld fREF_RPLL_WORD_INT * 2 ^ 40 + s.fld fREF_RPLL_WORD_FRAC

/-- The control word written. -/
def State.setRpllWord (s : State) (w : Nat) : State :=
  (s.put fREF_RPLL_WORD_INT (w / 2 ^ 40)).put fREF_RPLL_WORD_FRAC (w % 2 ^ 40)

/-- The valid history entries in the window of R131: recorded at least GUARD and less than GUARD + HOLD_WIN seconds ago
(log entry 10). -/
def State.holdWindow (s : State) : List Nat :=
  ((s.ref.hist.drop (s.fld fREF_CTRL_GUARD)).take (s.fld fREF_CTRL_HOLD_WIN)).filterMap id

/-- The holdover word computed now, when at least sixteen valid entries exist (R131). The rounding of the mean is open. -/
def State.holdWord (s : State) : Option Nat :=
  let l := s.holdWindow
  if 16 ≤ l.length then some (openDiv s.free (l.foldl (· + ·) 0 : Nat) (l.length : Nat)).toNat else none

/-- The holdover word in use: the fixed word while in holdover, the computed one otherwise (R132). -/
def State.currentHold (s : State) : Option Nat :=
  if s.fld fREF_SEL_STATUS_MODE = 2 then s.ref.holdFix else s.holdWord

/-- The XO calibration in 10⁻¹² (R111). -/
def State.xoCal (s : State) : Int :=
  match s.currentHold with
  | some w => openDiv (s.free + 1) (((w : Int) - nominalWord s.family) * 1000000000000) (nominalWord s.family)
  | none => 0

/-- A limit of REF_LIMITS in 10⁻¹², widened by XO_TOL while the holdover word is not valid (R111). -/
def State.limit (s : State) (f : Fd) : Int :=
  ((s.fld f + (if s.currentHold.isNone then s.fld fREF_DRIFT_XO_TOL else 0) : Nat) : Int) * 10000

/-- The quality of a candidate before R109: the field, or for the partner the advertised quality plus PARTNER_PEN,
capped at 14; an advertised 15 stays 15 (R108, log entry 101). -/
def State.quality (s : State) (n : Nat) : Nat :=
  if n = 6 then (if s.ref.partnerQ = 15 then 15 else min 14 (s.ref.partnerQ + s.fld fREF_CTRL_PARTNER_PEN)) else s.fld fREF_CANDn_CFG_QUALITY n

/-- Effective quality (R109). -/
def State.effQuality (s : State) (n : Nat) : Nat :=
  let q := s.quality n
  if s.candState n = 4 && q != 15 then min 14 (q + s.fld fREF_CTRL_DEG_PEN) else q

/-- The candidate may be selected (R118, R123). -/
def State.eligible (s : State) (n : Nat) : Bool :=
  (s.candState n = 3 || s.candState n = 4) && s.flag fREF_CANDn_CFG_EN n && (n = 7 || decide (s.effQuality n < 15))

/-- The candidate has completed a 64 s window since it entered QUALIFYING (R123). -/
def State.has64 (s : State) (n : Nat) : Bool := !(s.cand n).hist.isEmpty

/-- The magnitude of the XO-referred offset of a candidate over the window that R123 uses for it. -/
def State.ofsMag (s : State) (n : Nat) : Nat := if s.has64 n then (s.cand n).ofs64.natAbs else (s.cand n).ofs1.natAbs

/-- The partner may be followed by a Syncing or Standby unit, whatever its quality (R124, log entry 101). -/
def State.partnerReady (s : State) : Bool := (s.candState 6 = 3 || s.candState 6 = 4) && s.flag fREF_CANDn_CFG_EN 6

/-- agree(a, b) of R123. -/
def State.agree (s : State) (a b : Nat) : Bool :=
  if s.has64 a && s.has64 b then
    decide (((s.cand a).ofs64 - (s.cand b).ofs64).natAbs ≤ (s.limit fREF_LIMITS_SOFT_64S).natAbs)
  else decide (((s.cand a).ofs1 - (s.cand b).ofs1).natAbs ≤ (s.limit fREF_LIMITS_SOFT_1S).natAbs)

/-- agrees_xo(c) of R123. -/
def State.agreesXo (s : State) (c : Nat) : Bool :=
  if s.has64 c then decide ((s.cand c).ofs64.natAbs ≤ (s.limit fREF_LIMITS_SOFT_64S).natAbs)
  else decide ((s.cand c).ofs1.natAbs ≤ (s.limit fREF_LIMITS_SOFT_1S).natAbs)

/-- Every pair of the list agrees. -/
def State.allAgree (s : State) (l : List Nat) : Bool := l.all (fun a => l.all (fun b => s.agree a b))

/-- The rank of a candidate as one number: effective quality, then priority (R109). -/
def State.rankOf (s : State) (n : Nat) : Nat := s.effQuality n * 16 + s.fld fREF_CANDn_CFG_PRIORITY n

/-- The selection procedure of R123: the candidate it returns, and the state with DISPUTE and event 23. -/
def State.selectRef (s : State) : Nat × State :=
  let cur := s.fld fREF_SEL_STATUS_SELECTED
  let elig := (List.range 8).filter s.eligible
  let calm := s.put fREF_SEL_STATUS_DISPUTE 0
  if s.following && s.partnerReady then (6, calm)
  else if s.flag fREF_CTRL_FORCE_EN && elig.contains (s.fld fREF_CTRL_FORCE) then (s.fld fREF_CTRL_FORCE, calm)
  else
    match elig with
    | [] => (cur, s)
    | _ =>
      let best := elig.foldl (fun m n => min m (s.rankOf n)) 256
      let tied := elig.filter (fun n => s.rankOf n = best)
      if s.allAgree tied then ((if tied.contains cur then cur else tied.headD cur), calm)
      else
        let good := tied.filter s.agreesXo
        if !good.isEmpty && s.allAgree good then ((if good.contains cur then cur else good.headD cur), calm)
        else
          let s1 := if s.flag fREF_SEL_STATUS_DISPUTE then s
            else ((s.put fREF_SEL_STATUS_DISPUTE 1).raise 23 [])
          if elig.contains cur then (cur, s1)
          else ((minBy (fun a b => decide (s.ofsMag a < s.ofsMag b)) tied).getD cur, s1)

/-- Fields that mirror computed values: EFF_QUALITY, HOLD_VALID, the holdover word and HIST, and the computed quality of
the partner. -/
def State.refRefresh (s : State) : State :=
  let s := s.put fREF_CANDn_CFG_QUALITY (s.quality 6) 6
  let s := forN 8 (fun n s => s.put fREF_CANDn_STATUS_EFF_QUALITY (s.effQuality n) n) s
  let w := s.currentHold
  let s := s.put fREF_SEL_STATUS_HOLD_VALID (if w.isSome then 1 else 0)
  let s := s.put fREF_HOLD_WORD_HIST s.holdWindow.length
  let word := w.getD (nominalWord s.family)
  let s := (s.put fREF_HOLD_WORD_INT (word / 2 ^ 40)).put fREF_HOLD_WORD_FRAC (word % 2 ^ 40)
  { s with free := s.free + 2 }

/-- Evaluate the selection; a new result waits for the next block boundary (R122, R126). No selection change while the
tuning is frozen (R117). -/
def State.evalSelect (s : State) : State :=
  if s.flag fREF_RPLL_STATUS_FROZEN then s
  else
    let s := s.refRefresh
    let (n, s) := s.selectRef
    { s with ref := { s.ref with pendSel := if n = s.fld fREF_SEL_STATUS_SELECTED then none else some n } }

/-- Move candidate `n` to state `t`, with RETURNED (R120), the events of R121, and the fixed holdover word when the
selected candidate becomes ineligible (R132). -/
def State.moveCand (s : State) (n t : Nat) : State :=
  let o := s.candState n
  if o = t then s
  else
    let was := o = 3 || o = 4
    let s1 := s.put fREF_CANDn_STATUS_STATE t n
    let s1 := if (t = 1 || t = 5) && (was || o = 6) then s1.put fREF_CANDn_STATUS_RETURNED 1 n else s1
    let s1 := if t = 0 then s1.put fREF_CANDn_STATUS_RETURNED 0 n else s1
    let s1 := if t = 2 then
        s1.setCand n { s1.cand n with clean := 0, hist := [] } else s1
    let s1 := s1.put fREF_CANDn_STATUS_WTR_LEFT (if t = 6 then s.fld fREF_CTRL_WTR else 0) n
    let s1 := if t = 4 then s1.raise 20 [a8 n] else s1
    let s1 := if was && (t = 1 || t = 5) then s1.raise 21 [a8 n] else s1
    let s1 := if t = 3 && (o = 2 || o = 6) then s1.raise 22 [a8 n] else s1
    if was && !(t = 3 || t = 4) && s.fld fREF_SEL_STATUS_SELECTED = n then
      { s1 with ref := { s1.ref with holdFix := s.holdWord }, free := s1.free + 1 }
    else s1

/-- One limit over one completed window (R114): crossed above the limit, cleared after three consecutive windows at or
below half of it. Answers the flag and the count of clearing windows. -/
def limitStep (flag : Bool) (clr : Nat) (mag lim : Nat) : Bool × Nat :=
  if lim < mag then (true, 0)
  else if 2 * mag ≤ lim then (if flag && 3 ≤ clr + 1 then (false, 0) else (flag, if flag then clr + 1 else 0))
  else (flag, 0)

/-- Some limit of candidate `n` is crossed. -/
def State.anyCrossed (s : State) (n : Nat) : Bool :=
  s.flag fREF_CANDn_STATUS_HARD_1 n || s.flag fREF_CANDn_STATUS_HARD_64 n || s.flag fREF_CANDn_STATUS_SOFT_1 n ||
    s.flag fREF_CANDn_STATUS_SOFT_64 n || s.flag fREF_CANDn_STATUS_DRIFT n

/-- A hard limit of candidate `n` is crossed. -/
def State.hardCrossed (s : State) (n : Nat) : Bool :=
  s.flag fREF_CANDn_STATUS_HARD_1 n || s.flag fREF_CANDn_STATUS_HARD_64 n

/-- A soft limit or DRIFT of candidate `n` is crossed. -/
def State.softCrossed (s : State) (n : Nat) : Bool :=
  s.flag fREF_CANDn_STATUS_SOFT_1 n || s.flag fREF_CANDn_STATUS_SOFT_64 n || s.flag fREF_CANDn_STATUS_DRIFT n

/-- The transitions of R119 that limits drive, after a window; `second` marks the end of a 1 s window, which counts
clean windows and wait-to-restore seconds. -/
def State.qualify (s : State) (n : Nat) (second : Bool) : State :=
  let st := s.candState n
  if st = 3 || st = 4 || st = 6 then
    if s.hardCrossed n then s.moveCand n 5
    else if st = 3 then (if s.softCrossed n then s.moveCand n 4 else s)
    else if st = 4 then (if s.softCrossed n then s else s.moveCand n 3)
    else if s.softCrossed n then s.put fREF_CANDn_STATUS_WTR_LEFT (s.fld fREF_CTRL_WTR) n
    else if second then s.put fREF_CANDn_STATUS_WTR_LEFT (s.fld fREF_CANDn_STATUS_WTR_LEFT n - 1) n
    else s
  else if st = 2 then
    if s.anyCrossed n then s.setCand n { s.cand n with clean := 0 }
    else if second then
      let c := s.cand n
      let s := s.setCand n { c with clean := c.clean + 1 }
      if 4 ≤ c.clean + 1 then
        (if s.flag fREF_CANDn_STATUS_RETURNED n && s.flag fREF_CTRL_WTR then s.moveCand n 6 else s.moveCand n 3)
      else s
    else s
  else if st = 5 then
    if s.hardCrossed n then s
    else if s.flag fREF_CTRL_WTR then s.moveCand n 6 else s.moveCand n 3
  else s

/-- A candidate is measured: neither DISABLED nor ABSENT. -/
def State.measured (s : State) (n : Nat) : Bool := s.candState n != 0 && s.candState n != 1

/-- The 1 s window of candidate `n` with offset `raw` against XO_IN (R111, R114, R86). -/
def State.window1 (s : State) (cal : Int) (n : Nat) (raw : Int) : State :=
  if !s.measured n then s
  else
    let o := raw - cal
    let c := s.cand n
    let s := s.putI fREF_CANDn_OFFSET_OFS_1S o n
    let big := n != 7 && decide (200000000 < raw.natAbs)
    let h := limitStep (s.flag fREF_CANDn_STATUS_HARD_1 n) c.clrH1 o.natAbs (s.limit fREF_LIMITS_HARD_1S).natAbs
    let h := if big then (true, 0) else if n != 7 && decide (100000000 < raw.natAbs) then (s.flag fREF_CANDn_STATUS_HARD_1 n || h.1, 0) else h
    let f := limitStep (s.flag fREF_CANDn_STATUS_SOFT_1 n) c.clrS1 o.natAbs (s.limit fREF_LIMITS_SOFT_1S).natAbs
    let s := s.setCand n { c with ofs1 := o, clrH1 := h.2, clrS1 := f.2 }
    let s := s.put fREF_CANDn_STATUS_HARD_1 (if h.1 then 1 else 0) n
    let s := s.put fREF_CANDn_STATUS_SOFT_1 (if f.1 then 1 else 0) n
    if n = 7 then s else s.qualify n true

/-- Slope sum Σ x·y of the least-squares line through eight equally spaced offsets, newest first; the slope in ppm per
hour is Σ·3600 ÷ 5376 ÷ 10⁶ (R115). -/
def slopeSum (l : List Int) : Int :=
  match l with
  | [a, b, c, d, e, f, g, h] => 7 * (a - h) + 5 * (b - g) + 3 * (c - f) + (d - e)
  | _ => 0

/-- The magnitudes of R115 compared on one scale: |Σ|·3600 against DRIFT_LIM·10⁴·5376. -/
def State.driftLim (s : State) : Nat := s.fld fREF_DRIFT_DRIFT_LIM * 10000 * 5376

/-- The condition of R116 over the QUALIFIED and DEGRADED candidates other than XO. -/
def State.xoSuspectNow (s : State) : Bool :=
  let l := (List.range 7).filter (fun n => s.candState n = 3 || s.candState n = 4)
  let s64 := (s.limit fREF_LIMITS_SOFT_64S)
  let up (n : Nat) : Bool := decide (s64 < (s.cand n).ofs64) ||
    ((s.cand n).hist.length = 8 && decide ((s.driftLim : Int) < slopeSum (s.cand n).hist * 3600))
  let down (n : Nat) : Bool := decide ((s.cand n).ofs64 < -s64) ||
    ((s.cand n).hist.length = 8 && decide (slopeSum (s.cand n).hist * 3600 < -(s.driftLim : Int)))
  decide (2 ≤ l.length) && (l.all up || l.all down) &&
    l.all (fun a => l.all (fun b => decide (2 * ((s.cand a).ofs64 - (s.cand b).ofs64).natAbs ≤ s64.natAbs)))

/-- The flags of the 64 s limits and of DRIFT for candidate `n` (R114, R115). -/
def State.flags64 (s : State) (n : Nat) : State :=
  let c := s.cand n
  let m := c.ofs64.natAbs
  let h := limitStep (s.flag fREF_CANDn_STATUS_HARD_64 n) c.clrH64 m (s.limit fREF_LIMITS_HARD_64S).natAbs
  let f := limitStep (s.flag fREF_CANDn_STATUS_SOFT_64 n) c.clrS64 m (s.limit fREF_LIMITS_SOFT_64S).natAbs
  let d := if c.hist.length = 8 then
      limitStep (s.flag fREF_CANDn_STATUS_DRIFT n) c.clrD ((slopeSum c.hist).natAbs * 3600) s.driftLim
    else (s.flag fREF_CANDn_STATUS_DRIFT n, c.clrD)
  let s := s.setCand n { c with clrH64 := h.2, clrS64 := f.2, clrD := d.2 }
  let s := s.put fREF_CANDn_STATUS_HARD_64 (if h.1 then 1 else 0) n
  let s := s.put fREF_CANDn_STATUS_SOFT_64 (if f.1 then 1 else 0) n
  s.put fREF_CANDn_STATUS_DRIFT (if d.1 then 1 else 0) n

/-- REF_WINDOW_1S (R114): raw offsets against XO_IN of candidates 0 to 7, in 10⁻¹². -/
def execRefWindow1s (raw : List Int) (s : State) : Host.Outcome State Fault Refusal :=
  .next (s.when (s.clocked && !s.flag fREF_RPLL_STATUS_FROZEN) fun s =>
    let s := { s.refRefresh with free := s.free + 4 }
    let cal := s.xoCal
    let s := forN 8 (fun n s => s.window1 cal n (raw.getD n 0)) s
    s.evalSelect)

/-- REF_WINDOW_64S (R115, R116). -/
def execRefWindow64s (raw : List Int) (s : State) : Host.Outcome State Fault Refusal :=
  .next (s.when (s.clocked && !s.flag fREF_RPLL_STATUS_FROZEN) fun s =>
    let s := { s.refRefresh with free := s.free + 4 }
    let cal := s.xoCal
    let s := forN 8 (fun n s =>
      if s.measured n then
        let o := raw.getD n 0 - cal
        let c := s.cand n
        (s.setCand n { c with ofs64 := o, hist := (o :: c.hist).take 8 }).putI fREF_CANDn_OFFSET_OFS_64S o n
      else s) s
    let common := s.xoSuspectNow
    let s := if common then
        let s := if s.flag fREF_SEL_STATUS_XO_SUSPECT then s else (s.put fREF_SEL_STATUS_XO_SUSPECT 1).raise 26 []
        { s with ref := { s.ref with suspectClr := 0 } }
      else if s.flag fREF_SEL_STATUS_XO_SUSPECT then
        (if 3 ≤ s.ref.suspectClr + 1 then
          { s.put fREF_SEL_STATUS_XO_SUSPECT 0 with ref := { s.ref with suspectClr := 0 } }
        else { s with ref := { s.ref with suspectClr := s.ref.suspectClr + 1 } })
      else s
    let s := forN 7 (fun n s =>
      if !s.measured n then s
      else if common && (s.candState n = 3 || s.candState n = 4) then s
      else (s.flags64 n).qualify n false) s
    s.refRefresh)

/-- The condition of R106 for the loss of candidate `n`, as far as the engine's own state decides it. -/
def State.lossHolds (s : State) (n : Nat) : Bool :=
  if n = 4 || n = 5 then
    !(s.fld fTIM_Dn_STATUS_STATE (n - 4) = 3 ||
      (s.fld fTIM_Dn_STATUS_STATE (n - 4) = 4 && (match (s.dom (n - 4)).win with | some w => w.from' = 3 | none => false)))
  else if n = 6 then
    !((s.flag fSIPH_STATUS_LANE0_UP || s.flag fSIPH_STATUS_LANE1_UP) && s.flag fSIPH_STATUS_HB_OK)
  else decide (n < 4)

/-- Candidate `n` loses its signal (R106, R119). -/
def State.refLoss (s : State) (n : Nat) : State :=
  (s.put fREF_CANDn_STATUS_LOS 1 n).moveCand n 1

/-- REF_LOSS_OF_SIGNAL (R106). -/
def execRefLossOfSignal (cand : Nat) (s : State) : Host.Outcome State Fault Refusal :=
  .next (s.when (s.clocked && !s.flag fREF_RPLL_STATUS_FROZEN && decide (cand < 7) && s.measured cand && s.lossHolds cand)
    fun s => (s.refLoss cand).evalSelect)

/-- REF_SIGNAL_PRESENT (R119): an ABSENT candidate with an expected signal enters QUALIFYING. -/
def execRefSignalPresent (cand : Nat) (s : State) : Host.Outcome State Fault Refusal :=
  .next (s.when (s.clocked && !s.flag fREF_RPLL_STATUS_FROZEN && decide (cand < 7) && s.candState cand = 1 &&
      (if cand < 4 then s.flag fREF_CANDn_FREQ_FREQ cand else !s.lossHolds cand))
    fun s => s.moveCand cand 2)

/-- WTR_EXPIRY (R119): the wait-to-restore time has passed with no limit crossed. -/
def execWtrExpiry (cand : Nat) (s : State) : Host.Outcome State Fault Refusal :=
  .next (s.when (s.clocked && !s.flag fREF_RPLL_STATUS_FROZEN && decide (cand < 7) && s.candState cand = 6 &&
      !s.anyCrossed cand) fun s => (s.moveCand cand 3).evalSelect)

/-- REF_SELECT (R122, R123). -/
def execRefSelect (s : State) : Host.Outcome State Fault Refusal :=
  .next (s.when s.clocked State.evalSelect)

/-- The candidate has a phase target (R103): a PTP domain, the partner, or a sample-aligned input. -/
def State.phaseTarget (s : State) (n : Nat) : Bool :=
  n = 4 || n = 5 || n = 6 || (n < 4 && s.fld fREF_CANDn_CFG_ALIGN n = 1)

/-- The pending selection takes effect (R126 to R132). -/
def State.refSwitch (s : State) (new : Nat) (phaseErr : Int) : State :=
  let old := s.fld fREF_SEL_STATUS_SELECTED
  let oldMode := s.fld fREF_SEL_STATUS_MODE
  let s := forN 8 (fun n s => s.put fREF_CANDn_STATUS_SELECTED (if n = new then 1 else 0) n) s
  let s := s.put fREF_SEL_STATUS_SELECTED new
  let s := s.raise 19 [a8 old, a8 new]
  if new = 7 then
    let fixed := match s.ref.holdFix with | some w => some w | none => s.holdWord
    let s := { s with ref := { s.ref with holdFix := fixed, pendSel := none }, free := s.free + 1 }
    let s := s.put fREF_SEL_STATUS_HOLD_AGE 0
    if fixed.isSome then (s.put fREF_SEL_STATUS_MODE 2).raise 24 [] else s.put fREF_SEL_STATUS_MODE 3
  else
    let s := { s with ref := { s.ref with holdFix := none, pendSel := none } }
    let s := s.put fREF_SEL_STATUS_HOLD_AGE 0
    let s := s.put fREF_SEL_STATUS_MODE (if s.phaseTarget new && decide (1 ≤ phaseErr.natAbs) then 1 else 0)
    if oldMode = 2 then s.raise 25 [] else s

/-- REF_SWITCH (R126): at the block boundary after the selection. `phaseErr` is the phase error in root cycles (R127). -/
def execRefSwitch (phaseErr : Int) (s : State) : Host.Outcome State Fault Refusal :=
  .next (match s.ref.pendSel with
    | some n => s.when (s.clocked && !s.flag fREF_RPLL_STATUS_FROZEN) fun s => (s.refSwitch n phaseErr).refRefresh
    | none => s)

/-- PASS_THROUGH_END (R127): MODE leaves pass-through once the error is below one root cycle. -/
def execPassThroughEnd (phaseErr : Int) (s : State) : Host.Outcome State Fault Refusal :=
  .next (s.when (s.clocked && s.fld fREF_SEL_STATUS_MODE = 1 && decide (phaseErr.natAbs < 1))
    fun s => s.put fREF_SEL_STATUS_MODE 0)

/-- HOLD_HISTORY_ENTRY (R130): the mean control word of the second, and whether the four conditions held through it. -/
def execHoldHistoryEntry (word : BitVec 48) (steady : Bool) (s : State) : Host.Outcome State Fault Refusal :=
  .next (s.when s.clocked fun s =>
    let sel := s.fld fREF_SEL_STATUS_SELECTED
    let ok := steady && sel != 7 && s.candState sel = 3 && s.fld fREF_SEL_STATUS_MODE = 0 &&
      !s.flag fREF_RPLL_STATUS_FROZEN
    let s := { s with ref := { s.ref with hist := ((if ok then some word.toNat else none) :: s.ref.hist).take 4200 } }
    let s := if 2 ≤ s.fld fREF_SEL_STATUS_MODE then s.incSat fREF_SEL_STATUS_HOLD_AGE else s
    s.refRefresh)

/-- A PULSE output. -/
def State.pulse (s : State) (n : Nat) : Pulse := nget {} s.ref.pulses n

/-- A PULSE output replaced. -/
def State.setPulse (s : State) (n : Nat) (p : Pulse) : State :=
  { s with ref := { s.ref with pulses := nset {} s.ref.pulses n p } }

/-- The PULSE output is enabled and emits (R135). -/
def State.pulseOn (s : State) (n : Nat) : Bool :=
  s.clocked && decide (n < 4) && s.flag fREF_PULSEn_CTRL_EN n && s.flag fREF_PULSEn_CTRL_WIDTH n

/-- PULSE_EMIT (R134, R135): a pulse at the predicted source instant plus OFFSET; without its source the output keeps
intervals of one second of the media clock. -/
def execPulseEmit (out : Nat) (instant : Int) (lost : Bool) (s : State) : Host.Outcome State Fault Refusal :=
  .next (s.when (s.pulseOn out && (!lost || (s.pulse out).active)) fun s =>
    let p := s.pulse out
    let fly := lost || s.flag fREF_PULSEn_CTRL_FLYWHEEL out
    let at' := if fly then p.instant + s.rootPerSec else instant
    let s := s.setPulse out { active := true, instant := at', edge := some (at' + s.fldI fREF_PULSEn_OFS_OFFSET out) }
    if fly then s.put fREF_PULSEn_CTRL_FLYWHEEL 1 out else s)

/-- PULSE_REALIGN (R135): the first source instant after the source returns. -/
def execPulseRealign (out : Nat) (instant : Int) (s : State) : Host.Outcome State Fault Refusal :=
  .next (s.when (s.pulseOn out && s.flag fREF_PULSEn_CTRL_FLYWHEEL out) fun s =>
    let s := s.setPulse out { active := true, instant := instant
                              edge := some (instant + s.fldI fREF_PULSEn_OFS_OFFSET out) }
    (s.put fREF_PULSEn_CTRL_FLYWHEEL 0 out).put fREF_PULSEn_CTRL_REALIGNED 1 out)

end Sys2Proof.Machine
end

