-- ==== Sys2Proof/Machine/Time.lean ====
section
/-! DEFINITION. The time unit (spec 05): timescales, the PTP domains and their servo, jumps, the media count and its
anchors, engine time, snapshots and the transparent clock. Times are integers in 2⁻¹⁶ ns. -/

namespace Sys2Proof.Machine

open Sys2Proof

/-- One microsecond in 2⁻¹⁶ ns. -/
def uUs : Int := 65536000
/-- STEP_THR of R159, 1 ms. -/
def stepThr : Int := 1000 * uUs
/-- STEP_TOL and AGREE_TOL of R159, 100 µs. -/
def stepTol : Int := 100 * uUs
/-- DLY_OUT and ASYM_MIN of R159, 250 ns. -/
def dlyOut : Int := 250 * 65536
/-- ±500 ppm in 2⁻⁴⁸ (R141): 500·10⁻⁶·2⁴⁸, rounded down. -/
def rateLim : Int := 140737488355
/-- 50 ppm in 2⁻⁴⁸ (SLEW_MAX and E_SLEW of R159), rounded down. -/
def slewLim : Int := 14073748835
/-- π to fifty digits, as a numerator over `piDen` (log entry 12). -/
def piNum : Int := 314159265358979323846264338327950288419716939937510
/-- Denominator of `piNum`. -/
def piDen : Int := 10 ^ 50

/-- Magnitude comparison |a| ≤ b. -/
def within (a b : Int) : Bool := decide ((a.natAbs : Int) ≤ b)

/-- The scale with a new RATE_SV, limited with RATE_FF to ±500 ppm, and whether it was clamped (R141, R143). -/
def Scale.withSV (x : Scale) (sv : Int) : Scale × Bool :=
  let r := clampI (-rateLim) rateLim (x.rateFF + sv)
  ({ x with rateSV := r - x.rateFF }, decide (r ≠ x.rateFF + sv))

/-- Set RATE_SV of domain `d`; the timescale stays continuous at this counter value (R142). -/
def State.setRateSV (s : State) (d : Nat) (sv : Int) : State :=
  let x := s.dom d
  let y := x.scale.withSV sv
  let s1 := s.setDom d { x with scale := s.rebase x.scale y.1 }
  if y.2 then s1.put fTIM_Dn_STATUS_RATE_CLAMP 1 d else s1

/-- Step the timescale of domain `d` by `j` (R142). -/
def State.stepDom (s : State) (d : Nat) (j : Int) : State :=
  let x := s.dom d
  s.setDom d { x with scale := { x.scale with ofs := x.scale.ofs + j } }

/-- T_x of domain `d` now. -/
def State.domNow (s : State) (d : Nat) : Int := s.now (s.dom d).scale

/-- State of domain `d` (R156). -/
def State.domState (s : State) (d : Nat) : Nat := s.fld fTIM_Dn_STATUS_STATE d

/-- The domain counts as locked under R106 (R156). -/
def State.domLocked (s : State) (d : Nat) : Bool :=
  s.domState d = 3 || (s.domState d = 4 && (match (s.dom d).win with | some w => w.from' = 3 | none => false))

/-- The domain is LOCKED or SUSPECT. -/
def State.domLockedOrSuspect (s : State) (d : Nat) : Bool := s.domState d = 3 || s.domState d = 4

/-- Move domain `d` to state `t`, with events 27 and 28 (R157, R177). -/
def State.moveDom (s : State) (d t : Nat) (f : Dom → Dom) : State :=
  let was := s.domLocked d
  let old := s.domState d
  let s := s.setDom d (f (s.dom d))
  let s := s.put fTIM_Dn_STATUS_STATE t d
  let s := if t = 3 && old != 3 then s.raise 27 [] else s
  if was && !s.domLocked d then s.raise 28 [] else s

/-- The time source (R160). -/
def State.timeSrc (s : State) : Nat := s.fld fTIM_MAP_STATUS_SRC

/-- RATE_SV of engine time: the time source's, plus a steering term that acts against the difference and is bounded by
E_SLEW; its size within the bound is open (R167, log entry 13). Half the source's rate in CATCHUP. -/
def State.steerE (s : State) : State :=
  if !s.flag fTIM_MAP_STATUS_TIME_SET || !s.domLockedOrSuspect s.timeSrc then s
  else
    let src := (s.dom s.timeSrc).scale
    let e := s.tim.eng
    if s.flag fTIM_MAP_STATUS_CATCHUP then
      let y : Scale := { e with rateFF := src.rateFF, rateSV := src.rateSV, half := true }
      { s with tim := { s.tim with eng := s.rebase e y } }
    else
      let d := s.now e - s.now src
      let size : Int := ((Config.freeValue 48 s.free).toNat : Int) % (slewLim + 1)
      let steer : Int := if d = 0 then 0 else if 0 < d then -size else size
      let y := ({ e with half := false }.withSV (src.rateSV + steer)).1
      { s with tim := { s.tim with eng := s.rebase e y }, free := s.free + 1 }

/-- DIFF, while both domains are LOCKED or SUSPECT (R163). -/
def State.timRefresh (s : State) : State :=
  if s.domLockedOrSuspect 0 && s.domLockedOrSuspect 1 then s.putI fTIM_DIFF_VALUE (s.domNow 1 - s.domNow 0) else s

/-! ### The control word and the timescales -/

/-- All three timescales rebuilt by `f` without a step (R142 to R144). -/
def State.mapScales (s : State) (f : Scale → Scale) (t : Tim → Tim) : State :=
  let s1 := { s with tim := t s.tim }
  let re (x : Scale) : Scale := let y := f x; { y with ofs := s.timeAt x s.tim.cnt - s1.elapsed y s.tim.cnt }
  let s2 := { s1 with tim := { s1.tim with eng := re s.tim.eng } }
  forN 2 (fun d s2 => s2.setDom d { s.dom d with scale := re (s.dom d).scale }) s2

/-- RPLL_WORD_UPDATE (R85, R86, R90, R143, R144): the reference unit writes the control word. Outside a slew it stays
within ±200 ppm of nominal and moves RATE_FF; during a slew P follows the word. Frozen tuning takes no word (R88). -/
def execRpllWordUpdate (intPart : BitVec 8) (frac : BitVec 40) (s : State) : Host.Outcome State Fault Refusal :=
  .next (s.when (s.clocked && !s.flag fREF_RPLL_STATUS_FROZEN) fun s =>
    let w := intPart.toNat * 2 ^ 40 + frac.toNat
    let old := s.rpllWord
    if s.flag fREF_RPLL_STATUS_SLEWING then
      if w = 0 then s
      else
        let s := s.mapScales id (fun t => { t with pNum := 2 ^ 41 * 1000000000, pDen := 24576000 * w })
        s.setRpllWord w
    else
      let nom := nominalWord s.family
      let w := clampN (nom - nom / 5000) (nom + nom / 5000) w
      let dff := openDiv s.free (((old : Int) - w) * 2 ^ 48) old
      let s := s.mapScales (fun x => { x with rateFF := x.rateFF + dff }) id
      { s.setRpllWord w with free := s.free + 1 })

/-! ### Domain configuration and masters -/

/-- Leaving a domain: everything learned of its master is dropped (R157). -/
def State.domDisable (s : State) (d : Nat) : State :=
  let s := s.moveDom d 0 (fun x => { scale := x.scale })
  s.put fTIM_Dn_STATUS_HAS_LOCKED 0 d

/-- Enabling a domain (R157). -/
def State.domEnable (s : State) (d : Nat) : State := s.moveDom d 1 id

/-- logSyncInterval in the accepted range (R155). -/
def syncIntOk (i : Int) : Bool := decide (-7 ≤ i) && decide (i ≤ 1)

/-- logAnnounceInterval in the range of the domain's profile (R155). -/
def State.annIntOk (s : State) (d : Nat) (i : Int) : Bool :=
  if s.fld fTIM_Dn_CFG_PROFILE d = 0 then decide (0 ≤ i) && decide (i ≤ 4) else decide (-3 ≤ i) && decide (i ≤ 1)

/-- The order of the default best-master algorithm of IEEE 1588-2019, as one list compared lexicographically
(R154, log entry 14). -/
def announceRank (a : Announce) : List Nat :=
  [a.prio1, a.clockClass, a.accuracy, a.variance, a.prio2, a.gm, a.steps, a.sender, a.senderPort]

/-- Lexicographic order of two lists of numbers. -/
def lexLt (a b : List Nat) : Bool :=
  match a, b with
  | x :: xs, y :: ys => if x < y then true else if y < x then false else lexLt xs ys
  | [], _ :: _ => true
  | _, [] => false

/-- Quality of a PTP domain from clockClass and clockAccuracy (R107). -/
def ptpQuality (cls acc : Nat) : Nat :=
  let base := if cls = 6 then 1 else if cls = 13 then 2 else if cls = 7 then 3 else if cls = 14 then 4
    else if cls = 52 || cls = 58 then 9 else if cls = 187 || cls = 193 then 10 else if cls = 248 then 12 else 15
  let adj := if 0x17 ≤ acc && acc ≤ 0x21 then 0 else if acc = 0x22 || acc = 0x23 then 1
    else if acc = 0x24 || acc = 0x25 then 2 else 3
  if base = 15 then 15 else min 14 (base + adj)

/-- Seconds of an interval 2^i as core cycles, times `k`. -/
def State.intervalCycles (s : State) (k : Nat) (i : Int) : Nat :=
  if 0 ≤ i then k * s.corePerSec * 2 ^ i.toNat else k * s.corePerSec / 2 ^ (-i).toNat

/-- The foreign-master list after an Announce (R154): qualified once two Announces fall in four intervals. -/
def State.foreignAfter (s : State) (d port : Nat) (a : Announce) : List Foreign :=
  let x := s.dom d
  let same (f : Foreign) : Bool := f.ann.sender = a.sender && f.ann.senderPort = a.senderPort && f.port = port
  let q := match x.foreign.find? same with
    | some f => f.qualified || decide (s.tim.cnt - f.seen ≤ s.intervalCycles 4 a.logInt)
    | none => false
  { ann := a, port := port, seen := s.tim.cnt, qualified := q } :: x.foreign.filter (fun f => !same f)

/-- The best qualified master (R154). -/
def bestMaster (l : List Foreign) : Option Foreign :=
  minBy (fun f g => lexLt (announceRank f.ann ++ [f.port]) (announceRank g.ann ++ [g.port])) (l.filter (·.qualified))

/-- PTP_ANNOUNCE (R154, R155, R107, R157). -/
def execPtpAnnounce (dom port : Nat) (a : Announce) (s : State) : Host.Outcome State Fault Refusal :=
  .next (s.when (s.clocked && decide (dom < 2) && s.flag fTIM_Dn_CFG_EN dom &&
      bit (s.fld fTIM_Dn_CFG_PORTS dom) port && s.annIntOk dom a.logInt) fun s =>
    let l := s.foreignAfter dom port a
    match bestMaster l with
    | none => s.setDom dom { s.dom dom with foreign := l }
    | some m =>
      let oldGm := s.fld fTIM_Dn_GM_VALUE dom
      let had := (s.dom dom).master.isSome
      let s := s.setDom dom { s.dom dom with foreign := l, master := some m.ann.sender, utcOffset := m.ann.utcOffset }
      let s := s.put fTIM_Dn_STATUS_PORT m.port dom
      let changed := s.fld fTIM_Dn_STATUS_GM_CLASS dom ≠ m.ann.clockClass ∨ s.fld fTIM_Dn_STATUS_GM_ACC dom ≠ m.ann.accuracy
      let s := s.put fTIM_Dn_STATUS_GM_CLASS m.ann.clockClass dom
      let s := s.put fTIM_Dn_STATUS_GM_ACC m.ann.accuracy dom
      let s := s.put fTIM_Dn_GM_VALUE m.ann.gm dom
      let s := if had && decide (oldGm ≠ m.ann.gm) then s.raise 34 [] else s
      let s := if s.domState dom = 1 || s.domState dom = 5 then
          s.moveDom dom 2 (fun x => { x with lockCnt := 0, unlockCnt := 0 }) else s
      let s := s.put fREF_CANDn_CFG_QUALITY (ptpQuality m.ann.clockClass m.ann.accuracy) (4 + dom)
      if changed then s.evalSelect else s)

/-! ### The servo -/

/-- Delay and correction data of port `p` of domain `d`. -/
def State.ptpPort (s : State) (d p : Nat) : PtpPort := nget {} (s.dom d).ports p

/-- Port data replaced. -/
def State.setPtpPort (s : State) (d p : Nat) (x : PtpPort) : State :=
  s.setDom d { s.dom d with ports := nset {} (s.dom d).ports p x }

/-- A CORR of the register that is not in effect takes effect at this Sync and clears tmp (R175). -/
def State.takeCorr (s : State) (d p : Nat) : State :=
  let x := s.ptpPort d p
  if x.corrDue || x.corr != s.fldI fTIM_PORTn_ASYM_CORR p then s.setPtpPort d p { x with corr := s.fldI fTIM_PORTn_ASYM_CORR p, corrDue := false, tmp := 0 } else s

/-- The result of the jump check of R168 on offset `e`: the state, and whether the Sync is held. -/
def State.jumpCheck (s : State) (d : Nat) (e : Int) : State × Bool :=
  let x := s.dom d
  let st := s.domState d
  let glitch (s : State) (n : Nat) : State := s.addSat fTIM_Dn_STATUS_JUMP_GLITCH n d
  if st = 4 then
    (match x.win with
     | some w => (s.setDom d { x with win := some { w with offs := e :: w.offs } }, true)
     | none => (s, true))
  else if st = 6 then (s, true)
  else if !s.flag fTIM_Dn_STATUS_HAS_LOCKED d then (s, false)
  else if within e stepThr then
    (if x.held.isEmpty then (s, false) else (glitch (s.setDom d { x with held := [] }) x.held.length, false))
  else
    let held := x.held ++ [e]
    let at' := if x.held.isEmpty then s.tim.cnt else x.heldAt
    if held.length < 3 then (s.setDom d { x with held := held, heldAt := at' }, true)
    else
      let m := medianI held
      if held.all (fun h => within (h - m) stepTol) then
        let w : JumpWin := { start := at', from' := st, j := -m, offs := held }
        let s := s.putI fTIM_Dn_JUMP_J (-m / 65536) d
        let s := s.moveDom d 4 (fun x => { x with held := [], win := some w, conf := some (-m, s.tim.cnt) })
        (s.raise 29 [], true)
      else (glitch (s.setDom d { x with held := [] }) 3, true)

/-- rate_estimate of R158 in 2⁻⁴⁸: the rate difference between the two most recent Syncs at least 1 s apart, or 0. -/
def rateEstimate (free : Nat) (syncs : List (Int × Int)) : Int :=
  match syncs with
  | [] => 0
  | (t1, t2) :: r =>
    match r.find? (fun q => decide (1000000 * uUs ≤ t1 - q.1)) with
    | some (u1, u2) => openDiv free (((t2 - u2) - (t1 - u1)) * 2 ^ 48) (t1 - u1)
    | none => 0

/-- Syncs kept for rate_estimate: up to the first that lies 1 s back. -/
def keepSyncs (l : List (Int × Int)) : List (Int × Int) :=
  match l with
  | [] => []
  | (t1, t2) :: r => (t1, t2) :: r.takeWhile (fun q => decide (t1 - q.1 < 1000000 * uUs)) ++
      (r.dropWhile (fun q => decide (t1 - q.1 < 1000000 * uUs))).take 1

/-- update_state of R158: lock and unlock counting (R157). -/
def State.updateDomState (s : State) (d : Nat) (e : Int) : State :=
  let x := s.dom d
  if s.domState d = 2 then
    if within e uUs then
      (if 16 ≤ x.lockCnt + 1 then
        (s.moveDom d 3 (fun x => { x with lockCnt := 0, unlockCnt := 0 })).put fTIM_Dn_STATUS_HAS_LOCKED 1 d
      else s.setDom d { x with lockCnt := x.lockCnt + 1 })
    else s.setDom d { x with lockCnt := 0 }
  else if s.domState d = 3 then
    if !within e (10 * uUs) && within e stepThr then
      (if 4 ≤ x.unlockCnt + 1 then s.moveDom d 2 (fun x => { x with unlockCnt := 0, lockCnt := 0 })
      else s.setDom d { x with unlockCnt := x.unlockCnt + 1 })
    else s.setDom d { x with unlockCnt := 0 }
  else s

/-- The servo proper: integ, f and RATE_SV (R158), for loop bandwidth BW and Sync interval 2^logInt. -/
def State.servo (s : State) (d : Nat) (logInt : Int) (e : Int) : State :=
  let x := s.dom d
  let bw : Int := s.fld fTIM_Dn_CFG_BW d
  -- wn = 2π·BW/1000; e in 2⁻¹⁶ ns; results in 2⁻⁴⁸
  let wnN := 2 * piNum * bw
  let wnD := piDen * 1000
  let tauN : Int := if 0 ≤ logInt then 2 ^ logInt.toNat else 1
  let tauD : Int := if 0 ≤ logInt then 1 else 2 ^ (-logInt).toNat
  let secD : Int := 65536 * 1000000000
  let di := openDiv s.free (wnN * wnN * tauN * e * 2 ^ 48) (wnD * wnD * tauD * secD)
  let integ := clampI (-rateLim) rateLim (x.integ + di)
  let prop := openDiv (s.free + 1) (1414 * wnN * e * 2 ^ 48) (1000 * wnD * secD)
  let f := integ + clampI (-slewLim) slewLim prop
  let s := { s.setDom d { x with integ := integ } with free := s.free + 2 }
  s.setRateSV d (-f)

/-- Classify a path change once four offsets since the change are known (R173, R174). -/
def State.classify (s : State) (d p : Nat) : State :=
  let x := s.ptpPort d p
  match x.change with
  | none => s
  | some dD =>
    if x.after.length < 4 then s
    else
      let dO := medianI (x.after.take 4) - medianI x.before
      let tol := max ((dD.natAbs : Int) / 4) (100 * 65536)
      let other := 1 - d
      let still := s.domState other = 3 && within ((s.dom other).e - x.otherBefore) (100 * 65536)
      let asym := still && within ((dO.natAbs : Int) - dD.natAbs) tol
      let done := { x with change := none, before := [], after := [] }
      let args (flag : Nat) : List EvArg := [a8 p, aI32 (dD / 65536), aI32 (dO / 65536), a8 flag]
      if asym then
        let s := s.setPtpPort d p { done with tmp := dO }
        let learned := x.corr + openDiv s.free (dO * 1000) 65536
        let s := { s.putI fTIM_PORTn_ASYM_LEARNED learned p with free := s.free + 1 }
        (s.put fTIM_PORTn_ASYM_LVALID 1 p).raise 32 (args 1)
      else
        let s := s.setPtpPort d p { done with preMed := none }
        if s.domState other = 3 then s else s.raise 32 (args 0)

/-- One offset recorded: OFFSET, the last eight, and the offsets that follow a first outlying delay (R173). -/
def State.noteOffset (s : State) (d p : Nat) (e : Int) : State :=
  let x := s.dom d
  let s := s.setDom d { x with e := e, eHist := (e :: x.eHist).take 8 }
  let s := s.putI fTIM_Dn_OFFSET_OFFSET (e / 65536) d
  let q := s.ptpPort d p
  let s := if q.before.isEmpty then s else s.setPtpPort d p { q with after := (q.after ++ [e]).take 4 }
  s.classify d p

/-- PTP_SYNC (R158, R168): the offset, the jump check, the step before the first lock, or the servo. -/
def execPtpSync (dom port : Nat) (logInt t1 corr : Int) (rc2 : Nat) (s : State) : Host.Outcome State Fault Refusal :=
  .next (s.when (s.clocked && decide (dom < 2) && decide (2 ≤ s.domState dom) && port = s.fld fTIM_Dn_STATUS_PORT dom &&
      (s.dom dom).master.isSome && syncIntOk logInt) fun s =>
    let t2 := s.timeAtRoot (s.dom dom).scale rc2
    let s := s.takeCorr dom port
    let s := s.setPtpPort dom port { s.ptpPort dom port with last := some (t1, corr, t2) }
    let s := s.setDom dom { s.dom dom with syncs := keepSyncs ((t1, t2) :: (s.dom dom).syncs) }
    let p := s.ptpPort dom port
    if p.dly.isEmpty then s
    else
      let e := t2 - t1 - corr - p.mpd - openDiv s.free (p.corr * 65536) 1000 - p.tmp
      let s := { s with free := s.free + 1 }
      let s := s.noteOffset dom port e
      let r := s.jumpCheck dom e
      let s := r.1
      if r.2 then
        (if s.domState dom = 6 then
          let x := s.dom dom
          (match x.reacq with
           | some v => if within (e - v) stepTol then s else s.setDom dom { x with reacq := some e }
           | none => s.setDom dom { x with reacq := some e })
        else s)
      else if s.domState dom = 5 then s
      else if !s.flag fTIM_Dn_STATUS_HAS_LOCKED dom && ((s.dom dom).first || !within e stepThr) then
        let s := s.stepDom dom (-e)
        let est := rateEstimate s.free (s.dom dom).syncs
        { s.setDom dom { s.dom dom with integ := clampI (-rateLim) rateLim est, first := false, syncs := [] } with
          free := s.free + 1 }
      else
        let s := s.servo dom logInt e
        ((s.updateDomState dom e).steerE).timRefresh)

/-- The median path delay reported in MPD, in 2⁻⁸ ns (R158). -/
def State.putMpd (s : State) (d p : Nat) (v : Int) : State :=
  let s := s.setPtpPort d p { s.ptpPort d p with mpd := v }
  s.putI fTIM_Dn_OFFSET_MPD (v / 256) d

/-- One delay value `d` of a port: the median of eight, the outliers held apart, and the path change they may show
(R158, R173, R175). -/
def State.delayValue (s : State) (dom port : Nat) (d : Int) : State :=
  let p := s.ptpPort dom port
  let m := medianI p.dly
  if p.dly.length = 8 && !within (d - m) dlyOut then
    let p := if p.out.isEmpty then
      { p with before := (s.dom dom).eHist, otherBefore := (s.dom (1 - dom)).e, after := [] } else p
    let out := (p.out ++ [d]).drop (p.out.length + 1 - 4)
    let hi := out.foldl max d
    let lo := out.foldl min d
    if 4 ≤ out.length && within (hi - lo) dlyOut then
      let dD := medianI out - m
      let back := p.preMed.any fun v => within (medianI out - v) dlyOut
      let p := { p with dly := out, out := [] }
      if back then s.setPtpPort dom port { p with tmp := 0, preMed := none, before := [], after := [] }
      else if within dD (dlyOut - 1) then s.setPtpPort dom port { p with before := [], after := [] }
      else (s.setPtpPort dom port { p with change := some dD, preMed := some m }).classify dom port
    else s.setPtpPort dom port { p with out := out }
  else
    let dly := (p.dly ++ [d]).drop (p.dly.length + 1 - 8)
    let p := { p with dly := dly, out := [] }
    let p := if p.change.isNone then { p with before := [], after := [] } else p
    (s.setPtpPort dom port p).putMpd dom port (medianI dly)

/-- The open Delay_Req of domain `dom` is answered and its delay is half of `twice`. -/
def State.delayAnswer (s : State) (dom port : Nat) (twice : Int) : State :=
  let d := openDiv s.free twice 2
  let s := s.setDom dom { s.dom dom with req := none }
  { s with free := s.free + 1 }.delayValue dom port d

/-- PTP_DELAY_RESP (R158, R173, R175): answers the open Delay_Req. -/
def execPtpDelayResp (dom port : Nat) (t4 corr : Int) (s : State) : Host.Outcome State Fault Refusal :=
  .next (s.when (s.clocked && decide (dom < 2) && decide (2 ≤ s.domState dom)) fun s =>
    let x := s.dom dom
    match x.req, (s.ptpPort dom port).last with
    | some rc3, some (t1, corrS, t2) => s.delayAnswer dom port (t2 - s.timeAtRoot x.scale rc3 + (t4 - t1) - corrS - corr)
    | _, _ => s)

/-- DELAY_REQ_SEND (R155, R158): the egress root count of the domain's own Delay_Req. -/
def execDelayReqSend (dom rc3 : Nat) (s : State) : Host.Outcome State Fault Refusal :=
  .next (s.when (s.clocked && decide (dom < 2) && decide (2 ≤ s.domState dom) && (s.dom dom).master.isSome)
    fun s => s.setDom dom { s.dom dom with req := some rc3 })

/-- The master of domain `d` is lost: HOLDING (R157). -/
def State.domHold (s : State) (d : Nat) : State :=
  s.moveDom d 5 (fun x => { x with win := none, held := [], lockCnt := 0, unlockCnt := 0, reacq := none })

/-- ACQUIRING, LOCKED, SUSPECT or REJECTED. -/
def State.domFollowing (s : State) (d : Nat) : Bool :=
  s.domState d = 2 || s.domState d = 3 || s.domState d = 4 || s.domState d = 6

/-- ANNOUNCE_RECEIPT_TIMEOUT (R157): the master's Announces have stopped, so it is no longer a foreign master. -/
def execAnnounceReceiptTimeout (dom : Nat) (s : State) : Host.Outcome State Fault Refusal :=
  .next (s.when (s.clocked && decide (dom < 2) && s.domFollowing dom) fun s =>
    let x := s.dom dom
    let s := s.setDom dom { x with foreign := x.foreign.filter (fun f => some f.ann.sender != x.master), master := none }
    s.domHold dom)

/-- SYNC_LOSS (R157). -/
def execSyncLoss (dom : Nat) (s : State) : Host.Outcome State Fault Refusal :=
  .next (s.when (s.clocked && decide (dom < 2) && s.domFollowing dom) fun s => s.domHold dom)

/-! ### Jumps -/

/-- VALID_WIN in core cycles (R159). -/
def State.validWin (s : State) : Nat := s.fld fTIM_CTRL_VALID_WIN * s.corePerSec / 10

/-- The other domain agrees with jump `j` of domain `d` whose window began at `start` (R170). -/
def State.otherAgrees (s : State) (d : Nat) (j : Int) (start : Nat) : Bool :=
  let o := 1 - d
  (match (s.dom o).conf with
   | some (j2, c) => within (j2 - j) stepTol && decide (start ≤ c + s.validWin)
   | none => false) ||
  (s.domState o = 3 && within (s.domNow d + j - s.domNow o) stepTol)

/-- TIME_JUMP_RESOLVED (R170): outcome 1 accepted, 2 rejected, 3 dropped. -/
def execTimeJumpResolved (dom : Nat) (s : State) : Host.Outcome State Fault Refusal :=
  .next (match (s.dom dom).win with
    | none => s
    | some w => s.when (s.clocked && decide (dom < 2) && s.domState dom = 4) fun s =>
      let o := 1 - dom
      let persists := w.offs.all (fun e => within (e + w.j) stepTol)
      let outcome := if within (w.offs.headD w.j) stepThr then 3
        else if !persists then 2
        else if s.otherAgrees dom w.j w.start then 1
        else if s.domLockedOrSuspect o then 2
        else if s.flag fTIM_CTRL_SOLO_ACCEPT then 1 else 2
      let back := if w.from' = 5 then 2 else w.from'
      let s := s.put fTIM_Dn_JUMP_OUTCOME outcome dom
      let s :=
        if outcome = 2 then s.moveDom dom 6 (fun x => { x with win := none, reacq := some (w.offs.headD 0) })
        else if outcome = 1 then s.moveDom dom back (fun x => { x with win := none, pendJump := some w.j })
        else s.moveDom dom back (fun x => { x with win := none })
      s.raise 30 [a8 dom, aI64 (w.j / 65536), a8 outcome])

/-- REACQ_HOLD_EXPIRY (R157): the offsets of a REJECTED domain have stayed within STEP_TOL of one value. -/
def execReacqHoldExpiry (dom : Nat) (s : State) : Host.Outcome State Fault Refusal :=
  .next (s.when (s.clocked && decide (dom < 2) && s.domState dom = 6 && (s.dom dom).reacq.isSome) fun s =>
    let s := s.stepDom dom (-(s.dom dom).e)
    s.moveDom dom 2 (fun x => { x with reacq := none, lockCnt := 0, unlockCnt := 0, held := [], syncs := [] }))

/-- CATCHUP_END (R167). -/
def execCatchupEnd (s : State) : Host.Outcome State Fault Refusal :=
  .next (s.when (s.clocked && s.flag fTIM_MAP_STATUS_CATCHUP) fun s =>
    let e := s.tim.eng
    let s := { s with tim := { s.tim with eng := s.rebase e { e with half := false } } }
    (s.put fTIM_MAP_STATUS_CATCHUP 0).steerE)

/-! ### The media count and its anchors -/

/-- A time in 2⁻¹⁶ ns times fs, rounded to the nearest integer, halves to even (R162). -/
def State.toSamples (s : State) (t : Int) : Int := divEven (t * s.fs) (65536 * 1000000000)

/-- MAP_OFS (R161). -/
def State.mapOfs (s : State) : Int := s.fldI fTIM_MAP_OFS_VALUE

/-- MAP_OFS written and the anchor counted. -/
def State.anchor (s : State) (ofs : Int) : State :=
  (s.put fTIM_MAP_OFS_VALUE (unsx 64 ofs)).incSat fTIM_MAP_STATUS_ANCHORS

/-- What an anchor does (R162, R163, R166, R167, R171): MAP_OFS changes by `dm` samples, E by `e`, and the event `ev` of the
ledger's anchor records follows, with the arguments of R711. Before TIME_SET is 1, E steps only to the time source's time and
never backward; afterwards it steps forward at once and catches up otherwise. -/
def State.anchorAct (s : State) (dm e : Int) (ev : Nat) : State :=
  let s := s.anchor (s.mapOfs + dm)
  let s := if ev % 4 = 0 then s.put fTIM_MAP_STATUS_MAP_VALID 1 else s
  let step (s : State) : State :=
    let s : State := { s with tim := { s.tim with eng := { s.tim.eng with ofs := s.tim.eng.ofs + e } } }
    s.steerE
  let s :=
    if ev % 4 = 3 then s.steerE
    else if !s.flag fTIM_MAP_STATUS_TIME_SET then (if 4 ≤ ev then (step s).put fTIM_MAP_STATUS_TIME_SET 1 else s)
    else if ev % 4 = 0 then s
    else if 0 ≤ e then step s
    else (s.put fTIM_MAP_STATUS_CATCHUP 1).steerE
  if ev % 4 = 0 then s
  else if ev % 4 = 3 then s.raise 33 []
  else s.raise 31 [a8 s.timeSrc, a8 (ev % 4 - 1), aI64 dm]

/-- An anchor that this unit finds due: E's first step goes to the time source's time (R167). On an Active unit it waits as a
ledger input (R166); a unit that runs alone makes it at once. -/
def State.anchorDue (s : State) (dm j : Int) (kind : Nat) : State :=
  let d := s.domNow s.timeSrc - s.now s.tim.eng
  let first := kind != 3 && !s.flag fTIM_MAP_STATUS_TIME_SET
  let e := if first then max 0 d else j
  let ev := if first && decide (0 ≤ d) then kind + 4 else kind
  if s.role = 2 then { s with tim := { s.tim with anchorOut := some (dm, e, ev) } } else s.anchorAct dm e ev

/-- The first anchor (R162, R167): M equals the time source's time times fs. -/
def State.firstAnchor (s : State) : State := s.anchorDue (s.toSamples (s.domNow s.timeSrc) - s.sampleIdx - s.mapOfs) 0 0

/-- The time source that R160 asks for now. -/
def State.wantedSrc (s : State) : Nat :=
  let cur := s.timeSrc
  let sel := s.fld fREF_SEL_STATUS_SELECTED
  if s.fld fTIM_CTRL_TIME_SEL = 1 then 0
  else if s.fld fTIM_CTRL_TIME_SEL = 2 then 1
  else if sel = 4 || sel = 5 then sel - 4
  else if s.domLockedOrSuspect cur then cur
  else if s.domState (1 - cur) = 3 then 1 - cur else cur

/-- TIME_SEL names a domain: it is the time source at once, and the mapping follows the old one until the named domain is
LOCKED (R160). -/
def State.nameSrc (s : State) : State :=
  let new := s.wantedSrc
  let old := s.tim.mapSrc.getD s.timeSrc
  if new = s.timeSrc then s
  else if !s.flag fTIM_MAP_STATUS_MAP_VALID then s.put fTIM_MAP_STATUS_SRC new
  else
    let s : State := { s with tim := { s.tim with mapSrc := if new = old then none else some old } }
    s.put fTIM_MAP_STATUS_SRC new

/-- The change of time source (R160, R163); a named source waits until it is LOCKED. -/
def State.srcStep (s : State) : State :=
  let new := s.wantedSrc
  let old := s.tim.mapSrc.getD s.timeSrc
  let named := s.fld fTIM_CTRL_TIME_SEL = 1 || s.fld fTIM_CTRL_TIME_SEL = 2
  if new = old then { s.put fTIM_MAP_STATUS_SRC new with tim := { s.tim with mapSrc := none } }
  else if !s.flag fTIM_MAP_STATUS_MAP_VALID then s.put fTIM_MAP_STATUS_SRC new
  else if named && s.domState new != 3 then s.nameSrc
  else
    let diff := s.domNow new - s.domNow old
    let dm := s.toSamples diff
    let s : State := { s.put fTIM_MAP_STATUS_SRC new with tim := { s.tim with mapSrc := none } }
    s.anchorDue dm diff (if within diff stepThr then 3 else 1)

/-- Accepted jumps are applied (R171): the domain steps, and a jump of the time source re-anchors. -/
def State.jumpStep (s : State) (d : Nat) : State :=
  match (s.dom d).pendJump with
  | none => s
  | some j =>
    let s := s.setDom d { s.dom d with pendJump := none }
    let s := s.stepDom d j
    if d = s.timeSrc && s.flag fTIM_MAP_STATUS_MAP_VALID && !s.following then s.anchorDue (s.toSamples j) j 2
    else s

/-- The restart of S when the rate class or B changes (R140). -/
def State.restartStep (s : State) : State :=
  match s.tim.restart with
  | none => s
  | some (cls, b) =>
    let oldM := s.mapOfs + s.sampleIdx
    let s := { s with sys := { s.sys with rateClass := cls, blk := b }
                      tim := { s.tim with restart := none, cSamp := s.tim.cnt, blkIdx := some 0 } }
    if !s.flag fTIM_MAP_STATUS_MAP_VALID then s
    else if s.domLockedOrSuspect s.timeSrc then
      (let m := s.toSamples (s.domNow s.timeSrc)
       (s.anchor m).raise 31 [a8 s.timeSrc, a8 2, aI64 (m - oldM)])
    else (s.put fTIM_MAP_STATUS_MAP_VALID 0).put fTIM_MAP_OFS_VALUE 0

/-- MAP_PHASE (R165): root cycles from the latest sample boundary to the nearest integer of the time source's time times
fs; its rounding to root cycles is open. -/
def State.phaseStep (s : State) : State :=
  if !s.flag fTIM_MAP_STATUS_MAP_VALID then s
  else
    let den : Int := 65536 * 1000000000
    let x := s.domNow s.timeSrc * s.fs
    let r := divEven x den * den - x
    let ph := openDiv s.free (r * (2 * s.perSample : Nat)) den
    { s.putI fTIM_MAP_STATUS_MAP_PHASE ph with free := s.free + 1 }

/-- An anchor record of this Active unit is on its way to its boundary. -/
def State.anchorWaits (s : State) : Bool :=
  s.tim.anchorOut.isSome || s.pair.inputs.any (fun r => match r.body with | .anchor .. => true | _ => false)

/-- Step 1 of a block boundary, the part of the time unit (R164, R166, R668): restart, the ledger's anchor, accepted jumps,
change of time source, first anchor. A Syncing or Standby unit anchors only from the ledger; an Active unit finds no new
anchor while one of its own waits. -/
def State.reAnchorStep (s : State) : State :=
  let s := s.restartStep
  let s := match s.tim.ledgerAnchor with
    | some (dm, e, ev) => ({ s with tim := { s.tim with ledgerAnchor := none } }).anchorAct dm e ev
    | none => s
  let s := if s.following then
      (((s.jumpStep 0).jumpStep 1).put fTIM_MAP_STATUS_SRC s.wantedSrc)
    else if s.anchorWaits then s
    else
      let s := (s.jumpStep 0).jumpStep 1
      let s := if s.anchorWaits then s else s.srcStep
      if !s.flag fTIM_MAP_STATUS_MAP_VALID && s.domState s.timeSrc = 3 && !s.anchorWaits then s.firstAnchor else s
  (s.steerE).timRefresh.phaseStep

/-- The smallest sample index whose media time is at or after a TIME96 instant (R164). -/
def State.sampleOf (s : State) (t : Int) : Int :=
  let den : Int := 65536 * 1000000000
  let up : Int := -((-(t * s.fs)) / den)
  up - s.mapOfs

/-! ### Snapshot, counter and transparent clock -/

/-- One timescale into its snapshot registers (R145, R146). -/
def State.snapScale (s : State) (sec ns : Fd) (t : Int) : State :=
  let u := t / 65536
  (s.put sec (unsx 64 (u / 1000000000))).put ns ((u % 1000000000).toNat * 65536 + (t % 65536).toNat)

/-- A snapshot of the root count and the timescales on one root edge (R145). -/
def State.takeSnapshot (s : State) : State :=
  let r := s.root % 2 ^ 81
  let s := (s.put fTIM_SNAP_ROOT_LO_VALUE (r % 2 ^ 64)).put fTIM_SNAP_ROOT_HI_VALUE (r / 2 ^ 64)
  let s := s.snapScale fTIM_SNAP_P0_SEC_VALUE fTIM_SNAP_P0_NS_VALUE (s.domNow 0)
  let s := s.snapScale fTIM_SNAP_P1_SEC_VALUE fTIM_SNAP_P1_NS_VALUE (s.domNow 1)
  let s := s.snapScale fTIM_SNAP_E_SEC_VALUE fTIM_SNAP_E_NS_VALUE (s.now s.tim.eng)
  s.put fTIM_SNAP_CTRL_TAKE 0

/-- TAKE (R145). -/
def execTake (s : State) : Host.Outcome State Fault Refusal := .next (s.when s.clocked State.takeSnapshot)

/-- A 64-bit read of TIM_COUNT_LO latches both halves of the counter (R680). -/
def State.latchCount (s : State) : State :=
  (s.put fTIM_COUNT_LO_VALUE (s.tim.cnt % 2 ^ 64)).put fTIM_COUNT_HI_VALUE (s.tim.cnt / 2 ^ 64)

/-- TIM_COUNT_LO_READ (R680): the value read stands in TIM_COUNT_LO, and TIM_COUNT_HI is latched. -/
def execTimCountLoRead (s : State) : Host.Outcome State Fault Refusal := .next (s.when s.clocked State.latchCount)

/-- A CORR written to port `p`: it waits for one Sync of each domain that uses the port (R175). -/
def State.corrWrite (s : State) (p : Nat) (corr : Nat) : State :=
  let s := s.put fTIM_PORTn_ASYM_CORR corr p
  forN 2 (fun d s => if bit (s.fld fTIM_Dn_CFG_PORTS d) p then s.setPtpPort d p { s.ptpPort d p with corrDue := true } else s) s

/-- CORR_WRITE (R175). -/
def execCorrWrite (port : Nat) (corr : Int) (s : State) : Host.Outcome State Fault Refusal :=
  .next (s.when (s.clocked && decide (port < 4)) fun s => s.corrWrite port (unsx 32 corr))

/-- correctionField with a residence time added, saturating (R151, R152). -/
def addResidence (corr res : Int) : Int := min (corr + res) 0x7FFF_FFFF_FFFF_FFFF

/-- The residence time of a frame in 2⁻¹⁶ ns; its rounding is open (R151). -/
def State.residence (s : State) (f : TcFrame) : Int :=
  openDiv s.free (((f.egress : Int) - f.ingress) * s.tim.pNum * 65536) (2 * s.tim.pDen)

/-- TIM_TC_COUNT holds TC_PDELAY_DROP in bits 63:32, TC_OTHER in 31:16, TC_FU_LATE in 15:0, each saturating. -/
def tcCount (w hi lo : Nat) : Nat :=
  let v := bits w hi lo
  if v = 2 ^ (hi + 1 - lo) - 1 then w else putBits w hi lo (v + 1)

/-- TC_FORWARD (R150 to R152): a PTP frame between two external ports. The correctionField it leaves with stands in
`tcLast`; a peer-delay frame is not forwarded. -/
def execTcForward (f : TcFrame) (s : State) : Host.Outcome State Fault Refusal :=
  .next (s.when s.live fun s =>
    let out (s : State) (c : Int) : State := { s with tim := { s.tim with tcLast := some c } }
    let res := s.residence f
    let s1 := { s with free := s.free + 1 }
    if !s.flag fTIM_CTRL_TC_EN then out s f.corr
    else
      match f.kind with
      | .syncOneStep => out s1 (addResidence f.corr res)
      | .delayReq => out s1 (addResidence f.corr res)
      | .syncTwoStep =>
        (match s.tim.fuHeld.find? (fun h => h.1 = f.seq) with
         | some h =>
           out { s1 with tim := { s1.tim with fuHeld := s1.tim.fuHeld.filter (fun h => h.1 != f.seq) } }
             (addResidence h.2 res)
         | none => out { s1 with tim := { s1.tim with syncRes := (f.seq, res) :: s1.tim.syncRes } } f.corr)
      | .followUp syncIn =>
        (match s.tim.syncRes.find? (fun h => h.1 = f.seq) with
         | some h =>
           out { s with tim := { s.tim with syncRes := s.tim.syncRes.filter (fun h => h.1 != f.seq) } }
             (addResidence f.corr h.2)
         | none =>
           if syncIn then { s with tim := { s.tim with fuHeld := s.tim.fuHeld ++ [(f.seq, f.corr)] } } else out s f.corr)
      | .other => out s f.corr
      | .pdelay => s.put fTIM_TC_COUNT_VALUE (tcCount (s.fld fTIM_TC_COUNT_VALUE) 63 32)
      | .layer2orIpv6 => out (s.put fTIM_TC_COUNT_VALUE (tcCount (s.fld fTIM_TC_COUNT_VALUE) 31 16)) f.corr)

/-- TC_FOLLOW_UP_LATE (R151): the held Follow_Up leaves unchanged and is counted. -/
def execTcFollowUpLate (seq : Nat) (s : State) : Host.Outcome State Fault Refusal :=
  .next (match s.tim.fuHeld.find? (fun h => h.1 = seq) with
    | none => s
    | some h => s.when s.live fun s =>
      let s := { s with tim := { s.tim with fuHeld := s.tim.fuHeld.filter (fun h => h.1 != seq), tcLast := some h.2 } }
      s.put fTIM_TC_COUNT_VALUE (tcCount (s.fld fTIM_TC_COUNT_VALUE) 15 0))

end Sys2Proof.Machine
end

