-- ==== Sys2Proof/Machine/Scene.lean ====
section
/-! DEFINITION. Parameter changes, the Vat and Press (spec 10): transitions by class, glide tags, filter and delay
crossfades, the checks of a Press and its execution at a boundary. -/

namespace Sys2Proof.Machine

open Sys2Proof

/-! ### Counts of R290 and placement of R301, R356 -/

/-- Channels in use at the rate class in force (R290). -/
def State.channels (s : State) : Nat := 4096 / 2 ^ s.sys.rateClass

/-- Buses and feeds in use (R290). -/
def State.buses (s : State) : Nat :=
  if s.sys.rateClass = 0 then (if s.sys.blk = 4 then 256 else 512) else if s.sys.rateClass = 1 then 256 else 128

/-- TDM slots per port (R290, R446). -/
def State.tdmSlots (s : State) : Nat := 32 / 2 ^ s.sys.rateClass

/-- Buses of one slice, W of R301. -/
def State.sliceBuses (s : State) : Nat :=
  if s.sys.rateClass = 0 then (if s.sys.blk = 4 then 8 else 16) else if s.sys.rateClass = 1 then 8 else 4

/-- The element is valid under R290; arrays that R290 does not count are valid whole. -/
def State.elemValid (s : State) (idx sub elem : Nat) : Bool :=
  if idx = 0x5100 then
    (let k := sub % 16
     if k = 1 || k = 2 then decide (elem < s.channels) else if k = 3 then decide (elem % 32 < s.tdmSlots) else true)
  else if idx = 0x5200 then decide (elem / 512 < s.channels) && decide (elem % 512 < s.buses)
  else if idx = 0x5300 || idx = 0x5400 then decide (elem < s.channels)
  else if idx = 0x5480 || idx = 0x5500 || idx = 0x5580 then decide (elem < s.buses)
  else if idx = 0x5600 then (if sub % 16 = 1 then decide (elem < s.channels) else decide (elem < s.buses))
  else true

/-- The source number is neither reserved nor invalid (R288, R290). -/
def State.srcValid (s : State) (n : Nat) : Bool :=
  if n < 0x1000 then decide (n < s.channels)
  else if n < 0x1200 then decide (n % 32 < s.tdmSlots)
  else if n < 0x1400 then decide (n - 0x1200 < s.buses)
  else if n < 0x1600 then decide (n - 0x1400 < s.buses)
  else if n < 0x1610 then true
  else if 0x4000 ≤ n && n < 0x8000 then decide (n % 0x1000 < s.channels)
  else n = 0xFFFF

/-- Source number of a router entry. -/
def rSrc (e : Nat) : Nat := e / 2 ^ 48 % 2 ^ 16
/-- PATH of a router entry. -/
def rPath (e : Nat) : Bool := e.testBit 47
/-- MUTE of a router entry. -/
def rMute (e : Nat) : Bool := e.testBit 46
/-- RND of a router entry. -/
def rRnd (e : Nat) : Bool := e.testBit 45
/-- XF of a router entry in ms. -/
def rXf (e : Nat) : Nat := bits e 44 38
/-- DGAIN of a router entry. -/
def rGain (e : Nat) : Nat := e % 2 ^ 32

/-- The reason for which a router entry write is refused, or 0 (R292); `chan` marks a channel-input sink. -/
def State.routeReason (s : State) (chan : Bool) (e : Nat) : Nat :=
  if !s.srcValid (rSrc e) then 1
  else if rPath e && chan then 2
  else if rPath e && !(decide (0x1000 ≤ rSrc e) && decide (rSrc e < 0x1200)) then 3
  else if bits e 37 32 != 0 then 4 else 0

/-- Sink number of a router object element (R289). -/
def sinkOf (sub elem : Nat) : Nat :=
  if sub = 1 then elem else if sub = 2 then 0x1000 + elem else if sub = 3 then 0x2000 + elem else 0x2200 + elem

/-- Sub-index and element of a sink number. -/
def sinkObj (n : Nat) : Nat × Nat :=
  if n < 0x1000 then (1, n) else if n < 0x2000 then (2, n - 0x1000) else if n < 0x2200 then (3, n - 0x2000) else (4, n - 0x2200)

/-- The logical cluster whose state an element holds, if any (R301, R356). -/
def State.clusterOfKey (s : State) (k : Nat) : Option Nat :=
  let idx := okIdx k
  let e := okElem k
  if idx = 0x5200 then some (e % 512 / s.sliceBuses)
  else if idx = 0x5100 && okSub k != 1 then none
  else (s.route.places.find? (fun p => p.idx = idx && decide (p.lo ≤ e) && decide (e ≤ p.hi))).map (fun p => p.cluster)

/-- L_c of R356. -/
def State.lc (s : State) : Nat := min 8192 (s.perSample * s.sys.blk / 16)

/-- The key's cluster is in Cluster Reset (R371). -/
def State.keyInReset (s : State) (k : Nat) : Bool :=
  match s.clusterOfKey k with
  | some c => bit s.sys.cluReset (s.fld fHLTH_CMAPk_SITE c)
  | none => false

/-! ### Gain words and glides (R298, R299, R342 to R347) -/

/-- Key of the gain word that a gain object bears on: trim and polarity share one, fader and mute share one (R341). -/
def gainKey (k : Nat) : Nat :=
  let idx := okIdx k
  if idx = 0x5400 || idx = 0x5480 || idx = 0x5580 then
    (if okSub k = 0x02 then objKey idx 0x01 (okElem k) else if okSub k = 0x31 then objKey idx 0x30 (okElem k) else k)
  else k

/-- The target of a gain word under the committed values, in Q2.22 (Q1.23 for a generator's AMP). -/
def State.gainTarget (s : State) (gk : Nat) : Int :=
  let idx := okIdx gk
  let e := okElem gk
  let v : Int := s.objNum idx (okSub gk) e
  if idx = 0x5400 || idx = 0x5480 || idx = 0x5580 then
    (if okSub gk = 0x01 then (if s.objNum idx 0x02 e = 1 then -v else v)
     else if okSub gk = 0x30 then (if s.objNum idx 0x31 e = 1 then 0 else v)
     else v)
  else v

/-- A gain word at rest on a target: CUR = TGT × 2⁸ and TAG = 0. -/
def restWord (t : Int) : GainWord := { cur := t * 256, tgt := t, tag := 0 }

/-- The gain word of a key; one that is not listed rests on the committed value. -/
def State.gainWord (s : State) (gk : Nat) : GainWord := nget (restWord (s.gainTarget gk)) s.scene.gains gk

/-- A gain word written; one at rest on the committed value is not listed. -/
def State.setGain (s : State) (gk : Nat) (w : GainWord) : State :=
  { s with scene := { s.scene with gains := nset (restWord (s.gainTarget gk)) s.scene.gains gk w } }

/-- K of a glide of T ms (R343). -/
def State.glideLen (s : State) (t : Nat) : Nat := max 1 (divNear (t * s.fs : Nat) (1000 * s.sys.blk : Nat)).toNat

/-- A tag that this boundary has allocated for the same LAW and K (R344). -/
def State.freshTag (s : State) (law len : Nat) : Option Nat :=
  (s.scene.tags.find? (fun e => e.2.law = law && e.2.len = len && e.2.k = 1)).map (fun e => e.1)

/-- The lowest free tag, 1 to 255 (R344). -/
def State.freeTag (s : State) : Option Nat := (List.range' 1 255).find? (fun t => !s.scene.tags.any (fun e => e.1 = t))

/-- A glide of gain word `gk` starts towards `t`, or waits for a tag with event 114 (R344, R346, R347). -/
def State.startGlide (s : State) (gk : Nat) (w : GainWord) (t : Int) (law len : Nat) : State :=
  let drop : List WaitGlide := s.scene.waits.filter (fun x => x.key != gk)
  let s : State := { s with scene := { s.scene with waits := drop } }
  match s.freshTag law len with
  | some g => s.setGain gk { cur := w.cur, tgt := t, tag := g }
  | none =>
    match s.freeTag with
    | some g =>
      let s : State := { s with scene := { s.scene with tags := nput s.scene.tags g { law := law, len := len, k := 1 } } }
      s.setGain gk { cur := w.cur, tgt := t, tag := g }
    | none =>
      let s : State := { s with scene := { s.scene with waits := s.scene.waits ++ [{ key := gk, tgt := t, law := law, len := len }] } }
      (s.setGain gk w).raise 114 []

/-- The factor that tag `g` takes in this block (R299, R343). -/
def State.tagFactor (s : State) (g : Nat) : Nat :=
  match s.scene.tags.find? (fun e => e.1 = g) with
  | some e => glideFactor e.2.law e.2.len e.2.k
  | none => 0

/-- One block of a gain word: CUR′ and TAG′ of R299 for the factor `r`. -/
def gainStep (w : GainWord) (r : Nat) : GainWord :=
  if w.tag = 0 then w
  else if r = 0x40000000 then { w with cur := w.tgt * 256, tag := 0 }
  else { w with cur := w.cur + divEven ((w.tgt * 256 - w.cur) * r) (2 ^ 30) }

/-- The procedure of R299 over every gain word, for the block that begins (log entry 32). -/
def State.gainBlock (s : State) : State :=
  let ws := s.scene.gains.filter (fun e => e.2.tag != 0)
  forL ws (fun e s => s.setGain e.1 (gainStep e.2 (s.tagFactor e.2.tag))) s

/-- Every task that reads the factor table completed block `j` (R345). -/
def State.readersDone (s : State) (j : Nat) : Bool :=
  s.route.readers.all (fun t => (s.rt (t / 512) (t % 512)).done = some j && (s.rt (t / 512) (t % 512)).good)

/-- Tags at boundary `j`: one whose factor was 0x4000_0000 is released when its readers completed block `j − 1`; the
others move to their next block (R343, R345). -/
def State.tagBoundary (s : State) (j : Nat) : State :=
  let done := s.readersDone (j - 1)
  let keep := s.scene.tags.filter (fun e => !(decide (e.2.len ≤ e.2.k) && done))
  { s with scene := { s.scene with tags := keep.map (fun e => (e.1, { e.2 with k := min (e.2.k + 1) (max e.2.len 2) })) } }

/-- Glides that wait take the tags that have become free, in order (R346). -/
def State.retryGlides (s : State) : State :=
  let ws := s.scene.waits
  let s : State := { s with scene := { s.scene with waits := [] } }
  forL ws (fun x s =>
    match s.freshTag x.law x.len, s.freeTag with
    | none, none => { s with scene := { s.scene with waits := s.scene.waits ++ [x] } }
    | _, _ => s.startGlide x.key (s.gainWord x.key) x.tgt x.law x.len) s

/-- A committed gain change: Direct, or a glide of LAW and TIME (R341, R343, R347). -/
def State.changeGain (s : State) (old : GainWord) (gk time law : Nat) : State :=
  let t := s.gainTarget gk
  if time = 0 then
    let drop : List WaitGlide := s.scene.waits.filter (fun x => x.key != gk)
    ({ s with scene := { s.scene with waits := drop } }).setGain gk (restWord t)
  else s.startGlide gk old t law (s.glideLen time)

/-! ### Filters and delays (R348 to R353) -/

/-- Samples of a crossfade of T ms, K of R329, R348 and R351. -/
def State.fadeLen (s : State) (t : Nat) : Nat := (divNear (t * s.fs : Nat) 1000).toNat

/-- Filter stage of a strip parameter: 0 the high-pass, 1 to 4 the EQ bands; a graph kernel's own number otherwise (R348). -/
def State.stageOf (s : State) (k : Nat) : Nat :=
  let sub := okSub k
  if 0x6100 ≤ okIdx k then
    (match s.route.params.find? (fun p => p.idx = okIdx k && p.sub = sub) with | some p => p.stage | none => 0)
  else if sub ≤ 4 then 0 else sub / 4 - 3

/-- Key of a filter stage: the strip's index and element with the stage number as sub-index. -/
def State.stageKey (s : State) (k : Nat) : Nat := objKey (okIdx k) (s.stageOf k) (okElem k)

/-- A committed filter change (R348 to R350): it joins the crossfade that starts at this boundary, or is held while an
earlier one runs. -/
def State.changeFilter (s : State) (c : Change) : State :=
  let sk := s.stageKey c.key
  let x := nget {} s.scene.stages sk
  let now := s.sampleIdx
  let y : Stage :=
    if x.running && x.start != now then { x with held := x.held.filter (fun h => h.key != c.key) ++ [c] }
    else if c.time = 0 then x
    else { x with start := now, len := max (if x.running then x.len else 0) (s.fadeLen c.time), running := true }
  { s with scene := { s.scene with stages := nset {} s.scene.stages sk y } }

/-- Held filter changes whose crossfade has ended take effect together (R350). -/
def State.releaseStages (s : State) : State :=
  let due := s.scene.stages.filter (fun e => !e.2.running && !e.2.held.isEmpty)
  forL due (fun e s =>
    let t := e.2.held.foldl (fun m c => max m c.time) 0
    let y : Stage := if t = 0 then {} else { start := s.sampleIdx, len := s.fadeLen t, running := true, held := [] }
    { s with scene := { s.scene with stages := nset {} s.scene.stages e.1 y } }) s

/-- FILTER_CROSSFADE_END (R348, R350): only the new filter runs, and the held changes become due at the next boundary. -/
def execFilterCrossfadeEnd (idx stage elem : Nat) (s : State) : Host.Outcome State Fault Refusal :=
  let sk := objKey idx stage elem
  let x := nget {} s.scene.stages sk
  .next (s.when (s.live && x.running) fun s =>
    { s with scene := { s.scene with stages := nset {} s.scene.stages sk { x with running := false, start := 0, len := 0 } } })

/-- A delay object's value in 1/64 sample: LOOK is held in µs, the others in samples (R296, R304). -/
def State.delay64 (s : State) (k v : Nat) : Int :=
  if okIdx k = 0x5500 && okSub k = 2 then divNear (v * s.fs : Nat) 1000000 * 64 else (v : Int) * 64

/-- The delay of a key; one that is not listed rests at its committed value. -/
def State.delayOf (s : State) (k : Nat) : DelayMove :=
  let r := s.delay64 k (s.objNum (okIdx k) (okSub k) (okElem k))
  nget { frm := r, to' := r } s.scene.delays k

/-- A delay written; one that rests at its committed value is not listed. -/
def State.setDelay (s : State) (k : Nat) (d : DelayMove) : State :=
  let r := s.delay64 k (s.objNum (okIdx k) (okSub k) (okElem k))
  { s with scene := { s.scene with delays := nset { frm := r, to' := r } s.scene.delays k d } }

/-- The position that a slew has reached, in 1/64 sample: one unit per sample towards its target (R352). -/
def State.slewPos (s : State) (d : DelayMove) : Int :=
  let n : Int := (s.sampleIdx - d.start : Nat)
  if d.frm ≤ d.to' then min d.to' (d.frm + n) else max d.to' (d.frm - n)

/-- A delay change starts from the position `p` (R351 to R353). -/
def State.startDelay (s : State) (c : Change) (p t : Int) : DelayMove :=
  if c.time = 0 || p = t then { frm := t, to' := t }
  else if c.law = 1 then { frm := p, to' := t, start := s.sampleIdx, slew := true }
  else { frm := p, to' := t, start := s.sampleIdx, len := s.fadeLen c.time }

/-- A committed delay change: held while a crossfade runs, replacing the target of a slew (R351 to R353). -/
def State.changeDelay (s : State) (old : DelayMove) (c : Change) : State :=
  let t := match c.val with | .num n => s.delay64 c.key n | .bytes _ => old.to'
  if old.len != 0 then s.setDelay c.key { old with held := some c }
  else if old.slew then
    let p := s.slewPos old
    s.setDelay c.key (if p = t then { frm := t, to' := t } else { frm := p, to' := t, start := s.sampleIdx, slew := true })
  else s.setDelay c.key (s.startDelay c old.to' t)

/-- Held delay changes whose crossfade has ended (R350, R351). -/
def State.releaseDelays (s : State) : State :=
  let due := s.scene.delays.filter (fun e => e.2.len = 0 && !e.2.slew && e.2.held.isSome)
  forL due (fun e s =>
    match e.2.held with
    | none => s
    | some c => s.changeDelay { e.2 with held := none } c) s

/-- DELAY_CROSSFADE_END (R351): the delay stands at its new position; a held change becomes due. -/
def execDelayCrossfadeEnd (idx sub elem : Nat) (s : State) : Host.Outcome State Fault Refusal :=
  let k := objKey idx sub elem
  let d := s.delayOf k
  .next (s.when (s.live && d.len != 0) fun s => s.setDelay k { frm := d.to', to' := d.to', held := d.held })

/-- DELAY_SLEW_END (R352): the slew has reached its target delay. -/
def execDelaySlewEnd (idx sub elem : Nat) (s : State) : Host.Outcome State Fault Refusal :=
  let k := objKey idx sub elem
  let d := s.delayOf k
  .next (s.when (s.live && d.slew) fun s => s.setDelay k { frm := d.to', to' := d.to' })

/-! ### TIME, LAW and the committed value -/

/-- TIME and LAW of a request resolved for an object's class, or `none` where R337 refuses them with RANGE. -/
def State.timeLaw (s : State) (r : ObjRow) (time law : Nat) : Option (Nat × Nat) :=
  let t := if time = 0xFFFF then time else min time 2000
  if r.cls = 1 || r.cls = 4 then
    let dt := if r.cls = 1 then s.objNum 0x7010 1 0 else s.objNum 0x7010 5 0
    let dl := if r.cls = 1 then s.objNum 0x7010 2 0 else s.objNum 0x7010 4 0
    if t = 0 then some (0, 0)
    else if t = 0xFFFF then some (dt, dl)
    else if 1 < law then none
    else if r.cls = 4 && law = 0 then some (clampN 2 50 t, 0) else some (t, law)
  else if r.cls = 2 then
    (if t = 0 then some (0, 0) else if t = 0xFFFF then some (s.objNum 0x7010 3 0, 0) else some (clampN 5 50 t, 0))
  else some (0, 0)

/-- The committed value of an STG element written, wherever it lives. -/
def State.commitVal (s : State) (k : Nat) (v : PVal) : State :=
  if decide (0x4110 ≤ okIdx k) && decide (okIdx k ≤ 0x411F) then
    (match v with | .num n => s.put fWELL_GENg_CFG_AMP n (okIdx k - 0x4110) | .bytes _ => s)
  else s.setObj (okIdx k) (okSub k) (okElem k) v

/-- One committed change of an STG element with the transition of its class (R336, R340, R371). Route changes wait for
step 5 (R333). -/
def State.applyChange (s : State) (c : Change) : State :=
  match s.objRow (okIdx c.key) (okSub c.key) with
  | none => s
  | some r =>
    let gk := gainKey c.key
    let oldG := s.gainWord gk
    let oldD := s.delayOf c.key
    let s1 := s.commitVal c.key c.val
    if r.cls = 3 then
      let n := sinkOf (okSub c.key) (okElem c.key)
      let was := s.objNum 0x5100 (okSub c.key) (okElem c.key)
      let f := if s.route.inForce.any (fun e => e.1 = n) then s.route.inForce else nput s.route.inForce n (was + 1)
      { s1 with route := { s1.route with inForce := f, due := s1.route.due.filter (fun x => x != n) ++ [n] } }
    else if s.idle || s.keyInReset c.key then
      (if r.cls = 1 then s1.setGain gk (restWord (s1.gainTarget gk)) else s1)
    else if r.cls = 1 then s1.changeGain oldG gk c.time c.law
    else if r.cls = 2 then s1.changeFilter c
    else if r.cls = 4 then s1.changeDelay oldD c
    else s1

/-- A WRITE of an STG element waits for the next boundary; a later one of the same element replaces it (R338). -/
def State.queueWrite (s : State) (c : Change) : State :=
  { s with scene := { s.scene with writes := s.scene.writes.filter (fun x => x.key != c.key) ++ [c] } }

/-- WRITEs that reach the boundary, in arrival order; those beyond L_c for one cluster stay for the next one (R338,
R365). -/
def State.applyWrites (s : State) : State :=
  let ws := s.scene.writes
  let s : State := { s with scene := { s.scene with writes := [] } }
  (forL ws (fun c (p : State × List (Option Nat)) =>
    let cl := p.1.clusterOfKey c.key
    let n := (p.2.filter (fun x => x = cl)).length
    if cl.isSome && decide (p.1.lc ≤ n) then
      ({ p.1 with scene := { p.1.scene with writes := p.1.scene.writes ++ [c] } }, p.2)
    else (p.1.applyChange c, cl :: p.2)) (s, [])).1

/-! ### The Vat (R354 to R358) -/

/-- State of the Vat: 0 OPEN, 1 SEALED, 2 PREPARED (R358). -/
def State.vatState (s : State) : Nat :=
  match s.scene.press with
  | none => 0
  | some p => if p.prepared then 2 else 1

/-- A STAGE of one element (R355, R356): STATUS and DETAIL, and the state. -/
def State.stageOne (s : State) (k : Nat) (e : VatEnt) : (Nat × Nat) × State :=
  let new := !s.scene.vat.any (fun x => x.1 = k)
  let cl := s.clusterOfKey k
  let inCl := (s.scene.vat.filter (fun x => s.clusterOfKey x.1 = cl)).length
  if s.vatState != 0 then ((7, 0), s)
  else if new && decide (262144 ≤ s.scene.vat.length) then ((15, 0), s)
  else if new && cl.isSome && decide (s.lc ≤ inCl) then ((15, 1), s)
  else ((0, 0), { s with scene := { s.scene with vat := nput s.scene.vat k e } })

/-- The Vat is emptied. -/
def State.emptyVat (s : State) : State := { s with scene := { s.scene with vat := [] } }

/-! ### Press (R359 to R375) -/

/-- Changes that the Vat holds, in key order. -/
def State.vatChanges (s : State) : List Change :=
  s.scene.vat.map (fun e => { key := e.1, val := e.2.val, time := e.2.time, law := e.2.law })

/-- The changes of a Scene Reassert: the Vat's entries, and every other STG element that differs from its default, with
the class default transition (R79, R369; log entry 33). -/
def State.reassertChanges (s : State) : List Change :=
  let staged (k : Nat) : Bool := s.scene.vat.any (fun e => e.1 = k)
  let amps : List Nat := (List.range 16).filterMap (fun g =>
    if s.fld fWELL_GENg_CFG_AMP g = fWELL_GENg_CFG_AMP.resetAt g then none else some (objKey (0x4110 + g) 2 0))
  let keys := s.objs.map (fun e => e.1) ++ amps
  s.vatChanges ++ keys.filterMap (fun k =>
    match s.objRow (okIdx k) (okSub k) with
    | some r =>
      if r.acc = .stg && !staged k then
        let tl := (s.timeLaw r 0xFFFF 0).getD (0, 0)
        some { key := k, val := s.objDflt r (okIdx k) (okElem k), time := tl.1, law := tl.2 }
      else none
    | none => none)

/-- The pairs of gain LAW and K that a list of changes needs (R344, R360). -/
def State.gainPairs (s : State) (l : List Change) : List (Nat × Nat) :=
  l.foldl (fun acc c =>
    match s.objRow (okIdx c.key) (okSub c.key) with
    | some r =>
      if r.cls = 1 && c.time != 0 && !acc.contains (c.law, s.glideLen c.time) then acc ++ [(c.law, s.glideLen c.time)] else acc
    | none => acc) []

/-- The target block of an INSTANT: the first block whose first sample is at or after it (R363). -/
def State.pressTarget (s : State) (t : Int) : Nat :=
  let b : Int := (max 1 s.sys.blk : Nat)
  (-((-(s.sampleOf t)) / b)).toNat

/-- An atomic batch of some session is being entered (R360, R624). -/
def State.batchOpen (s : State) : Bool := s.pop.sessions.any (fun x => x.batch.isSome)

/-- The checks of R360 in order: 0, or the reason code of the first that fails. -/
def State.pressCheck (s : State) (kind digest count : Nat) (timed : Bool) : Nat :=
  let l := if kind = 1 then s.reassertChanges else s.vatChanges
  if s.scene.press.isSome || s.scene.auto'.isSome then 2
  else if count != s.scene.vat.length || s.batchOpen then 3
  else if decide (digest ≠ (if kind = 1 then s.reassertDigest else s.pendingDigest)) then 4
  else if 32 < (s.gainPairs l).length then 5
  else if timed && !s.flag fTIM_MAP_STATUS_MAP_VALID then 6 else 0

/-- The answer of an EXEC (R622): STATUS, DETAIL and result. -/
def State.answer (s : State) (status detail result : Nat) : State :=
  { s with pop := { s.pop with reply := (status, detail, result) } }

/-- The first offset of a non-zero byte among the reserved ones of a Press argument (R713). -/
def pressReserved (arg : List Byte) : Option Nat :=
  let f0 := (arg.getD 12 0).toNat
  if 2 ≤ f0 then some 12
  else ([13, 14, 15, 28, 29, 30, 31] : List Nat).find? (fun i => (arg.getD i 0).toNat != 0)

/-- The checks and acceptance of a Press (`kind` 0) or a Scene Reassert (`kind` 1) with its argument (R359 to R361,
R713). -/
def State.pressExec (s : State) (kind : Nat) (arg : List Byte) : State :=
  if arg.length != 32 then s.answer 13 arg.length 0
  else
    match pressReserved arg with
    | some o => s.answer 13 o 0
    | none =>
      let digest := ofLeBytes (arg.take 8)
      let count := ofLeBytes ((arg.drop 8).take 4)
      let timed := (arg.getD 12 0).toNat % 2 = 1
      let t96 := ofLeBytes ((arg.drop 16).take 8) * 2 ^ 32 + ofLeBytes ((arg.drop 24).take 4)
      if timed && !time96Ok t96 then s.answer 16 0 0
      else
        let r := s.pressCheck kind digest count timed
        if r != 0 then (s.raise 113 [a8 r]).answer 8 r 0
        else if kind = 0 && s.scene.vat.isEmpty then (s.raise 112 [a8 0]).answer 0 0 0
        else
          let inst : Option Int := if timed then some (ofTime96 t96) else none
          let tgt := match inst with | some t => s.pressTarget t | none => 0
          let p : PressReq := { kind := kind, digest := digest, instant := inst, target := tgt, prepared := false, late := false
                                entries := [], partnerReady := false, stamped := none }
          ({ s with scene := { s.scene with press := some p } }).answer 0 0 0

/-- The last Press record written (R375). -/
def State.pressRecord (s : State) (blk : Nat) (media : Int) (entries status kind : Nat) : State :=
  { s with scene := { s.scene with lastBlock := blk, lastMedia := media, lastScene := s.scene.counter
                                   lastEntries := entries, lastStatus := status, lastKind := kind } }

/-- Media count of the first sample of block `j`. -/
def State.mediaOf (s : State) (j : Nat) : Int := (j * s.sys.blk : Nat) + s.mapOfs

/-- A pending Press is cancelled (R60, R368). -/
def State.pressCancel (s : State) : State :=
  match s.scene.press with
  | none => s
  | some p =>
    let s : State := { s with scene := { s.scene with press := none } }
    (s.pressRecord s.blkIndex (s.mediaOf s.blkIndex) 0 7 p.kind).raise 113 [a8 7]

/-- Vat Clear (R368). -/
def State.vatClear (s : State) : State :=
  if s.scene.press.isSome then s.answer 8 2 0 else s.emptyVat.answer 0 0 0

/-- An EXEC of a scene object acts now, or is a ledger input on an Active unit (R372). -/
def State.sceneExec (s : State) (sub : Nat) (arg : List Byte) : State :=
  if s.paired then s.submit (.exec 0x7000 sub arg)
  else if sub = 0x10 then s.pressExec 0 arg
  else if sub = 0x20 then s.pressExec 1 arg
  else if sub = 0x11 then s.pressCancel.answer 0 0 0
  else s.vatClear

/-- PRESS (R359, R360): an EXEC of object 0x7000.10 with its argument. -/
def execPress (arg : List Byte) (s : State) : Host.Outcome State Fault Refusal :=
  .next (s.when s.live fun s => s.sceneExec 0x10 arg)

/-- SCENE_REASSERT (R369): an EXEC of object 0x7000.20; on a pair's standby it goes to the Active unit, as a ledger record
that this unit receives (R61, R633). -/
def execSceneReassert (arg : List Byte) (s : State) : Host.Outcome State Fault Refusal :=
  .next (s.when s.live fun s => s.sceneExec 0x20 arg)

/-- PRESS_CANCEL (R368). -/
def execPressCancel (s : State) : Host.Outcome State Fault Refusal :=
  .next (s.when s.live fun s => s.sceneExec 0x11 [])

/-- VAT_CLEAR (R368). -/
def execVatClear (s : State) : Host.Outcome State Fault Refusal :=
  .next (s.when s.live fun s => s.sceneExec 0x12 [])

/-- The pending Press is stamped on the Active unit once both units are prepared; a Syncing partner follows in its replay
(R372, log entry 40). -/
def State.stampPress (s : State) : State :=
  match s.scene.press with
  | some p =>
    if s.role = 2 && p.prepared && (p.partnerReady || s.pair.partner != 3) && p.stamped.isNone then
      let k := max p.target (s.blkIndex + 2)
      let s : State := { s with scene := { s.scene with press := some { p with stamped := some k } } }
      s.stamp k (.press s.scene.counter)
    else s
  | none => s

/-- Preparation of the pending Press has ended: a following unit reports it to its partner (R372). -/
def State.pressReady (s : State) (q : PressReq) : State :=
  let s : State := { s with scene := { s.scene with press := some { q with prepared := true } } }
  if s.following then s.sendFrame (.prep s.scene.counter) else s.stampPress

/-- PRESS_PREPARED (R362): preparation of the pending Press ends, the startup Press or the Press of R51 first. -/
def execPressPrepared (s : State) : Host.Outcome State Fault Refusal :=
  .next (s.when s.live fun s =>
    let pend (s : State) : State := match s.scene.press with | some q => s.pressReady q | none => s
    match s.scene.auto' with
    | some p => if p.prepared then pend s else { s with scene := { s.scene with auto' := some { p with prepared := true } } }
    | none => pend s)

/-- The target of a timed Press evaluated again with the mapping in force (R164, R363). -/
def State.retarget (s : State) : State :=
  match s.scene.press with
  | none => s
  | some p =>
    match p.instant with
    | none => s
    | some t => { s with scene := { s.scene with press := some { p with target := s.pressTarget t } } }

/-- Tags that a list of changes would take beyond those this boundary already shares. -/
def State.tagsNeeded (s : State) (l : List Change) : Nat :=
  ((s.gainPairs l).filter (fun p => (s.freshTag p.1 p.2).isNone)).length

/-- Run is reached (R49, R51): STATE = 2, and a TARGET of Idle that was written meanwhile begins its change. -/
def State.reachRun (s : State) : State :=
  (s.put fSYS_PWR_CTRL_STATE 2).put fSYS_PWR_CTRL_BUSY (if s.fld fSYS_PWR_CTRL_TARGET = 1 then 1 else 0)

/-- The end of stage 3 at the startup Press (STAGE 4 with event 0, R643), or of a return to Run (R51). -/
def State.autoDone (s : State) (kind : Nat) : State :=
  if kind = 2 then
    let s : State := { s with sys := { s.sys with started := true } }
    ((s.put fSYS_BOOT_STATUS_STAGE 4).raise 0 [a32 s.scene.counter]).reachRun
  else if kind = 3 then s.reachRun else s

/-- Steps 1 to 4 of R367 for a Press that executes at boundary `j`. -/
def State.pressDone (s : State) (p : PressReq) (j entries : Nat) (late : Bool) : State :=
  let s := if 2 ≤ p.kind then s else s.emptyVat
  let s : State := { s with scene := { s.scene with counter := (s.scene.counter + 1) % 2 ^ 32 } }
  let st := if late then 1 else 0
  ((s.pressRecord j (s.mediaOf j) entries st p.kind).raise 112 [a8 st]).autoDone p.kind

/-- A pending Press at boundary `j` (R363, R364, R365): it waits, is refused on its digest, waits for tags, or executes. The
second value tells whether it acted. -/
def State.pressAt (s : State) (p : PressReq) (j : Nat) : State × Bool :=
  let due := p.prepared && (match p.stamped with
    | some k => decide (k ≤ j)
    | none => !s.paired && decide (p.target ≤ j))
  let l := if 2 ≤ p.kind then p.entries else if p.kind = 1 then s.reassertChanges else s.vatChanges
  let clear (s : State) : State :=
    if 2 ≤ p.kind then { s with scene := { s.scene with auto' := none } } else { s with scene := { s.scene with press := none } }
  if !due then (s, false)
  else if decide (p.kind < 2) && decide (p.digest ≠ (if p.kind = 1 then s.reassertDigest else s.pendingDigest)) then
    (((clear s).pressRecord j (s.mediaOf j) 0 4 p.kind).raise 113 [a8 4], false)
  else if decide (255 < s.scene.tags.length + s.tagsNeeded l) then
    -- it waits for glide tags and will report LATE (R346, R363)
    let s : State := if 2 ≤ p.kind then { s with scene := { s.scene with auto' := some { p with late := true } } }
      else { s with scene := { s.scene with press := some { p with late := true } } }
    (s.raise 114 [], false)
  else
    let late := p.late || (p.instant.isSome && decide (p.target < j))
    let s := forL l (fun c s => s.applyChange c) (clear s)
    (s.pressDone p j l.length late, true)

/-- Step 4 of a block boundary (R668): the startup Press or the Press of R51, then the pending Press. -/
def State.pressStep (s : State) (j : Nat) : State × Bool :=
  let a := match s.scene.auto' with | some p => s.pressAt p j | none => (s, false)
  match a.1.scene.press with
  | some p => let b := a.1.pressAt p j; (b.1, a.2 || b.2)
  | none => a

/-- A startup Press (kind 2) or a Press of R51 (kind 3) with its entries begins its preparation (R358). -/
def State.startAuto (s : State) (kind : Nat) (l : List Change) : State :=
  let p : PressReq := { kind := kind, digest := 0, instant := none, target := 0, prepared := false, late := false, entries := l
                        partnerReady := false, stamped := none }
  { s with scene := { s.scene with auto' := some p } }

/-- Gain words of a logical cluster are written at rest (R371). -/
def State.restCluster (s : State) (c : Nat) : State :=
  { s with scene := { s.scene with gains := nkeep (fun k => s.clusterOfKey k != some c) s.scene.gains } }

end Sys2Proof.Machine
end

