-- ==== Sys2Proof/Machine/Route.lean ====
section
/-! DEFINITION. Router, mixing and silence detectors (spec 09): the entry in force at each sink, route crossfades, the
blocks that the egress forms, the detectors and QUIESCE, and the posts that carry source blocks. -/

namespace Sys2Proof.Machine

open Sys2Proof

/-! ### Router entries in force (R291, R329 to R333) -/

/-- The committed router entry of a sink. -/
def State.routeEntry (s : State) (sink : Nat) : Nat :=
  let o := sinkObj sink
  s.objNum 0x5100 o.1 o.2

/-- The router entry in force at a sink. -/
def State.entryNow (s : State) (sink : Nat) : Nat :=
  let x := nget 0 s.route.inForce sink
  if x = 0 then s.routeEntry sink else x - 1

/-- The crossfade that runs at a sink, if any. -/
def State.fadeOf (s : State) (sink : Nat) : Option Fade :=
  (s.route.fades.find? (fun e => e.1 = sink)).map (fun e => e.2)

/-- Route status of a sink (R334): 0 steady, 1 crossfading, 2 PENDING. -/
def State.routeStatus (s : State) (sink : Nat) : Nat :=
  if nget 0 s.route.held sink != 0 then 2 else if (s.fadeOf sink).isSome then 1 else 0

/-- The direct-path gain that an entry asks for (R307, R311). -/
def dirGain (e : Nat) : Int := if rMute e then 0 else sx 32 (rGain e)

/-- The direct-path gain of a sink's entry at sample `n`, with a linear move of R311 in progress. -/
def State.gainAt (s : State) (sink n : Nat) : Int :=
  match s.route.dmoves.find? (fun e => e.1 = sink) with
  | some (_, m) =>
    if m.len = 0 || decide (m.start + m.len ≤ n) then m.to'
    else m.frm + divOpen ((m.to' - m.frm) * ((n - m.start : Nat) : Int)) m.len
  | none => dirGain (s.entryNow sink)

/-- The entry in force recorded; one that equals the committed entry is not listed. -/
def State.setInForce (s : State) (sink e : Nat) : State :=
  let r := s.route
  if e = s.routeEntry sink then { s with route := { r with inForce := nerase r.inForce sink } }
  else { s with route := { r with inForce := nput r.inForce sink (e + 1) } }

/-- The entry with its DGAIN replaced by a gain reached, MUTE resolved. -/
def withGain (e : Nat) (g : Int) : Nat := putBits (putBits e 31 0 (unsx 32 g)) 46 46 0

/-- Entry `new` reaches the sink at this boundary: Direct, a crossfade, or a gain move (R311, R329, R330). While
SAFE_ACTIVE held a Wellhead sink, `safe`, the router takes the route at once (R521). -/
def State.takeRoute (s : State) (sink new : Nat) (safe : Bool) : State :=
  let old := s.entryNow sink
  let now := s.sampleIdx
  let k := s.fadeLen (rXf new)
  let g := s.gainAt sink now
  let s1 := s.setInForce sink new
  let noMove := nerase s1.route.dmoves sink
  if rSrc old = rSrc new && rPath old = rPath new then
    if rPath new && dirGain new != g && k != 0 then
      { s1 with route := { s1.route with dmoves := nput noMove sink { frm := g, to' := dirGain new, start := now, len := k } } }
    else { s1 with route := { s1.route with dmoves := noMove } }
  else if k = 0 || safe then { s1 with route := { s1.route with dmoves := noMove, fades := nerase s1.route.fades sink } }
  else
    let f : Fade := { old := withGain old g, start := now, len := k }
    { s1 with route := { s1.route with dmoves := noMove, fades := nput s1.route.fades sink f } }

/-- A committed entry reaches its sink (R332): held behind a running crossfade, except its RND. -/
def State.commitRoute (s : State) (sink : Nat) (safe : Bool) : State :=
  let new := s.routeEntry sink
  if (s.fadeOf sink).isSome && !safe then
    let s := s.setInForce sink (putBits (s.entryNow sink) 45 45 (bits new 45 45))
    { s with route := { s.route with held := nput s.route.held sink (new + 1) } }
  else
    let s := s.takeRoute sink new safe
    { s with route := { s.route with held := nerase s.route.held sink } }

/-- Held entries whose crossfade has ended take effect (R332). -/
def State.releaseRoutes (s : State) : State :=
  forL (s.route.held.filter (fun e => (s.fadeOf e.1).isNone)) (fun e s =>
    let s : State := { s with route := { s.route with held := nerase s.route.held e.1 } }
    s.takeRoute e.1 (e.2 - 1) false) s

/-- ROUTE_CROSSFADE_END (R332): the crossfade has run its K samples; a held change waits for the next boundary. -/
def execRouteCrossfadeEnd (sink : Nat) (s : State) : Host.Outcome State Fault Refusal :=
  .next (s.when (s.live && (match s.fadeOf sink with | some f => decide (f.start + f.len ≤ s.sampleIdx) | none => false)) fun s =>
    match s.fadeOf sink with
    | none => s
    | some f => { s with route := { s.route with fades := nerase s.route.fades sink, past := nput s.route.past sink f } })

/-! ### Source blocks and egress blocks (R294, R331) -/

/-- Block `j` of router source `n`, when it has been posted or collected. -/
def State.srcBlk (s : State) (n j : Nat) : Option SrcBlk :=
  match s.route.srcs.find? (fun e => e.1 = 4 * n + j % 4) with
  | some (_, b) => if b.blk = j then some b else none
  | none => none

/-- The measure of block `j` of source `n`: its largest sample magnitude; a source without a block carries zero (R315). -/
def State.measure (s : State) (n j : Nat) : Nat := match s.srcBlk n j with | some b => b.measure | none => 0

/-- Largest magnitude of a list of samples. -/
def maxMag (l : List Int) : Nat := l.foldl (fun m x => max m x.natAbs) 0

/-- Block `j` of a source is in place. -/
def State.putSrc (s : State) (n : Nat) (b : SrcBlk) : State :=
  { s with route := { s.route with srcs := nput s.route.srcs (4 * n + b.blk % 4) b } }

/-- A source that the mixing core posts: tap, bus or feed. -/
def isPosted (n : Nat) : Bool := decide (0x1200 ≤ n) && decide (n < 0x1600) || (decide (0x4000 ≤ n) && decide (n < 0x8000))

/-- Sample `i` of block `j` of the source that a block-path entry names. -/
def State.pathSample (s : State) (e j i : Nat) : Int :=
  match s.srcBlk (rSrc e) j with | some b => b.samples.getD i 0 | none => 0

/-- The equal-power mix of sample `k` of a crossfade of `n` samples (R329). -/
def fadeMix (k n : Nat) (old new : Int) : Int :=
  let g := fadeGains k n
  satS 32 (divOpen (old * g.1 + new * g.2) (2 ^ 30))

/-- The crossfade that covers sample `p` of a sink's egress, running or ended. -/
def State.fadeAt (s : State) (sink p : Nat) : Option Fade :=
  match s.fadeOf sink with
  | some f => some f
  | none => ((s.route.past.find? (fun e => e.1 = sink)).map (fun e => e.2)).filter (fun f => decide (p < f.start + f.len))

/-- Sample `i` of block `j` as a wire sink's egress block forms it from its block paths (R331). -/
def State.formSample (s : State) (sink j i : Nat) : Int :=
  let new := s.entryNow sink
  let p := j * s.sys.blk + i
  match s.fadeAt sink p with
  | none => s.pathSample new j i
  | some f =>
    if rPath new then s.pathSample f.old j i
    else if rPath f.old || p < f.start || decide (f.start + f.len ≤ p) then s.pathSample new j i
    else fadeMix (p - f.start) f.len (s.pathSample f.old j i) (s.pathSample new j i)

/-- The sink has a block-path entry whose source's block `j` is in place, so that the egress can form the block (R512,
R494). -/
def State.formable (s : State) (sink j : Nat) : Bool :=
  let e := s.entryNow sink
  let ok (e : Nat) : Bool := !rPath e && (!isPosted (rSrc e) || (s.srcBlk (rSrc e) j).isSome)
  ok e || (match s.fadeOf sink with | some f => rPath e && ok f.old | none => false)

/-- Wire sinks whose entry is not the reset value, or that crossfade, and the Wellhead sinks. -/
def State.wireSinks (s : State) : List Nat :=
  let a := s.objs.filterMap (fun e =>
    if okIdx e.1 = 0x5100 && decide (2 ≤ okSub e.1) && decide (okSub e.1 ≤ 4) then some (sinkOf (okSub e.1) (okElem e.1)) else none)
  let b := (s.route.inForce.map (fun e => e.1) ++ s.route.fades.map (fun e => e.1)).filter (fun n => decide (0x1000 ≤ n))
  (a ++ b ++ (List.range 8).map (fun m => 0x2200 + m)).eraseDups

/-- Sample at position `p` of a sink that ramps linearly to zero over 2 ms from its last sample (R50). -/
def State.rampSample (s : State) (r : Int × Nat) (p : Nat) : Int :=
  let k := s.fadeLen 2
  if r.2 + k ≤ p then 0 else divEven (r.1 * ((k - 1 - (p - r.2) : Nat) : Int)) k

/-- The ramp of R50 covers some sample of block `j` at a sink. -/
def State.ramping (s : State) (sink j : Nat) : Bool :=
  match s.route.ramps.find? (fun e => e.1 = sink) with
  | some (_, r) => decide (j * s.sys.blk < r.2 + s.fadeLen 2)
  | none => false

/-- The egress blocks form block `j` of every wire sink from what has been posted (R294). -/
def State.formBlock (s : State) (j : Nat) : State :=
  forL s.wireSinks (fun n s =>
    if s.formable n j || s.ramping n j then
      let l := (List.range s.sys.blk).map (fun i =>
        match s.route.ramps.find? (fun e => e.1 = n) with
        | some (_, r) => s.rampSample r (j * s.sys.blk + i)
        | none => s.formSample n j i)
      { s with route := { s.route with outs := nput s.route.outs (4 * n + j % 4) { blk := j, measure := maxMag l, samples := l } } }
    else { s with route := { s.route with outs := nerase s.route.outs (4 * n + j % 4) } }) s

/-- The block `j` formed for a wire sink. -/
def State.outBlk (s : State) (sink j : Nat) : Option SrcBlk :=
  match s.route.outs.find? (fun e => e.1 = 4 * sink + j % 4) with
  | some (_, b) => if b.blk = j then some b else none
  | none => none

/-- Block and sample of it that leave a wire sink at sample `n`: sample `i` of block `j` leaves at (j + 1)·B + i + 4
(R312, R313; log entry 24). -/
def State.leaving (s : State) (n : Nat) : Option (Nat × Nat) :=
  let b := s.sys.blk
  if b = 0 || n < b + 4 then none else some ((n - 4 - b) / b, (n - 4 - b) % b)

/-- The internal sample that a wire sink carries at sample `n`: the block formed for it, the last direct word, or their
crossfade (R308, R331). -/
def State.sinkSample (s : State) (sink n : Nat) : Int :=
  let e := s.entryNow sink
  let blk : Int := match s.leaving n with
    | some (j, i) => (match s.outBlk sink j with | some b => b.samples.getD i 0 | none => 0)
    | none => 0
  if rPath e then nget 0 s.route.direct sink
  else match s.fadeOf sink with
    | some f => if rPath f.old && decide (f.start ≤ n) && decide (n < f.start + f.len) then
        fadeMix (n - f.start) f.len (nget 0 s.route.direct sink) blk else blk
    | none => blk

/-- The wire word of a sink for a slot of `w` bits, with the RND of its entry (R204, R291). -/
def State.sinkWord (s : State) (sink n w : Nat) : Int := toWire w (rRnd (s.entryNow sink)) (s.sinkSample sink n)

/-! ### The direct path (R307 to R311) -/

/-- The product of R307: round(v × DGAIN ÷ 2³⁰), saturated. -/
def dirMul (v g : Int) : Int := satS 32 (divEven (v * g) (2 ^ 30))

/-- The internal sample of a direct-path sink once a new word of its source has passed the gain and the crossfade
(R308 cycles 5 to 16). -/
def State.directSample (s : State) (sink : Nat) : Int :=
  let e := s.entryNow sink
  let n := s.sampleIdx
  let word (e : Nat) : Int := nget 0 s.route.words (rSrc e)
  let new : Int := if rPath e then dirMul (word e) (s.gainAt sink n) else 0
  match s.fadeOf sink with
  | none => new
  | some f =>
    if n < f.start || decide (f.start + f.len ≤ n) then new
    else
      let old : Int := if rPath f.old then dirMul (word f.old) (dirGain f.old)
        else match s.leaving n with
          | some (j, i) => (match s.outBlk sink j with | some b => b.samples.getD i 0 | none => 0)
          | none => 0
      if rPath e then fadeMix (n - f.start) f.len old new else old

/-- The sinks on which a word of TDM source `src` is delivered. -/
def State.directSinks (s : State) (src : Nat) : List Nat :=
  s.wireSinks.filter (fun n =>
    let e := s.entryNow n
    (rPath e && rSrc e = src) || (match s.fadeOf n with | some f => rPath f.old && rSrc f.old = src | none => false))

/-! ### Silence detectors (R315 to R328) -/

/-- Key of a detector: kind 0 channel, 1 bus, 2 feed. -/
def detKey (kind num : Nat) : Nat := 4096 * kind + num

/-- Configuration of a detector as in effect. -/
def State.detCfg (s : State) (kind num : Nat) : Nat :=
  let x := nget 0 s.route.detCfg (detKey kind num)
  if x = 0 then detReset else x - 1

/-- EN of a detector configuration. -/
def dEn (c : Nat) : Bool := c.testBit 31
/-- FLAG of a detector configuration. -/
def dFlag (c : Nat) : Bool := c.testBit 30
/-- WELL_OFF of a detector configuration. -/
def dWellOff (c : Nat) : Bool := c.testBit 29
/-- TDM_GATE of a detector configuration. -/
def dGate (c : Nat) : Bool := c.testBit 28
/-- QUIESCE of a detector configuration. -/
def dQuiesce (c : Nat) : Bool := c.testBit 27

/-- The silence threshold t of R315 for a configuration. -/
def dThresh (c : Nat) : Nat := (levelMul (2 ^ 27) (-(bits c 26 20 * 1000 : Nat))).toNat

/-- H, the hold time in blocks (R317). -/
def State.dHold (s : State) (c : Nat) : Nat :=
  let b := 10 * max 1 s.sys.blk
  (bits c 12 0 * s.fs + b - 1) / b

/-- A detector. -/
def State.det (s : State) (kind num : Nat) : Det := nget {} s.route.dets (detKey kind num)

/-- A detector replaced. -/
def State.setDet (s : State) (kind num : Nat) (d : Det) : State :=
  { s with route := { s.route with dets := nset {} s.route.dets (detKey kind num) d } }

/-- The unit's input is replaced by zero: DRAINING or QUIESCED (R318). -/
def State.quiet (s : State) (kind num : Nat) : Bool := decide (4 ≤ (s.det kind num).state)

/-- Sounding is enabled for a feed (object 0x9100.01, R326). -/
def State.sounding (s : State) (f : Nat) : Bool := (s.objNum 0x9100 1 f).testBit 63

/-- The measure that a detector takes at boundary `j` (R294, R315). A feed's signal ahead of the pilot sum is carried as
source number 0x10000 + f (log entry 24); without it the feed output is measured. -/
def State.detMeasure (s : State) (kind num j : Nat) : Nat :=
  if kind = 0 then
    let one (e : Nat) : Nat := s.measure (rSrc e) (if isPosted (rSrc e) then j - 1 else j)
    match s.fadeOf num with
    | some f => max (one (s.entryNow num)) (one f.old)
    | none => one (s.entryNow num)
  else if kind = 1 then s.measure (0x1200 + num) (j - 1)
  else match s.srcBlk (0x10000 + num) (j - 1) with
    | some b => b.measure
    | none => s.measure (0x1400 + num) (j - 1)

/-- Channels whose CUR or TGT at bus `b` is not zero (R320). -/
def State.openChannels (s : State) (b : Nat) : List Nat :=
  let a := s.objs.filterMap (fun e => if okIdx e.1 = 0x5200 && okElem e.1 % 512 = b then some (okElem e.1 / 512) else none)
  let g := s.scene.gains.filterMap (fun e =>
    if okIdx e.1 = 0x5200 && okElem e.1 % 512 = b && (e.2.cur != 0 || e.2.tgt != 0) then some (okElem e.1 / 512) else none)
  (a ++ g).eraseDups

/-- The entry condition of DRAINING (R318, R320). -/
def State.drainEntry (s : State) (kind num : Nat) : Bool :=
  if kind = 0 then (s.fadeOf num).isNone
  else if kind = 1 then (s.openChannels num).all (fun c => (s.det 0 c).state = 5)
  else (s.det 1 num).state = 5 && !s.sounding num

/-- The drain condition of one block (R318, R320). -/
def State.drained (s : State) (kind num t j : Nat) : Bool :=
  if kind = 0 then (List.range 4).all (fun k => decide (s.measure (0x4000 + 0x1000 * k + num) (j - 1) ≤ t))
  else if kind = 1 then decide (s.measure (0x1200 + num) (j - 1) ≤ t)
  else decide (s.measure (0x1400 + num) (j - 1) ≤ t)

/-- Event `e` of a detector whose FLAG is set, at boundary `j` (R317). -/
def State.detEvent (s : State) (kind num j e : Nat) : State :=
  if dFlag (s.objNum 0x5600 (kind + 1) num) then s.raise e [a8 kind, a16 num, a32 (j % 2 ^ 32)] else s

/-- One detector at boundary `j` (R317): at most one move, the higher row of the table first. -/
def State.detMove (s : State) (j kind num : Nat) : State :=
  let old := s.detCfg kind num
  let c := s.objNum 0x5600 (kind + 1) num
  let s : State := { s with route := { s.route with detCfg := nset 0 s.route.detCfg (detKey kind num) (if c = detReset then 0 else c + 1) } }
  let d := s.det kind num
  let restart := bits old 26 20 != bits c 26 20 || bits old 12 0 != bits c 12 0
  let d := if restart && d.state = 2 then { d with count := 0 } else d
  let t := dThresh c
  let h := s.dHold c
  let loud := decide (t < s.detMeasure kind num j)
  let wake := (kind = 1 || kind = 2) && decide (4 ≤ d.state) && !s.drainEntry kind num
  if !dEn c then s.setDet kind num {}
  else if d.state = 0 then s.setDet kind num { state := 1 }
  else if decide (2 ≤ d.state) && (wake || loud) then
    let s := s.setDet kind num { state := 1 }
    if decide (3 ≤ d.state) then s.detEvent kind num j 97 else s
  else if decide (4 ≤ d.state) && !dQuiesce c then s.setDet kind num { state := 3, count := d.count }
  else if d.state = 1 && !loud then
    if h ≤ 1 then (s.setDet kind num { state := 3, count := 1 }).detEvent kind num j 96 else s.setDet kind num { state := 2, count := 1 }
  else if d.state = 2 then
    if h ≤ d.count + 1 then (s.setDet kind num { state := 3, count := d.count + 1 }).detEvent kind num j 96
    else s.setDet kind num { d with count := d.count + 1 }
  else if d.state = 3 && dQuiesce c && s.drainEntry kind num then s.setDet kind num { state := 4 }
  else if d.state = 4 then
    let n := if s.drained kind num t j then d.drained + 1 else 0
    s.setDet kind num (if 2 ≤ n then { state := 5 } else { state := 4, drained := n })
  else s

/-- Detectors of one kind that are configured or not OFF, in rising number. -/
def State.detList (s : State) (kind : Nat) : List Nat :=
  let a := s.objs.filterMap (fun e => if okIdx e.1 = 0x5600 && okSub e.1 = kind + 1 then some (okElem e.1) else none)
  let b := s.route.dets.filterMap (fun e => if e.1 / 4096 = kind then some (e.1 % 4096) else none)
  sortBy id (a ++ b).eraseDups

/-- QUIESCE of every task that serves units: set only while all of them are QUIESCED (R321). -/
def State.setQuiesce (s : State) : State :=
  forL (s.route.serves.map (fun v => (v.site, v.slot))).eraseDups (fun t s =>
    let units := s.route.serves.filter (fun v => v.site = t.1 && v.slot = t.2)
    let all := units.all (fun v => (List.range' v.lo (v.hi + 1 - v.lo)).all (fun k => (s.det v.kind k).state = 5))
    s.put fTASK_QUIESCE (if all then 1 else 0) t.1 t.2) s

/-- Step 6 of a block boundary: channel detectors, then bus detectors, then feed detectors (R322). -/
def State.detStep (s : State) (j : Nat) : State :=
  let s := forL (s.detList 0) (fun k s => s.detMove j 0 k) s
  let s := forL (s.detList 1) (fun k s => s.detMove j 1 k) s
  let s := forL (s.detList 2) (fun k s => s.detMove j 2 k) s
  s.setQuiesce

/-- The bus or feed detector of a router source, and its number (R323). -/
def detOf (src : Nat) : Option (Nat × Nat) :=
  if 0x1200 ≤ src ∧ src < 0x1400 then some (1, src - 0x1200)
  else if 0x1400 ≤ src ∧ src < 0x1600 then some (2, src - 0x1400) else none

/-- The action whose bit is `act` holds on sinks of source `src` (R323, R326). -/
def State.acts (s : State) (act : Nat → Bool) (src : Nat) : Bool :=
  match detOf src with
  | none => false
  | some (k, n) => act (s.detCfg k n) && decide (3 ≤ (s.det k n).state) && !(k = 2 && s.sounding n)

/-- The block of a source is silent under its detector's threshold (R315). -/
def State.blockSilent (s : State) (src m : Nat) : Bool :=
  match detOf src with
  | none => m = 0
  | some (k, n) => decide (m ≤ dThresh (s.detCfg k n))

/-! ### Posts that carry source blocks (R271, R315, R324) -/

/-- WELLm is asleep, its source is `src` and the block is not silent: it wakes at full gain (R324). -/
def State.wakeWells (s : State) (src m : Nat) : State :=
  if s.blockSilent src m then s
  else forN 8 (fun c s =>
    let x := nget {} s.well.chs c
    let e := s.entryNow (0x2200 + c)
    if (x.st = 4 || x.sleep) && !rPath e && rSrc e = src then
      let nr := (roundQ (2 * s.fs : Nat) 1000).toNat
      let s : State := { s with well := { s.well with chs := nset {} s.well.chs c { x with st := 2, sleep := false, g := nr, e := 0 } } }
      s.put fWELLm_STATUS_STATE (if s.flag fSIPH_STATUS_CLAIM_HELD then 2 else 5) c
    else s) s

/-- The ceiling value c of feed `f` in the present block (R304). -/
def State.ceiling (s : State) (f : Nat) : Int := divEven (s.gainWord (objKey 0x5500 1 f)).cur 8

/-- The samples of a source block as they leave the mixing core: an output feed's never exceed its ceiling (R305). -/
def State.limited (s : State) (n : Nat) (l : List Int) : List Int :=
  if 0x1400 ≤ n ∧ n < 0x1600 then let c := s.ceiling (n - 0x1400); l.map (fun v => max (-c) (min c v)) else l

/-- The source blocks that a post for block `blk` carries to the egress blocks, with their measures and, for a feed, its
gain reduction (R306). -/
def State.carry (s : State) (blk : Nat) (l : List SrcBlock) : State :=
  forL l (fun b s =>
    let s : State := if 0x1400 ≤ b.src ∧ b.src < 0x1600 then
        { s with route := { s.route with reduction := nset 0 s.route.reduction (b.src - 0x1400) b.reduction } } else s
    (s.putSrc b.src { blk := blk, measure := b.measure, samples := s.limited b.src b.samples }).wakeWells b.src b.measure) s

/-- POST_DELIVER (R271): the head of the post queue leaves it and takes effect; a write-back goes to the transfer engine.
`carries` holds the source blocks that the post brings to the egress blocks (log entry 24). -/
def execPostDeliver (site : Nat) (carries : List SrcBlock) (s : State) : Host.Outcome State Fault Refusal :=
  .next (s.when (s.live && decide (site < 36) && !(s.pumpSt site).postq.isEmpty) fun s =>
    let x := s.pumpSt site
    match x.postq with
    | [] => s
    | p :: rest =>
      let s := s.setPumpSt site { x with postq := rest }
      if p.writeBack then
        let x := s.pumpSt site
        s.setPumpSt site { x with xfers := x.xfers ++ [{ writeBack := true, buf := p.buf, blk := p.blk, slot := p.slot }] }
      else (s.deliver site p).carry p.blk carries)

/-- WRITE_BACK_COMPLETE (R268, R271): the slot stands in the Cistern and the buffer's post entries follow, with the source
blocks that they bring to the egress blocks. -/
def execWriteBackComplete (site : Nat) (carries : List SrcBlock) (s : State) : Host.Outcome State Fault Refusal :=
  .next (s.when (s.live && (match (s.pumpSt site).xfers with | q :: _ => q.writeBack | [] => false)) fun s =>
    let x := s.pumpSt site
    match x.xfers with
    | [] => s
    | q :: rest =>
      let s := s.setPumpSt site { x with xfers := rest }
      let s := if s.fld fBUF_LEN site q.buf = 0 then s else s.xferWords site q.buf q.slot true
      (forL (s.postList site q.buf q.blk) (fun p s => s.deliver site p) s).carry q.blk carries)

end Sys2Proof.Machine
end

