-- ==== Sys2Proof/Machine/Tdm.lean ====
section
/-! DEFINITION. The TDM ports (spec 13): framing, masks and compaction, lock and slip of a slave, starting and stopping, and
the direct path from an input slot (R307 to R310). -/

namespace Sys2Proof.Machine

open Sys2Proof

/-! ### Ingress blocks (R256, R273, R459) -/

/-- The fetch requests of a dropped ingress slot are counted at their clusters (R273). -/
def State.ingressDropped (s : State) (site e j : Nat) : State :=
  forL (s.postList site e j) (fun p s =>
    let c := s.redirected (fPOST_CLU.of p.word)
    if fPOST_TYPE.of p.word = 1 && decide (c < 36) then
      (s.incSat fPUMPn_COUNT_INGRESS_DROPS c).raise 82 [a8 c, a16 (fPOST_INDEX.of p.word)]
    else s) s

/-- Slot words from word `off` on are written to the Cistern slot of block `j`. -/
def State.ingressWords (s : State) (site e j off : Nat) (words : List Nat) : State :=
  let x := s.cisSlot site e (s.outSlot site e j)
  let s := s.touchBank (cisBank x)
  forN (min words.length (s.fld fBUF_LEN site e - off)) (fun i s =>
    s.wrMem (cisAddr (x + 4 * (off + i))) 4 (words.getD i 0 % 2 ^ 32)) s

/-- The slot of block `j` is whole: its fetch requests are posted and PEND is set (R270, R273). -/
def State.ingressWhole (s : State) (site e j : Nat) : State :=
  forL (s.postList site e j) (fun p s => s.deliver site p) (s.setPend site e (s.outSlot site e j) (s.fld fBUF_CONS site e))

/-- INGRESS frames of at most 4,096 bytes that carry slot words from word `off` on (R551, R553). -/
def State.sendIngress (s : State) (e off k : Nat) (words : List Nat) : State :=
  match k with
  | 0 => s
  | k + 1 => (s.sendFrame (.ingress e false off (words.take 1022))).sendIngress e (off + 1022) k (words.drop 1022)

/-- An ingress edge completes block `j` with the given slot words: dropped when the slot is not free, otherwise written to
the Cistern and posted (R273, R496). An Active unit sends a network edge's slot to its partner; a Syncing unit keeps its
own TDM blocks for its replay (R553, R563). -/
def State.ingressPost (s : State) (site e j : Nat) (words : List Int) : State :=
  if s.bSlots site e = 0 || s.bKind site e != 2 then s
  else
    let ws := words.map (unsx 32)
    let tell := s.role = 2 && site = 62
    match (if s.role = 1 then s.pair.copy else none) with
    | some c =>
      let c := { c with stored := c.stored ++ [{ blk := j, site := site, edge := e, dropped := false, off := 0, words := ws }] }
      { s with pair := { s.pair with copy := some c } }
    | none =>
      if s.pend site e (s.outSlot site e j) != 0 then
        let s := s.ingressDropped site e j
        if tell then s.sendFrame (.ingress e true 0 []) else s
      else
        let s := (s.ingressWords site e j 0 ws).ingressWhole site e j
        if tell then s.sendIngress e 0 ((ws.length + 1021) / 1022) ws else s

/-- An egress edge has played out the slot of block `j`: its credit returns to the producer (R273). -/
def State.egressCredit (s : State) (site e j : Nat) : State :=
  let sl := s.outSlot site e j
  let k := (site * 2 ^ 16 + e) * 16 + sl
  if nget 0 s.pump.egress k = j + 1 then
    let c : Nat × Nat × Nat := (s.redirected (s.fld fBUF_RCLU site e), s.fld fBUF_RBUF site e, sl)
    { s with pump := { s.pump with egress := nset 0 s.pump.egress k 0, credits := s.pump.credits ++ [c] } }
  else s

/-! ### Ports -/

/-- A port. -/
def State.tdmP (s : State) (n : Nat) : TdmPort := nget {} s.tdm n

/-- A port replaced. -/
def State.setTdm (s : State) (n : Nat) (x : TdmPort) : State := { s with tdm := nset {} s.tdm n x }

/-- State of a port (R464). -/
def State.tdmState (s : State) (n : Nat) : Nat := s.fld fTDMn_STATUS_STATE n

/-- Slot width in bits (R446). -/
def tdmWidth (code : Nat) : Nat := if code = 0 then 16 else if code = 1 then 24 else 32

/-- Sample period in root cycles, F of R455. -/
def State.sampleRoot (s : State) : Nat := 2 * s.perSample

/-- The active mask of a direction. -/
def State.tdmMask (s : State) (n : Nat) (out : Bool) : Nat :=
  let x := s.tdmP n
  if out then x.actOut.getD (s.fld fTDMn_MASK_OUT_MASK n) else x.actIn.getD (s.fld fTDMn_MASK_IN_MASK n)

/-- Slot count of a direction. -/
def State.tdmCount (s : State) (n : Nat) (out : Bool) : Nat := if out then s.fld fTDMn_CFG_COUNT_OUT n else s.fld fTDMn_CFG_COUNT_IN n

/-- Selected slots below the count, in ascending order (R459). -/
def selSlots (mask count : Nat) : List Nat := (List.range (min count 32)).filter (fun k => bit mask k)

/-- Selected slots of a port's direction under the mask in force. -/
def State.tdmSel (s : State) (n : Nat) (out : Bool) : List Nat := selSlots (s.tdmMask n out) (s.tdmCount n out)

/-- Some Wellhead channel is on the safe path (R469). -/
def State.anySafe (s : State) : Bool := (List.range 8).any (fun m => s.flag fWELLm_STATUS_SAFE_ACTIVE m)

/-- A port enters RUNNING (R466). -/
def State.tdmRun (s : State) (n : Nat) : State := (s.put fTDMn_STATUS_STATE 4 n).raise 98 [a8 n]

/-- A port enters STOPPED, with event 99 when a stop ends (R467). -/
def State.tdmHalt (s : State) (n : Nat) (ev : Bool) : State :=
  let x := s.tdmP n
  let y : TdmPort := { actIn := x.actIn, actOut := x.actOut }
  let s := s.setTdm n y
  let s := ((s.put fTDMn_STATUS_STATE 0 n).put fTDMn_STATUS_LOCKED 0 n).put fTDMn_STATUS_GATED 0 n
  if ev then s.raise 99 [a8 n] else s

/-! ### Masks (R459 to R463) -/

/-- A mask write: staged, or ignored with MASK_ERR when K exceeds STRIDE (R460, R461). -/
def State.tdmMaskWrite (s : State) (n : Nat) (out : Bool) (mask : Nat) : State :=
  let stride := if out then s.fld fTDMn_CFG_STRIDE_OUT n else s.fld fTDMn_CFG_STRIDE_IN n
  if stride < (selSlots mask (s.tdmCount n out)).length then s.put fTDMn_STATUS_MASK_ERR 1 n
  else
    let x := s.tdmP n
    let act := s.tdmMask n out
    if out then (s.setTdm n { x with actOut := some act }).put fTDMn_MASK_OUT_MASK mask n
    else (s.setTdm n { x with actIn := some act }).put fTDMn_MASK_IN_MASK mask n

/-- Staged masks take effect at the start of a frame of sample `smp` (R461). -/
def State.tdmApplyMasks (s : State) (n smp : Nat) : State :=
  let b := max 1 s.sys.blk
  let x := s.tdmP n
  let s := s.setTdm n { x with actIn := none, actOut := none }
  let s := if x.actIn.isSome then
      let e := (s.fld fTDMn_EPOCH_IN_EPOCH n + 1) % 2 ^ 16
      let s := ((s.put fTDMn_EPOCH_IN_EPOCH e n).put fTDMn_EPOCH_IN_FRAME (smp % b) n).put fTDMn_EPOCH_IN_BLOCK (smp / b) n
      s.raise 102 [a8 n, a8 0, a16 e]
    else s
  if x.actOut.isSome then
    let e := (s.fld fTDMn_EPOCH_OUT_EPOCH n + 1) % 2 ^ 16
    let s := ((s.put fTDMn_EPOCH_OUT_EPOCH e n).put fTDMn_EPOCH_OUT_FRAME (smp % b) n).put fTDMn_EPOCH_OUT_BLOCK (smp / b) n
    s.raise 102 [a8 n, a8 1, a16 e]
  else s

/-- TDM_MASK_WRITE (R461, R463): staged at once, or a ledger input in a pair. -/
def execTdmMaskWrite (port : Nat) (out : Bool) (mask : BitVec 32) (s : State) : Host.Outcome State Fault Refusal :=
  .next (s.when (s.clocked && decide (port < 16)) fun s =>
    if s.paired then s.submit (.regWrite (regAddr (if out then .TDMn_MASK_OUT else .TDMn_MASK_IN) port) mask.toNat)
    else s.tdmMaskWrite port out mask.toNat)

/-! ### Configuration (R468, R469) -/

/-- The configuration word breaks a rule of R468. -/
def State.tdmCfgBad (s : State) (v : Nat) : Bool :=
  let ns := fTDMn_CFG_NSLOT.of v
  let ci := fTDMn_CFG_COUNT_IN.of v
  let co := fTDMn_CFG_COUNT_OUT.of v
  let w := fTDMn_CFG_WIDTH.of v
  w = 3 || decide (s.tdmSlots < ns) || decide (ns < ci) || decide (ns < co)
    || (fTDMn_CFG_ROLE.of v = 1 && ns != 0 && decide (s.sampleRoot < 50 * (ns * tdmWidth w)))
    || decide (ci < fTDMn_CFG_STRIDE_IN.of v) || decide (co < fTDMn_CFG_STRIDE_OUT.of v)

/-- A write of TDM0_CFG while a Wellhead channel is on the safe path that R469 forbids. -/
def State.tdmSafeBad (s : State) (v : Nat) : Bool :=
  s.anySafe && (fTDMn_CFG_ROLE.of v != s.fld fTDMn_CFG_ROLE 0 || fTDMn_CFG_WIDTH.of v != s.fld fTDMn_CFG_WIDTH 0
    || fTDMn_CFG_OFFSET.of v != s.fld fTDMn_CFG_OFFSET 0 || fTDMn_CFG_FS_POL.of v != s.fld fTDMn_CFG_FS_POL 0
    || fTDMn_CFG_FS_WIDTH.of v != s.fld fTDMn_CFG_FS_WIDTH 0 || fTDMn_CFG_EDGE.of v != s.fld fTDMn_CFG_EDGE 0
    || decide (fTDMn_CFG_COUNT_IN.of v < 8))

/-- A write of TDMn_CFG (R468, R469). -/
def State.tdmCfgWrite (s : State) (n v : Nat) : State :=
  if s.tdmState n != 0 || s.tdmCfgBad v || (n = 0 && s.tdmSafeBad v) then s.put fTDMn_STATUS_CFG_ERR 1 n
  else s.setWord .TDMn_CFG v n

/-- TDM_CFG_WRITE (R468, R469, and ledger input in a pair). -/
def execTdmCfgWrite (port : Nat) (value : BitVec 64) (s : State) : Host.Outcome State Fault Refusal :=
  .next (s.when (s.clocked && decide (port < 16)) fun s =>
    if s.paired then s.submit (.regWrite (regAddr .TDMn_CFG port) value.toNat) else s.tdmCfgWrite port value.toNat)

/-! ### Starting and stopping (R464 to R470) -/

/-- A write of TDM_START (R465). -/
def State.tdmStart (s : State) (w : Nat) (pair : Bool) : State :=
  let trig := fTDM_START_TRIG.of w
  let group := fTDM_START_GROUP.of w
  if fTDM_START_GO.of w = 0 || decide (9 < trig) then s
  else forN 16 (fun n s =>
    if !bit group n then s
    else if (pair && trig != 1) || s.tdmState n != 0 then s.put fTDMn_STATUS_CMD_ERR 1 n
    else if s.flag fTDMn_CFG_ROLE n && s.fld fTDMn_CFG_NSLOT n = 0 then s
    else
      let d := ((fTDM_START_AT.of w : Int) - s.blkIndex) % 2 ^ 40
      let past := decide (2 ^ 39 < d) || (d = 0 && decide (s.boundaryAt s.blkIndex < s.tim.cnt))
      let at' := if past then s.blkIndex + 1 else s.blkIndex + d.toNat
      (s.setTdm n { (s.tdmP n) with trig := trig, at' := at', stop := false }).put fTDMn_STATUS_STATE 1 n) s

/-- TDM_START (R465): a write of the register, or an EXEC of object 0x4010.01 with its layout. -/
def execTdmStart (word : BitVec 64) (s : State) : Host.Outcome State Fault Refusal :=
  .next (s.when s.clocked fun s =>
    if s.paired then s.submit (.regWrite (regAddr .TDM_START 0) word.toNat) else s.tdmStart word.toNat false)

/-- An armed port starts at this sample boundary, S0 (R466). -/
def State.tdmBegin (s : State) (n : Nat) : State :=
  let s := s.setTdm n { (s.tdmP n) with frames := 0, good := 0, edge := none, rx := [], last := [], due := 0 }
  if s.flag fTDMn_CFG_ROLE n then
    let s := s.put fTDMn_STATUS_LOCKED 1 n
    if s.fld fTDMn_CFG_PRE n = 0 then s.tdmRun n else s.put fTDMn_STATUS_STATE 3 n
  else s.put fTDMn_STATUS_STATE 2 n

/-- TDM_START_TRIGGER (R465, R466): every port armed with TRIG = `trig` starts at this sample boundary; for a block trigger,
once its block has begun. A stop of the same boundary wins (R470). -/
def execTdmStartTrigger (trig : Nat) (s : State) : Host.Outcome State Fault Refusal :=
  .next (s.when (s.clocked && decide (trig ≤ 9)) fun s =>
    forN 16 (fun n s =>
      let x := s.tdmP n
      if s.tdmState n = 1 && x.trig = trig && !x.stop && (trig != 1 || decide (x.at' ≤ s.blkIndex)) then s.tdmBegin n else s) s)

/-- A write of TDM_STOP (R467, R469). -/
def State.tdmStop (s : State) (w : Nat) : State :=
  if fTDM_STOP_GO.of w = 0 then s
  else forN 16 (fun n s =>
    if !bit (fTDM_STOP_GROUP.of w) n || s.tdmState n = 0 then s
    else if n = 0 && s.anySafe then s.put fTDMn_STATUS_CMD_ERR 1 n
    else s.setTdm n { (s.tdmP n) with stop := true }) s

/-- TDM_STOP (R467): a write of the register, or an EXEC of object 0x4010.02. -/
def execTdmStop (word : BitVec 32) (s : State) : Host.Outcome State Fault Refusal :=
  .next (s.when s.clocked fun s =>
    if s.paired then s.submit (.regWrite (regAddr .TDM_STOP 0) word.toNat) else s.tdmStop word.toNat)

/-- Stops that take effect at a block boundary (R467, R470). -/
def State.tdmStopStep (s : State) : State :=
  forN 16 (fun n s =>
    let x := s.tdmP n
    if !x.stop then s
    else
      let s := s.setTdm n { x with stop := false }
      let st := s.tdmState n
      if st = 1 || st = 2 then s.tdmHalt n false
      else if st = 3 || st = 4 then
        (if s.fld fTDMn_CFG_POST n = 0 then s.tdmHalt n true
         else (s.setTdm n { (s.tdmP n) with frames := 0 }).put fTDMn_STATUS_STATE 5 n)
      else s) s

/-- TDM_LEAD_IN_END (R466): PRE lead-in frames have passed. -/
def execTdmLeadInEnd (port : Nat) (s : State) : Host.Outcome State Fault Refusal :=
  .next (s.when (s.clocked && decide (port < 16) && s.tdmState port = 3 && decide (s.fld fTDMn_CFG_PRE port ≤ (s.tdmP port).frames)) fun s =>
    s.tdmRun port)

/-- TDM_LEAD_OUT_END (R467): POST lead-out frames have passed; the clocks stop. -/
def execTdmLeadOutEnd (port : Nat) (s : State) : Host.Outcome State Fault Refusal :=
  .next (s.when (s.clocked && decide (port < 16) && s.tdmState port = 5 && decide (s.fld fTDMn_CFG_POST port ≤ (s.tdmP port).frames)) fun s =>
    s.tdmHalt port true)

/-! ### Lock and slip of a slave (R453 to R456) -/

/-- Lock is lost (R454, R470). -/
def State.tdmLost (s : State) (n : Nat) : State :=
  let stopping := s.tdmState n = 5
  let x := s.tdmP n
  let s := s.setTdm n { x with edge := none, m := 0, good := 0, due := 0, rx := [], last := [], tx := [] }
  let s := ((s.put fTDMn_STATUS_LOCKED 0 n).put fTDMn_STATUS_FRAME_ERR 1 n).incSat fTDMn_STATUS_LOSSES n
  let s := s.raise 100 [a8 n]
  if stopping then s.tdmHalt n true else s.put fTDMn_STATUS_STATE 2 n

/-- TDM_LOCK_LOST (R454): no active FSYNC edge has come for two sample periods. -/
def execTdmLockLost (port : Nat) (s : State) : Host.Outcome State Fault Refusal :=
  .next (s.when (s.clocked && decide (port < 16) && !s.flag fTDMn_CFG_ROLE port && s.flag fTDMn_STATUS_LOCKED port) fun s => s.tdmLost port)

/-- A frame of `m` bit clocks and `period` root cycles meets the conditions of R453. -/
def State.tdmFrameOk (s : State) (n m period : Nat) : Bool :=
  let w := tdmWidth (s.fld fTDMn_CFG_WIDTH n)
  let f := s.sampleRoot
  decide (s.fld fTDMn_CFG_OFFSET n + 1 ≤ m) && decide (w * max (s.fld fTDMn_CFG_COUNT_IN n) (s.fld fTDMn_CFG_COUNT_OUT n) ≤ m)
    && decide (f * 999500 ≤ period * 1000000) && decide (period * 1000000 ≤ f * 1000500)

/-- Root count of sample boundary `k` (R140, R148). -/
def State.sampleEdge (s : State) (k : Nat) : Nat := 2 * (s.tim.cSamp + k * s.perSample)

/-- An FSYNC edge of a locked slave: the next assigned sample, PHASE, and a slip (R455). -/
def State.tdmAssign (s : State) (n root : Nat) : State :=
  let x := s.tdmP n
  let f : Int := s.sampleRoot
  let a := x.asg + 1
  let d : Int := (root : Int) - s.sampleEdge a - x.phase0
  let slip (s : State) (dir : Nat) : State :=
    (s.incSat fTDMn_STATUS_SLIPS n).raise 101 [a8 n, a8 dir, a32 (s.blkIndex % 2 ^ 32)]
  if f < 2 * d then
    slip ((s.setTdm n { x with asg := a + 1, due := 2, edge := some root }).putI fTDMn_PHASE_PHASE (d - f) n) 0
  else if 2 * d < -f then
    slip ((s.setTdm n { x with asg := x.asg, due := 3, edge := some root }).putI fTDMn_PHASE_PHASE (d + f) n) 1
  else (s.setTdm n { x with asg := a, due := 1, edge := some root }).putI fTDMn_PHASE_PHASE d n

/-- Lock is declared at this edge: the frame that begins here is the first assigned (R453, R455, R466). -/
def State.tdmLock (s : State) (n m root : Nat) : State :=
  let a := (root / 2 - s.tim.cSamp) / s.perSample
  let x := s.tdmP n
  let s := s.setTdm n { x with edge := some root, m := m, good := 0, asg := a, due := 1, frames := 0
                               phase0 := (root : Int) - s.sampleEdge a }
  let s := (s.put fTDMn_STATUS_LOCKED 1 n).put fTDMn_PHASE_PHASE 0 n
  if s.fld fTDMn_CFG_PRE n = 0 then s.tdmRun n else s.put fTDMn_STATUS_STATE 3 n

/-- TDM_FSYNC_EDGE (R453 to R455): an active FSYNC edge at root count `root`, `m` bit clocks after the edge before. -/
def execTdmFsyncEdge (port m root : Nat) (s : State) : Host.Outcome State Fault Refusal :=
  .next (s.when (s.clocked && decide (port < 16) && !s.flag fTDMn_CFG_ROLE port && s.tim.running && decide (2 * s.tim.cSamp ≤ root)
      && decide (2 ≤ s.tdmState port) && decide (s.tdmState port ≤ 5)) fun s =>
    let x := s.tdmP port
    match x.edge with
    | none => s.setTdm port { x with edge := some root, m := 0, good := 0 }
    | some e0 =>
      let ok := s.tdmFrameOk port m (root - e0)
      if s.tdmState port = 2 then
        let good := if !ok then 0 else if x.good != 0 && x.m = m then x.good + 1 else 1
        if good = 2 then s.tdmLock port m root
        else s.setTdm port { x with edge := some root, m := m, good := good }
      else if m != x.m || !ok then s.tdmLost port
      else s.tdmAssign port root)

/-! ### Frames (R446 to R451, R459, R462) -/

/-- Samples of source `n` collected in this block, brought to length `k` with zeros (newest first). -/
def padTo (k : Nat) (l : List Int) : List Int := List.replicate (k - l.length) 0 ++ l

/-- One sample of a collected source at position `i` of its block. -/
def State.collectAt (s : State) (n i : Nat) (v : Int) : State :=
  { s with route := { s.route with collect := nput s.route.collect n (v :: padTo i ((nget [] s.route.collect n).take i)) } }

/-- The words of one frame become the port's sources and its compacted frame, at position `i` of the block. -/
def State.tdmCollect (s : State) (n i : Nat) (ws : NMap Int) : State :=
  let sel := s.tdmSel n false
  let x := s.tdmP n
  let frame := sel.map (fun k => nget 0 ws k)
  let rx := frame :: (List.replicate (i - x.rx.length) [] ++ x.rx.take i)
  let s := s.setTdm n { x with rx := rx, last := ws }
  forL sel (fun k s => s.collectAt (0x1000 + 32 * n + k) i (nget 0 ws k)) s

/-- TDM_GATE holds the port for the block that leaves at sample `smp` (R325). -/
def State.tdmGate (s : State) (n smp : Nat) : Bool :=
  let sel := s.tdmSel n true
  let ent (k : Nat) : Nat := s.entryNow (0x2000 + 32 * n + k)
  let loud (k : Nat) : Bool := match s.leaving smp with
    | some (j, _) => (match s.outBlk (0x2000 + 32 * n + k) j with | some b => !s.blockSilent (rSrc (ent k)) b.measure | none => false)
    | none => false
  let acted (k : Nat) : Bool := !rPath (ent k) && s.acts dGate (rSrc (ent k)) && !loud k
  sel.any acted && sel.all (fun k => acted k || (!rPath (ent k) && rSrc (ent k) = 0xFFFF))

/-- The words that a port sends in the frame of sample `smp`, by slot (R450, R451, R466, R325). -/
def State.tdmSend (s : State) (n smp : Nat) : State :=
  let x := s.tdmP n
  let run := s.tdmState n = 4
  let first := smp % max 1 s.sys.blk = 0
  let s := if !run then s.put fTDMn_STATUS_GATED 0 n
    else if first || x.tx.isEmpty then s.put fTDMn_STATUS_GATED (if s.tdmGate n smp then 1 else 0) n else s
  let zero := !run || s.flag fTDMn_STATUS_GATED n
  let w := tdmWidth (s.fld fTDMn_CFG_WIDTH n)
  let tx := (s.tdmSel n true).map (fun k => (k, if zero then 0 else s.sinkWord (0x2000 + 32 * n + k) smp w))
  let s := s.setTdm n { x with tx := tx, frameAt := s.tim.cnt }
  match s.leaving smp with
  | some (j, i) => if i + 1 = s.sys.blk then s.egressCredit 63 (2 * n + 1) j else s
  | none => s

/-- Sample position that an input frame takes in the block under collection. -/
def State.tdmPos (s : State) (smp : Nat) : Nat := smp % max 1 s.sys.blk

/-- The frame of assigned sample `smp` with its SDI words: masks, input, output and the lead-in or lead-out count. -/
def State.tdmDoFrame (s : State) (n smp : Nat) (ws : List (BitVec 32)) : State :=
  let s := s.tdmApplyMasks n smp
  let w := tdmWidth (s.fld fTDMn_CFG_WIDTH n)
  let run := s.tdmState n = 4
  let m : NMap Int := (s.tdmSel n false).map (fun k => (k, ofWire w (ws.getD k 0).toNat))
  let s := if run then s.tdmCollect n (s.tdmPos smp) m else s
  let s := s.tdmSend n smp
  let x := s.tdmP n
  if s.tdmState n = 3 || s.tdmState n = 5 then s.setTdm n { x with frames := x.frames + 1 } else s

/-- TDM_FRAME (R447, R450, R455): a frame begins. A master's frame is the present sample; a slave's is the sample assigned
at its FSYNC edge, with the slip found there. `words` are the SDI words of the frame by slot. -/
def execTdmFrame (port : Nat) (words : List (BitVec 32)) (s : State) : Host.Outcome State Fault Refusal :=
  .next (s.when (s.clocked && decide (port < 16) && s.tim.running && decide (3 ≤ s.tdmState port) && decide (s.tdmState port ≤ 5)) fun s =>
    if s.flag fTDMn_CFG_ROLE port then s.tdmDoFrame port s.sampleIdx words
    else
      let x := s.tdmP port
      let s := s.setTdm port { x with due := 0 }
      if x.due = 1 then s.tdmDoFrame port x.asg words
      else if x.due = 2 then
        -- the sample that no frame reaches carries the words of the previous frame
        let s := if s.tdmState port = 4 then s.tdmCollect port (s.tdmPos (x.asg - 1)) x.last else s
        s.tdmDoFrame port x.asg words
      else s)

/-- Step 1 of a block boundary for the TDM block: block `j` of every port and slot is complete (R459, R496; log entry
24). -/
def State.tdmIngress (s : State) (j : Nat) : State :=
  let b := s.sys.blk
  let done := s.route.collect.filter (fun e => decide (0x1000 ≤ e.1) && decide (e.1 < 0x1200))
  let s := forL done (fun e s =>
    let l := (padTo b (e.2.take b)).reverse
    s.putSrc e.1 { blk := j, measure := maxMag l, samples := l }) s
  let s : State := { s with route := { s.route with collect := s.route.collect.filter (fun e => !(decide (0x1000 ≤ e.1) && decide (e.1 < 0x1200))) } }
  forN 16 (fun n s =>
    let x := s.tdmP n
    let st := s.fld fTDMn_CFG_STRIDE_IN n
    let frames := (List.replicate (b - x.rx.length) [] ++ x.rx.take b).reverse
    let words := frames.flatMap (fun f => (f ++ List.replicate (st - f.length) 0).take st)
    let s := s.setTdm n { x with rx := [] }
    s.ingressPost 63 (2 * n) j words) s

/-! ### The direct path at a port (R308 to R310) -/

/-- Core cycle of the shifter load of slot `k` in the frame under way: two cycles before the slot's first bit clock edge
(R310). -/
def State.tdmLoadAt (s : State) (n k : Nat) : Nat :=
  let w := tdmWidth (s.fld fTDMn_CFG_WIDTH n)
  let x := s.tdmP n
  let m := max 1 (if s.flag fTDMn_CFG_ROLE n then s.fld fTDMn_CFG_NSLOT n * w else x.m)
  x.frameAt + (s.fld fTDMn_CFG_OFFSET n + k * w) * s.sampleRoot / m / 2 - 2

/-- A direct word for TDM output `sink`: it leaves in this frame when the shifter load of its slot falls at or after cycle
24, one cycle later for each further eight sinks (R309, R310); otherwise in the next frame. -/
def State.tdmDirect (s : State) (sink pos : Nat) (v : Int) : State :=
  let n := (sink - 0x2000) / 32
  let k := sink % 32
  let s : State := { s with route := { s.route with direct := nput s.route.direct sink v } }
  let x := s.tdmP n
  if s.tdmState n = 4 && !s.flag fTDMn_STATUS_GATED n && (s.tdmSel n true).contains k && decide (s.tim.cnt + 24 + pos / 8 ≤ s.tdmLoadAt n k) then
    s.setTdm n { x with tx := nput x.tx k (toWire (tdmWidth (s.fld fTDMn_CFG_WIDTH n)) (rRnd (s.entryNow sink)) v) }
  else s

end Sys2Proof.Machine
end

