-- ==== Sys2Proof/Machine/Wellhead.lean ====
section
/-! DEFINITION. The Wellhead (spec 15): output queues, mutes, changes, the safe path and fallback, the sine generators, the
direct path into every kind of sink (R308), and the route step of a block boundary (R333). -/

namespace Sys2Proof.Machine

open Sys2Proof

/-! ### Channels -/

/-- n_r of R514: the ramp of 2 ms in ticks. -/
def State.rampLen (s : State) : Nat := (roundQ (2 * s.fs : Nat) 1000).toNat

/-- A channel. -/
def State.well' (s : State) (m : Nat) : WellCh := nget {} s.well.chs m

/-- The unit drives its Wellhead outputs: it holds CLAIM (R536). -/
def State.claims (s : State) : Bool := s.flag fSIPH_STATUS_CLAIM_HELD

/-- STATE of a channel as its register shows it: RELEASED while the unit does not hold CLAIM (R518, R523). -/
def State.wellShown (s : State) (st : Nat) : Nat := if (st = 2 || st = 3) && !s.claims then 5 else st

/-- A channel replaced, with STATE and FILL of its status register. -/
def State.setWell (s : State) (m : Nat) (x : WellCh) : State :=
  let s : State := { s with well := { s.well with chs := nset {} s.well.chs m x } }
  (s.put fWELLm_STATUS_STATE (s.wellShown x.st) m).put fWELLm_STATUS_FILL x.queue.length m

/-- STATE of every channel after CLAIM has changed (R523). -/
def State.wellClaim (s : State) : State := forN 8 (fun m s => s.put fWELLm_STATUS_STATE (s.wellShown (s.well' m).st) m) s

/-- The mute switch of a channel is open (R518, R523). -/
def State.wellOpen (s : State) (m : Nat) : Bool := ((s.well' m).st = 2 || (s.well' m).st = 3) && s.claims

/-- Level of WELL_MUTE_N (R509): high only out of Power-on Reset, with CLAIM, and with some mute switch open. -/
def State.wellMuteN (s : State) : Bool := s.up && (List.range 8).any (fun m => s.wellOpen m)

/-- MODE, RANGE and FEED in force at a channel (R519). -/
def State.wellMode (s : State) (m : Nat) : Nat × Nat × Nat :=
  (s.well' m).act.getD (s.fld fWELLm_CFG_MODE m, s.fld fWELLm_CFG_RANGE m, s.fld fWELLm_CFG_FEED m)

/-- Compatibility mode is in force. -/
def State.wellCompat (s : State) (m : Nat) : Bool := (s.wellMode m).1 = 1

/-- FEED in force is 1. -/
def State.wellCodeFed (s : State) (m : Nat) : Bool := (s.wellMode m).2.2 = 1

/-- The chime that a channel adds to its internal sample (R520). -/
def State.chime (s : State) (m : Nat) : Int := if s.flag fWELLm_CFG_CHIME m then (nget {} s.well.gens 0).out else 0

/-- The outputs stay muted: before step 7 of the safe sequencer (R65, R67), and through a family change (R74, R91). -/
def State.wellHeld (s : State) : Bool := decide (s.sys.safeStep < 7) || s.flag fREF_RPLL_STATUS_SLEWING || s.sys.slewDue

/-- A code enters the queue; a full queue refuses it. -/
def State.wellCode (s : State) (m : Nat) (c : Int) : State :=
  let x := s.well' m
  if 16 ≤ x.queue.length || x.st = 0 || x.st = 4 || s.wellHeld then s else s.setWell m { x with queue := x.queue ++ [c] }

/-- An internal sample enters the queue: chime, saturation, and conversion to a code (R511, R520). -/
def State.wellSample (s : State) (m : Nat) (v : Int) : State :=
  s.wellCode m (toCode (s.wellCompat m) (rRnd (s.entryNow (0x2200 + m))) (satS 32 (v + s.chime m)))

/-- The router's sample with the crossfade from the safe route while that runs (R521). -/
def State.wellMix (s : State) (m : Nat) (v : Int) : Int :=
  let x := s.well' m
  let n := s.sampleIdx
  if x.fadeLen != 0 && !x.toSafe && decide (n < x.fadeAt + x.fadeLen) then fadeMix (n - x.fadeAt) x.fadeLen x.safe v else v

/-- Gain of the safe route (R520, R64). -/
def State.safeGain (s : State) : Int := sx 32 (rGain ({ s with regs := nput s.regs (fSYS_STRAP_SAFE_EN.key 0 0) 1 }.wellRouteDflt 0))

/-- SAFE_ACTIVE is cleared: the crossfade of 10 ms from the safe route starts, and event 105 (R521, R531). -/
def State.clearSafe (s : State) (m cause : Nat) : State :=
  let x := s.well' m
  let s := s.setWell m { x with fallback := false, onTime := 0, fadeAt := s.sampleIdx, fadeLen := s.fadeLen 10, toSafe := false }
  (s.put fWELLm_STATUS_SAFE_ACTIVE 0 m).raise 105 [a8 m, a8 cause]

/-- SAFE_ACTIVE is set (R521). -/
def State.setSafe (s : State) (m cause : Nat) : State :=
  let x := s.well' m
  let s := s.setWell m { x with fallback := cause = 1, onTime := 0, fadeLen := 0 }
  (s.put fWELLm_STATUS_SAFE_ACTIVE 1 m).raise 105 [a8 m, a8 cause]

/-! ### The route step and block boundaries -/

/-- Step 5 of a block boundary: committed router entries, then held ones (R332, R333); a commit at a channel on the safe
path clears SAFE_ACTIVE (R521). -/
def State.routeStep (s : State) : State :=
  let due := s.route.due
  let s : State := { s with route := { s.route with due := [] } }
  let s := forL due (fun n s =>
    if 0x2200 ≤ n && s.flag fWELLm_STATUS_SAFE_ACTIVE (n - 0x2200) then (s.commitRoute n true).clearSafe (n - 0x2200) 2
    else s.commitRoute n false) s
  s.releaseRoutes

/-- WELL_OFF at a boundary: channels whose source's detector acts ramp down to sleep (R323, R324). -/
def State.wellOffStep (s : State) : State :=
  forN 8 (fun m s =>
    let x := s.well' m
    let e := s.entryNow (0x2200 + m)
    let off := !rPath e && s.acts dWellOff (rSrc e) && !s.flag fWELLm_STATUS_SAFE_ACTIVE m && !s.wellCodeFed m
    if (x.st = 2 || x.st = 3) && off && !x.sleep then s.setWell m { x with sleep := true }
    else if !off && x.sleep then s.setWell m { x with sleep := false }
    else if !off && x.st = 4 then s.setWell m { x with st := 2, g := s.rampLen, e := 0 }
    else s) s

/-- Blocks posted on time for the return from fallback (R522), at the boundary after block `j`. -/
def State.wellOnTime (s : State) (j : Nat) : State :=
  forN 8 (fun m s =>
    let x := s.well' m
    if !x.fallback then s
    else s.setWell m { x with onTime := if (s.outBlk (0x2200 + m) j).isSome then x.onTime + 1 else 0 }) s

/-- WELL_FALLBACK_RETURN (R522): sixteen consecutive blocks have been posted on time. -/
def execWellFallbackReturn (channel : Nat) (s : State) : Host.Outcome State Fault Refusal :=
  .next (s.when (s.live && decide (channel < 8) && (s.well' channel).fallback && decide (16 ≤ (s.well' channel).onTime)) fun s =>
    s.clearSafe channel 3)

/-! ### Sine generators (R524 to R528) -/

/-- A generator. -/
def State.gen (s : State) (g : Nat) : Gen := nget {} s.well.gens g

/-- A generator replaced. -/
def State.setGen (s : State) (g : Nat) (x : Gen) : State :=
  { s with well := { s.well with gens := nset {} s.well.gens g x } }

/-- The quarter-wave sine of phase P in Q2.30 (R524). -/
def genSine (p : Nat) : Int :=
  let q := p / 2 ^ 30 % 4
  let x := p % 2 ^ 30
  let xq := if q = 0 || q = 2 then x else 2 ^ 30 - x
  let k := xq / 2 ^ 20
  let f : Int := (xq % 2 ^ 20 : Nat)
  let v := if k = 1024 then sineTable 1024 else sineTable k + divEven ((sineTable (k + 1) - sineTable k) * f) (2 ^ 20)
  if 2 ≤ q then -v else v

/-- The smaller of two fractions. -/
def minFrac (a b : Nat × Nat) : Nat × Nat := if a.1 * b.2 ≤ b.1 * a.2 then a else b

/-- The envelope of sample `k` as a fraction (R526). -/
def genEnv (x : Gen) (a r : Nat) : Nat × Nat :=
  let ea : Nat × Nat := if a = 0 then (1, 1) else (min x.k a, a)
  let er : Nat × Nat :=
    if r = 0 then (1, 1)
    else match x.len, x.rel with
      | some d, _ => (min (d - 1 - x.k) r, r)
      | none, some k0 => (r - 1 - (x.k - k0), r)
      | none, none => (1, 1)
  minFrac ea er

/-- Samples of a time in ms. -/
def State.msSamples (s : State) (ms : Nat) : Nat := (divNear (ms * s.fs : Nat) 1000).toNat

/-- AMP_CUR at sample `i` of the block (R525). -/
def genAmp (x : Gen) (i b : Nat) : Int := x.ampPrev + divEven ((x.ampNew - x.ampPrev) * ((i + 1 : Nat) : Int)) (max 1 b : Nat)

/-- One sample of generator `g` (R524, R526). -/
def State.genTick (s : State) (g : Nat) : State :=
  let x := s.gen g
  let i := s.sampleIdx % max 1 s.sys.blk
  if !s.flag fWELL_GENg_CFG_PLAYING g then (if x.out = 0 then s else s.setGen g { x with out := 0 })
  else
    let e := genEnv x (s.msSamples (s.fld fWELL_GENg_CFG_ATT g)) (s.msSamples (s.fld fWELL_GENg_CFG_REL g))
    let spent := match x.len with | some d => decide (d ≤ x.k) | none => false
    let v := if spent then 0 else satS 32 (divEven (genSine x.p * genAmp x i s.sys.blk * e.1) (2 ^ 26 * (e.2 : Int)))
    (s.setGen g { x with out := v, p := (x.p + x.freq) % 2 ^ 32, k := x.k + 1 }).collectAt (0x1600 + g) i v

/-- The first step from `k` on that is not skipped. -/
def State.genNext (s : State) (g k : Nat) : Option Nat := (List.range' k (4 - k)).find? (fun j => s.fld fWELL_GENg_STEPk_DUR g j != 0)

/-- A step starts: P and the step's values are taken (R525, R526). -/
def State.genStart (s : State) (g k : Nat) : State :=
  let d := s.fld fWELL_GENg_STEPk_DUR g k
  let x := s.gen g
  let y : Gen := { x with p := 0, k := 0, rel := none, freq := s.fld fWELL_GENg_STEPk_FREQ g k
                          len := if d = 0xFFFF then none else some (s.msSamples d) }
  ((s.setGen g y).put fWELL_GENg_CFG_PLAYING 1 g).put fWELL_GENg_CFG_STEP k g

/-- The generator stops with output zero. -/
def State.genStop (s : State) (g : Nat) : State :=
  let x := s.gen g
  ((s.setGen g { x with out := 0, rel := none }).put fWELL_GENg_CFG_PLAYING 0 g).put fWELL_GENg_CFG_STEP 0 g

/-- The sample at which the fall of a playing generator's gate is taken; the step in progress is its last (R527). -/
def State.genFell (s : State) (g : Nat) (x : Gen) : Option Nat :=
  if s.flag fWELL_GENg_CFG_PLAYING g && x.rel.isNone then some x.k else x.rel

/-- The gate of generator `g` takes a level (R527); a rise that follows an untaken fall leaves the fall in effect. -/
def State.genGate (s : State) (g : Nat) (v : Bool) : State :=
  let x := s.gen g
  if x.gate = v then s
  else s.setGen g { x with gate := v, edge := true, rel := if x.edge && v then s.genFell g x else x.rel }

/-- GATE_RISE (R527): the pattern starts at its first step that is not skipped; no effect while it plays. -/
def execGateRise (gen : Nat) (s : State) : Host.Outcome State Fault Refusal :=
  let x := s.gen gen
  .next (s.when (s.clocked && decide (gen < 16) && x.gate && x.edge) fun s =>
    let s := s.setGen gen { x with edge := false }
    if s.flag fWELL_GENg_CFG_PLAYING gen then s
    else match s.genNext gen 0 with | some k => s.genStart gen k | none => s)

/-- GATE_FALL (R526, R527): the step in progress finishes, and the generator then stops whatever the gate does; an endless step
begins its release. -/
def execGateFall (gen : Nat) (s : State) : Host.Outcome State Fault Refusal :=
  let x := s.gen gen
  .next (s.when (s.clocked && decide (gen < 16) && !x.gate && x.edge) fun s =>
    s.setGen gen { x with edge := false, rel := s.genFell gen x })

/-- GEN_STEP_END (R526, R527): the step has lasted its time: the next step, a repeat, or the stop. -/
def execGenStepEnd (gen : Nat) (s : State) : Host.Outcome State Fault Refusal :=
  let x := s.gen gen
  let done := match x.len, x.rel with
    | some d, _ => decide (d ≤ x.k)
    | none, some k0 => decide (k0 + s.msSamples (s.fld fWELL_GENg_CFG_REL gen) ≤ x.k)
    | none, none => false
  .next (s.when (s.clocked && decide (gen < 16) && s.flag fWELL_GENg_CFG_PLAYING gen && done) fun s =>
    if !x.gate || x.rel.isSome then s.genStop gen
    else match s.genNext gen (s.fld fWELL_GENg_CFG_STEP gen + 1) with
      | some k => s.genStart gen k
      | none =>
        if !s.flag fWELL_GENg_CFG_REPEAT gen then s.genStop gen
        else match s.genNext gen 0 with | some k => s.genStart gen k | none => s.genStop gen)

/-- Gate bits and block values of AMP at a block boundary (R525). -/
def State.genBoundary (s : State) : State :=
  forN 16 (fun g s =>
    let s := if s.flag fWELL_GENg_CFG_GATE_SRC g then s.genGate g s.well.level else s.genGate g (s.flag fWELL_GENg_CFG_GATE g)
    let x := s.gen g
    s.setGen g { x with ampPrev := x.ampNew, ampNew := divOpen (s.gainWord (objKey (0x4110 + g) 2 0)).cur 256 }) s

/-- Block `j` of every sine generator is complete (R294). -/
def State.sineIngress (s : State) (j : Nat) : State :=
  let b := s.sys.blk
  let done := s.route.collect.filter (fun e => decide (0x1600 ≤ e.1))
  let s := forL done (fun e s =>
    let l := (padTo b (e.2.take b)).reverse
    s.putSrc e.1 { blk := j, measure := maxMag l, samples := l }) s
  { s with route := { s.route with collect := s.route.collect.filter (fun e => decide (e.1 < 0x1600)) } }

/-- WELL_CHIME (R527): the level has held for 1 ms and is taken; every generator with GATE_SRC = 1 follows, in a pair
through the ledger (R523). -/
def State.takeChime (s : State) (g : Nat) (level : Bool) : State :=
  (s.genGate g level).raise 106 [a8 g, a8 (if level then 1 else 0)]

/-- WELL_CHIME (R527). -/
def execWellChime (level : Bool) (s : State) : Host.Outcome State Fault Refusal :=
  .next (s.when (s.clocked && s.well.ball = level && s.well.level != level && decide (s.msSamples 1 ≤ s.well.ballRun)) fun s =>
    let s : State := { s with well := { s.well with level := level } }
    forN 16 (fun g s =>
      if !s.flag fWELL_GENg_CFG_GATE_SRC g then s
      else if s.paired then s.submit (.chime g level) else s.takeChime g level) s)

/-- A write of WELL_GENg_CFG (`none`) or of WELL_GENg_STEPk (R524, R525). -/
def State.genWrite (s : State) (g : Nat) (step : Option Nat) (v : Nat) : State :=
  match step with
  | some k =>
    if 0x80000000 < fWELL_GENg_STEPk_FREQ.of v then s
    else
      let s := (s.put fWELL_GENg_STEPk_FREQ (fWELL_GENg_STEPk_FREQ.of v) g k).put fWELL_GENg_STEPk_DUR (fWELL_GENg_STEPk_DUR.of v) g k
      s.setGen g { (s.gen g) with written := putBit (s.gen g).written k true }
  | none =>
    let s := (s.put fWELL_GENg_CFG_GATE (fWELL_GENg_CFG_GATE.of v) g).put fWELL_GENg_CFG_GATE_SRC (fWELL_GENg_CFG_GATE_SRC.of v) g
    let s := (s.put fWELL_GENg_CFG_REPEAT (fWELL_GENg_CFG_REPEAT.of v) g).put fWELL_GENg_CFG_ATT (fWELL_GENg_CFG_ATT.of v) g
    let s := (s.put fWELL_GENg_CFG_REL (fWELL_GENg_CFG_REL.of v) g).put fWELL_GENg_CFG_AMP (fWELL_GENg_CFG_AMP.of v) g
    let k := objKey (0x4110 + g) 2 0
    s.setGain k (restWord (s.gainTarget k))

/-- WELL_GEN_CFG_WRITE (R525): at once, or a ledger input in a pair (R523). -/
def execWellGenCfgWrite (gen : Nat) (step : Option (Fin 4)) (value : BitVec 64) (s : State) : Host.Outcome State Fault Refusal :=
  .next (s.when (s.clocked && decide (gen < 16)) fun s =>
    if s.paired then
      s.submit (.regWrite (match step with | some k => regAddr .WELL_GENg_STEPk gen k.val | none => regAddr .WELL_GENg_CFG gen) value.toNat)
    else s.genWrite gen (step.map (fun k => k.val)) value.toNat)

/-! ### The sample tick (R512 to R516) -/

/-- The router sink places one sample of its block in the queue (R510, R512). -/
def State.wellFill (s : State) (m : Nat) : State :=
  let e := s.entryNow (0x2200 + m)
  if s.wellCodeFed m || rPath e || s.flag fWELLm_STATUS_SAFE_ACTIVE m then s
  else match s.leaving s.sampleIdx with
    | none => s
    | some (j, i) =>
      let b := s.outBlk (0x2200 + m) j
      let x := s.well' m
      let s := if i = 0 then s.setWell m { x with skip := b.isNone } else s
      if (s.well' m).skip || b.isNone then s
      else s.wellSample m (s.wellMix m (s.sinkSample (0x2200 + m) s.sampleIdx))

/-- The first empty tick after a code (R514): UNDERFLOW, UF_COUNT and event 104 at most once per second. -/
def State.wellUnderflow (s : State) (m : Nat) : State :=
  let s := (s.put fWELLm_STATUS_UNDERFLOW 1 m).incSat fWELLm_STATUS_UF_COUNT m
  let x := s.well' m
  if x.ufAt = 0 || decide (x.ufAt + s.corePerSec ≤ s.tim.cnt + 1) then
    (s.setWell m { x with ufAt := s.tim.cnt + 1 }).raise 104 [a8 m]
  else s

/-- The output of a tick: the code times g ÷ n_r, times the ramp of a change, or the crossfade of R58. -/
def State.wellOut (s : State) (x : WellCh) (c : Int) (g : Nat) : Int :=
  let nr : Int := s.rampLen
  let v := if x.phase = 1 then (if g = nr then divEven (c * x.ramp) nr else divOpen (c * g * x.ramp) (nr * nr)) else divEven (c * g) nr
  let k := s.sampleIdx - x.fadeAt
  if x.toSafe && decide (k < x.fadeLen) then divOpen (x.from' * ((x.fadeLen - k : Nat) : Int) + v * k) x.fadeLen else v

/-- What follows a tick at which the gain has reached `g`: the end of a stop or sleep, the end of a change, and fallback
(R518, R519, R522, R324). -/
def State.wellAfter (s : State) (m g0 : Nat) : State :=
  let x := s.well' m
  if x.stop && x.g = 0 then
    s.setWell m { st := if s.flag fWELLm_CFG_EN m then 1 else 0, act := none, goal := x.goal, ufAt := x.ufAt, ovAt := x.ovAt }
  else if x.sleep && x.g = 0 then s.setWell m { x with st := 4, sleep := false, queue := [], out := 0 }
  else
    let s := if x.phase = 2 && x.g = s.rampLen then
        (match x.held with
         | some t => s.setWell m { x with phase := 1, ramp := s.rampLen, goal := t, held := none }
         | none => s.setWell m { x with phase := 0, act := none, st := 2 })
      else s
    let fall := s.flag fWELLm_CFG_FALLBACK m && s.flag fSYS_STRAP_SAFE_EN && !s.wellCodeFed m && !rPath (s.entryNow (0x2200 + m))
      && !s.flag fWELLm_STATUS_SAFE_ACTIVE m
    if g0 != 0 && (s.well' m).g = 0 && (s.well' m).e != 0 && fall then s.setSafe m 1 else s

/-- One tick of a channel (R513, R514, R518). -/
def State.wellTick (s : State) (m : Nat) : State :=
  let s := s.wellFill m
  let x0 := s.well' m
  let x := if x0.st = 1 && !x0.queue.isEmpty then { x0 with st := 2, g := 0, e := 0 } else x0
  if x.st != 2 && x.st != 3 then s
  else
    let nr := s.rampLen
    let ramp := if x.phase = 1 then x.ramp - 1 else x.ramp
    let x := { x with ramp := ramp }
    if x.stop || x.sleep then
      let g := x.g - 1
      (s.setWell m { x with g := g, out := s.wellOut x x.h g, queue := [] }).wellAfter m x.g
    else match x.queue with
      | c :: q =>
        let g := min nr (x.g + 1)
        (s.setWell m { x with queue := q, h := c, e := 0, g := g, out := s.wellOut x c g }).wellAfter m x.g
      | [] =>
        let e := x.e + 1
        let g := if s.fld fWELLm_CFG_UF_HOLD m < e then x.g - 1 else x.g
        let s := s.setWell m { x with e := e, g := g, out := s.wellOut x x.h g }
        let s := if x.e = 0 then s.wellUnderflow m else s
        s.wellAfter m x.g

/-- Steps 7 and 8 of R65 at the sample ticks after the references have settled: the first sample is written to each DAC, and
at the next tick the safe path is live; with SAFE_EN = 0 only the instant passes (R66). -/
def State.safeTick (s : State) : State :=
  if s.sys.safeStep = 6 && s.sys.refsSettled then { s with sys := { s.sys with safeStep := 7 } }
  else if s.sys.safeStep = 7 then
    let s : State := { s with sys := { s.sys with safeStep := 8 } }
    if s.flag fSYS_STRAP_SAFE_EN then (s.put fSYS_BOOT_STATUS_SAFE_LIVE 1).raise 2 [] else s
  else s

/-- WELL_SAMPLE_TICK (R65, R513, R514, R524, R527): every generator forms a sample, WELL_CHIME is sampled at the level `chime`,
and every channel takes a code or handles its underflow. -/
def execWellSampleTick (chime : Bool) (s : State) : Host.Outcome State Fault Refusal :=
  .next (s.when (s.clocked && s.tim.running) fun s =>
    let s := s.safeTick
    let w := s.well
    let run := if w.ball = chime then w.ballRun + 1 else 1
    let s : State := { s with well := { w with ball := chime, ballRun := run } }
    let s := forN 16 (fun g s => s.genTick g) s
    forN 8 (fun m s => s.wellTick m) s)

/-! ### Writes and changes (R513, R518, R519, R529) -/

/-- A code write (R510, R511, R513, R520): ignored with FEED = 0 or on the safe path; refused when the queue is full. -/
def State.wellCodeWrite (s : State) (m w : Nat) : State :=
  let x := s.well' m
  if !s.wellCodeFed m || s.flag fWELLm_STATUS_SAFE_ACTIVE m then s
  else if 16 ≤ x.queue.length then
    let s := s.put fWELLm_STATUS_OVERFLOW 1 m
    if x.ovAt = 0 || decide (x.ovAt + s.corePerSec ≤ s.tim.cnt + 1) then
      (s.setWell m { x with ovAt := s.tim.cnt + 1 }).raise 107 [a8 m]
    else s
  else
    let compat := s.wellCompat m
    let c : Int := if compat then sx 18 (w / 2 ^ 14) else sx 24 (w / 2 ^ 8)
    let c := if s.flag fWELLm_CFG_CHIME m then toCode compat (rRnd (s.entryNow (0x2200 + m))) (satS 32 (ofCode compat c + s.chime m)) else c
    s.wellCode m c

/-- WELL_CODE_WRITE (R510, R513): at once, or a ledger input in a pair (R523). -/
def execWellCodeWrite (channel : Nat) (code : BitVec 32) (s : State) : Host.Outcome State Fault Refusal :=
  .next (s.when (s.clocked && decide (channel < 8)) fun s =>
    if s.paired then s.submit (.regWrite (regAddr .WELLm_CODE channel) code.toNat) else s.wellCodeWrite channel code.toNat)

/-- A write of WELLm_CFG (R518, R519, R529). -/
def State.wellCfgWrite (s : State) (m v : Nat) : State :=
  let en := s.flag fWELLm_CFG_EN m
  let cur := s.wellMode m
  let s := s.setWord .WELLm_CFG v m
  let x := s.well' m
  let new := (s.fld fWELLm_CFG_MODE m, s.fld fWELLm_CFG_RANGE m, s.fld fWELLm_CFG_FEED m)
  if !en && s.flag fWELLm_CFG_EN m then s.setWell m { st := 1, ufAt := x.ufAt, ovAt := x.ovAt }
  else
    let s := if new = (if x.phase != 0 then x.held.getD x.goal else cur) then s
      else if x.phase != 0 then s.setWell m { x with held := some new }
      else if x.st = 2 || x.st = 3 then s.setWell m { x with st := 3, act := some cur, goal := new, phase := 1, ramp := s.rampLen }
      else s.setWell m { x with queue := [] }
    let x := s.well' m
    if en && !s.flag fWELLm_CFG_EN m then
      (if x.st = 2 || x.st = 3 then s.setWell m { x with stop := true } else s.setWell m { ufAt := x.ufAt, ovAt := x.ovAt })
    else s

/-- WELL_CFG_WRITE (R518, R519): at once, or a ledger input in a pair (R523). -/
def execWellCfgWrite (channel : Nat) (value : BitVec 32) (s : State) : Host.Outcome State Fault Refusal :=
  .next (s.when (s.clocked && decide (channel < 8)) fun s =>
    if s.paired then s.submit (.regWrite (regAddr .WELLm_CFG channel) value.toNat) else s.wellCfgWrite channel value.toNat)

/-- WELL_CHANGE_SWITCH (R519, R529): the ramp-down has reached zero; the channel switches, flushes its queue and ramps
back up. -/
def execWellChangeSwitch (channel : Nat) (s : State) : Host.Outcome State Fault Refusal :=
  let x := s.well' channel
  .next (s.when (s.clocked && decide (channel < 8) && x.phase = 1 && (x.ramp = 0 || x.g = 0)) fun s =>
    s.setWell channel { x with act := some x.goal, queue := [], g := 0, h := 0, phase := 2, ramp := 0 })

/-! ### The direct path (R307 to R311, R520) -/

/-- A word reaches a Wellhead channel on the direct path, for its router entry (R310). -/
def State.wellDirect (s : State) (m : Nat) (v : Int) : State :=
  let s : State := { s with route := { s.route with direct := nput s.route.direct (0x2200 + m) v } }
  if s.flag fWELLm_STATUS_SAFE_ACTIVE m || s.wellCodeFed m || !rPath (s.entryNow (0x2200 + m)) then s
  else s.wellSample m (s.wellMix m v)

/-- A word reaches a network transmit channel on the direct path: it waits for the packet that closes next (R310). -/
def State.netDirect (s : State) (n : Nat) : State :=
  let e := s.entryNow n
  let word (e : Nat) : Int := nget 0 s.route.words (rSrc e)
  let v : Int := match s.fadeOf n with
    | none => dirMul (word e) (s.gainAt n s.sampleIdx)
    | some f => if rPath e then (if rPath f.old then s.directSample n else dirMul (word e) (s.gainAt n s.sampleIdx))
        else dirMul (word f.old) (dirGain f.old)
  { s with route := { s.route with netWords := nput s.route.netWords n ((v :: nget [] s.route.netWords n).take 768) } }

/-- DIRECT_PATH_WORD (R307 to R310, R520): input word `word` of a selected slot of a running port is complete; it passes to
its direct sinks, in the order of their numbers, and from TDM0 to the channels on the safe path. -/
def execDirectPathWord (port slot : Nat) (word : BitVec 32) (s : State) : Host.Outcome State Fault Refusal :=
  .next (s.when (s.clocked && decide (port < 16) && s.tdmState port = 4 && (s.tdmSel port false).contains slot) fun s =>
    let src := 0x1000 + 32 * port + slot
    let v := ofWire (tdmWidth (s.fld fTDMn_CFG_WIDTH port)) word.toNat
    let s : State := { s with route := { s.route with words := nput s.route.words src v } }
    let s := if port = 0 && decide (slot < 8) then
        let p := dirMul v s.safeGain
        let s := s.setWell slot { (s.well' slot) with safe := p }
        if s.flag fWELLm_STATUS_SAFE_ACTIVE slot then s.wellSample slot p else s
      else s
    (forL (sortBy id (s.directSinks src)) (fun n (q : State × Nat) =>
      let x := q.1.directSample n
      let s := if 0x2200 ≤ n then q.1.wellDirect (n - 0x2200) x
        else if 0x2000 ≤ n then q.1.tdmDirect n q.2 x
        else q.1.netDirect n
      (s, q.2 + 1)) (s, 0)).1)

end Sys2Proof.Machine
end

