-- ==== Sys2Proof/Machine/Network.lean ====
section
/-! DEFINITION. Ports, planes, the embedded switch and RTP streams (spec 14). -/

namespace Sys2Proof.Machine

open Sys2Proof

/-! ### Ports and planes (R474 to R477) -/

/-- Core cycles since counter value `t`. -/
def State.since (s : State) (t : Nat) : Nat := s.tim.cnt - t

/-- At most once per second: the last time was `last` − 1 (0 = never). -/
def State.oncePerSec (s : State) (last : Nat) : Bool := last = 0 || decide (last + s.corePerSec ≤ s.tim.cnt + 1)

/-- Queues of a switch port. -/
def State.swPort (s : State) (p : Nat) : SwPort := nget {} s.net.ports p

/-- Queues of a switch port replaced. -/
def State.setSwPort (s : State) (p : Nat) (x : SwPort) : State := { s with net := { s.net with ports := nset {} s.net.ports p x } }

/-- Frames dropped at a port's egress, counted by class, with event 48 at most once per second per port (R481). -/
def State.swDrop (s : State) (p media other : Nat) : State :=
  if media + other = 0 then s
  else
    let s := (s.addSat fNET_PORTp_COUNT_MEDIA_DROP media p).addSat fNET_PORTp_COUNT_OTHER_DROP other p
    let x := s.swPort p
    if s.oncePerSec x.dropAt then (s.setSwPort p { x with dropAt := s.tim.cnt + 1 }).raise 48 [] else s

/-- A conflict has taken the plane's address, and no new one has been written (R477). -/
def State.addrDead (s : State) (x : Nat) : Bool :=
  s.flag fNET_PLANEx_CFG_IPV4 x && nget 0 s.net.addr x = 0 && !s.flag fNET_PLANEx_CFG_PROBING x

/-- NET_LINK_UP (R475, R477): block lock has held for 10 ms; the plane's address is probed, unless a conflict has taken it. -/
def execNetLinkUp (port : Nat) (s : State) : Host.Outcome State Fault Refusal :=
  .next (s.when (s.live && decide (port < 4) && s.flag fNET_PORTp_CFG_EN port && !s.flag fNET_PORTp_STATUS_LINK port) fun s =>
    let s := ((s.put fNET_PORTp_STATUS_LINK 1 port).put fNET_PORTp_STATUS_LINK_CHG 1 port).raise 40 [a8 port, a8 1]
    if s.flag fNET_PLANEx_CFG_IPV4 (port / 2) && !s.addrDead (port / 2) then s.put fNET_PLANEx_CFG_PROBING 1 (port / 2) else s)

/-- The link of a port goes down: its queued frames are discarded and counted (R475, R481). -/
def State.linkDown (s : State) (p : Nat) : State :=
  if !s.flag fNET_PORTp_STATUS_LINK p then s
  else
    let s := ((s.put fNET_PORTp_STATUS_LINK 0 p).put fNET_PORTp_STATUS_LINK_CHG 1 p).incSat fNET_PORTp_STATUS_LINK_DOWNS p
    let s := s.raise 40 [a8 p, a8 0]
    let x := s.swPort p
    let s := s.swDrop p (x.q2.length + x.q3.length) (x.q0.length + x.q1.length)
    s.setSwPort p { dropAt := (s.swPort p).dropAt }

/-- NET_LINK_DOWN (R475): lock has been lost for 1 ms. -/
def execNetLinkDown (port : Nat) (s : State) : Host.Outcome State Fault Refusal :=
  .next (s.when (s.live && decide (port < 4)) fun s => s.linkDown port)

/-- An IPV4 write (R477): a non-zero address is probed; meanwhile the plane goes on with its previous one. -/
def State.ipv4Write (s : State) (x a : Nat) : State :=
  let s := s.put fNET_PLANEx_CFG_IPV4 a x
  if a = 0 then
    ({ s with net := { s.net with addr := nset 0 s.net.addr x 0 } }).put fNET_PLANEx_CFG_PROBING 0 x
  else s.put fNET_PLANEx_CFG_PROBING 1 x

/-- IPV4_WRITE (R477); a ledger input in a pair (R505). -/
def execIpv4Write (plane : Nat) (addr : BitVec 32) (s : State) : Host.Outcome State Fault Refusal :=
  .next (s.when (s.live && decide (plane < 2)) fun s =>
    if s.paired then s.submit (.regWrite (regAddr .NET_PLANEx_CFG plane) (fNET_PLANEx_CFG_IPV4.into (s.word .NET_PLANEx_CFG plane) addr.toNat))
    else s.ipv4Write plane addr.toNat)

/-- ADDR_PROBE_END (R477): the plane uses its address from now on. -/
def execAddrProbeEnd (plane : Nat) (s : State) : Host.Outcome State Fault Refusal :=
  .next (s.when (s.live && decide (plane < 2) && s.flag fNET_PLANEx_CFG_PROBING plane) fun s =>
    let s : State := { s with net := { s.net with addr := nset 0 s.net.addr plane (s.fld fNET_PLANEx_CFG_IPV4 plane) } }
    s.put fNET_PLANEx_CFG_PROBING 0 plane)

/-- NET_ADDR_CONFLICT (R477): the plane stops using the address until a new one is written. -/
def execNetAddrConflict (plane : Nat) (s : State) : Host.Outcome State Fault Refusal :=
  .next (s.when (s.live && decide (plane < 2) && s.flag fNET_PLANEx_CFG_IPV4 plane) fun s =>
    let s : State := { s with net := { s.net with addr := nset 0 s.net.addr plane 0 } }
    ((s.put fNET_PLANEx_CFG_ADDR_CONFLICT 1 plane).put fNET_PLANEx_CFG_PROBING 0 plane).raise 49 [])

/-! ### The switch (R478 to R481) -/

/-- Line rate of a port in bytes per second (R474). -/
def State.lineRate (s : State) (p : Nat) : Nat := if s.fld fNET_PORTp_CFG_MODE p = 2 then 1250000000 else 3125000000

/-- Frames that a queue sends within `n` bytes of line time, each with 20 bytes of preamble and gap (R495): the frames left
and the time left. -/
def sendQueue (l : List Nat) (n : Nat) : List Nat × Nat :=
  match l with
  | [] => ([], n)
  | f :: r => if f + 20 ≤ n then sendQueue r (n - (f + 20)) else (f :: r, n)

/-- A port's queues after the line time that has passed, served from Q3 down to Q0 (R481). A frame that has begun keeps the
time left over. -/
def State.serve (s : State) (p : Nat) : SwPort :=
  let x := s.swPort p
  let n := x.spare + (s.tim.cnt - x.at') * s.lineRate p / s.corePerSec
  let a := sendQueue x.q3 n
  let b := if a.1.isEmpty then sendQueue x.q2 a.2 else (x.q2, a.2)
  let c := if a.1.isEmpty && b.1.isEmpty then sendQueue x.q1 b.2 else (x.q1, b.2)
  let d := if a.1.isEmpty && b.1.isEmpty && c.1.isEmpty then sendQueue x.q0 c.2 else (x.q0, c.2)
  let empty := a.1.isEmpty && b.1.isEmpty && c.1.isEmpty && d.1.isEmpty
  { x with q3 := a.1, q2 := b.1, q1 := c.1, q0 := d.1, spare := if empty then 0 else d.2, at' := s.tim.cnt }

/-- Queue of a frame of a plane (R481). -/
def State.swClass (s : State) (f : SwFrame) : Nat :=
  if f.dscp = s.fld fNET_QOS_DSCP_PTP then 3
  else if f.dscp = s.fld fNET_QOS_DSCP_MEDIA then 2
  else if f.vid = s.fld fNET_PLANEx_CFG_MGMT_VID f.plane then 1 else 0

/-- A frame enters the egress queue of port `p`, or is dropped when the queue is full (R481). -/
def State.enqueueFrame (s : State) (p q len : Nat) : State :=
  let x := s.serve p
  let s := s.setSwPort p x
  let l := if q = 3 then x.q3 else if q = 2 then x.q2 else if q = 1 then x.q1 else x.q0
  let depth := if q = 3 then 8192 else if q = 2 then 131072 else 65536
  if depth < l.foldl (· + ·) 0 + len then s.swDrop p (if 2 ≤ q then 1 else 0) (if 2 ≤ q then 0 else 1)
  else
    let l := l ++ [len]
    s.setSwPort p (if q = 3 then { x with q3 := l } else if q = 2 then { x with q2 := l }
      else if q = 1 then { x with q1 := l } else { x with q0 := l })

/-- MAC address of a plane's engine port: its own, or the pair media address while this unit owns it (R541). -/
def State.isOwnMac (s : State) (plane mac : Nat) : Bool :=
  mac = s.fld fNET_PLANEx_MAC_VALUE plane ||
    (s.flag fSIPH_CTRL_PAIR_EN && mac / 2 ^ 24 = 0x02504D && mac / 2 ^ 23 % 2 = plane)

/-- Some enabled receive stream has joined the group on the plane (R480). -/
def State.joined (s : State) (plane group : Nat) : Bool :=
  s.net.rx.any (fun e => s.flag fSTRM_RXs_EN e.1 && bit (s.fld fSTRM_RXs_PLANES e.1) plane
    && (if plane = 0 then s.fld fSTRM_RXs_DST_A e.1 else s.fld fSTRM_RXs_DST_B e.1) = group)

/-- IGMP snooping of one frame (R480). -/
def State.snoop (s : State) (f : SwFrame) : State :=
  if !s.flag fNET_SW_CTRL_SNOOP then s
  else match f.igmp with
  | .none => s
  | .report =>
    let g := f.group
    let has := s.net.groups.any (fun e => e.plane = f.plane && e.group = g)
    let n := (s.net.groups.filter (fun e => e.plane = f.plane)).length
    if has then
      { s with net := { s.net with groups := s.net.groups.map (fun e =>
          if e.plane = f.plane && e.group = g then { e with ports := putBit e.ports f.port true } else e) } }
    else if 1024 ≤ n then s
    else { s with net := { s.net with groups := s.net.groups ++ [{ plane := f.plane, group := g, ports := 2 ^ f.port }] } }
  | q =>
    let v := q = .query3 || nget false s.net.igmpV3 f.plane
    { s with net := { s.net with queriers := nset 0 s.net.queriers f.plane (putBit (nget 0 s.net.queriers f.plane) f.port true)
                                 igmpV3 := nset false s.net.igmpV3 f.plane v } }

/-- The source address is learned; a full table learns no further address (R478). -/
def State.learn (s : State) (f : SwFrame) : State :=
  if f.port = 4 then s
  else
    let rest := s.net.macs.filter (fun e => !(e.plane = f.plane && e.mac = f.src))
    if 4096 ≤ rest.length then s
    else { s with net := { s.net with macs := rest ++ [{ plane := f.plane, mac := f.src, port := f.port, seen := s.tim.cnt }] } }

/-- Ports to which the frame goes: bit p for port p, bit 4 for E (R478, R480). -/
def State.forwardSet (s : State) (f : SwFrame) : Nat :=
  let a := 2 * f.plane
  let flood := 2 ^ a + 2 ^ (a + 1) + 2 ^ 4
  let drop (m : Nat) : Nat := putBit m f.port false
  if f.group != 0 then
    let known := s.net.groups.find? (fun e => e.plane = f.plane && e.group = f.group)
    let toE := s.joined f.plane f.group
    if !s.flag fNET_SW_CTRL_SNOOP || f.group / 256 = 0xE00000 || (known.isNone && !toE) then drop flood
    else
      let p := (match known with | some e => e.ports | none => 0) ||| nget 0 s.net.queriers f.plane
      drop (p ||| (if toE then 2 ^ 4 else 0))
  else if s.isOwnMac f.plane f.dst then 2 ^ 4
  else match s.net.macs.find? (fun e => e.plane = f.plane && e.mac = f.dst) with
    | some e => drop (2 ^ e.port)
    | none => drop flood

/-- The VLAN of the frame is carried on its plane (R479). -/
def State.vlanOk (s : State) (f : SwFrame) : Bool :=
  f.vid = s.fld fNET_PLANEx_CFG_MEDIA_VID f.plane || f.vid = s.fld fNET_PLANEx_CFG_MGMT_VID f.plane || s.flag fNET_SW_CTRL_TRUNK

/-- SWITCH_FRAME (R475, R478 to R481): a frame has been stored whole; it is dropped, or learned, snooped and forwarded
within its plane. Frames for E pass to the engine at once. -/
def execSwitchFrame (f : SwFrame) (s : State) : Host.Outcome State Fault Refusal :=
  .next (s.when (s.live && decide (f.port ≤ 4) && decide (f.plane < 2) &&
      (f.port = 4 || (s.flag fNET_PORTp_STATUS_LINK f.port && f.plane = f.port / 2))) fun s =>
    let none' (s : State) : State := { s with net := { s.net with fwd := (0, 0) } }
    if f.port < 4 && !f.fcsOk then none' (s.incSat fNET_PORTp_COUNT_FCS_ERR f.port)
    else if f.port < 4 && decide ((if f.tagged then 1522 else 1518) < f.len) then none' (s.incSat fNET_PORTp_COUNT_OVERSIZE f.port)
    else if !s.vlanOk f then none' s
    else
      let s := (s.learn f).snoop f
      let m := s.forwardSet f
      let q := s.swClass f
      let s := forN 4 (fun p s => if bit m p && s.flag fNET_PORTp_STATUS_LINK p then s.enqueueFrame p q f.len else s) s
      { s with net := { s.net with fwd := (m, q) } })

/-- MAC_AGE_OUT (R478): an address not seen for AGE seconds leaves the table. -/
def execMacAgeOut (plane mac : Nat) (s : State) : Host.Outcome State Fault Refusal :=
  .next (s.when s.live fun s =>
    { s with net := { s.net with macs := s.net.macs.filter (fun e =>
        !(e.plane = plane && e.mac = mac && decide (e.seen + s.fld fNET_SW_CTRL_AGE * s.corePerSec ≤ s.tim.cnt))) } })

/-! ### Streams: formats and checks (R482 to R487, R495, R499) -/

/-- P of R483 for a packet-time code. -/
def State.pktSamples (s : State) (ptime : Nat) : Nat :=
  (if ptime = 0 then 6 else if ptime = 1 then 12 else if ptime = 2 then 16 else if ptime = 3 then 48 else 192) * 2 ^ s.sys.rateClass

/-- Bytes of one sample word (R484). -/
def fmtBytes (fmt : Nat) : Nat := if fmt = 0 then 2 else if fmt = 1 then 3 else 4

/-- A receive stream. -/
def State.rxS (s : State) (i : Nat) : RxStream := nget {} s.net.rx i
/-- A receive stream replaced. -/
def State.setRx (s : State) (i : Nat) (x : RxStream) : State := { s with net := { s.net with rx := nset {} s.net.rx i x } }
/-- A transmit stream. -/
def State.txS (s : State) (i : Nat) : TxStream := nget {} s.net.tx i
/-- A transmit stream replaced. -/
def State.setTx (s : State) (i : Nat) (x : TxStream) : State := { s with net := { s.net with tx := nset {} s.net.tx i x } }

/-- P, CHANS and sample bytes of a receive stream. -/
def State.rxP (s : State) (i : Nat) : Nat := s.pktSamples (s.fld fSTRM_RXs_PTIME i)
/-- P of a transmit stream. -/
def State.txP (s : State) (i : Nat) : Nat := s.pktSamples (s.fld fSTRM_TXs_PTIME i)
/-- Payload bytes of a receive stream's packets (R484). -/
def State.rxBytes (s : State) (i : Nat) : Nat := s.fld fSTRM_RXs_CHANS i * s.rxP i * fmtBytes (s.fld fSTRM_RXs_FMT i)
/-- Payload bytes of a transmit stream's packets. -/
def State.txBytes (s : State) (i : Nat) : Nat := s.fld fSTRM_TXs_CHANS i * s.txP i * fmtBytes (s.fld fSTRM_TXs_FMT i)

/-- W of R487. -/
def State.rxWindow (s : State) (i : Nat) : Nat := s.fld fSTRM_RXs_LINK_OFS i + s.rxP i + 2 * s.sys.blk

/-- The stream's buffer lies in the Deep Cistern (R487). -/
def State.rxDeep (s : State) (i : Nat) : Bool := decide (s.fadeLen 4 < s.fld fSTRM_RXs_LINK_OFS i)

/-- Enabled streams of a direction. -/
def State.rxOn (s : State) : List Nat := s.net.rx.filterMap (fun e => if s.flag fSTRM_RXs_EN e.1 then some e.1 else none)
/-- Enabled transmit streams. -/
def State.txOn (s : State) : List Nat := s.net.tx.filterMap (fun e => if s.flag fSTRM_TXs_EN e.1 then some e.1 else none)

/-- Bytes of the Deep Cistern that a stream's buffer takes, four per sample. -/
def State.rxRoom (s : State) (i : Nat) : Nat := 4 * s.fld fSTRM_RXs_CHANS i * s.rxWindow i

/-- Room of the kind-4 regions in bytes. -/
def State.kind4 (s : State) : Nat :=
  (List.range 8).foldl (fun n r => if s.fld fDCIS_REGIONr_KIND r = 4 then n + s.fld fDCIS_REGIONr_SIZE r * 2 ^ 20 else n) 0

/-- Rate of the Deep Cistern streams and deep receive buffers in bytes per second (R409): each move of a stream once per
block, each receive sample written once and read once. -/
def State.deepRate (s : State) (rx : List Nat) : Nat :=
  let b := max 1 s.sys.blk
  let st := (List.range 1024).foldl (fun n i =>
    if s.flag fDCIS_STR_EN i then n + (s.fld fDCIS_STR_LEN i + (if s.flag fDCIS_STR_DIR i then s.fld fDCIS_STR_MARGIN i else 0)) * 4 * s.fs / b else n) 0
  rx.foldl (fun n i => if s.rxDeep i then n + 8 * s.fld fSTRM_RXs_CHANS i * s.fs else n) st

/-- The planning limit of R409. -/
def State.deepLimit (s : State) : Nat := if s.fld fDCIS_CFG_CHANNELS = 3 then 10000000000 else 5000000000

/-- Bytes that the transmit streams `l` close on a plane at sample boundary `t` (R495). -/
def State.txLoadAt (s : State) (l : List Nat) (plane t : Nat) : Nat :=
  l.foldl (fun n i =>
    let p := s.txP i
    if bit (s.fld fSTRM_TXs_PLANES i) plane && s.fld fSTRM_TXs_CHANS i != 0 && decide ((t + 1) % p = s.fld fSTRM_TXs_PHASE i % p)
    then n + s.txBytes i + 82 else n) 0

/-- The load rule of R495 holds on both planes; every P divides 768. -/
def State.txLoadOk (s : State) (l : List Nat) : Bool :=
  [0, 1].all (fun x =>
    let lim := min (s.lineRate (2 * x)) (s.lineRate (2 * x + 1)) * 6 / (10 * s.fs)
    (List.range 768).all (fun t => decide (s.txLoadAt l x t ≤ lim)))

/-- The first check of R499 that a receive stream's enable fails, or 0. -/
def State.rxCheck (s : State) (i : Nat) : Nat :=
  let f := s.fld fSTRM_RXs_FIRST i
  let c := s.fld fSTRM_RXs_CHANS i
  let d := s.fld fSTRM_RXs_LINK_OFS i
  let others := s.rxOn.filter (fun k => k != i)
  let on := others ++ [i]
  if 2 < s.fld fSTRM_RXs_FMT i || decide (4 < s.fld fSTRM_RXs_PTIME i) || decide (s.fld fSTRM_RXs_PT i < 96) then 1
  else if (s.rxS i).sdpRate.isSome && decide ((s.rxS i).sdpRate ≠ some s.fs) then 2
  else if s.channels < f + c || others.any (fun k =>
      decide (f < s.fld fSTRM_RXs_FIRST k + s.fld fSTRM_RXs_CHANS k) && decide (s.fld fSTRM_RXs_FIRST k < f + c)) then 3
  else if 1440 < s.rxBytes i then 4
  else if d < max (s.rxP i) (roundQ (s.fs : Nat) 4000).toNat || decide (s.fadeLen 20 < d) then 5
  else if s.rxDeep i && (s.dcisState != 2 || decide (s.kind4 < on.foldl (fun n k => if s.rxDeep k then n + s.rxRoom k else n) 0)) then 6
  else if s.rxDeep i && decide (s.deepLimit < s.deepRate on) then 7
  else 0

/-- The first check of R499 that a transmit stream's enable fails, or 0. -/
def State.txCheck (s : State) (i : Nat) : Nat :=
  let on := s.txOn.filter (fun k => k != i) ++ [i]
  if 2 < s.fld fSTRM_TXs_FMT i || decide (4 < s.fld fSTRM_TXs_PTIME i) || decide (s.fld fSTRM_TXs_PT i < 96)
      || decide (s.txP i ≤ s.fld fSTRM_TXs_PHASE i) then 1
  else if s.channels < s.fld fSTRM_TXs_FIRST i + s.fld fSTRM_TXs_CHANS i then 3
  else if 1440 < s.txBytes i then 4
  else if !s.txLoadOk on then 9
  else 0

/-- The time source's grandmaster and domain, as object 0x2210.05 names them (R501). -/
def State.srcRef (s : State) : Nat × Nat := (s.fld fTIM_Dn_GM_VALUE s.timeSrc, s.fld fTIM_Dn_CFG_DOMAIN s.timeSrc)

/-- An enable: refused with event 44, or taken at the next boundary (R497, R499, R501). -/
def State.rxEnable (s : State) (i : Nat) : State :=
  if s.flag fSTRM_RXs_EN i then s
  else
    let r := s.rxCheck i
    if r != 0 then ((s.put fSTRM_RXs_STATUS_STATE 4 i).put fSTRM_RXs_STATUS_REFUSE r i).raise 44 []
    else
      let s := (s.put fSTRM_RXs_EN 1 i).put fSTRM_RXs_STATUS_DEEP (if s.rxDeep i then 1 else 0) i
      let x := s.rxS i
      let s := s.setRx i { x with want := some true }
      match x.sdpRef with
      | some g => if g = s.srcRef then s.put fSTRM_RXs_STATUS_DOMAIN_MM 0 i else (s.put fSTRM_RXs_STATUS_DOMAIN_MM 1 i).raise 45 []
      | none => s

/-- An enable of a transmit stream. -/
def State.txEnable (s : State) (i : Nat) : State :=
  if s.flag fSTRM_TXs_EN i then s
  else
    let r := s.txCheck i
    if r != 0 then ((s.put fSTRM_TXs_STATUS_STATE 4 i).put fSTRM_TXs_STATUS_REFUSE r i).raise 44 []
    else (s.put fSTRM_TXs_EN 1 i).setTx i { (s.txS i) with want := some true }

/-- A disable takes effect at the next boundary (R497). -/
def State.rxDisable (s : State) (i : Nat) : State :=
  if !s.flag fSTRM_RXs_EN i then s else (s.put fSTRM_RXs_EN 0 i).setRx i { (s.rxS i) with want := some false }

/-! ### SDP (R500) -/

/-- Bytes of a text. -/
def txt (t : String) : List Byte := ascii t.toList

/-- Decimal digits of a number. -/
def decText (n : Nat) : List Byte := txt (toString n)

/-- The pieces of `l` between bytes `c`. -/
def splitAt' (c : Byte) (l : List Byte) : List (List Byte) :=
  let r := l.foldr (fun b (acc : List Byte × List (List Byte)) => if b = c then ([], acc.1 :: acc.2) else (b :: acc.1, acc.2)) ([], [])
  r.1 :: r.2

/-- The lines of a text, CR removed. -/
def sdpLines (t : List Byte) : List (List Byte) := (splitAt' 10 (t.filter (fun b => b != 13))).filter (fun l => !l.isEmpty)

/-- The rest of a line that begins with `p`. -/
def after (p l : List Byte) : Option (List Byte) := if l.take p.length = p then some (l.drop p.length) else none

/-- A decimal number. -/
def decOf (l : List Byte) : Option Nat :=
  if l.isEmpty then none
  else l.foldl (fun acc b => acc.bind (fun n => if 48 ≤ b.toNat && b.toNat ≤ 57 then some (10 * n + (b.toNat - 48)) else none)) (some 0)

/-- A hexadecimal number, dashes skipped. -/
def hexOf (l : List Byte) : Option Nat :=
  let h (b : Byte) : Option Nat :=
    let n := b.toNat
    if 48 ≤ n && n ≤ 57 then some (n - 48) else if 65 ≤ n && n ≤ 70 then some (n - 55) else if 97 ≤ n && n ≤ 102 then some (n - 87) else none
  (l.filter (fun b => b != 45)).foldl (fun acc b => acc.bind (fun n => (h b).map (fun d => 16 * n + d))) (some 0)

/-- A dotted IPv4 address. -/
def ipOf (l : List Byte) : Option Nat :=
  match (splitAt' 46 l).map decOf with
  | [some a, some b, some c, some d] => if a < 256 && b < 256 && c < 256 && d < 256 then some (((a * 256 + b) * 256 + c) * 256 + d) else none
  | _ => none

/-- What an SDP media section gives. -/
structure SdpMedia where
  port : Option Nat := none
  pt : Option Nat := none
  dst : Option Nat := none
  src : Nat := 0
  fmt : Option Nat := none
  rate : Option Nat := none
  chans : Option Nat := none
  ptime : Option Nat := none
  refGm : Option (Nat × Nat) := none
  mclk : Nat := 0
  bad : Bool := false
deriving DecidableEq, Repr

/-- Packet-time code of an a=ptime value (R500). -/
def ptimeOf (l : List Byte) : Option Nat :=
  if l = txt "0.125" then some 0 else if l = txt "0.25" then some 1 else if l = txt "0.33" || l = txt "0.333" then some 2
  else if l = txt "1" then some 3 else if l = txt "4" then some 4 else none

/-- One line read into a media section (R500); other lines are skipped. -/
def sdpLine (m : SdpMedia) (l : List Byte) : SdpMedia :=
  match after (txt "c=IN IP4 ") l with
  | some r => { m with dst := ipOf ((splitAt' 47 r).headD []) , bad := m.bad || (ipOf ((splitAt' 47 r).headD [])).isNone }
  | none =>
  match after (txt "a=rtpmap:") l with
  | some r =>
    (match splitAt' 32 r with
     | [p, e] =>
       (match splitAt' 47 e with
        | n :: rt :: rest =>
          let f := if n = txt "L16" then some 0 else if n = txt "L24" then some 1 else if n = txt "AM824" then some 2 else none
          let ch := match rest with | [] => some 1 | c :: _ => decOf c
          { m with fmt := f, rate := decOf rt, chans := ch, bad := m.bad || f.isNone || (decOf rt).isNone || ch.isNone || decOf p != m.pt }
        | _ => { m with bad := true })
     | _ => { m with bad := true })
  | none =>
  match after (txt "a=ptime:") l with
  | some r => { m with ptime := ptimeOf r, bad := m.bad || (ptimeOf r).isNone }
  | none =>
  match after (txt "a=source-filter: incl IN IP4 ") l with
  | some r => (match (splitAt' 32 r).map ipOf with | [_, some a] => { m with src := a } | _ => { m with bad := true })
  | none =>
  match after (txt "a=ts-refclk:ptp=IEEE1588-2008:") l, after (txt "a=ts-refclk:ptp=IEEE1588-2019:") l with
  | none, none =>
    (match after (txt "a=mediaclk:direct=") l with
     | some r => (match decOf r with | some n => { m with mclk := n % 2 ^ 32 } | none => { m with bad := true })
     | none => m)
  | a, b =>
    let r := (a.orElse (fun _ => b)).getD []
    match splitAt' 58 r with
    | [g, d] => (match hexOf g, decOf d with | some g, some d => { m with refGm := some (g, d) } | _, _ => { m with bad := true })
    | [g] => (match hexOf g with | some g => { m with refGm := some (g, 0) } | none => { m with bad := true })
    | _ => { m with bad := true }

/-- An m= line begins a media section, which inherits the session's lines. -/
def sdpOpen (base : SdpMedia) (l : List Byte) : SdpMedia :=
  match splitAt' 32 l with
  | [p, proto, t] =>
    if proto = txt "RTP/AVP" then { base with port := decOf p, pt := decOf t, bad := base.bad || (decOf p).isNone || (decOf t).isNone }
    else { base with bad := true }
  | _ => { base with bad := true }

/-- The session part and the media sections of a text. -/
def sdpParse (t : List Byte) : SdpMedia × List SdpMedia :=
  (sdpLines t).foldl (fun (acc : SdpMedia × List SdpMedia) l =>
    match after (txt "m=audio ") l with
    | some r => (acc.1, acc.2 ++ [sdpOpen acc.1 r])
    | none =>
      match acc.2.reverse with
      | [] => (sdpLine acc.1 l, [])
      | m :: rest => (acc.1, (sdpLine m l :: rest).reverse)) ({}, [])

/-- A media section that gives everything a descriptor needs. -/
def sdpOk (m : SdpMedia) : Bool :=
  !m.bad && m.port.isSome && m.pt.isSome && m.dst.isSome && m.fmt.isSome && m.rate.isSome && m.ptime.isSome
    && decide (m.chans.getD 0 ≤ 64)

/-- SDP text fills a receive descriptor, except EN; one media section serves plane A alone (log entry 34). Text that does
not parse leaves the descriptor unchanged and sets REFUSE to 8 (R500). -/
def State.sdpWrite (s : State) (i : Nat) (t : List Byte) : State :=
  if s.flag fSTRM_RXs_EN i then s
  else
    let ms := (sdpParse t).2
    let two := ms.length = 2
    match ms with
    | [] => s.put fSTRM_RXs_STATUS_REFUSE 8 i
    | a :: rest =>
      let b := rest.headD a
      if 2 < ms.length || !sdpOk a || !sdpOk b || a.fmt != b.fmt || a.chans != b.chans || a.ptime != b.ptime || a.rate != b.rate
        || !utf8Ok 0 t then s.put fSTRM_RXs_STATUS_REFUSE 8 i
      else
        let s := ((s.put fSTRM_RXs_FMT (a.fmt.getD 1) i).put fSTRM_RXs_PTIME (a.ptime.getD 3) i).put fSTRM_RXs_CHANS (a.chans.getD 1) i
        let s := ((s.put fSTRM_RXs_PT (a.pt.getD 96) i).put fSTRM_RXs_DST_A (a.dst.getD 0) i).put fSTRM_RXs_SRC_A a.src i
        let s := (s.put fSTRM_RXs_PORT_A (a.port.getD 0) i).put fSTRM_RXs_MCLK_OFS a.mclk i
        let s := s.put fSTRM_RXs_PLANES (if two then 3 else 1) i
        let s := if two then ((s.put fSTRM_RXs_DST_B (b.dst.getD 0) i).put fSTRM_RXs_SRC_B b.src i).put fSTRM_RXs_PORT_B (b.port.getD 0) i else s
        let s := s.setRx i { (s.rxS i) with sdpRate := a.rate, sdpRef := a.refGm }
        s.setObj 0x3100 2 i (.bytes t)

/-- SDP_WRITE (R500). -/
def execSdpWrite (stream : Nat) (text : List Byte) (s : State) : Host.Outcome State Fault Refusal :=
  .next (s.when (s.live && decide (stream < 1024)) fun s => s.sdpWrite stream text)

/-- Text of an IPv4 address. -/
def ipText (a : Nat) : List Byte :=
  decText (a / 2 ^ 24 % 256) ++ [46] ++ decText (a / 2 ^ 16 % 256) ++ [46] ++ decText (a / 256 % 256) ++ [46] ++ decText (a % 256)

/-- Sixteen hexadecimal digits. -/
def hexText (k n : Nat) : List Byte :=
  ((List.range k).map (fun i => let d := n / 16 ^ (k - 1 - i) % 16; BitVec.ofNat 8 (if d < 10 then 48 + d else 87 + d)))

/-- The address from which the engine's streams of a plane come: the pair media address while paired (R541), else the
plane's address in use (R477). -/
def State.mediaAddr (s : State) (plane : Nat) : Nat :=
  if s.flag fSIPH_CTRL_PAIR_EN then s.objNum 0x8020 (plane + 1) 0 else nget 0 s.net.addr plane

/-- One m= section of the SDP of a transmit stream (R500). -/
def State.sdpSection (s : State) (i plane : Nat) : List Byte :=
  let dst := if plane = 0 then s.fld fSTRM_TXs_DST_A i else s.fld fSTRM_TXs_DST_B i
  let port := if plane = 0 then s.fld fSTRM_TXs_PORT_A i else s.fld fSTRM_TXs_PORT_B i
  let f := s.fld fSTRM_TXs_FMT i
  let pt := s.fld fSTRM_TXs_PTIME i
  let nl : List Byte := [13, 10]
  let multi := dst / 2 ^ 28 = 14
  txt "m=audio " ++ decText port ++ txt " RTP/AVP " ++ decText (s.fld fSTRM_TXs_PT i) ++ nl
  ++ txt "c=IN IP4 " ++ ipText dst ++ (if multi then [47] ++ decText (s.fld fNET_QOS_TTL) else []) ++ nl
  ++ txt "a=rtpmap:" ++ decText (s.fld fSTRM_TXs_PT i) ++ [32] ++ (if f = 0 then txt "L16" else if f = 1 then txt "L24" else txt "AM824")
  ++ [47] ++ decText s.fs ++ [47] ++ decText (s.fld fSTRM_TXs_CHANS i) ++ nl
  ++ txt "a=ptime:" ++ (if pt = 0 then txt "0.125" else if pt = 1 then txt "0.25" else if pt = 2 then txt "0.33" else if pt = 3 then txt "1" else txt "4") ++ nl
  ++ txt "a=source-filter: incl IN IP4 " ++ ipText dst ++ [32] ++ ipText (s.mediaAddr plane) ++ nl
  ++ txt "a=ts-refclk:ptp=IEEE1588-2008:" ++ hexText 16 s.srcRef.1 ++ [58] ++ decText s.srcRef.2 ++ nl
  ++ txt "a=mediaclk:direct=0" ++ nl
  ++ (if s.fld fSTRM_TXs_PLANES i = 3 then txt "a=mid:" ++ decText (plane + 1) ++ nl else [])

/-- The SDP of a transmit stream (R500): the attributes that its table lists. -/
def State.txSdp (s : State) (i : Nat) : List Byte :=
  let pl := s.fld fSTRM_TXs_PLANES i
  (if pl = 3 then txt "a=group:DUP 1 2" ++ [13, 10] else [])
  ++ (if bit pl 0 then s.sdpSection i 0 else []) ++ (if bit pl 1 then s.sdpSection i 1 else [])

/-- A disable of a transmit stream; SAP announces its deletion (R497, R503). -/
def State.txDisable (s : State) (i : Nat) : State :=
  if !s.flag fSTRM_TXs_EN i then s
  else
    let s := (s.put fSTRM_TXs_EN 0 i).setTx i { (s.txS i) with want := some false }
    if s.objNum 0x3300 2 0 = 1 then { s with net := { s.net with sapOut := [(i, true, s.txSdp i)] } } else s

/-- STREAM_ENABLE (R497, R499); a ledger input in a pair (R505). -/
def execStreamEnable (tx : Bool) (stream : Nat) (s : State) : Host.Outcome State Fault Refusal :=
  .next (s.when (s.live && decide (stream < 1024)) fun s =>
    if s.paired then
      s.submit (.regWrite (regAddr (if tx then .STRM_TXs_W0 else .STRM_RXs_W0) stream)
        (if tx then fSTRM_TXs_EN.into (s.word .STRM_TXs_W0 stream) 1 else fSTRM_RXs_EN.into (s.word .STRM_RXs_W0 stream) 1))
    else if tx then s.txEnable stream else s.rxEnable stream)

/-- STREAM_DISABLE (R497). -/
def execStreamDisable (tx : Bool) (stream : Nat) (s : State) : Host.Outcome State Fault Refusal :=
  .next (s.when (s.live && decide (stream < 1024)) fun s =>
    if s.paired then
      s.submit (.regWrite (regAddr (if tx then .STRM_TXs_W0 else .STRM_RXs_W0) stream)
        (if tx then fSTRM_TXs_EN.into (s.word .STRM_TXs_W0 stream) 0 else fSTRM_RXs_EN.into (s.word .STRM_RXs_W0 stream) 0))
    else if tx then s.txDisable stream else s.rxDisable stream)

/-! ### Receiving (R486 to R491) -/

/-- The media count now (R161). -/
def State.mediaNow (s : State) : Int := (s.sampleIdx : Nat) + s.mapOfs

/-- U of R486: the 64-bit count nearest to the present media count with the given low 32 bits. -/
def State.nearest (s : State) (low : Nat) : Int := s.mediaNow + sx 32 (unsx 32 ((low : Int) - s.mediaNow))

/-- Key of a buffer position: channel and media count. -/
def posKey (c : Nat) (m : Int) : Nat := c * 2 ^ 64 + unsx 64 m

/-- A wire word of a packet's payload, most significant byte first. -/
def beWord (l : List Byte) : Nat := l.foldl (fun n b => n * 256 + b.toNat) 0

/-- The sample of a payload word by encoding (R485). -/
def ofPayload (fmt w : Nat) : Int := if fmt = 2 then sx 32 w else ofWire (8 * fmtBytes fmt) w

/-- A valid packet's samples go into every buffer position that is not yet filled (R489). -/
def State.rxPlace (s : State) (i : Nat) (u : Int) (p : RtpPacket) : State :=
  let ch := s.fld fSTRM_RXs_CHANS i
  let f := s.fld fSTRM_RXs_FMT i
  let w := fmtBytes f
  let x := s.rxS i
  let buf := forN (s.rxP i) (fun k b => forN ch (fun c (b : NMap Int) =>
    let key := posKey c (u + k)
    if b.any (fun e => e.1 = key) then b
    else nput b key (ofPayload f (beWord ((p.payload.drop ((k * ch + c) * w)).take w)))) b) x.buf
  s.setRx i { x with buf := buf }

/-- The status bit of a stream's leg on plane 0 (A) or 1 (B). -/
def legFd (plane : Nat) : Fd := if plane = 0 then fSTRM_RXs_STATUS_LEG_A else fSTRM_RXs_STATUS_LEG_B

/-- A stream's leg and state after a valid packet (R491). -/
def State.rxAlive (s : State) (i plane : Nat) : State :=
  let n := s.sampleIdx + 1
  let x := s.rxS i
  let s := s.setRx i (if plane = 0 then { x with lastA := n } else { x with lastB := n })
  let s := if plane = 0 then s.addWrap fSTRM_RXs_PKTS_PKTS_A 1 i else s.addWrap fSTRM_RXs_PKTS_PKTS_B 1 i
  let s := if s.flag (legFd plane) i then s else (s.put (legFd plane) 1 i).raise 43 []
  if s.fld fSTRM_RXs_STATUS_STATE i = 2 then (s.put fSTRM_RXs_STATUS_STATE 3 i).raise 41 [] else s

/-- A packet aimed at stream `i` (R488, R489). -/
def State.rxPacket (s : State) (i : Nat) (p : RtpPacket) : State :=
  let srcF := if p.plane = 0 then s.fld fSTRM_RXs_SRC_A i else s.fld fSTRM_RXs_SRC_B i
  let ok := bit (s.fld fSTRM_RXs_PLANES i) p.plane && (srcF = 0 || srcF = p.src) && p.pt = s.fld fSTRM_RXs_PT i
    && p.payload.length = s.rxBytes i
  if !ok then s.incSat fSTRM_RXs_COUNT_BAD i
  else
    let u := s.nearest (unsx 32 ((p.stamp : Int) - s.fld fSTRM_RXs_MCLK_OFS i))
    let x := s.rxS i
    let s := s.rxAlive i p.plane
    match x.read with
    | none => s.rxPlace i u p
    | some r =>
      if u < r then s.incSat fSTRM_RXs_COUNT_LATE i
      else if r + s.rxWindow i < u + s.rxP i - 1 then s.incSat fSTRM_RXs_COUNT_EARLY i
      else s.rxPlace i u p

/-- RTP_PACKET_RX (R486 to R489): a packet reaches every enabled stream at whose destination it is aimed; a stream in
WAIT_TIME places nothing (R498). -/
def execRtpPacketRx (p : RtpPacket) (s : State) : Host.Outcome State Fault Refusal :=
  .next (s.when (s.live && decide (p.plane < 2)) fun s =>
    forL s.rxOn (fun i s =>
      let dst := if p.plane = 0 then s.fld fSTRM_RXs_DST_A i else s.fld fSTRM_RXs_DST_B i
      let port := if p.plane = 0 then s.fld fSTRM_RXs_PORT_A i else s.fld fSTRM_RXs_PORT_B i
      let st := s.fld fSTRM_RXs_STATUS_STATE i
      if p.dst = dst && p.port = port && (st = 2 || st = 3) && s.fld fSTRM_RXs_CHANS i != 0 && s.fld fSTRM_RXs_PLANES i != 0
      then s.rxPacket i p else s) s)

/-- One channel of one sample read (R490): its value, and the stream's concealment state. -/
def rxRead (am : Bool) (r : Nat) (x : RxStream) (c : Nat) (m : Int) : Int × RxStream :=
  match x.buf.find? (fun e => e.1 = posKey c m) with
  | some (_, v) =>
    let n := if x.begun then min r (nget 0 x.conc c + 1) else r
    (if am then v else divEven (v * n) (max 1 r : Nat), { x with conc := nset 0 x.conc c n, hold := nset 0 x.hold c v })
  | none =>
    let n := nget 0 x.conc c - 1
    (if am then 0 else divEven (nget 0 x.hold c * n) (max 1 r : Nat), { x with conc := nset 0 x.conc c n })

/-- Event 42 and CONCEAL at the start of a missing run (R490). -/
def State.conceal (s : State) (i : Nat) : State :=
  let s := s.incSat fSTRM_RXs_COUNT_CONCEAL i
  let x := s.rxS i
  if s.oncePerSec x.concAt then (s.setRx i { x with concAt := s.tim.cnt + 1 }).raise 42 [] else s

/-- Ingress block `j` of one receive stream (R486, R490). -/
def State.rxBlock (s : State) (j i : Nat) : State :=
  let x0 := s.rxS i
  let st := s.fld fSTRM_RXs_STATUS_STATE i
  if !((st = 2 || st = 3) || x0.fading) then s
  else
    let b := s.sys.blk
    let ch := s.fld fSTRM_RXs_CHANS i
    let first := s.fld fSTRM_RXs_FIRST i
    let am := s.fld fSTRM_RXs_FMT i = 2
    let r := (roundQ (s.fs : Nat) 1000).toNat
    let m0 : Int := (j * b : Nat) + s.mapOfs - s.fld fSTRM_RXs_LINK_OFS i
    let x0 := if x0.fading then { x0 with buf := [] } else x0
    let res := forN b (fun k (acc : RxStream × NMap (List Int) × Nat) =>
      let m := m0 + k
      let here := acc.1.buf.any (fun e => e.1 = posKey 0 m)
      let x := acc.1
      let new := !here && x.begun && !x.missing && !x.fading
      let y := forN ch (fun c (q : RxStream × NMap (List Int)) =>
        let v := rxRead am r q.1 c m
        (v.2, nput q.2 c (v.1 :: nget [] q.2 c))) (x, acc.2.1)
      ({ y.1 with begun := x.begun || here, missing := !here && x.begun }, y.2, acc.2.2 + (if new then 1 else 0))) (x0, [], 0)
    let x := res.1
    let last := m0 + b
    let keep := x.buf.filter (fun e => decide (0 ≤ sx 64 (unsx 64 ((e.1 % 2 ^ 64 : Nat) - last))))
    let silent := x.fading && x.conc.isEmpty
    let s := s.setRx i { x with buf := keep, read := some last, fading := x.fading && !silent }
    let s := forL res.2.1 (fun e s =>
      let l := e.2.reverse
      s.putSrc (first + e.1) { blk := j, measure := maxMag l, samples := l }) s
    forN res.2.2 (fun _ s => s.conceal i) s

/-- Enables, disables and WAIT_TIME of the receive streams at a boundary (R491, R497, R498). -/
def State.rxBoundary (s : State) : State :=
  forL (s.net.rx.map (fun e => e.1)) (fun i s =>
    let x := s.rxS i
    let map := s.flag fTIM_MAP_STATUS_MAP_VALID
    let wait (s : State) : State := s.put fSTRM_RXs_STATUS_STATE (if map then 2 else 1) i
    match x.want with
    | some true =>
      wait (s.setRx i { sdpRate := x.sdpRate, sdpRef := x.sdpRef, concAt := x.concAt })
    | some false =>
      let s := ((s.put fSTRM_RXs_STATUS_STATE 0 i).put fSTRM_RXs_STATUS_LEG_A 0 i).put fSTRM_RXs_STATUS_LEG_B 0 i
      s.setRx i { x with want := none, fading := true, buf := [], lastA := 0, lastB := 0 }
    | none =>
      let st := s.fld fSTRM_RXs_STATUS_STATE i
      if st = 1 && map then wait s
      else if (st = 2 || st = 3) && !map then (s.setRx i { x with buf := [], read := none }).put fSTRM_RXs_STATUS_STATE 1 i
      else s) s

/-- Step 1 of a boundary for the network block: ingress block `j` of every stream and edge, on the unit that completes
ingress blocks (R486, R496, R505). -/
def State.netIngress (s : State) (j : Nat) : State :=
  let s := s.rxBoundary
  let s := forL (s.net.rx.map (fun e => e.1)) (fun i s => s.rxBlock j i) s
  if s.following then s
  else forN 256 (fun e s =>
    let n := s.fld fNET_EDGEe_MAP_COUNT e
    if s.flag fNET_EDGEe_MAP_DIR e || n = 0 then s
    else
      let f := s.fld fNET_EDGEe_MAP_FIRST e
      let ws := (List.range s.sys.blk).flatMap (fun i => (List.range n).map (fun k =>
        match s.srcBlk (f + k) j with | some b => b.samples.getD i 0 | none => 0))
      s.ingressPost 62 e j ws) s

/-- RX_LEG_TIMEOUT (R491): no valid packet on the plane for 10 × P samples. -/
def execRxLegTimeout (stream plane : Nat) (s : State) : Host.Outcome State Fault Refusal :=
  let x := s.rxS stream
  let last := if plane = 0 then x.lastA else x.lastB
  .next (s.when (s.live && decide (plane < 2) && s.flag (legFd plane) stream && decide (last + 10 * s.rxP stream ≤ s.sampleIdx + 1)) fun s =>
    (s.put (legFd plane) 0 stream).raise 43 [])

/-- RX_IDLE_TIMEOUT (R491): no valid packet on any plane for 100 ms. -/
def execRxIdleTimeout (stream : Nat) (s : State) : Host.Outcome State Fault Refusal :=
  let x := s.rxS stream
  .next (s.when (s.live && s.fld fSTRM_RXs_STATUS_STATE stream = 3 && decide (max x.lastA x.lastB + s.fadeLen 100 ≤ s.sampleIdx + 1)) fun s =>
    (s.put fSTRM_RXs_STATUS_STATE 2 stream).raise 41 [])

/-! ### Transmitting (R492 to R498) -/

/-- The unit sends streams on plane `x` for packets whose S0 is `s0` (R539, R546, R547, R561). -/
def State.sendsPlane (s : State) (x s0 : Nat) : Bool :=
  let b := max 1 s.sys.blk
  -- packets that begin before a planned handover leave as the roles stood before it (R546)
  let r := match s.pair.handover with
    | some h => if decide (h ≤ s.blkIndex) && decide (s0 < h * b) && (s.role = 2 || s.role = 3) then 5 - s.role else s.role
    | none => s.role
  let before := match s.pair.release with | some k => decide (s0 < k * b) | none => false
  if r = 0 || r = 4 then s.claims && decide ((if x = 0 then s.pair.fromA else s.pair.fromB) * b ≤ s0)
  else if r = 2 then x = 0 || s.pair.partner != 3 || (s.pair.release.isSome && !before)
  else if r = 3 then x = 1
  else if r = 5 then x = 1 && before
  else false

/-- Enables and disables of the transmit streams at boundary `j`, and WAIT_TIME (R497, R498). A restart of S (R140) begins at
boundary 0. -/
def State.txBoundary (s : State) (j : Nat) : State :=
  forL (s.net.tx.map (fun e => e.1)) (fun i s =>
    let x := s.txS i
    let p := max 1 (s.txP i)
    let s0 := j * s.sys.blk
    let ph := s.fld fSTRM_TXs_PHASE i
    let start := s0 + (ph + p - s0 % p) % p
    let map := s.flag fTIM_MAP_STATUS_MAP_VALID
    let go (s : State) : State :=
      if map then ((s.setTx i { next := start, sapAt := x.sapAt }).put fSTRM_TXs_STATUS_STATE 2 i).raise 46 []
      else (s.setTx i { sapAt := x.sapAt }).put fSTRM_TXs_STATUS_STATE 1 i
    match x.want with
    | some true => go s
    | some false =>
      let s := if s.fld fSTRM_TXs_STATUS_STATE i = 2 then s.raise 46 [] else s
      (s.setTx i { x with want := none, stopAt := some s0 }).put fSTRM_TXs_STATUS_STATE 0 i
    | none =>
      let st := s.fld fSTRM_TXs_STATUS_STATE i
      if st = 1 && map then go s
      else if st = 2 && !map then ((s.setTx i { sapAt := x.sapAt }).put fSTRM_TXs_STATUS_STATE 1 i).raise 46 []
      else if st = 2 && j = 0 then s.setTx i { next := start, sapAt := x.sapAt }
      else s) s

/-- The transmit channel lies on an egress edge whose slot for block `j` has been posted, or on none (R494, R496). -/
def State.txPosted (s : State) (c j : Nat) : Bool :=
  match (List.range 256).find? (fun e => s.flag fNET_EDGEe_MAP_DIR e && decide (s.fld fNET_EDGEe_MAP_FIRST e ≤ c) &&
      decide (c < s.fld fNET_EDGEe_MAP_FIRST e + s.fld fNET_EDGEe_MAP_COUNT e)) with
  | some e => nget 0 s.pump.egress ((62 * 2 ^ 16 + e) * 16 + s.outSlot 62 e j) = j + 1
  | none => true

/-- Block `j` as formed for the channels of each transmit stream (R492, R494): missing blocks are zero and counted. -/
def State.txCollect (s : State) (j : Nat) : State :=
  forL (s.net.tx.map (fun e => e.1)) (fun i s =>
    let x := s.txS i
    let live := s.fld fSTRM_TXs_STATUS_STATE i = 2 || x.stopAt.isSome
    let f := s.fld fSTRM_TXs_FIRST i
    let ch := s.fld fSTRM_TXs_CHANS i
    if !live || ch = 0 || s.fld fSTRM_TXs_PLANES i = 0 then s
    else
      let chans := List.range ch
      let posted := chans.all (fun c => rPath (s.entryNow (0x1000 + f + c)) ||
        ((s.txPosted (f + c) j || s.ramping (0x1000 + f + c) j) && (s.outBlk (0x1000 + f + c) j).isSome))
      let b := s.sys.blk
      let buf := forN b (fun k (m : NMap (List Int)) =>
        nput m (j * b + k) (chans.map (fun c =>
          if !s.txPosted (f + c) j && !s.ramping (0x1000 + f + c) j then 0
          else match s.outBlk (0x1000 + f + c) j with | some o => o.samples.getD k 0 | none => 0))) x.buf
      let s := s.setTx i { x with buf := buf.filter (fun e => decide (x.next ≤ e.1)), under := !posted }
      if !posted && !x.under then (s.incSat fSTRM_TXs_STATUS_UNDERRUN i).raise 47 [] else s) s

/-- Sample `k` of a packet of `p` samples from S0 for transmit channel `c`: from the block path, from the last `p` direct
words, or their crossfade (R310, R331). -/
def State.txSample (s : State) (c s0 p k : Nat) (blk : Int) : Int :=
  let sink := 0x1000 + c
  let e := s.entryNow sink
  let w : Int := (nget [] s.route.netWords sink).getD (p - 1 - k) 0
  match s.fadeAt sink (s0 + k) with
  | none => if rPath e then w else blk
  | some f =>
    let n := s0 + k
    if n < f.start then (if rPath f.old then w else blk)
    else if rPath e && !rPath f.old then fadeMix (n - f.start) f.len blk w
    else if !rPath e && rPath f.old then fadeMix (n - f.start) f.len w blk
    else if rPath e then w else blk

/-- Big-endian bytes of a payload word (R484, R485). -/
def payloadBytes (fmt : Nat) (rnd : Bool) (v : Int) : List Byte :=
  let k := fmtBytes fmt
  (leBytes k (if fmt = 2 then unsx 32 v else unsx (8 * k) (toWire (8 * k) rnd v))).reverse

/-- TX_PACKET_CLOSE (R492, R493): the packet's last sample has reached the egress; it is stamped and one copy is sent on
each plane, and slots wholly sent return their credit (R496). -/
def execTxPacketClose (stream : Nat) (s : State) : Host.Outcome State Fault Refusal :=
  let x := s.txS stream
  let p := s.txP stream
  let b := s.sys.blk
  let open' := s.fld fSTRM_TXs_STATUS_STATE stream = 2 || (match x.stopAt with | some e => decide (x.next < e) | none => false)
  .next (s.when (s.live && decide (stream < 1024) && open' && s.fld fSTRM_TXs_CHANS stream != 0 && decide (x.next + p + b + 3 ≤ s.sampleIdx)) fun s =>
    let f := s.fld fSTRM_TXs_FIRST stream
    let ch := s.fld fSTRM_TXs_CHANS stream
    let fmt := s.fld fSTRM_TXs_FMT stream
    let payload := (List.range p).flatMap (fun k => (List.range ch).flatMap (fun c =>
      payloadBytes fmt (rRnd (s.entryNow (0x1000 + f + c))) (s.txSample (f + c) x.next p k ((nget [] x.buf (x.next + k)).getD c 0))))
    let pkt (plane : Nat) : TxPkt :=
      { stream := stream, plane := plane, src := s.mediaAddr plane
        dst := if plane = 0 then s.fld fSTRM_TXs_DST_A stream else s.fld fSTRM_TXs_DST_B stream
        port := if plane = 0 then s.fld fSTRM_TXs_PORT_A stream else s.fld fSTRM_TXs_PORT_B stream
        ttl := s.fld fNET_QOS_TTL, dscp := s.fld fNET_QOS_DSCP_MEDIA, seq := x.next / max 1 p % 2 ^ 16
        stamp := unsx 32 ((x.next : Int) + s.mapOfs), ssrc := s.fld fSTRM_TXs_SSRC stream, pt := s.fld fSTRM_TXs_PT stream
        payload := payload }
    let planes := [0, 1].filter (fun q => bit (s.fld fSTRM_TXs_PLANES stream) q && s.mediaAddr q != 0 && !s.addrDead q && s.sendsPlane q x.next)
    let next := x.next + p
    let done := match x.stopAt with | some e => decide (e ≤ next) | none => false
    let buf := x.buf.filter (fun e => decide (next ≤ e.1))
    let s := s.setTx stream { x with next := next, buf := if done then [] else buf, stopAt := if done then none else x.stopAt }
    let s := s.addWrap fSTRM_TXs_STATUS_PKTS planes.length stream
    let s : State := { s with net := { s.net with out := planes.map pkt } }
    -- an egress slot of block j is free once every stream has passed its last sample
    forN 256 (fun e s =>
      if !s.flag fNET_EDGEe_MAP_DIR e then s
      else
        let lo := s.fld fNET_EDGEe_MAP_FIRST e
        let hi := lo + s.fld fNET_EDGEe_MAP_COUNT e
        let uses := s.txOn.filter (fun i => decide (s.fld fSTRM_TXs_FIRST i < hi) && decide (lo < s.fld fSTRM_TXs_FIRST i + s.fld fSTRM_TXs_CHANS i))
        let from' := uses.foldl (fun m i => min m (s.txS i).next) next
        forN 8 (fun sl s =>
          let v := nget 0 s.pump.egress ((62 * 2 ^ 16 + e) * 16 + sl)
          if v != 0 && decide (v * b ≤ from') then s.egressCredit 62 e (v - 1) else s) s) s)

/-! ### Discovery (R502, R503) -/

/-- Firmware version of the running image as major, minor and patch in bits 23:16, 15:8 and 7:0. -/
def State.fwVersion (s : State) : Nat := s.sys.image.fwVersion

/-- Node number (object 0x1000.01). -/
def State.node (s : State) : Nat := s.objNum 0x1000 1 0

/-- The TXT record of R502, one key per string with its length byte. -/
def State.mdnsTxt (s : State) : List Byte :=
  let one (l : List Byte) : List Byte := BitVec.ofNat 8 l.length :: l
  let v := s.fwVersion
  one (txt "node=" ++ decText s.node) ++ one (txt "role=" ++ decText s.role) ++ one (txt "dig=" ++ hexText 16 s.configDigest)
  ++ one (txt "fw=" ++ decText (v / 2 ^ 16) ++ [46] ++ decText (v / 2 ^ 8 % 256) ++ [46] ++ decText (v % 256)) ++ one (txt "step=A1")

/-- MDNS_ANNOUNCE (R502): the service and its TXT keys on the management VLAN of each plane with an address. -/
def execMdnsAnnounce (s : State) : Host.Outcome State Fault Refusal :=
  .next (s.when (s.live && s.objNum 0x3300 1 0 = 1 && (nget 0 s.net.addr 0 != 0 || nget 0 s.net.addr 1 != 0)) fun s =>
    { s with net := { s.net with mdns := s.mdnsTxt } })

/-- SAP_ANNOUNCE (R503): the SDP of one enabled transmit stream, every SAP_INT seconds. -/
def execSapAnnounce (stream : Nat) (s : State) : Host.Outcome State Fault Refusal :=
  let x := s.txS stream
  .next (s.when (s.live && s.objNum 0x3300 2 0 = 1 && s.flag fSTRM_TXs_EN stream &&
      (x.sapAt = 0 || decide (x.sapAt + s.objNum 0x3300 3 0 * s.corePerSec ≤ s.tim.cnt + 1))) fun s =>
    let s := s.setTx stream { x with sapAt := s.tim.cnt + 1 }
    { s with net := { s.net with sapOut := [(stream, false, s.txSdp stream)] } })

/-- SAP_RECEIVE (R503): a heard announcement is listed, at most 1,024; a deletion removes it. -/
def execSapReceive (a : SapMsg) (s : State) : Host.Outcome State Fault Refusal :=
  .next (s.when s.live fun s =>
    let same (e : SapEnt) : Bool := e.src = a.src && e.hash = a.hash
    if a.delete then { s with net := { s.net with sap := s.net.sap.filter (fun e => !same e) } }
    else match s.net.sap.find? same with
      | some e =>
        let y : SapEnt := { e with text := a.sdp, heard := s.tim.cnt, interval := s.tim.cnt - e.heard }
        { s with net := { s.net with sap := s.net.sap.map (fun q => if same q then y else q) } }
      | none =>
        if 1024 ≤ s.net.sap.length then s
        else { s with net := { s.net with sap := s.net.sap ++ [{ src := a.src, hash := a.hash, text := a.sdp, heard := s.tim.cnt, interval := 0 }] } })

/-- SAP_AGE_OUT (R503): ten of its source's intervals, or 3,600 s after a single announcement. -/
def execSapAgeOut (src hash : Nat) (s : State) : Host.Outcome State Fault Refusal :=
  .next (s.when s.live fun s =>
    { s with net := { s.net with sap := s.net.sap.filter (fun e =>
        !(e.src = src && e.hash = hash &&
          decide (e.heard + (if e.interval = 0 then 3600 * s.corePerSec else 10 * e.interval) ≤ s.tim.cnt))) } })

end Sys2Proof.Machine
end

