-- ==== Sys2Proof/Machine/Roster.lean ====
section
/-! DEFINITION. The consistency record, the roster and engines that disagree (R616, R638 to R640). -/

namespace Sys2Proof.Machine

open Sys2Proof

/-- Object 0x0001.05: firmware major, minor, patch and zero, one byte each from bit 31 down (R612). -/
def State.fwWord (s : State) : Nat := s.fwVersion % 2 ^ 24 * 256

/-- The 12-byte identity of object 0x2210.05 (R176). -/
def State.domainIdent (s : State) : List Byte := leBytes 1 s.srcRef.2 ++ [0, 0, 0] ++ leBytes 8 s.srcRef.1

/-- The consistency record, object 0x0001.20 (R616). -/
def State.consistency (s : State) : List Byte :=
  leBytes 4 s.node ++ leBytes 4 s.fwWord ++ leBytes 2 0x00A1 ++ leBytes 1 s.role ++
  leBytes 1 (s.fld fTIM_MAP_STATUS_TIME_SET + 2 * s.fld fTIM_MAP_STATUS_MAP_VALID + 4 * s.timeSrc) ++ leBytes 8 s.configDigest ++ s.domainIdent

/-- Bytes of a consistency record replaced from offset `o` on. -/
def recPut (l : List Byte) (o : Nat) (v : List Byte) : List Byte := l.take o ++ v ++ l.drop (o + v.length)

/-- A field of a consistency record. -/
def recNum (l : List Byte) (o n : Nat) : Nat := ofLeBytes ((l.drop o).take n)

/-! ### Roster entries -/

/-- An amplifier element of object 0x1100.03 that names an amplifier (log entry 51). -/
def ampUsed (b : List Byte) : Bool := b.any (fun x => x != 0)

/-- Counter value at which an amplifier was last heard (R638): now while the TDM port of its return source runs, else the last
valid packet of the stream that carries its return source, else the entry's own. -/
def State.ampHeard (s : State) (p : Peer) : Nat :=
  match (List.range 64).find? (fun e => let b := s.objBytes 0x1100 3 e; ampUsed b && recNum b 0 4 = p.node) with
  | none => p.heard
  | some e =>
    let src := recNum (s.objBytes 0x1100 3 e) 4 2
    if 0x1000 ≤ src && src < 0x1200 then (if s.fld fTDMn_STATUS_STATE ((src - 0x1000) / 32) = 4 then s.tim.cnt else p.heard)
    else
      (List.range 1024).foldl (fun m i =>
        let x := s.rxS i
        let n := max x.lastA x.lastB
        if n != 0 && decide (s.fld fSTRM_RXs_FIRST i ≤ src) && decide (src < s.fld fSTRM_RXs_FIRST i + s.fld fSTRM_RXs_CHANS i) then
          max m (s.tim.cSamp + (n - 1) * s.perSample) else m) p.heard

/-- Seconds since an entry was last heard. -/
def State.peerAge (s : State) (p : Peer) : Nat :=
  (s.tim.cnt - (if p.kind = 2 then s.ampHeard p else p.heard)) / s.corePerSec

/-- The 52-byte roster entry of object 0x1100.01 (R638). -/
def State.peerBytes (s : State) (p : Peer) : List Byte :=
  let age := s.peerAge p
  let flags := if p.kind = 2 then putBit p.flags 4 (p.flags.testBit 4 && decide (s.objNum 0x1100 2 0 < age)) else p.flags
  leBytes 4 p.node ++ leBytes 1 p.kind ++ leBytes 1 flags ++ [0, 0] ++ leBytes 4 (min age (2 ^ 32 - 1)) ++ leBytes 4 p.addrA ++ leBytes 4 p.addrB ++ p.record

/-- Amplifier entries follow object 0x1100.03; an entry counts from the moment its element was written (R638). -/
def State.syncAmps (s : State) : State :=
  let used := (List.range 64).filterMap (fun e =>
    let b := s.objBytes 0x1100 3 e; if ampUsed b then some (recNum b 0 4) else none)
  let amps := used.map (fun n =>
    (s.pop.roster.find? (fun p => p.kind = 2 && p.node = n)).getD
      { node := n, kind := 2, flags := 0, heard := s.tim.cnt, addrA := 0, addrB := 0, record := List.replicate 32 0 })
  { s with pop := { s.pop with roster := (s.pop.roster.filter (fun p => p.kind != 2) ++ amps).take 256 } }

/-- Amplifiers on a TDM port that runs are heard (R638). -/
def State.hearAmps (s : State) : State :=
  { s with pop := { s.pop with roster := s.pop.roster.map (fun p => if p.kind = 2 then { p with heard := s.ampHeard p } else p) } }

/-! ### Disagreements (R640) -/

/-- Entry `p` agrees with this engine on nothing that flag `b` reports: the condition of R640 behind FLAGS bit `b`. -/
def State.disagrees (s : State) (p : Peer) (b : Nat) : Bool :=
  if b = 0 then p.kind != 2 && (p.node = s.node || s.pop.roster.any (fun q => q.kind != 2 && q.node = p.node &&
    (q.addrA != p.addrA || q.addrB != p.addrB)))
  else if b = 1 then
    p.flags.testBit 5 && recNum p.record 11 1 % 2 = 1 && s.flag fTIM_MAP_STATUS_TIME_SET && (p.record.drop 20).take 12 != s.domainIdent
  else if b = 2 then p.kind != 2 && recNum p.record 12 8 != s.configDigest
  else p.kind != 2 && (recNum p.record 4 4 / 65536 != s.fwWord / 65536 || recNum p.record 8 2 != 0x00A1)

/-- Flags 0 to 3 of the entry of `key` set where their condition holds; events 11 and 12 once, when the condition appears. -/
def State.flagPeer (s : State) (same : Peer → Bool) : State :=
  match s.pop.roster.find? same with
  | none => s
  | some p =>
    let new := ([0, 1, 2, 3] : List Nat).foldl (fun f b => if s.disagrees p b then putBit f b true else f) p.flags
    let twins (q : Peer) : Bool := same q || (new.testBit 0 && q.kind != 2 && q.node = p.node)
    let s1 : State := { s with pop := { s.pop with roster := s.pop.roster.map (fun q =>
      if same q then { q with flags := new } else if twins q then { q with flags := putBit q.flags 0 true } else q) } }
    let s1 := if new.testBit 0 && !p.flags.testBit 0 then s1.raise 11 [] else s1
    if new.testBit 1 && !p.flags.testBit 1 then s1.raise 12 [] else s1

/-- An entry heard: the one that `same` finds is updated by `f`, or a new one is made while the roster has room. -/
def State.hearPeer (s : State) (same : Peer → Bool) (blank : Peer) (f : Peer → Peer) : State :=
  let l := s.pop.roster
  let l := if l.any same then l.map (fun p => if same p then { f p with heard := s.tim.cnt } else p)
    else if l.length < 256 then l ++ [{ f blank with heard := s.tim.cnt }] else l
  ({ s with pop := { s.pop with roster := l } }).flagPeer same

/-- An empty entry of a kind and node. -/
def blankPeer (kind node : Nat) : Peer :=
  { node := node, kind := kind, flags := 0, heard := 0, addrA := 0, addrB := 0, record := List.replicate 32 0 }

/-- A record with the fields that mDNS or HELLO give: NODE, FW, STEP and DIGEST. -/
def recIdent (l : List Byte) (node fw step digest : Nat) : List Byte :=
  recPut (recPut (recPut (recPut l 0 (leBytes 4 node)) 4 (leBytes 4 fw)) 8 (leBytes 2 step)) 12 (leBytes 8 digest)

/-- The partner is learnt from its HELLO (R638). -/
def State.hearHello (s : State) (h : Hello) : State :=
  let fw := h.fwMajor % 256 * 2 ^ 24 + h.fwMinor % 256 * 2 ^ 16 + h.fwPatch % 256 * 2 ^ 8
  s.hearPeer (fun p => p.kind = 1) (blankPeer 1 h.node) (fun p =>
    { p with node := h.node, record := recIdent p.record h.node fw h.stepping h.digest })

/-- The partner's role is learnt from its MARKER (R638). -/
def State.hearMarker (s : State) (role : Nat) : State :=
  s.when (s.pop.roster.any (fun p => p.kind = 1)) fun s =>
    s.hearPeer (fun p => p.kind = 1) (blankPeer 1 0) (fun p => { p with record := recPut p.record 10 (leBytes 1 role) })

/-- MDNS_RECEIVE (R638, R640): a peer's service on a plane, with its address and TXT record. -/
def execMdnsReceive (plane addr : Nat) (info : PeerInfo) (s : State) : Host.Outcome State Fault Refusal :=
  .next (s.when (s.live && s.sys.fwRunning && decide (plane < 2)) fun s =>
    let fw := info.fwMajor % 256 * 2 ^ 24 + info.fwMinor % 256 * 2 ^ 16 + info.fwPatch % 256 * 2 ^ 8
    let here (p : Peer) : Bool := p.kind = 0 && p.node = info.node &&
      (if plane = 0 then p.addrA = addr || p.addrA = 0 else p.addrB = addr || p.addrB = 0)
    s.hearPeer here (blankPeer 0 info.node) (fun p =>
      let p := if plane = 0 then { p with addrA := addr } else { p with addrB := addr }
      { p with record := recPut (recIdent p.record info.node fw info.step info.digest) 10 (leBytes 1 info.role) }))

/-- PEER_KEEPALIVE (R639): the READ of a listed peer's consistency record through the session that the engine keeps, and its
answer if one came. -/
def execPeerKeepalive (elem : Nat) (answer : Option (List Byte)) (s : State) : Host.Outcome State Fault Refusal :=
  let b := s.objBytes 0x1200 1 elem
  let node := recNum b 0 4
  .next (match answer with
    | none => s
    | some r => s.when (s.live && s.sys.fwRunning && decide (elem < 16) && ampUsed b && r.length = 32 &&
        s.pop.roster.any (fun p => p.kind = 0 && p.node = node && (p.addrA != 0 || p.addrB != 0))) fun s =>
      s.hearPeer (fun p => p.kind = 0 && p.node = node) (blankPeer 0 node) (fun p => { p with flags := putBit p.flags 5 true, record := r }))

/-- ROSTER_AGE_OUT (R638): an entry whose AGE exceeds ROSTER_AGE is removed, an amplifier's is marked STALE. -/
def execRosterAgeOut (kind node : Nat) (s : State) : Host.Outcome State Fault Refusal :=
  .next (s.when (s.live && s.sys.fwRunning) fun s =>
    let old (p : Peer) : Bool := p.kind = kind && p.node = node && decide (s.objNum 0x1100 2 0 < s.peerAge p)
    let l := if kind = 2 then s.pop.roster.map (fun p => if old p then { p with flags := putBit p.flags 4 true } else p)
      else s.pop.roster.filter (fun p => !old p)
    { s with pop := { s.pop with roster := l } })

/-- DISAGREEMENT_CLEAR (R640): a flag clears; its condition has been absent for 10 s. -/
def execDisagreementClear (kind node flag : Nat) (s : State) : Host.Outcome State Fault Refusal :=
  .next (s.when (s.live && s.sys.fwRunning && decide (flag < 4)) fun s =>
    { s with pop := { s.pop with roster := s.pop.roster.map (fun p =>
      if p.kind = kind && p.node = node && !s.disagrees p flag then { p with flags := putBit p.flags flag false } else p) } })

end Sys2Proof.Machine
end

