-- ==== Sys2Proof/Machine/Pairing.lean ====
section
/-! DEFINITION. Pairs (spec 16): roles, heartbeat and CLAIM, the contest and its witness, Siphon frames and their order, joining
and the state copy, digests, switchover and planned handover. -/

namespace Sys2Proof.Machine

open Sys2Proof

/-! ### Roles (R539, R540) -/

/-- The unit pairs (R533). -/
def State.pairEn (s : State) : Bool := s.flag fSIPH_CTRL_PAIR_EN

/-- The heartbeat and the claim rule run: step 3 of the safe sequencer has been taken (R534). -/
def State.pairLive (s : State) : Bool := s.clocked

/-- The role is set, with event 56 (old role, new role, CAUSE), event 58 on entry to Contest and event 59 on entry to
Diverged (R540, R560, R568). A switchover to Solo marks the next NOTIFY of each session RESYNC (R633). `blk` is the block index that event 59 carries for causes 1 to 3. -/
def State.setRole (s : State) (new cause : Nat) (blk : Nat := 0) : State :=
  let old := s.role
  if old = new then s
  else
    let s := s.put fSIPH_STATUS_ROLE new
    let s : State := { s with pair := { s.pair with roleAt := s.tim.cnt, roleBlk := s.blkIndex } }
    let s := if new = 5 then
        let s := (s.put fSIPH_STATUS_CAUSE cause).incSat fSIPH_COUNT_DIVERGES
        let s : State := { s with pair := { s.pair with divAt := s.tim.cnt } }
        s.raise 59 (a8 cause :: (if 1 ≤ cause ∧ cause ≤ 3 then [a32 (blk % 2 ^ 32)] else []))
      else s
    let s := if old = 3 && (new = 0 || new = 4) then
        { s with pop := { s.pop with sessions := s.pop.sessions.map (fun x => { x with resync := true }) } } else s
    let s := s.raise 56 [a8 old, a8 new, a8 cause]
    if new = 4 then s.raise 58 [] else s

/-- CLAIM is taken: the line goes low and the outputs are driven (R536, R542). -/
def State.claimOn (s : State) : State := ((s.put fSIPH_STATUS_CLAIM_HELD 1).put fSIPH_STATUS_CLAIM_LINE 0).wellClaim

/-- CLAIM is released: TDM balls go to high impedance and Wellhead channels to RELEASED (R536). The line then reads high unless
the partner holds it. -/
def State.claimOff (s : State) : State :=
  s.when s.claims fun s =>
    ((s.put fSIPH_STATUS_CLAIM_HELD 0).put fSIPH_STATUS_CLAIM_LINE (if s.pair.partnerClaim then 0 else 1)).wellClaim

/-- A TDM port drives its output balls (R536). -/
def State.tdmDrives (s : State) (n : Nat) : Bool := s.claims && decide (s.tdmState n != 0)

/-- SIPH_SYNC outside a copy. -/
def State.clearSync (s : State) : State :=
  let s := ((s.put fSIPH_SYNC_EPOCH 0).put fSIPH_SYNC_EPOCHS 0).put fSIPH_SYNC_BACKLOG 0
  { s with pair := { s.pair with copy := none } }

/-- A scene entry as a change of its parameter. -/
def entryChange (e : SceneEntry) : Change :=
  { key := objKey e.idx e.sub e.elem, val := e.val, time := e.time, law := e.law }

/-- A Syncing unit loses its partner: uncommitted epochs are discarded, the enabled Wellhead channels fall back to the safe
path, and the graph restarts from the scene store (R565). -/
def State.abandonCopy (s : State) : State :=
  let s := s.clearSync
  let s := forN 8 (fun m s => if (s.well' m).st = 0 then s else s.setSafe m 1) s
  (s.setRole 0 0).startAuto 2 (s.flash.scene.map entryChange)

/-- The first block that begins after now. -/
def State.nextBlk (s : State) : Nat := s.blkIndex + 1

/-- Both planes are sent from the next boundary on (R543, R547). -/
def State.planesFrom (s : State) (a b : Nat) : State := { s with pair := { s.pair with fromA := a, fromB := b } }

/-- The unit becomes Diverged (R560, R561): a unit that sends plane B names a release block at least two blocks ahead, or
stops at once while the Siphon is down. -/
def State.diverge (s : State) (cause : Nat) (blk : Nat := 0) : State :=
  let sent := s.role = 3
  let s := s.clearSync.setRole 5 cause blk
  { s with pair := { s.pair with release := if sent && s.siphUp then some (s.blkIndex + 2) else none } }

/-- The join or the copy fails with cause 9 (R565). -/
def State.syncFail (s : State) : State := (s.diverge 9).raise 63 []

/-- A Contest that ends without CLAIM (R540, R547). -/
def State.contestLost (s : State) : State := s.diverge 10

/-- CLAIM is taken under R542: a Standby that has received GONE switches over, a Contest ends, a Solo unit drives the safe
path. -/
def State.takeClaim (s : State) : State :=
  let r := s.role
  let j := s.nextBlk
  let s := s.claimOn
  if r = 3 then
    let s := (s.planesFrom j 0).incSat fSIPH_COUNT_SWITCHOVERS
    (s.setRole 0 0).raise 57 []
  else if r = 4 then (s.planesFrom j j).setRole 0 0
  else s.planesFrom j j

/-- What both ways of losing the partner have in common (R538). -/
def State.dropPartner (s : State) : State :=
  let s := (s.put fSIPH_STATUS_HB_OK 0).put fSIPH_STATUS_PARTNER_SEEN 0
  { s with pair := { s.pair with partner := 15, partnerClaim := false, helloOut := false, anySeq := true, early := [], gapAt := 0
                                 witness := 15, asked := false, tmo := false, query := none } }

/-! ### Heartbeat, loss and GONE (R534 to R538) -/

/-- The heartbeat generator starts, at step 3 of the safe sequencer (R534). -/
def State.hbStart (s : State) : State := { s with pair := { s.pair with hbRun := true, hbAt := s.tim.cnt } }

/-- The generator stops, and CLAIM is released in the same core cycle (R535). -/
def State.hbStop (s : State) : State :=
  let s : State := { s with pair := { s.pair with hbRun := false } }
  s.claimOff

/-- HB_TOGGLE (R534). -/
def execHbToggle (s : State) : Host.Outcome State Fault Refusal :=
  .next (s.when (s.pairLive && s.pair.hbRun) fun s =>
    { s with pair := { s.pair with hbTx := !s.pair.hbTx, hbAt := s.tim.cnt } })

/-- HB_RX_EDGE (R538): the loss timer restarts. -/
def execHbRxEdge (s : State) : Host.Outcome State Fault Refusal :=
  .next (s.when (s.pairLive && s.pairEn) fun s =>
    let s := s.put fSIPH_STATUS_HB_OK 1
    { s with pair := { s.pair with hbRx := s.tim.cnt + 1, tmo := false } })

/-- HB_FAULT (R538): HB_RX is silent while frames arrive; the role stays. -/
def execHbFault (s : State) : Host.Outcome State Fault Refusal :=
  .next (s.when (s.pairLive && s.pairEn && s.siphUp) fun s =>
    ((s.put fSIPH_STATUS_HB_OK 0).put fSIPH_STATUS_HB_FAULT 1).raise 61 [])

/-- PARTNER_LOST (R538, R540, R547): the partner is lost without GONE. A Contest entered with CLAIM ends in the same cycle. -/
def execPartnerLost (s : State) : Host.Outcome State Fault Refusal :=
  .next (s.when (s.pairLive && s.pairEn) fun s =>
    let r := s.role
    let gone := s.pair.gone
    let s := s.dropPartner
    if r = 1 then s.abandonCopy
    else if r = 2 || (r = 3 && !gone) then
      let s := s.clearSync.setRole 4 0
      if s.claims then (s.planesFrom s.pair.fromA s.nextBlk).setRole 0 0 else s
    else if r = 5 then s.setRole 0 0
    else s)

/-- GONE has been received (R538, R540). A Standby unit switches over once CLAIM reads high: CLAIM_TAKE. -/
def State.partnerGone (s : State) : State :=
  let r := s.role
  let s := s.dropPartner
  let s : State := { s with pair := { s.pair with gone := true } }
  if r = 1 then s.abandonCopy
  else if r = 2 then (s.clearSync.planesFrom s.pair.fromA s.nextBlk).setRole 0 0
  else if r = 5 then s.setRole 0 0
  else s

/-- CLAIM_HOLD_RELEASE (R535): the hold circuit releases CLAIM, the generator having stopped with the core clock. -/
def execClaimHoldRelease (s : State) : Host.Outcome State Fault Refusal :=
  .next (s.when s.claims fun s => s.hbStop)

/-! ### CLAIM and the contest (R542, R547, R548) -/

/-- Core cycles of 50 µs. -/
def State.claimWait (s : State) : Nat := s.corePerSec / 20000

/-- The condition of R542 for a unit that does not hold CLAIM: `highFor` core cycles of CLAIM high, counted from the entry
into the present role, and the level of WITNESS_OK, which an unpaired engine ignores (R533). -/
def State.mayClaim (s : State) (highFor : Nat) (witnessOk : Bool) : Bool :=
  let r := s.role
  !s.claims && s.pair.hbRun && decide (7 ≤ s.sys.safeStep) && decide (0 < highFor) &&
    ((r = 3 && s.pair.gone) ||
     ((r = 0 || r = 4) &&
      (!s.flag fSIPH_STATUS_RANK ||
        (decide (s.claimWait ≤ highFor) && ((witnessOk && s.pairEn) || s.pair.witness = 1 || s.pair.tmo)))))

/-- CLAIM_TAKE (R542, R543). -/
def execClaimTake (highFor : Nat) (witnessOk : Bool) (s : State) : Host.Outcome State Fault Refusal :=
  .next (s.when (s.pairLive && s.mayClaim highFor witnessOk) fun s =>
    (s.put fSIPH_STATUS_WITNESS_OK (if witnessOk then 1 else 0)).takeClaim)

/-- CONTEST_WAIT_END (R547, R548): CLAIM low ends the contest; otherwise a confirmed unit claims and another asks its witness
once. -/
def execContestWaitEnd (high witnessOk : Bool) (s : State) : Host.Outcome State Fault Refusal :=
  .next (s.when (s.pairLive && s.pairEn && s.role = 4 && !s.claims) fun s =>
    let s := (s.put fSIPH_STATUS_CLAIM_LINE (if high then 1 else 0)).put fSIPH_STATUS_WITNESS_OK (if witnessOk then 1 else 0)
    if !high then s.contestLost
    else if s.mayClaim s.claimWait witnessOk then s.takeClaim
    else
      let w := s.objNum 0x8010 5 0
      if s.pair.asked || w = 0xFFFFFFFF then s
      else { s with pair := { s.pair with asked := true, askedAt := s.tim.cnt, query := some s.pair.node } })

/-- CONTEST_TMO (R542): the partner's heartbeat has been absent for CONTEST_TMO. -/
def execContestTmo (s : State) : Host.Outcome State Fault Refusal :=
  .next (s.when (s.pairLive && s.pairEn && !s.flag fSIPH_STATUS_HB_OK && (s.role = 0 || s.role = 4)) fun s =>
    { s with pair := { s.pair with tmo := true } })

/-- The witness's answer to an EXEC of object 0x8030.01 (R548). -/
def State.witnessAnswer (s : State) (r : Nat) : State :=
  let s : State := { s with pair := { s.pair with probe := none, reply := r } }
  s.answer 0 0 r

/-- The probe of a named node (R548): UNKNOWN at once where the roster knows no route to it. -/
def State.witnessProbe (s : State) (node : Nat) : State :=
  if s.pop.roster.any (fun p => p.node = node) then
    { s with pair := { s.pair with probe := some (node, s.tim.cnt) } }
  else s.witnessAnswer 2

/-- WITNESS_QUERY (R548). -/
def execWitnessQuery (node : Nat) (s : State) : Host.Outcome State Fault Refusal :=
  .next (s.when s.live fun s => s.witnessProbe node)

/-- WITNESS_PROBE_END (R548): ALIVE when the partner answered, DEAD when WIT_PROBE passed. -/
def execWitnessProbeEnd (alive : Bool) (s : State) : Host.Outcome State Fault Refusal :=
  .next (s.when (s.live && s.pair.probe.isSome) fun s => s.witnessAnswer (if alive then 0 else 1))

/-- WITNESS_REPLY (R547, R548): ALIVE ends the contest without CLAIM; DEAD allows the claim; UNKNOWN, and no reply in time,
confirm nothing. -/
def execWitnessReply (reply : Nat) (s : State) : Host.Outcome State Fault Refusal :=
  .next (s.when (s.pairLive && s.role = 4 && s.pair.asked) fun s =>
    let s : State := { s with pair := { s.pair with witness := if reply < 2 then reply else 2, query := none } }
    if reply = 0 then s.contestLost
    else if reply = 1 && s.flag fSIPH_STATUS_CLAIM_LINE && s.mayClaim s.claimWait false then s.takeClaim
    else s)

/-! ### Lanes (R549) -/

/-- UP of a lane. -/
def laneUp (lane : Nat) : Fd := if lane = 0 then fSIPH_STATUS_LANE0_UP else fSIPH_STATUS_LANE1_UP

/-- The Siphon cannot carry lockstep any more (R552, R560, R561): cause 6 on a Standby unit, the end of plane B on a Diverged
one; an Active unit whose partner was Standby becomes Solo at the next boundary. -/
def State.siphonLost (s : State) : State :=
  if s.role = 3 then s.diverge 6
  else if s.role = 5 then { s with pair := { s.pair with release := none } }
  else if s.role = 2 && s.pair.partner = 3 then
    { s with pair := { s.pair with partner := 5, release := some s.nextBlk } }
  else s

/-- SIPH_LANE_UP (R549); a retired lane stays down (R569). -/
def execSiphLaneUp (lane : Nat) (s : State) : Host.Outcome State Fault Refusal :=
  .next (s.when (s.pairLive && decide (lane < 2) && !s.flag (laneUp lane) && !s.hlth.retired.any (fun r => r.kind = 5 && r.site = lane)) fun s =>
    let s : State := { s with pair := { s.pair with trainAt := nset 0 s.pair.trainAt lane 0 } }
    (s.put (laneUp lane) 1).raise 60 [])

/-- A Siphon lane goes down (R549, R435, R552): its frames are resent on the other, which the replay buffer holds; with both
lanes down the Siphon is down. -/
def State.siphLaneDown (s : State) (lane : Nat) : State :=
  let s : State := { s with pair := { s.pair with trainAt := nset 0 s.pair.trainAt lane (s.tim.cnt + 1) } }
  let s := ((s.put (laneUp lane) 0).raise 60 []).healthError 5 lane 5
  if s.flag fSIPH_STATUS_LANE0_UP || s.flag fSIPH_STATUS_LANE1_UP then
    s.addSat fSIPH_COUNT_REPLAYS s.pair.replay.length
  else
    let s : State := { s with pair := { s.pair with anySeq := true, early := [], gapAt := 0 }
                              clk := { s.clk with siphFrom0 := s.flag fREF_RPLL_STATUS_SIPH_FROM_0 } }
    s.siphonLost

/-- SIPH_LANE_DOWN (R549). -/
def execSiphLaneDown (lane : Nat) (s : State) : Host.Outcome State Fault Refusal :=
  .next (s.when (s.pairLive && decide (lane < 2) && s.flag (laneUp lane)) fun s => s.siphLaneDown lane)

/-! ### Frame order (R550 to R552) -/

/-- `a` is at or before `b` in a 32-bit sequence. -/
def seqLe (a b : Nat) : Bool := decide ((b + 2 ^ 32 - a % 2 ^ 32) % 2 ^ 32 < 2 ^ 31)

/-- ACK covers frames up to `a`: they leave the replay buffer, and ledger records they carried are acknowledged (R552,
R557). -/
def State.takeAck (s : State) (a : Nat) : State :=
  let p := s.pair
  let done := p.ledgerSeq.filter (fun e => seqLe e.1 a)
  let ar := match done.getLast? with | some e => e.2 + 1 | none => p.ackRseq
  { s with pair := { p with replay := p.replay.filter (fun e => !seqLe e.1 a), acked := a + 1, ackRseq := ar
                            ledgerSeq := p.ledgerSeq.filter (fun e => !seqLe e.1 a) } }

/-! ### Joining (R562) -/

/-- This unit's HELLO: digest, firmware, stepping, rates, rank and Deep Cistern, node. -/
def State.ownHello (s : State) : Hello :=
  let v := s.fwVersion
  { digest := s.configDigest, fwMajor := v / 65536 % 256, fwMinor := v / 256 % 256, fwPatch := v % 256
    stepping := 0x00A1
    rates := s.family + 2 * s.sys.rateClass + 8 * Nat.log2 s.sys.blk
    rank := s.fld fSIPH_STATUS_RANK
    dcisReady := s.fld fDCIS_STATUS_STATE = 2 &&
      (List.range 8).any (fun r => s.fld fDCIS_REGIONr_KIND r = 6 && decide (1024 ≤ s.fld fDCIS_REGIONr_SIZE r))
    node := s.node }

/-- The refusal code of a join, 0 when it passes (R562). -/
def helloCheck (a b : Hello) : Nat :=
  if a.digest != b.digest then 1
  else if a.fwMajor != b.fwMajor || a.fwMinor != b.fwMinor then 2
  else if a.stepping != b.stepping then 3
  else if a.rates != b.rates then 4
  else if a.rank = b.rank then 5
  else if !(a.dcisReady && b.dcisReady) then 6 else 0

/-- HELLO is sent to the partner. -/
def State.sendHello (s : State) : State :=
  s.when s.siphUp fun s =>
    let s : State := { s with pair := { s.pair with helloOut := true } }
    s.sendFrame (.hello s.ownHello)

/-- Bytes of the image of R563 that the memories make: X, Y and program memory of every clocked cluster, the 64 banks, and
regions of kind 3. -/
def State.imageSpans (s : State) : List (Nat × Nat) :=
  let clu := ((List.range 36).filter (fun n => s.siteClocked n)).map (fun n => (cluBase n, 0x50000))
  let dc := (List.range 8).filterMap (fun r =>
    if s.fld fDCIS_REGIONr_KIND r = 3 then
      some (dcisAddr (s.fld fDCIS_REGIONr_BASE r * 2 ^ 20), s.fld fDCIS_REGIONr_SIZE r * 2 ^ 20) else none)
  clu ++ [(0x40000000, 0x2000000)] ++ dc

/-- Length of the image. -/
def State.imageLen (s : State) : Nat := s.imageSpans.foldl (fun n w => n + w.2) 0

/-- Address of image byte `n` among the spans; none past their end. -/
def spanAddr (l : List (Nat × Nat)) (n : Nat) : Option Nat :=
  match l with
  | [] => none
  | (a, k) :: r => if n < k then some (a + n) else spanAddr r (n - k)

/-- Epochs of at most 16 MiB in the image (R563). -/
def State.imageEpochs (s : State) : Nat := (s.imageLen + 0xFFFFFF) / 0x1000000

/-- Byte `n` of the image that the Active unit sends: its value at K (R563). -/
def State.imageByte (s : State) (n : Nat) : Byte :=
  match s.pair.copy, spanAddr s.imageSpans n with
  | some c, some a => memGet c.image a
  | _, _ => 0

/-- Syncing begins (R562, R563). -/
def State.enterSync (s : State) : State :=
  let s := s.clearSync.setRole 1 0
  { s with pair := { s.pair with copy := some {}, inputs := [], anyRseq := true, theirs := [], mine := [] } }

/-- An Active unit begins a copy: the capture boundary is stamped in the ledger (R563). -/
def State.beginCapture (s : State) : State :=
  let k := s.blkIndex + 2
  s.stamp k (.capture k)

/-- The capture boundary K (R563): the Active unit keeps the image, the joining unit learns K. -/
def State.capture (s : State) (k : Nat) : State :=
  if s.role = 2 then
    let s := ((s.put fSIPH_SYNC_EPOCH 0).put fSIPH_SYNC_EPOCHS s.imageEpochs)
    { s with pair := { s.pair with copy := some { k := k, at' := s.tim.cnt, image := s.mem } } }
  else if s.role = 1 then
    let c := s.pair.copy.getD {}
    let s := s.put fSIPH_SYNC_EPOCHS s.imageEpochs
    { s with pair := { s.pair with copy := some { c with k := k, at' := s.tim.cnt, begun := true } } }
  else s

/-! ### What each frame does once it is in order -/

/-- GRID_ERR of a MARKER: the partner's boundary, at its arrival less DELAY, minus the nearest own boundary, in root cycles
(R551). -/
def State.gridErr (s : State) (arrival delay : Nat) : Int :=
  let t : Int := (arrival : Int) - delay - 2 * (s.tim.cSamp : Int)
  let per : Int := (2 * s.perSample * max 1 s.sys.blk : Nat)
  let r := t % per
  if 2 * r ≤ per then r else r - per

/-- The role moves that a partner's role, CLAIM and release block cause (R540, R561). -/
def State.partnerMoves (s : State) (h : FrameHdr) (m : Marker) (was : Nat) : State :=
  let claim := bit h.flags 0
  if s.role = 0 && s.claims && claim && s.flag fSIPH_STATUS_RANK then
    let s := s.diverge 10
    { s with pair := { s.pair with dropClaim := true } }
  else if s.role = 0 && s.claims && m.role = 1 then (s.setRole 2 0).beginCapture
  else if s.role = 2 && m.role != 1 && m.role != 3 && m.role != 2 then
    if was = 3 && m.role = 5 && bit h.flags 2 then { s with pair := { s.pair with release := some m.release } }
    else if s.pair.release.isSome then s
    else s.clearSync.setRole 0 0
  else if s.role = 0 && !s.claims && (m.role = 2 || (m.role = 0 && claim)) && !s.pair.helloOut && !s.flag fSIPH_STATUS_REFUSED then
    s.sendHello
  else s

/-- A MARKER (R551): link delay, the partner's grid, quality and role, and the release block. -/
def State.takeMarker (s : State) (h : FrameHdr) (m : Marker) : State :=
  let d := (openDiv s.free ((m.roundTrip : Int) - m.turnaround) 2).toNat
  let s : State := { s with free := s.free + 1 }
  let s := s.put fSIPH_LINK_DELAY (min d 65535)
  let g := s.gridErr m.arrival d
  let s := s.putI fSIPH_LINK_GRID_ERR g
  let was := s.pair.partner
  let bad := if decide (256 < g.natAbs) then s.pair.gridBad + 1 else 0
  let s : State := { s with
    pair := { s.pair with partner := m.role, partnerBlk := m.blk, gridBad := bad
                          gridAt := if decide (64 < g.natAbs) then s.tim.cnt else s.pair.gridAt }
    ref := { s.ref with partnerQ := m.quality } }
  let s := s.hearMarker m.role
  if s.role = 3 && decide (16 ≤ bad) then s.diverge 7 else s.partnerMoves h m was

/-- The joining unit's check of the answer to its HELLO, and the answer of the unit that holds the outputs (R562). -/
def State.takeHello (s : State) (b : Hello) : State :=
  let s : State := { s with pair := { s.pair with node := b.node } }
  let s := s.hearHello b
  if s.pair.helloOut then
    let s : State := { s with pair := { s.pair with helloOut := false } }
    let c := helloCheck s.ownHello b
    if c != 0 then ((s.put fSIPH_STATUS_REFUSED 1).put fSIPH_STATUS_REFUSE c).raise 62 []
    else if (s.role = 0 && !s.claims) || s.role = 5 then s.enterSync else s
  else if s.role = 2 || (s.role = 0 && s.claims) then s.sendFrame (.hello s.ownHello)
  else s

/-- Ledger records on a following unit (R555, R558): they must continue RSEQ, and on a Standby apply after the block in
force. -/
def State.takeRecord (s : State) (r : LedgerRec) : State :=
  s.when s.following fun s =>
    if !s.pair.anyRseq && decide (r.rseq ≠ s.pair.rxRseq) then s.diverge 4
    else if s.role = 3 && decide (r.apply ≤ s.blkIndex) then s.diverge 4
    else
      let s : State := { s with pair := { s.pair with inputs := s.pair.inputs ++ [r], rxRseq := (r.rseq + 1) % 2 ^ 32, anyRseq := false
                                                      rseq := (r.rseq + 1) % 2 ^ 32 } }
      match r.body with
      | .capture k => if s.role = 1 then s.capture k else s
      | _ => s

/-- The comparison of both units' digests of block `j` on a Standby (R560). -/
def State.compareDigest (s : State) (j : Nat) : State :=
  match nget none (s.pair.mine.map (fun e => (e.1, some e.2))) j, nget none (s.pair.theirs.map (fun e => (e.1, some e.2))) j with
  | some a, some b =>
    if s.role != 3 then s
    else if a.1 != b.1 then s.diverge 1 j
    else if a.2 != b.2 then s.diverge 2 j else s
  | _, _ => s

/-- A partner's digests of block `j`. -/
def State.takeDigestFrame (s : State) (j out tdm : Nat) : State :=
  let s : State := { s with pair := { s.pair with theirs := nput (nkeep (fun k => decide (j < k + 65536)) s.pair.theirs) j (out, tdm) } }
  s.compareDigest j

/-- PREP (R372): the partner's preparation is complete. -/
def State.takePrep (s : State) (c : Nat) : State :=
  match s.scene.press with
  | some p =>
    if s.role = 2 && c = s.scene.counter then
      let s : State := { s with scene := { s.scene with press := some { p with partnerReady := true } } }
      s.stampPress
    else s
  | none => s

/-- A piece of an epoch (R563). -/
def State.takeSnap (s : State) (epoch off : Nat) (data : List Byte) : State :=
  match s.pair.copy with
  | some c => if s.role = 1 && epoch = c.epoch then
      { s with pair := { s.pair with copy := some { c with pieces := c.pieces ++ [(off, data)] } } } else s
  | none => s

/-- The bytes of an epoch in ascending offset. -/
def epochBytes (l : List (Nat × List Byte)) : List Byte := (sortBy (fun e => e.1) l).flatMap (fun e => e.2)

/-- Image bytes are written to their memories (R563); bytes past the memories stand for state whose layout the spec does not
give (log entry 37). -/
def State.commitImage (s : State) (at' : Nat) (l : List Byte) : State :=
  let sp := s.imageSpans
  forN l.length (fun i s => match spanAddr sp (at' + i) with
    | some a => { s with mem := memSet s.mem a (l.getD i 0) }
    | none => s) s

/-- Blocks that the replay lies behind the partner's real time. -/
def State.setBacklog (s : State) : State :=
  match s.pair.copy with
  | some c => (match c.replay with | some r => s.put fSIPH_SYNC_BACKLOG (s.pair.partnerBlk - r) | none => s)
  | none => s

/-- EPOCH_END (R563, R565): the epoch is checked as a whole, then committed or asked again; the third failure ends the copy. -/
def State.takeEpochEnd (s : State) (epoch bytes crc : Nat) : State :=
  match s.pair.copy with
  | none => s
  | some c =>
    if s.role != 1 || epoch != c.epoch then s
    else
      let l := epochBytes c.pieces
      if l.length = bytes && crc64Of l = crc then
        let s := s.commitImage c.done l
        let e := c.epoch + 1
        let last := decide (s.fld fSIPH_SYNC_EPOCHS ≤ e)
        let c := { c with epoch := e, pieces := [], fails := 0, done := c.done + bytes, replay := if last then some c.k else none }
        let s : State := { s with pair := { s.pair with copy := some c } }
        (s.put fSIPH_SYNC_EPOCH e).setBacklog.sendFrame (.epochAck epoch 0)
      else
        let s := s.sendFrame (.epochAck epoch 1)
        if 2 ≤ c.fails then s.syncFail
        else { s with pair := { s.pair with copy := some { c with pieces := [], fails := c.fails + 1 } } }

/-- EPOCH_ACK on the Active unit: the next epoch, or the same one again (R563). -/
def State.takeEpochAck (s : State) (epoch result : Nat) : State :=
  match s.pair.copy with
  | none => s
  | some c =>
    if s.role != 2 || epoch != c.epoch then s
    else if result = 0 then
      let s := s.put fSIPH_SYNC_EPOCH (c.epoch + 1)
      { s with pair := { s.pair with copy := some { c with epoch := c.epoch + 1, fails := 0 } } }
    else { s with pair := { s.pair with copy := some { c with fails := c.fails + 1 } } }

/-- A slot piece of block `j` on a Standby, or stored for the replay of a Syncing unit (R553, R563). -/
def State.ingressPiece (s : State) (p : Stored) : State :=
  let e := p.edge
  if s.bSlots p.site e = 0 || s.bKind p.site e != 2 then s
  else if p.dropped then s.ingressDropped p.site e p.blk
  else
    let s := s.ingressWords p.site e p.blk p.off p.words
    if s.fld fBUF_LEN p.site e ≤ p.off + p.words.length then
      let s : State := { s with pair := { s.pair with ingressTo := max s.pair.ingressTo (p.blk + 1) } }
      s.ingressWhole p.site e p.blk
    else s

/-- The block index whose low 32 bits a header gives, nearest to the block in force. -/
def State.nearBlk (s : State) (lo : Nat) : Nat :=
  let d := (lo + 2 ^ 32 - s.blkIndex % 2 ^ 32) % 2 ^ 32
  if d < 2 ^ 31 then s.blkIndex + d else s.blkIndex + d - 2 ^ 32

/-- An INGRESS frame (R553). -/
def State.takeIngress (s : State) (h : FrameHdr) (e : Nat) (dropped : Bool) (off : Nat) (words : List Nat) : State :=
  let p : Stored := { blk := if s.role = 3 then s.nearBlk h.blk else h.blk, site := 62, edge := e, dropped := dropped, off := off, words := words }
  if s.role = 3 then s.ingressPiece p
  else if s.role = 1 then
    (match s.pair.copy with
     | some c => { s with pair := { s.pair with copy := some { c with stored := c.stored ++ [p] } } }
     | none => s)
  else s

/-- NAK (R552): frames from the named SEQ on are resent; a frame that the replay buffer no longer holds ends lockstep. -/
def State.takeNak (s : State) (first : Nat) : State :=
  let again := s.pair.replay.filter (fun e => seqLe first e.1)
  let held := s.pair.replay.any (fun e => e.1 = first) || first = s.pair.txSeq
  if held then
    let s := s.addSat fSIPH_COUNT_REPLAYS again.length
    { s with pair := { s.pair with txAt := s.tim.cnt } }
  else s.siphonLost

/-- One frame acts. -/
def State.frameActs (s : State) (h : FrameHdr) (b : FrameBody) : State :=
  match b with
  | .gone _ => s.partnerGone
  | .marker m => s.takeMarker h m
  | .status => s
  | .nak n => s.takeNak n
  | .hello x => s.takeHello x
  | .ledger l => forL l (fun r s => s.takeRecord r) s
  | .digest j o t => s.takeDigestFrame j o t
  | .prep c => s.takePrep c
  | .epochEnd e n c => s.takeEpochEnd e n c
  | .epochAck e r => s.takeEpochAck e r
  | .ingress e d o w => s.takeIngress h e d o w
  | .snap e o d => s.takeSnap e o d

/-- A frame in order, then those held that follow it (R552). -/
def State.frameInOrder (s : State) (h : FrameHdr) (b : FrameBody) : State :=
  let s : State := { s with pair := { s.pair with rxSeq := (h.seq + 1) % 2 ^ 32, anySeq := false } }
  s.frameActs h b

/-- Held frames that have come into order, at most `k`. -/
def State.drainEarly (s : State) (k : Nat) : State :=
  match k with
  | 0 => s
  | k + 1 =>
    match s.pair.early.find? (fun e => e.1.seq = s.pair.rxSeq) with
    | some e =>
      let s : State := { s with pair := { s.pair with early := s.pair.early.filter (fun x => x.1.seq != e.1.seq) } }
      (s.frameInOrder e.1 e.2).drainEarly k
    | none => s

/-- A frame as it arrives (R538, R550, R552): discarded for a bad CRC; otherwise the partner is seen, ACK is taken, and the
frame acts in SEQ order, up to 64 being held. GONE acts at once, and a Standby that has it discards what arrives before it takes
CLAIM (R566). -/
def State.rxFrame (s : State) (h : FrameHdr) (b : FrameBody) : State :=
  s.when (s.pairLive && s.pairEn && decide (h.lane < 2) && s.flag (laneUp h.lane)) fun s =>
    if !h.crcOk then s.incSat fSIPH_COUNT_CRC_ERR
    else
      let s := s.put fSIPH_STATUS_PARTNER_SEEN 1
      let s : State := { s with pair := { s.pair with frameAt := s.tim.cnt + 1, partnerClaim := bit h.flags 0 } }
      let s := s.takeAck h.ack
      match b with
      | .gone _ => s.partnerGone
      | _ =>
        if s.role = 3 && s.pair.gone then s
        else
        let s : State := { s with pair := { s.pair with gone := false } }
        if s.pair.anySeq || h.seq = s.pair.rxSeq then
          let s := (s.frameInOrder h b).drainEarly 64
          { s with pair := { s.pair with gapAt := if s.pair.early.isEmpty then 0 else s.pair.gapAt } }
        else if seqLe h.seq s.pair.rxSeq then s
        else if 64 ≤ s.pair.early.length then s
        else { s with pair := { s.pair with early := s.pair.early ++ [(h, b)]
                                            gapAt := if s.pair.gapAt = 0 then s.tim.cnt + 1 else s.pair.gapAt } }

/-! ### The rows of frames -/

/-- GONE (R537, R538). -/
def execGone (hdr : FrameHdr) (cause : Nat) (s : State) : Host.Outcome State Fault Refusal := .next (s.rxFrame hdr (.gone cause))
/-- MARKER (R551). -/
def execMarker (hdr : FrameHdr) (body : Marker) (s : State) : Host.Outcome State Fault Refusal := .next (s.rxFrame hdr (.marker body))
/-- STATUS (R551). -/
def execStatus (hdr : FrameHdr) (s : State) : Host.Outcome State Fault Refusal := .next (s.rxFrame hdr .status)
/-- NAK (R552). -/
def execNak (hdr : FrameHdr) (first : Nat) (s : State) : Host.Outcome State Fault Refusal := .next (s.rxFrame hdr (.nak first))
/-- HELLO (R562). -/
def execHello (hdr : FrameHdr) (body : Hello) (s : State) : Host.Outcome State Fault Refusal := .next (s.rxFrame hdr (.hello body))
/-- LEDGER (R555 to R558). -/
def execLedger (hdr : FrameHdr) (recs : List LedgerRec) (s : State) : Host.Outcome State Fault Refusal := .next (s.rxFrame hdr (.ledger recs))
/-- DIGEST (R559, R560). -/
def execDigest (hdr : FrameHdr) (blk out tdmIn : Nat) (s : State) : Host.Outcome State Fault Refusal :=
  .next (s.rxFrame hdr (.digest blk out tdmIn))
/-- PREP (R372). -/
def execPrep (hdr : FrameHdr) (counter : Nat) (s : State) : Host.Outcome State Fault Refusal := .next (s.rxFrame hdr (.prep counter))
/-- EPOCH_END (R563). -/
def execEpochEnd (hdr : FrameHdr) (epoch bytes crc : Nat) (s : State) : Host.Outcome State Fault Refusal :=
  .next (s.rxFrame hdr (.epochEnd epoch bytes crc))
/-- EPOCH_ACK (R563). -/
def execEpochAck (hdr : FrameHdr) (epoch result : Nat) (s : State) : Host.Outcome State Fault Refusal :=
  .next (s.rxFrame hdr (.epochAck epoch result))
/-- INGRESS (R553). -/
def execIngress (hdr : FrameHdr) (edge : Nat) (dropped : Bool) (off : Nat) (words : List Nat) (s : State) :
    Host.Outcome State Fault Refusal := .next (s.rxFrame hdr (.ingress edge dropped off words))
/-- SNAP (R563). -/
def execSnap (hdr : FrameHdr) (epoch off : Nat) (data : List Byte) (s : State) : Host.Outcome State Fault Refusal :=
  .next (s.rxFrame hdr (.snap epoch off data))

/-- STATUS_TIMER (R551): no frame has left for 4,096 core cycles. -/
def execStatusTimer (s : State) : Host.Outcome State Fault Refusal :=
  .next (s.when (s.pairLive && s.siphUp) fun s => s.sendFrame .status)

/-- SEQ_GAP_TIMEOUT (R552): a gap that lasts 2 µs is answered with NAK. -/
def execSeqGapTimeout (s : State) : Host.Outcome State Fault Refusal :=
  .next (s.when (s.pairLive && decide (s.pair.gapAt ≠ 0)) fun s =>
    let s : State := { s with pair := { s.pair with gapAt := s.tim.cnt + 1 } }
    s.sendFrame (.nak s.pair.rxSeq))

/-! ### Digests (R559) -/

/-- The words of one wire sink for block `j` in wire width, sign-extended: a TDM output or transmit word by R290's widths, a
Wellhead code as after R511 with FEED = 0. -/
def State.sinkDigestWords (s : State) (sink j : Nat) : List Int :=
  (List.range s.sys.blk).map (fun i =>
    let v := s.sinkSample sink (j * s.sys.blk + i)
    let rnd := rRnd (s.entryNow sink)
    if 0x2200 ≤ sink && sink < 0x2208 then toCode (s.wellCompat (sink - 0x2200)) rnd v
    else if 0x2000 ≤ sink && sink < 0x2200 then toWire (tdmWidth (s.fld fTDMn_CFG_WIDTH ((sink - 0x2000) / 32))) rnd v
    else toWire 32 rnd v)

/-- Four bytes of each word. -/
def wordBytes (l : List Int) : List Byte := l.flatMap (fun v => leBytes 4 (unsx 32 v))

/-- The output digest of block `j`: every wire sink in use in ascending number. -/
def State.outDigest (s : State) (j : Nat) : Nat := crc64Of (s.wireSinks.flatMap (fun k => wordBytes (s.sinkDigestWords k j)))

/-- TDM input slots in use of RUNNING ports, ascending. -/
def State.tdmSources (s : State) : List Nat :=
  (List.range 16).flatMap (fun n =>
    if s.tdmState n = 4 then ((List.range 32).filter (fun k => bit (s.tdmMask n false) k)).map (fun k => 0x1000 + 32 * n + k) else [])

/-- The TDM input digest of block `j`. -/
def State.tdmDigest (s : State) (j : Nat) : Nat :=
  crc64Of (s.tdmSources.flatMap (fun k => wordBytes (match s.srcBlk k j with
    | some b => padTo s.sys.blk b.samples | none => List.replicate s.sys.blk 0)))

/-- DIGEST_SEND (R559): both digests of a block are formed, sent, and compared on a Standby. -/
def execDigestSend (blk : Nat) (s : State) : Host.Outcome State Fault Refusal :=
  .next (s.when (s.live && (s.role = 2 || s.role = 3)) fun s =>
    let o := s.outDigest blk
    let t := s.tdmDigest blk
    let s : State := { s with pair := { s.pair with mine := nput (nkeep (fun k => decide (blk < k + 64)) s.pair.mine) blk (o, t) } }
    (s.sendFrame (.digest blk o t)).compareDigest blk)

/-- A DIGEST of block j − 8 that is still missing at boundary `j` on a Standby that was Standby then (R560). -/
def State.digestMissing (s : State) (j : Nat) : State :=
  if s.role = 3 && decide (s.pair.roleBlk + 8 ≤ j) && !s.pair.theirs.any (fun e => e.1 = j - 8) then s.diverge 3 (j - 8) else s

/-! ### Planned switchover, rejoin and the copy's end (R546, R540, R560, R564) -/

/-- A planned handover is stamped, or refused (R546). -/
def State.switchOver (s : State) : State :=
  if s.role = 2 && s.pair.partner = 3 then
    let h := s.blkIndex + 2
    let s : State := { s with pair := { s.pair with handover := some h } }
    s.stamp h (.handover h)
  else s.put fSIPH_STATUS_REFUSED 1

/-- SWITCH (R546). -/
def execSwitch (s : State) : Host.Outcome State Fault Refusal := .next (s.when s.live fun s => s.switchOver)

/-- A Diverged unit tries to rejoin (R540, R562). -/
def State.rejoin (s : State) : State := s.when (s.role = 5 && s.pairEn) fun s => s.sendHello

/-- REJOIN (R540). -/
def execRejoin (s : State) : Host.Outcome State Fault Refusal := .next (s.when s.live fun s => s.rejoin)

/-- The Active unit makes its partner Diverged, through the ledger (R560 cause 11). -/
def State.partnerDiverge (s : State) : State := s.when (s.role = 2) fun s => s.submit (.exec 0x8010 0x11 [1])

/-- PARTNER_DIVERGE_REQUEST (R560). -/
def execPartnerDivergeRequest (s : State) : Host.Outcome State Fault Refusal := .next (s.when s.live fun s => s.partnerDiverge)

/-- REJOIN_WAIT_EXPIRY (R540). -/
def execRejoinWaitExpiry (s : State) : Host.Outcome State Fault Refusal :=
  .next (s.when (s.live && s.flag fSIPH_CTRL_AUTO_REJOIN) fun s => s.rejoin)

/-- SYNC_TIMEOUT (R565): no lockstep within 120 s of K. -/
def execSyncTimeout (s : State) : Host.Outcome State Fault Refusal :=
  .next (s.when (s.live && s.role = 1 && (match s.pair.copy with | some c => c.begun | none => false)) fun s => s.syncFail)

/-- Step 7 of a boundary (R546, R540, R561): CLAIM of a unit that yielded is released, a planned handover exchanges the roles,
and an Active unit whose partner left becomes Solo at the release block. -/
def State.pairStep (s : State) (j : Nat) : State :=
  let s := if s.pair.dropClaim then
      let s := s.claimOff
      { s with pair := { s.pair with dropClaim := false } }
    else s
  let s := match s.pair.release with
    | some r =>
      if r ≤ j then
        let s : State := { s with pair := { s.pair with release := none } }
        if s.role = 2 then (s.clearSync.planesFrom 0 0).setRole 0 0 else s
      else s
    | none => s
  if s.pair.handover = some j then
    if s.role = 3 then
      let s : State := { s with pair := { s.pair with partner := 3 } }
      ((s.claimOn.incSat fSIPH_COUNT_SWITCHOVERS).setRole 2 0).raise 57 []
    else if s.role = 2 then
      let s : State := { s with pair := { s.pair with partner := 2, partnerClaim := true } }
      ((s.claimOff.incSat fSIPH_COUNT_SWITCHOVERS).setRole 3 0).raise 57 []
    else s
  else s

/-- The block with which this boundary begins lockstep (R564): the replay of a Syncing unit has reached the block that its
partner begins, GRID_ERR has been calm for 1 s, and the partner is the reference. -/
def State.lockstepDue (s : State) : Option Nat :=
  match s.pair.copy with
  | some c =>
    let calm := decide (s.pair.gridAt + s.corePerSec ≤ s.tim.cnt)
    if s.role = 1 && c.replay = some (s.pair.partnerBlk + 1) && calm && s.fld fREF_SEL_STATUS_SELECTED = 6 then c.replay else none
  | none => none

/-- Lockstep begins with block `m` (R564): the sample count becomes m × B, C_SAMP is re-based on the present boundary, and the
Siphon ingress that the unit has stored for later blocks is put in place. -/
def State.lockstepBegin (s : State) (m : Nat) : State :=
  let l := match s.pair.copy with | some c => c.stored.filter (fun p => decide (m ≤ p.blk) && p.site = 62) | none => []
  let s : State := { s with tim := { s.tim with blkIdx := some m, cSamp := s.tim.cnt - m * s.sys.blk * s.perSample } }
  forL l (fun p s => s.ingressPiece p) s.clearSync

/-- A MARKER leaves at every block boundary (R551), with the release block of a unit that gives plane B back (R561). -/
def State.sendMarker (s : State) (j : Nat) : State :=
  let sel := s.fld fREF_SEL_STATUS_SELECTED
  s.sendFrame (.marker { blk := j, root := s.root, role := s.role
                         quality := if sel = 6 || sel = 7 then 15 else s.effQuality sel
                         release := s.pair.release.getD 0, arrival := 0, roundTrip := 0, turnaround := 0 })

/-- SIPH_LANE_RETRAIN_TIMEOUT (R569): a lane that gets no block lock within 10 s of retraining, while the other is up, shows a stuck
fault and is retired (R577). -/
def execSiphLaneRetrainTimeout (lane : Nat) (s : State) : Host.Outcome State Fault Refusal :=
  .next (s.when (s.pairLive && decide (lane < 2) && !s.flag (laneUp lane) && s.flag (laneUp (1 - lane))) fun s => s.healthStuck 5 lane)

end Sys2Proof.Machine
end

