-- ==== Sys2Proof/Machine/Health.lean ====
section
/-! DEFINITION. Health (spec 17): retirement and the spare-mapping step of a boundary, shedding, Brine's borrows, spare tests and
shadow runs, monitors, and Sounding. -/

namespace Sys2Proof.Machine

open Sys2Proof

/-! ### Errors and retirement (R573, R578) -/

/-- ERR_WIN_EXPIRY (R573): counted errors older than ERR_WIN are forgotten. -/
def execErrWinExpiry (s : State) : Host.Outcome State Fault Refusal :=
  .next (s.when s.live fun s =>
    { s with hlth := { s.hlth with errs := s.hlth.errs.filter (fun e => decide (s.tim.cnt < e.at' + s.errWin)) } })

/-- A site number that KIND of HLTH_RETIRE allows. -/
def retireSite (kind site : Nat) : Bool :=
  if kind = 1 then decide (site / 16 < 36) && decide (site % 16 < 9)
  else if kind = 2 then decide (site < 36)
  else if kind = 3 then decide (site < 68 * 66560)
  else if kind = 4 then decide (site < 68)
  else if kind = 5 then decide (site < 2) else false

/-- A manual retirement counts as a stuck fault (R573, R578). -/
def State.retire (s : State) (kind site : Nat) : State := s.when (retireSite kind site) fun s => s.permanent kind site 3

/-- HLTH_RETIRE (R573). -/
def execHlthRetire (kind site : Nat) (s : State) : Host.Outcome State Fault Refusal :=
  .next (s.when s.live fun s => s.retire kind site)

/-- RETIREMENT_RECORD_WRITE (R578): the record goes to the boot flash; a write that fails raises event 144 with cause
RECORD. -/
def execRetirementRecordWrite (ok : Bool) (s : State) : Host.Outcome State Fault Refusal :=
  .next (s.when (s.live && s.hlth.recDue) fun s =>
    let s : State := { s with hlth := { s.hlth with recDue := false } }
    if ok then { s with flash := { s.flash with retired := s.hlth.retired } }
    else match s.hlth.retired.getLast? with
      | some r => s.raise 144 [a8 r.kind, a32 r.site, a8 (Config.freeCode 144 3).toNat]
      | none => s)

/-! ### The spare-mapping step of a boundary (R574 to R583, R668 step 2) -/

/-- The resource has been retired: it leaves the due list, with SECONDS of E, and the record waits to be written. -/
def State.retired (s : State) (r : Retired) : State :=
  { s with hlth := { s.hlth with due := s.hlth.due.filter (fun x => !(x.kind = r.kind && x.site = r.site))
                                 retired := s.hlth.retired ++ [{ r with sec := s.recWhen }], recDue := true } }

/-- The due entry of a resource. -/
def State.dueOf (s : State) (kind site : Nat) : Retired :=
  (s.hlth.due.find? (fun r => r.kind = kind && r.site = site)).getD { kind := kind, site := site, cause := 2 }

/-- Banks whose copy has ended move to their spare sites (R398). -/
def State.mapBanks (s : State) : State :=
  forL (s.hlth.bankCopy.filter (fun c => c.ready)) (fun c s =>
    match s.bankOf c.old with
    | some k =>
      let s := s.put fCIS_BANKk_CTRL_PHYS c.new k
      let s : State := { s with hlth := { s.hlth with bankCopy := s.hlth.bankCopy.filter (fun x => x.old != c.old) } }
      ((s.retired (s.dueOf 4 c.old)).useSpare fHLTH_SPARES_BANKS 4).raise 148 []
    | none => s) s

/-- Fewest free spare rows in any segment of a bank site in service. -/
def State.rowsMin (s : State) : Nat :=
  s.hlth.rowMap.foldl (fun m e => min m (8 - (s.segRows (e.1 / 66560) (rowSeg (e.1 % 66560))).length)) 8

/-- SPARE_ROWS of the bank on site `b`. -/
def State.countRow (s : State) (b : Nat) : State :=
  match s.bankOf b with
  | some k => s.incSat fCIS_BANKk_ERR_SPARE_ROWS k
  | none => s

/-- Row `r` of bank site `b` goes to spare row `sp` (R397). -/
def State.mapRow (s : State) (b r sp : Nat) : State :=
  let s : State := { s with hlth := { s.hlth with rowMap := nput s.hlth.rowMap (66560 * b + r) sp } }
  let s := s.countRow b
  let s := (s.retired (s.dueOf 3 (66560 * b + r))).put fHLTH_SPARES_ROWS_MIN s.rowsMin
  let s := s.raise 146 []
  if (s.segRows b (rowSeg r)).length = 8 then s.raise 150 [a8 3, a16 b] else s

/-- Rows copied to a spare row go there from this boundary on (R397). -/
def State.mapRows (s : State) : State :=
  forL s.hlth.rowCopied (fun e s => s.mapRow (e.1 / 66560) (e.1 % 66560) e.2) { s with hlth := { s.hlth with rowCopied := [] } }

/-- Keys of a per-cluster map moved from site `old` to site `new`, `w` keys a site. -/
def moveKeys {α : Type} [DecidableEq α] (d : α) (w old new : Nat) (m : NMap α) : NMap α :=
  let here := m.filter (fun e => e.1 / w = old)
  let m := nkeep (fun k => !(decide (k / w = old) || decide (k / w = new))) m
  here.foldl (fun m e => nset d m (new * w + e.1 % w) e.2) m

/-- Register and descriptor fields of the CLU, PUMP and descriptor blocks move from cluster site `old` to `new`. -/
def State.moveFields (s : State) (old new : Nat) : State :=
  let mine (k : Nat) : Bool := keyBlock k = 14 || keyBlock k = 15 || keyBlock k = 16
  let here := s.regs.filter (fun e => mine e.1 && keyI e.1 = old)
  let m := nkeep (fun k => !(mine k && (keyI k = old || keyI k = new))) s.regs
  { s with regs := here.foldl (fun m e => nput m (e.1 + new * 2 ^ 20 - old * 2 ^ 20) e.2) m }

/-- X, Y and program memory of site `old` stand in site `new`; a word that reads as uncorrectable is written as zero, and a
program line from the graph image (R576 step 4). -/
def State.copyCluster (s : State) (old new : Nat) : State :=
  let lo := cluBase old
  let cells := s.mem.filter (fun c => decide (lo ≤ c.1) && decide (c.1 < lo + 0x50000))
  let s := s.zeroCluster new
  let s : State := { s with mem := cells.foldl (fun m c => memSet m (c.1 - lo + cluBase new) c.2) s.mem }
  let bad := s.memu.bad.filter (fun e => e.2 && decide (lo ≤ e.1) && decide (e.1 < lo + 0x50000))
  forL bad (fun e s =>
    let o := e.1 - lo
    if o < 0x40000 then s.wrMem (cluBase new + o) 4 0
    else s.wrMem (cluBase new + o) 8 (nget 0 s.pump.image (8192 * old + (o - 0x40000) / 8))) s

/-- A retired cluster moves to its spare site as its state stands (R576, R570). -/
def State.mapCluster (s : State) (old new : Nat) : State :=
  match s.clusterOf old with
  | none => s
  | some k =>
    let s := (s.copyCluster old new).moveFields old new
    let s : State := { s with pump := { s.pump with
      rt := moveKeys {} 512 old new s.pump.rt, costs := moveKeys 0 512 old new s.pump.costs
      sites := moveKeys {} 1 old new s.pump.sites, lanes := moveKeys {} 16 old new s.pump.lanes
      image := moveKeys 0 8192 old new s.pump.image
      shed := s.pump.shed.map (fun t => if t / 512 = old then 512 * new + t % 512 else t)
      credits := s.pump.credits.map (fun c => if c.1 = old then (new, c.2) else c) } }
    let s := forN 64 (fun b s => if s.fld fCIS_BANKk_CTRL_OWNER b = old then s.put fCIS_BANKk_CTRL_OWNER new b else s) s
    let s : State := { s with hlth := { s.hlth with redirect := nset 0 s.hlth.redirect old (new + 1)
                                                    cluCopy := s.hlth.cluCopy.filter (fun c => c.old != old) } }
    let s := ((s.put fHLTH_CMAPk_SITE new k).setClocked new true).setClocked old false
    let s : State := { s with sys := { s.sys with cluReset := putBit s.sys.cluReset old false } }
    ((s.retired (s.dueOf 2 old)).useSpare fHLTH_SPARES_CLUSTERS 2).raise 145 [a8 old, a8 new]

/-- Clusters whose copy is ready move. -/
def State.mapClusters (s : State) : State :=
  forL (s.hlth.cluCopy.filter (fun c => c.ready)) (fun c s => s.mapCluster c.old c.new) s

/-- Logical lane that a lane site serves. -/
def State.laneOf (s : State) (n m : Nat) : Option Nat := (List.range 8).find? (fun k => s.laneSite n k = m)

/-- The spare lane site of a cluster: serving no logical lane and not permanent (R574). -/
def State.spareLane (s : State) (n : Nat) : Option Nat :=
  (List.range 9).find? (fun m => (s.laneOf n m).isNone && !s.isPermanent 1 (16 * n + m))

/-- A lane site that waits for its mapping is retired: its logical lane moves to the spare site; without one the rated lanes
fall by one (R41, R574). -/
def State.mapLane (s : State) (r : Retired) : State :=
  let n := r.site / 16
  let m := r.site % 16
  let s := s.put fHLTH_LMAPn_RETIRED (putBit (s.fld fHLTH_LMAPn_RETIRED n) m true) n
  match s.laneOf n m, s.spareLane n with
  | some k, some p =>
    let s := s.put fHLTH_LMAPn_LANES (putBits (s.fld fHLTH_LMAPn_LANES n) (4 * k + 3) (4 * k) p) n
    let s : State := { s with clk := { s.clk with laneGated := nset false s.clk.laneGated (laneKey n p) false } }
    ((s.retired r).useSpare fHLTH_SPARES_LANES 1).raise 147 [a8 m, a8 p]
  | some _, none => (s.retired r).raise 147 [a8 m, a8 m]
  | none, _ => ((s.retired r).useSpare fHLTH_SPARES_LANES 1).raise 147 [a8 m, a8 m]

/-- Lanes due in one cluster: the whole cluster retires when they outnumber its free spare lanes and a spare cluster remains
(R575). -/
def State.mapLanesOf (s : State) (n : Nat) : State :=
  let due := s.hlth.due.filter (fun r => r.kind = 1 && r.site / 16 = n)
  let active := due.filter (fun r => (s.laneOf n (r.site % 16)).isSome)
  let spares := if (s.spareLane n).isSome then 1 else 0
  if due.isEmpty || s.isPermanent 2 n then s
  else if spares < active.length && !s.freeClusters.isEmpty && (s.clusterOf n).isSome then s.permanent 2 n 2
  else forL due (fun r s => s.mapLane r) s

/-- Logical lanes of site `n` that still take work. -/
def State.ratedLanes (s : State) (n : Nat) : List Nat :=
  (List.range 8).filter (fun k => !s.isPermanent 1 (16 * n + s.laneSite n k))

/-- Tasks of site `n` that run and are not cancelled. -/
def State.loadedTasks (s : State) (n : Nat) : List Nat := (List.range 512).filter (fun t => armedLike (s.tState n t))

/-- Planned work of logical lane `k` in 2⁻¹⁰ core cycles: each task's cost and its dispatch charge shared over the rated lanes
of its AFFINITY (R36, R37, rule 11 of R283). -/
def State.laneLoad (s : State) (n k : Nat) (l : List Nat) : Nat :=
  l.foldl (fun w t =>
    let a := (s.ratedLanes n).filter (fun i => bit (s.fld fTASK_AFFINITY n t) i)
    if a.contains k then w + (nget 0 s.pump.costs (taskKey n t) + 16) * 1024 / a.length else w) 0

/-- Every rated lane of the site meets the ceiling of 62.5 % (R36). -/
def State.loadOk (s : State) (n : Nat) (l : List Nat) : Bool :=
  (s.ratedLanes n).all (fun k => decide (s.laneLoad n k l * 8 ≤ s.blkLen * 5 * 1024))

/-- The tasks of site `n` to shed: lowest SURV, then lowest PRIO, then highest slot first, until the ceiling is met (R582). -/
def State.shedList (s : State) (n : Nat) : List Nat :=
  let order := sortBy (fun t => (s.fld fTASK_SURV n t * 8 + s.fld fTASK_PRIO n t) * 512 + (511 - t)) (s.loadedTasks n)
  let go := order.foldl (fun (acc : List Nat × List Nat) t =>
    if s.loadOk n acc.1 then acc else (acc.1.filter (fun x => x != t), acc.2 ++ [t])) (order, [])
  go.2

/-- Tasks shed (R583): CANCELLED until the next graph load, with event 151 per cluster (site, number, highest class). -/
def State.shedTasks (s : State) (keys : List Nat) : State :=
  forL ((List.range 36).filter (fun n => keys.any (fun k => k / 512 = n))) (fun n s =>
    let mine := keys.filter (fun k => k / 512 = n)
    let top := mine.foldl (fun m k => max m (s.fld fTASK_SURV n (k % 512))) 0
    let s : State := { s with pump := { s.pump with shed := s.pump.shed ++ mine } }
    let s := forL mine (fun k s => s.cancelTask n (k % 512)) s
    s.raise 151 [a8 n, a16 mine.length, a8 top]) s

/-- A cluster that retires with no spare left takes its tasks with it (R42). -/
def State.lostClusters (s : State) : List Nat :=
  (s.hlth.due.filter (fun r => r.kind = 2 && (s.clusterOf r.site).isSome && !s.hlth.cluCopy.any (fun c => c.old = r.site))).map (fun r => r.site)

/-- The shedding of a boundary (R582, R583): through the ledger on an Active unit, once while the record
waits for its APPLY; cause 8 on a Standby. -/
def State.shedStep (s : State) : State :=
  let lost := s.lostClusters
  let hit := (List.range 36).filter (fun n => s.siteClocked n && decide ((s.ratedLanes n).length < 8))
  let keys := (hit.flatMap (fun n => (s.shedList n).map (fun t => taskKey n t)))
    ++ lost.flatMap (fun n => (s.loadedTasks n).map (fun t => taskKey n t))
  let s := forL lost (fun n s => ((s.retired (s.dueOf 2 n)).setClocked n false).raise 145 [a8 n, a8 n]) s
  if keys.isEmpty then s
  else if s.role = 3 then s.diverge 8
  else if s.role = 2 then
    if s.pair.inputs.any (fun r => match r.body with | .shed l _ => l = keys | _ => false) then s
    else s.submit (.shed keys (keys.foldl (fun m k => max m (s.fld fTASK_SURV (k / 512) (k % 512))) 0))
  else s.shedTasks keys

/-- Spare resources found faulty leave the free pool without a mapping. -/
def State.dropSpares (s : State) : State :=
  forL s.hlth.due (fun r s =>
    if r.kind = 2 && (s.clusterOf r.site).isNone then (s.retired r).useSpare fHLTH_SPARES_CLUSTERS 2
    else if r.kind = 4 && (s.bankOf r.site).isNone then (s.retired r).useSpare fHLTH_SPARES_BANKS 4
    else if r.kind = 3 && decide (65536 ≤ r.site % 66560) then s.retired r
    else s) s

/-- Step 2 of a boundary: banks, rows, clusters, lanes, then shedding (R577, R583). -/
def State.spareStep (s : State) : State :=
  let s := s.dropSpares.mapBanks.mapRows.mapClusters
  (forN 36 (fun n s => s.mapLanesOf n) s).shedStep

/-- SPARE_CLUSTER_READY (R576, R580): the spare site is reset and copied, due at the next boundary; one that fails its reset is
retired, and the next free one is chosen. -/
def execSpareClusterReady (site : Nat) (ok : Bool) (s : State) : Host.Outcome State Fault Refusal :=
  .next (match s.hlth.cluCopy.find? (fun c => c.new = site && !c.ready) with
    | none => s
    | some c => s.when s.live fun s =>
      if ok then
        let s := (s.put fSYS_RESET_CAUSE_CLU_HEALTH 1).copyCluster c.old site
        { s with hlth := { s.hlth with cluCopy := s.hlth.cluCopy.map (fun x => if x.new = site then { x with ready := true } else x) } }
      else
        let s : State := { s with hlth := { s.hlth with cluCopy := s.hlth.cluCopy.filter (fun x => x.new != site) } }
        ((s.permanent 2 site 2).setClocked site false).startClusterCopy c.old)

/-! ### Brine (R584 to R592) -/

/-- Memory that a row's fabric address lies in: 4n + 0 to 3 for X, Y, program memory and Pump area of site n, 1,000 + bank for
the Cistern, 2,000 for the working RAM. -/
def brineMem (a : Nat) : Option Nat :=
  if 0x20000000 ≤ a ∧ a < 0x22400000 then some (4 * ((a - 0x20000000) / 0x100000) + cluMemOf (a % 0x100000))
  else if 0x40000000 ≤ a ∧ a < 0x42000000 then some (1000 + (a - 0x40000000) / 0x80000)
  else if 0x08000000 ≤ a ∧ a < 0x08100000 then some 2000 else none

/-- Brine may borrow in the memory now (R586). -/
def State.mayBorrow (s : State) (m a : Nat) : Bool :=
  s.flag fHLTH_CTRL_BRINE_EN && !s.hlth.borrows.any (fun b => b.memId = m) &&
  (match s.hlth.borrowEnd.find? (fun e => e.1 = m) with | some e => decide (e.2 + 4096 ≤ s.tim.cnt) | none => true) &&
  (if 1000 ≤ m && m < 2000 then
     let k := m - 1000
     let b := s.fld fCIS_BANKk_CTRL_PHYS k
     !s.memu.handovers.any (fun h => h.bank = k) && !s.hlth.bankCopy.any (fun c => c.old = b) && !s.flag fCIS_BANKk_CTRL_RETAINED k &&
       (s.freeRow b (rowSeg (cisRow (a - 0x40000000)))).isSome
   else if m < 144 then s.siteClocked (m / 4) && !bit s.sys.cluReset (m / 4)
   else true)

/-- Bytes of a row: 4 in X and Y memory, 8 elsewhere (R584). -/
def rowBytes (m : Nat) : Nat := if m < 144 && m % 4 < 2 then 4 else 8

/-- BRINE_BORROW (R586): the row stands in the shadow row while its March test runs. -/
def execBrineBorrow (addr : Nat) (s : State) : Host.Outcome State Fault Refusal :=
  .next (match brineMem addr with
    | none => s
    | some m => s.when (s.live && s.mayBorrow m addr) fun s =>
      let a := addr - addr % rowBytes m
      { s with hlth := { s.hlth with borrows := s.hlth.borrows ++ [{ memId := m, addr := a, saved := memBytes s.mem a (rowBytes m) }] } })

/-- The shadow is written back and the row released (R586, R587). -/
def State.endBorrow (s : State) (m : Nat) : State :=
  match s.hlth.borrows.find? (fun b => b.memId = m) with
  | none => s
  | some b =>
    { s with mem := memSetList s.mem b.addr b.saved
             hlth := { s.hlth with borrows := s.hlth.borrows.filter (fun x => x.memId != m)
                                   borrowEnd := nput s.hlth.borrowEnd m s.tim.cnt } }

/-- A March failure: MARCH_FAIL, and a stuck fault of the row's resource; the working RAM is reported only (R588). -/
def State.marchFail (s : State) (m a : Nat) : State :=
  let s := s.incSat fHLTH_BRINE_STATUS_MARCH_FAIL
  if m < 144 then s.healthStuck 2 (m / 4)
  else if m < 2000 then
    let b := s.fld fCIS_BANKk_CTRL_PHYS (m - 1000)
    let site := b * 66560 + cisRow (a - 0x40000000)
    s.healthStuck 3 (match s.hlth.rowMap.find? (fun e => e.1 = site) with | some e => b * 66560 + e.2 | none => site)
  else s.raise 144 [a8 0, a32 (a - 0x08000000), a8 (Config.freeCode 144 4).toNat]

/-- BRINE_BORROW_END (R586, R588). -/
def execBrineBorrowEnd (memId : Nat) (pass : Bool) (s : State) : Host.Outcome State Fault Refusal :=
  .next (match s.hlth.borrows.find? (fun b => b.memId = memId) with
    | none => s
    | some b => s.when s.live fun s => let s := s.endBorrow memId; if pass then s else s.marchFail memId b.addr)

/-- BRINE_YIELD (R587): an access ends the borrow. -/
def execBrineYield (memId : Nat) (s : State) : Host.Outcome State Fault Refusal :=
  .next (s.when (s.live && s.hlth.borrows.any (fun b => b.memId = memId)) fun s =>
    (s.endBorrow memId).incSat fHLTH_BRINE_STATUS_YIELDS)

/-- Rows of a pass: 68 bank sites, the memories and Pump area of 36 cluster sites, and the working RAM (R584). -/
def passRows : Nat := 68 * 66560 + 36 * (2 * 32768 + 8192 + 13312) + 131072

/-- BRINE_SCRUB (R584): a row is read and a correction written back; the pass goes on. -/
def execBrineScrub (addr : Nat) (ecc : Ecc) (s : State) : Host.Outcome State Fault Refusal :=
  .next (s.when (s.live && s.flag fHLTH_CTRL_BRINE_EN && (brineMem addr).isSome) fun s =>
    let s := s.eccRead addr (s.eccOf addr ecc)
    let n := s.hlth.passRow + 1
    let done := decide (passRows ≤ n)
    let s : State := { s with hlth := { s.hlth with passRow := if done then 0 else n } }
    let s := s.put fHLTH_BRINE_STATUS_PASS_PCT (if done then 0 else n * 100 / passRows)
    if done then s.incSat fHLTH_BRINE_STATUS_PASSES else s)

/-- BRINE_SPARE_TEST (R585): a spare site that is not retired is powered and tested. -/
def execBrineSpareTest (cluster : Bool) (site : Nat) (s : State) : Host.Outcome State Fault Refusal :=
  .next (s.when (s.live && s.flag fHLTH_CTRL_BRINE_EN && s.hlth.spareTest.isNone &&
      (if cluster then s.freeClusters.contains site else s.freeBanks.contains site)) fun s =>
    let s : State := { s with hlth := { s.hlth with spareTest := some (cluster, site) } }
    if cluster then s.setClocked site true else s)

/-- BRINE_SPARE_TEST_END (R585): the memories are zeroed and the site is powered off; a failure retires it. -/
def execBrineSpareTestEnd (pass : Bool) (s : State) : Host.Outcome State Fault Refusal :=
  .next (match s.hlth.spareTest with
    | none => s
    | some (cluster, site) => s.when s.live fun s =>
      let s : State := { s with hlth := { s.hlth with spareTest := none } }
      let s := if cluster then (s.zeroCluster site).setClocked site false else s
      if pass then s else (s.incSat fHLTH_BRINE_STATUS_MARCH_FAIL).healthStuck (if cluster then 2 else 4) site)

/-- Sticky flags of a lane site that a shadow run compares (R213, R589). -/
def State.stickyFlags (s : State) (n m : Nat) : List Nat :=
  [s.fld fCLUn_LARITHm_AOV n m, s.fld fCLUn_LARITHm_ASAT n m, s.fld fCLUn_LARITHm_RSAT n m]

/-- A shadow run of lane `m` is due: one every SHADOW_INT blocks, or one that a confirmation asks for (R589, R591). -/
def State.shadowDue (s : State) (n m : Nat) : Bool :=
  match s.hlth.confirm.find? (fun e => e.1 = n) with
  | some e => if e.2.leftA != 0 then m = e.2.a else m = e.2.b && e.2.leftB != 0
  | none =>
    let i := s.fld fHLTH_CTRL_SHADOW_INT
    i != 0 && decide (nget 0 s.hlth.lastShadow n = 0 ∨ nget 0 s.hlth.lastShadow n + i ≤ s.blkIndex + 1)

/-- BRINE_SHADOW (R589): the spare lane is dispatched with the task that has just been dispatched on `lane`. -/
def execBrineShadow (site lane : Nat) (s : State) : Host.Outcome State Fault Refusal :=
  let x := s.lane site lane
  .next (s.when (s.pumpRuns site && s.flag fHLTH_CTRL_SHADOW_EN && decide (lane < 8) && (s.laneOf site lane).isSome &&
      x.task.isSome && x.eP = 0 && !x.logging && s.spareLane site = some 8 && (s.lane site 8).task.isNone &&
      s.shadowDue site lane) fun s =>
    let s : State := { s with hlth := { s.hlth with lastShadow := nput s.hlth.lastShadow site (s.blkIndex + 1)
                                                    acLog := nerase s.hlth.acLog site }
                              clk := { s.clk with laneGated := nset false s.clk.laneGated (laneKey site 8) false } }
    let s := (s.put fCLUn_LARITHm_AOV 0 site 8).put fCLUn_LARITHm_ASAT 0 site 8
    let s := (s.put fCLUn_LARITHm_RSAT 0 site 8).put fCLUn_LARITHm_RES_ERR 0 site 8
    let s := s.setLane site lane { x with logging := true, log := [] }
    (s.setLane site 8 { x with shadow := some lane, logging := true, log := [], stores := [] }).put fCLUn_LSTATm_STATE 1 site 8)

/-- The stores of two runs agree in memory, address and data (R589). -/
def sameStores (a b : List StoreW) : Bool := a.map (fun q => (q.y, q.addr, q.data)) = b.map (fun q => (q.y, q.addr, q.data))

/-- The outcome of a confirmation (R591). -/
def State.confirmDone (s : State) (n : Nat) (c : Confirm) : State :=
  let s : State := { s with hlth := { s.hlth with confirm := nerase s.hlth.confirm n } }
  if c.misB != 0 then s.healthStuck 1 (16 * n + 8)
  else if c.misA != 0 then s.healthStuck 1 (16 * n + c.a)
  else s.healthError 1 (16 * n + c.a) 6

/-- The count of a shadow run that has ended on lane `m` (R591). -/
def State.shadowCount (s : State) (n m : Nat) (mis : Bool) : State :=
  let k := if mis then 1 else 0
  match s.hlth.confirm.find? (fun e => e.1 = n) with
  | some e =>
    let c := e.2
    let c := if m = c.a && c.leftA != 0 then { c with leftA := c.leftA - 1, misA := c.misA + k }
      else if m = c.b && c.leftB != 0 then { c with leftB := c.leftB - 1, misB := c.misB + k } else c
    if c.leftA = 0 && c.leftB = 0 then s.confirmDone n c
    else { s with hlth := { s.hlth with confirm := nput s.hlth.confirm n c } }
  | none =>
    if !mis then s
    else
      let b := (List.range 8).find? (fun i => i != m && (s.laneOf n i).isSome && !s.isPermanent 1 (16 * n + i))
      let c : Confirm := { a := m, b := b.getD 15, leftB := if b.isSome then 2 else 0 }
      { s with hlth := { s.hlth with confirm := nput s.hlth.confirm n c } }

/-- BRINE_SHADOW_END (R589, R591): stores and sticky flags are compared; a mismatch is counted and raises event 152. -/
def execBrineShadowEnd (site : Nat) (s : State) : Host.Outcome State Fault Refusal :=
  let sp := s.lane site 8
  .next (match sp.shadow with
    | none => s
    | some m => s.when (s.live && sp.ended) fun s =>
      let x := s.lane site m
      let log := if x.logging then x.log else nget [] s.hlth.acLog site
      let mis := !(sameStores log sp.log && s.stickyFlags site m = s.stickyFlags site 8)
      let s := s.endShadow site
      let s : State := { s with hlth := { s.hlth with acLog := nerase s.hlth.acLog site } }
      let s := s.put fCLUn_LSTATm_STATE 0 site 8
      let s := if mis then (s.incSat fHLTH_BRINE_STATUS_MISMATCH).raise 152 [a8 site, a8 m, a8 8] else s
      s.shadowCount site m mis)

/-! ### Monitors (R593, R594) -/

/-- The warning state of monitor `k` with value `v` in 0.01 units, with a hysteresis of 10 % of the limit: temperatures, rails as
deviation from nominal in %, RPLL in root cycles, SerDes eyes in % of a unit interval, ageing in % slower (log entry 41). -/
def monWarns (k : Nat) (v : Int) (was : Bool) : Bool :=
  if k < 8 then if was then decide (9900 < v) else decide (11000 ≤ v)
  else if k < 18 then if was then decide (270 < v.natAbs) else decide (300 < v.natAbs)
  else if k = 18 then if was then decide (90 < v) else decide (100 < v)
  else if k < 25 then if was then decide (v < 2750) else decide (v < 2500)
  else if was then decide (450 < v) else decide (500 ≤ v)

/-- One monitor sampled. -/
def State.monitor (s : State) (k : Nat) (v : Int) : State :=
  let was := nget false s.hlth.monWarn k
  let w := monWarns k v was
  let s : State := { s with hlth := { s.hlth with mon := nset 0 s.hlth.mon k v, monWarn := nset false s.hlth.monWarn k w } }
  if w && !was then s.raise 153 [a8 k, aI32 v] else s

/-- An ageing oscillator: 0.01 % slower than the value first stored, which the first sample stores (R593). -/
def State.ageing (s : State) (k f : Nat) : State :=
  let r := nget 0 s.hlth.ageRef k
  if r = 0 then
    let s : State := { s with hlth := { s.hlth with ageRef := nset 0 s.hlth.ageRef k (f + 1) } }
    s.monitor (25 + k) 0
  else s.monitor (25 + k) ((((r - 1 : Nat) : Int) - (f : Int)) * 10000 / ((max 1 (r - 1) : Nat) : Int))

/-- MONITOR_SAMPLE (R593, R594). -/
def execMonitorSample (values : List Int) (osc : List Nat) (s : State) : Host.Outcome State Fault Refusal :=
  .next (s.when s.live fun s =>
    let s := forN (min 25 values.length) (fun k s => s.monitor k (values.getD k 0)) s
    (forN (min 16 osc.length) (fun k s => s.ageing k (osc.getD k 0)) s).setWear)

/-! ### Sounding (R595 to R602) -/

/-- Samples of a Sounding frame, N of R595. -/
def State.soundN (s : State) : Nat := (if s.family = 0 then 16384 else 32768) * 2 ^ s.sys.rateClass

/-- A line. -/
def State.line (s : State) (f : Nat) : SoundLine := nget {} s.hlth.lines f

/-- A line replaced. -/
def State.setLine (s : State) (f : Nat) (x : SoundLine) : State := { s with hlth := { s.hlth with lines := nset {} s.hlth.lines f x } }

/-- A parameter of objects 0x9110 as a signed value. -/
def State.soundPar (s : State) (sub : Nat) : Int := sx 16 (s.objNum 0x9110 sub 0)

/-- The return source is in use: a receive channel of a PLAYING stream or a slot in use of a RUNNING TDM port (R597, R599). -/
def State.returnOk (s : State) (n : Nat) : Bool :=
  if n < 0x1000 then
    (List.range 512).any (fun i => s.fld fSTRM_RXs_STATUS_STATE i = 3 && decide (s.fld fSTRM_RXs_FIRST i ≤ n) &&
      decide (n < s.fld fSTRM_RXs_FIRST i + s.fld fSTRM_RXs_CHANS i))
  else if n < 0x1200 then s.tdmState ((n - 0x1000) / 32) = 4 && bit (s.tdmMask ((n - 0x1000) / 32) false) (n % 32)
  else false

/-- Some named return source of line `f` is missing; E_SRC = 0xFFFF names none. -/
def State.noReturn (s : State) (f : Nat) : Bool :=
  let c := s.objNum 0x9100 1 f
  let e := bits c 30 15
  !s.returnOk (bits c 62 47) || !s.returnOk (bits c 46 31) || (e != 0xFFFF && !s.returnOk e)

/-- Baseline Y0 and V0 of a line, real and imaginary, in 2⁻¹⁶; none learnt while the object holds zeros. -/
def State.baseline (s : State) (f : Nat) : Option (Int × Int × Int × Int) :=
  let b := s.objBytes 0x9100 2 f
  let w (i : Nat) : Int := sx 32 (ofLeBytes ((b.drop (4 * i)).take 4))
  if b.all (fun x => x = 0) then none else some (w 0, w 1, w 2, w 3)

/-- Pilot amplitude in force of a line in Q0.30 (R596). -/
def State.pilotAmp (s : State) (f : Nat) : Nat :=
  max 1 (levelMul (2 ^ 30) (10 * s.soundPar (if (s.line f).loud then 2 else 1))).toNat

/-- Bits of the integer square root of `n` from bit `k` down. -/
def isqrtGo (k r n : Nat) : Nat :=
  match k with
  | 0 => r
  | k + 1 => let t := r + 2 ^ k
             if t * t ≤ n then isqrtGo k t n else isqrtGo k r n

/-- The integer square root of a number below 2²⁵⁶. -/
def isqrt (n : Nat) : Nat := isqrtGo 128 0 n

/-- One frame's value (R597): Y = C_I ÷ C_V and G = |C_E| ÷ |C_V| in 2⁻³², and C_V in 2⁻³². With C_V = 0 the quotients are not
stated: free values (log entry 3). -/
def State.soundVal (s : State) (f : Nat) (c : Corr) : SoundVal × State :=
  let a := s.pilotAmp f
  let q := c.vRe * c.vRe + c.vIm * c.vIm
  let vRe := c.vRe * 2 ^ 46 / a
  let vIm := c.vIm * 2 ^ 46 / a
  let v := isqrt (vRe * vRe + vIm * vIm).toNat
  if q = 0 then
    let r := s.takeFree 64
    let i := r.2.takeFree 64
    let g := i.2.takeFree 64
    ({ yRe := sx 64 r.1.toNat, yIm := sx 64 i.1.toNat, v := 0, vRe := 0, vIm := 0, g := g.1.toNat }, g.2)
  else
    ({ yRe := (c.iRe * c.vRe + c.iIm * c.vIm) * 2 ^ 32 / q, yIm := (c.iIm * c.vRe - c.iRe * c.vIm) * 2 ^ 32 / q, v := v
       vRe := vRe, vIm := vIm, g := c.e * 2 ^ 32 / max 1 (isqrt q.toNat) }, s)

/-- Mean of an integer per value. -/
def meanI (l : List SoundVal) (f : SoundVal → Int) : Int := l.foldl (fun a x => a + f x) 0 / (max 1 l.length : Nat)

/-- The largest number of 0.005° whose angle is at or below that of (re, im) with im ≥ 0, from bit `k` down. -/
def angleGo (k h : Nat) (re im : Int) : Nat :=
  match k with
  | 0 => h
  | k + 1 =>
    let t := h + 2 ^ k
    let sn : Int := if t ≤ 18000 then sinHalf t 18000 else sinHalf (36000 - t) 18000
    if decide (t ≤ 36000) && decide (0 ≤ cosPi t 36000 * im - sn * re) then angleGo k t re im else angleGo k h re im

/-- arg(re + j im) in 0.01°, from −18,000 to 18,000. -/
def angle (re im : Int) : Int :=
  if 0 ≤ im then ((angleGo 16 0 re im + 1) / 2 : Nat) else -((angleGo 16 0 re (-im) + 1) / 2 : Nat)

/-- 20 log10 of the quotient of two magnitudes whose squares are `a` and `b`, in 0.01 dB. -/
def dbOf (a b : Nat) : Int := roundQ (lnF a b * 1000) ln10F

/-- d and φ of a mean admittance against the baseline (R598), and G in 0.01 dB; the logarithm of zero and the argument of zero
are free values (log entry 3). -/
def State.soundCompare (s : State) (yRe yIm y0Re y0Im : Int) (g : Nat) : (Int × Int × Int) × State :=
  let a := (yRe * yRe + yIm * yIm).toNat
  let b := ((y0Re * y0Re + y0Im * y0Im) * 2 ^ 32).toNat
  let fr (s : State) (bad : Bool) (v : Int) : Int × State := if bad then let r := s.takeFree 16; (sx 16 r.1.toNat, r.2) else (v, s)
  let d := fr s (a = 0 || b = 0) (dbOf a b)
  let p := fr d.2 (a = 0 || b = 0) (angle (yRe * y0Re + yIm * y0Im) (yIm * y0Re - yRe * y0Im))
  let e := fr p.2 (g = 0) (dbOf (g * g) (2 ^ 64))
  ((d.1, p.1, e.1), e.2)

/-- The first condition of R599 that holds, 3 to 8, for means and comparisons. -/
def State.soundCond (s : State) (v v0Re v0Im d phi g : Int) (earth : Bool) : Nat :=
  if decide (100 * v * v < (v0Re * v0Re + v0Im * v0Im) * 2 ^ 32) then 3
  else if decide (s.soundPar 7 < d) then 4
  else if decide (d < -(s.soundPar 6)) then 5
  else if earth && decide (s.soundPar 8 < g) then 6
  else if decide (s.soundPar 9 < d.natAbs) || decide (100 * s.soundPar 10 < phi.natAbs) then 7
  else 8

/-- The reported state changes, with event 154: feed, state, d, φ (R600). -/
def State.soundReport (s : State) (f st : Nat) : State :=
  let x := s.line f
  if x.state = st then s
  else
    let bad := decide (3 ≤ st) && decide (st ≤ 6)
    let s := s.setLine f { x with state := st, faults := if bad then x.faults + 1 else x.faults }
    s.raise 154 [a16 f, a8 st, (2, satS 16 x.d), (2, satS 16 x.phi)]

/-- A condition held by one more result (R600). -/
def State.soundHeld (s : State) (f c : Nat) : State :=
  let x := s.line f
  let run := if x.cond = c then x.run + 1 else 1
  let s := s.setLine f { x with cond := c, run := run }
  let need := if c = 7 then s.objNum 0x9110 5 0 else s.objNum 0x9110 4 0
  if c < 3 || need ≤ run then s.soundReport f c else s

/-- The frame may be used: the pilot's level did not change in it (R597). -/
def State.frameClean (s : State) (f q : Nat) : Bool :=
  let x := s.line f
  let n := s.soundN
  let c := x.chgAt
  c = 0 || decide (c - 1 + s.fadeLen 20 ≤ q * n) || decide (q * n + n ≤ c - 1)

/-- States 0 to 2 are reported as soon as they hold (R599, R600). -/
def State.soundIdle (s : State) (f : Nat) : Option Nat :=
  if !s.sounding f then some 0 else if (s.baseline f).isNone then some 1 else if s.noReturn f then some 2 else none

/-- SOUND_FRAME_RESULT (R597 to R600). -/
def execSoundFrameResult (feed frame : Nat) (corr : Corr) (s : State) : Host.Outcome State Fault Refusal :=
  .next (s.when (s.live && decide (feed < 512) && s.sounding feed) fun s =>
    if !s.frameClean feed frame then s
    else
      let v := s.soundVal feed corr
      let s := v.2
      let x := s.line feed
      let vals := (v.1 :: x.vals).take (max 1 (s.objNum 0x9110 3 0))
      let s := s.setLine feed { x with vals := vals, frame := frame, learn := x.learn.map (fun l => v.1 :: l) }
      match s.soundIdle feed, s.baseline feed with
      | some c, _ => s.soundHeld feed c
      | none, none => s
      | none, some (y0Re, y0Im, v0Re, v0Im) =>
        let g := (meanI vals (fun x => x.g)).toNat
        let r := s.soundCompare (meanI vals (fun x => x.yRe)) (meanI vals (fun x => x.yIm)) y0Re y0Im g
        let s := r.2
        let x := s.line feed
        let d := r.1.1
        let p := r.1.2.1
        let s := s.setLine feed { x with d := d, phi := p, g := r.1.2.2, seen := true
                                         dMin := if x.seen then min x.dMin d else d, dMax := if x.seen then max x.dMax d else d
                                         phiMax := max x.phiMax p.natAbs }
        let earth := bits (s.objNum 0x9100 1 feed) 30 15 != 0xFFFF
        s.soundHeld feed (s.soundCond (meanI vals (fun x => (x.v : Int))) v0Re v0Im d p r.1.2.2 earth))

/-- Step of a boundary for Sounding: the pilot's level follows the feed's detector (R596), and states 0 to 2 are reported as
soon as they hold. -/
def State.soundStep (s : State) : State :=
  forL ((List.range 512).filter (fun f => s.sounding f || (s.line f).state != 0)) (fun f s =>
    let loud := decide (3 ≤ (s.det 2 f).state)
    let x := s.line f
    let s := if loud != x.loud then s.setLine f { x with loud := loud, chgAt := s.sampleIdx + 1 } else s
    match s.soundIdle f with
    | some c => s.soundReport f c
    | none => s) s

/-- Learning of one line starts, refused in NO_RETURN (R598). -/
def State.learnLine (s : State) (f : Nat) : State :=
  if s.noReturn f then s else s.setLine f { s.line f with learn := some [] }

/-- Learning of one feed, or of every enabled line for 0xFFFF. -/
def State.soundLearn (s : State) (feed : Nat) : State :=
  if feed = 0xFFFF then forN 512 (fun f s => if s.sounding f then s.learnLine f else s) s
  else if feed < 512 then s.learnLine feed else s

/-- SOUND_LEARN (R598). -/
def execSoundLearn (feed : Nat) (s : State) : Host.Outcome State Fault Refusal :=
  .next (s.when s.live fun s => s.soundLearn feed)

/-- SOUND_LEARN_END (R598): the means over 64 frames are the baseline; it is stored, and event 155 is raised. -/
def execSoundLearnEnd (feed : Nat) (s : State) : Host.Outcome State Fault Refusal :=
  .next (match (s.line feed).learn with
    | none => s
    | some l => s.when (s.live && decide (64 ≤ l.length)) fun s =>
      let m (f : SoundVal → Int) : Nat := satBits 32 (meanI (l.take 64) f / 65536)
      let b := leBytes 4 (m (fun x => x.yRe)) ++ leBytes 4 (m (fun x => x.yIm)) ++ leBytes 4 (m (fun x => x.vRe)) ++ leBytes 4 (m (fun x => x.vIm))
      let s := (s.setLine feed { s.line feed with learn := none }).setObj 0x9100 2 feed (.bytes b)
      let s : State := { s with flash := { s.flash with jobs := s.flash.jobs ++ [.baseline feed (ofLeBytes b)] } }
      s.raise 155 [a16 feed])

/-- The nightly summary (R601): for each enabled line its state, smallest and largest d, largest |φ| and fault reports. -/
def State.nightlyBytes (s : State) : List Byte :=
  ((List.range 512).filter (fun f => s.sounding f)).flatMap (fun f =>
    let x := s.line f
    leBytes 2 f ++ leBytes 1 x.state ++ leBytes 2 (satBits 16 x.dMin) ++ leBytes 2 (satBits 16 x.dMax) ++ leBytes 2 x.phiMax ++ leBytes 2 (min x.faults 65535))

/-- SOUND_NIGHTLY (R601); none while TIME_SET = 0. -/
def execSoundNightly (s : State) : Host.Outcome State Fault Refusal :=
  .next (s.when (s.live && s.flag fTIM_MAP_STATUS_TIME_SET) fun s =>
    let b := s.nightlyBytes
    let s : State := { s with hlth := { s.hlth with nightly := b } }
    let s := forL (s.hlth.lines.map (fun e => e.1)) (fun f s =>
      s.setLine f { s.line f with seen := false, dMin := 0, dMax := 0, phiMax := 0, faults := 0 }) s
    s.raiseLong 156 (b.map (fun x => a8 x.toNat)))

end Sys2Proof.Machine
end

