-- ==== Sys2Proof/Machine/Resets.lean ====
section
/-! DEFINITION. Resets and the safe sequencer (spec 02): Power-on Reset and release, Engine, Cluster and Session Reset, the
thermal trip, and the commands that start or end them. -/

namespace Sys2Proof.Machine

open Sys2Proof

/-! ### Power-on Reset (R47, R54, R56, R62) -/

/-- Cause bits of SYS_RESET_CAUSE that a Power-on Reset sets. -/
def porCauses : List Fd :=
  [fSYS_RESET_CAUSE_POR_STANDBY, fSYS_RESET_CAUSE_POR_BROWNOUT, fSYS_RESET_CAUSE_POR_WAKE, fSYS_RESET_CAUSE_POR_RESET_N, fSYS_RESET_CAUSE_POR_PWR_GOOD]

/-- The engine is held in Power-on Reset (R47) with one more cause. What its column of R56 keeps stays: the standby scratch
words, the boot flash without the writes under way (R70, R693), the levels of its balls; everything else is at reset. Causes
that come while the reset is held are causes of the same reset (R693). -/
def State.powerOnReset (s : State) (cause : Fd) : State :=
  let held := decide (s.sys.phase = .por)
  let kept := if held then porCauses.filter (fun f => s.flag f) else []
  let t : State :=
    { regs := nkeep (fun k => keyId k = fSYS_SCRATCH_VALUE.id) s.regs
      flash := { s.flash with jobs := [] }
      sys := { phase := .por, pwrGood := s.sys.pwrGood, resetN := s.sys.resetN, brownOut := s.sys.brownOut, vstby := s.sys.vstby
               standby := decide (s.sys.phase = .deepStandby) || (held && s.sys.standby) }
      free := s.free, pending := s.pending }
  forL kept (fun f t => t.put f 1) (t.put cause 1)

/-- GONE leaves on every Siphon lane that is up before the heartbeat stops (R537). -/
def State.sendGone (s : State) (cause : Nat) : State := s.when (s.clocked && s.pair.hbRun) fun s => s.sendFrame (.gone cause)

/-- PWR_GOOD_LOW (R47, R54): in every state. -/
def execPwrGoodLow (s : State) : Host.Outcome State Fault Refusal :=
  let s := (s.sendGone 1).powerOnReset fSYS_RESET_CAUSE_POR_PWR_GOOD
  .next { s with sys := { s.sys with pwrGood := false } }

/-- RESET_N_LOW (R54, R692): a pulse of `ns` nanoseconds; up to 500 is filtered, from 1,000 on is recognised, and between the
two either may happen. Ignored in Deep Standby (R52). -/
def execResetNLow (ns : Nat) (s : State) : Host.Outcome State Fault Refusal :=
  .next (s.when (decide (s.sys.phase ≠ .deepStandby) && decide (500 < ns)) fun s =>
    let q := if ns < 1000 then s.takeFree 1 else (1, s)
    q.2.when (q.1 = 1) fun s =>
      let s := (s.sendGone 1).powerOnReset fSYS_RESET_CAUSE_POR_RESET_N
      { s with sys := { s.sys with resetN := false } })

/-- BROWN_OUT (R48): VDD_CORE below its threshold for more than 1 µs; no GONE is sent (R537). -/
def execBrownOut (ns : Nat) (s : State) : Host.Outcome State Fault Refusal :=
  .next (s.when (decide (s.sys.phase ≠ .deepStandby) && decide (1000 < ns)) fun s =>
    let s := s.powerOnReset fSYS_RESET_CAUSE_POR_BROWNOUT
    { s with sys := { s.sys with brownOut := true } })

/-- VSTBY_LOW (R54, R62, R693): the standby domain resets: scratch words and every cause are cleared and POR_STANDBY is set. -/
def execVstbyLow (s : State) : Host.Outcome State Fault Refusal :=
  let s := s.powerOnReset fSYS_RESET_CAUSE_POR_STANDBY
  let s : State := { s with regs := [], sys := { s.sys with vstby := false, standby := false } }
  .next (s.put fSYS_RESET_CAUSE_POR_STANDBY 1)

/-- WAKE (R53, R693): a rising edge in Deep Standby, also while the rails are removed or still rising. -/
def execWake (s : State) : Host.Outcome State Fault Refusal :=
  .next (s.when (s.sys.vstby && (decide (s.sys.phase = .deepStandby) || (decide (s.sys.phase = .por) && s.sys.standby))) fun s =>
    s.powerOnReset fSYS_RESET_CAUSE_POR_WAKE)

/-! ### Release and the safe sequencer (R64 to R67) -/

/-- Base rate of the family of SAFE_FAM or of a family number in Hz. -/
def baseRate (family : Nat) : Nat := if family = 0 then 48000 else 44100

/-- FREQ word of a tone in Hz at the base rate of a family, rounded to the nearest (R528). -/
def freqWord (hz family : Nat) : Nat := (divEven ((hz * 2 ^ 32 : Nat) : Int) (baseRate family : Nat)).toNat

/-- The chime's tone of step `k` in Hz (R528). -/
def chimeHz (k : Nat) : Nat := if k = 0 then 880 else if k = 1 then 660 else 0

/-- Generator 0 holds the chime of R528; the fields of WELL_GEN0_CFG stand at their reset values. -/
def State.loadChime (s : State) (family : Nat) : State :=
  forN 3 (fun k s => (s.put fWELL_GENg_STEPk_FREQ (freqWord (chimeHz k) family) 0 k).put fWELL_GENg_STEPk_DUR
    (if k = 0 then 400 else if k = 1 then 600 else 1000) 0 k) s

/-- TDM0_CFG takes the reset values that come from the straps (R64). -/
def State.tdm0Straps (s : State) : State :=
  let w := s.fld fSYS_STRAP_SAFE_WIDTH
  ((s.put fTDMn_CFG_WIDTH (min w 2) 0).put fTDMn_CFG_OFFSET (if w = 3 then 1 else 0) 0).put fTDMn_CFG_ROLE (s.fld fSYS_STRAP_SAFE_ROLE) 0

/-- WELLm_CFG takes the reset values that come from the straps, and SAFE_ACTIVE is set while SAFE_EN = 1 (R521). -/
def State.wellStraps (s : State) : State :=
  let en := s.fld fSYS_STRAP_SAFE_EN
  forN 8 (fun m s =>
    let s := ((s.put fWELLm_CFG_EN en m).put fWELLm_CFG_CHIME en m).put fWELLm_CFG_FALLBACK en m
    let s := (s.put fWELLm_CFG_MODE (s.fld fSYS_STRAP_SAFE_DAC) m).put fWELLm_CFG_RANGE (s.fld fSYS_STRAP_SAFE_RANGE) m
    let s := s.put fWELLm_STATUS_SAFE_ACTIVE en m
    if en = 0 then s else s.setWell m { st := 1 }) s

/-- STAGE of SYS_BOOT_STATUS. -/
def State.setStage (s : State) (v : Nat) : State := s.put fSYS_BOOT_STATUS_STAGE v

/-- STAGE when stage 2 starts: the boot ROM verifies, unless BOOT keeps the control processor halted (R68). -/
def State.startStage2 (s : State) : State := s.setStage (if 4 ≤ s.fld fSYS_STRAP_BOOT then 0 else 1)

/-- Release (R64, R65 step 1): once every level allows it, the straps are latched, the safe sequencer starts from the start-up
oscillator, PAIR_RANK is latched (R532), and the upper half of the session numbers is drawn (R628). -/
def State.tryRelease (s : State) (straps rank : Nat) : State :=
  s.when (decide (s.sys.phase = .por) && s.sys.pwrGood && s.sys.resetN && s.sys.vstby && !s.sys.brownOut) fun s =>
    let q := s.takeFree 32
    let s := q.2.setWord .SYS_STRAP straps
    let s := s.put fSYS_STRAP_STRAP_INVALID (if 6 ≤ s.fld fSYS_STRAP_BOOT then 1 else 0)
    let s : State := { s with sys := { s.sys with phase := .up, standby := false, safeStep := 1, startupOsc := true }
                              pop := { s.pop with high := q.1.toNat } }
    let s := (s.put fSIPH_STATUS_RANK rank).put fSIPH_STATUS_CLAIM_LINE 1
    let s := s.put fREF_RPLL_STATUS_FAMILY (s.fld fSYS_STRAP_SAFE_FAM)
    let s := s.setRpllWord (nominalWord s.family)
    ((s.tdm0Straps.wellStraps).loadChime s.family).startStage2

/-- RELEASE (R65): PWR_GOOD and RESET_N are both high. -/
def execRelease (straps : BitVec 12) (rank : Bool) (s : State) : Host.Outcome State Fault Refusal :=
  let s : State := { s with sys := { s.sys with pwrGood := true, resetN := true } }
  .next (s.tryRelease straps.toNat (if rank then 1 else 0))

/-- BROWN_OUT_END (R692). -/
def execBrownOutEnd (straps : BitVec 12) (rank : Bool) (s : State) : Host.Outcome State Fault Refusal :=
  let s : State := { s with sys := { s.sys with brownOut := false } }
  .next (s.tryRelease straps.toNat (if rank then 1 else 0))

/-- VSTBY_RISE (R62, R685): the standby domain leaves its reset; the scratch words are zero since it began. -/
def execVstbyRise (straps : BitVec 12) (rank : Bool) (s : State) : Host.Outcome State Fault Refusal :=
  let s : State := { s with sys := { s.sys with vstby := true } }
  .next (s.tryRelease straps.toNat (if rank then 1 else 0))

/-- XO_QUALIFIED (R65 step 2): the first qualification after release. -/
def execXoQualified (s : State) : Host.Outcome State Fault Refusal :=
  .next (s.when (s.up && !s.sys.xoQual && s.sys.safeStep = 1) fun s =>
    { s with sys := { s.sys with xoQual := true, safeStep := 2 } })

/-- XO_MISSING (R67): XO_IN is not qualified within 2 ms of release. -/
def execXoMissing (s : State) : Host.Outcome State Fault Refusal :=
  .next (s.when (s.up && !s.sys.xoQual && s.sys.safeStep = 1) fun s => s.put fSYS_BOOT_STATUS_XO_MISSING 1)

/-- The active cluster sites are powered and clocked (R99). -/
def State.clockActive (s : State) : State :=
  forN 32 (fun k s => let n := s.fld fHLTH_CMAPk_SITE k; if s.isPermanent 2 n then s else s.setClocked n true) s

/-- Step 4 of R65: TDM0 starts with the silent start, as master, or as slave in search (R66, R469). -/
def State.safeTdm (s : State) : State := s.when (s.flag fSYS_STRAP_SAFE_EN) fun s => s.tdmBegin 0

/-- Steps 3 and 4 of R65: the RPLL is locked in the family of SAFE_FAM, the derived clocks, the counter, the sample count, the
events and the heartbeat start, and TDM0 starts while SAFE_EN = 1. The events of the release and of the boot come first
(R643, R521, R71). -/
def State.safeLock (s : State) : State :=
  let s : State := { s with sys := { s.sys with safeStep := 4, startupOsc := false }
                            tim := { s.tim with cnt := 0, cSamp := 0, running := true
                                                pNum := if s.family = 0 then 625 else 3125, pDen := if s.family = 0 then 768 else 3528 } }
  let s := s.clockActive.hbStart.raise 1 [a32 (s.word .SYS_RESET_CAUSE)]
  let s := forN 8 (fun m s => if s.flag fWELLm_STATUS_SAFE_ACTIVE m then s.raise 105 [a8 m, a8 0] else s) s
  let s := if s.sys.fallbackDue then s.raise 4 [] else s
  let s : State := { s with sys := { s.sys with fallbackDue := false } }
  s.safeTdm

/-- RPLL_LOCKED (R87): LOCKED is set; the first lock after release is step 3 of the safe sequencer. -/
def execRpllLocked (s : State) : Host.Outcome State Fault Refusal :=
  .next (s.when (s.up && decide (2 ≤ s.sys.safeStep) && !s.flag fREF_RPLL_STATUS_LOCKED) fun s =>
    let s := s.put fREF_RPLL_STATUS_LOCKED 1
    if s.sys.safeStep = 2 then s.safeLock else s)

/-- WELLHEAD_REFERENCES_SETTLED (R65 step 6). -/
def execWellheadReferencesSettled (s : State) : Host.Outcome State Fault Refusal :=
  .next (s.when (s.clocked && !s.sys.refsSettled) fun s => { s with sys := { s.sys with refsSettled := true, safeStep := 6 } })

/-! ### Engine Reset (R54 to R58, R545, R609, R712) -/

/-- TDM0 keeps running through an Engine Reset (R712). -/
def State.tdm0Keeps (s : State) : Bool :=
  let w := s.fld fSYS_STRAP_SAFE_WIDTH
  s.flag fSYS_STRAP_SAFE_EN && s.tdmState 0 = 4 && decide (8 ≤ s.fld fTDMn_CFG_COUNT_IN 0)
    && s.fld fTDMn_CFG_ROLE 0 = s.fld fSYS_STRAP_SAFE_ROLE && s.fld fTDMn_CFG_WIDTH 0 = min w 2
    && s.fld fTDMn_CFG_OFFSET 0 = (if w = 3 then 1 else 0)
    && s.fld fTDMn_CFG_FS_POL 0 = 0 && s.fld fTDMn_CFG_FS_WIDTH 0 = 0 && s.fld fTDMn_CFG_EDGE 0 = 0

/-- Fields of TDM0 that R712 returns to their reset values although the port keeps running. -/
def tdm0Cleared : List Nat := [fTDMn_CFG_COUNT_OUT.id, fTDMn_CFG_STRIDE_OUT.id, fTDMn_MASK_OUT_MASK.id] ++ Reg.TDMn_EPOCH_OUT.layout.map (fun f => f.id)

/-- Fields that an Engine Reset keeps wherever they stand: the reset cause and the scratch words, the straps, the power switch of
each site and STBY_GPIO, SAFE_LIVE and XO_MISSING of the safe sequencer, the time and reference units, the Wellhead, TDM0 under
R712, Brine's and the Siphon's counters that only a Power-on Reset clears, the state of the Siphon's lanes and balls, bank
mappings, and the regions of the Deep Cistern that hold KEEP data (R56, R399, R405, R406). -/
def State.engineKeeps (s : State) (tdm0 : Bool) (k : Nat) : Bool :=
  let b := keyBlock k
  let id := keyId k
  b = 18 || b = 4 || b = 5 || b = 8
    || [fSYS_PWR_CTRL_STBY_GPIO.id, fSYS_BOOT_STATUS_SAFE_LIVE.id, fSYS_BOOT_STATUS_XO_MISSING.id, fSYS_CLU_CLK_CLOCKED.id].contains id
    || (Reg.SYS_STRAP.layout ++ Reg.HLTH_BRINE_STATUS.layout ++ Reg.SIPH_COUNT.layout).any (fun f => f.id = id)
    || [fSIPH_STATUS_CLAIM_HELD.id, fSIPH_STATUS_CLAIM_LINE.id, fSIPH_STATUS_HB_OK.id, fSIPH_STATUS_WITNESS_OK.id, fSIPH_STATUS_RANK.id
       , fSIPH_STATUS_LANE0_UP.id, fSIPH_STATUS_LANE1_UP.id].contains id
    || (b = 9 && keyI k = 0 && tdm0 && !tdm0Cleared.contains id)
    || (b = 13 && id != fDCIS_STATUS_LATE.id && !(decide (1311 ≤ id) && !s.flag fDCIS_REGIONr_KEEP (keyI k)))

/-- Address ranges that an Engine Reset leaves alone: working RAM and the KEEP regions of the Deep Cistern (R56). -/
def State.engineKeepsMem (s : State) (a : Nat) : Bool :=
  decide (a < 0x20000000) ||
    (decide (0x100000000 ≤ a) && (List.range 8).any (fun r => s.flag fDCIS_REGIONr_KEEP r
      && decide (dcisAddr (s.fld fDCIS_REGIONr_BASE r * 2 ^ 20) ≤ a)
      && decide (a < dcisAddr ((s.fld fDCIS_REGIONr_BASE r + s.fld fDCIS_REGIONr_SIZE r) * 2 ^ 20))))

/-- An object key of a generator, whose state the Wellhead keeps (R609). -/
def wellObj (k : Nat) : Bool := decide (0x4100 ≤ okIdx k) && decide (okIdx k ≤ 0x411F)

/-- What an Engine Reset clears (R56, R437, R609, R655). -/
def State.engineClear (s : State) (tdm0 : Bool) : State :=
  let gains := nkeep wellObj s.scene.gains
  { s with
    regs := nkeep (fun k => s.engineKeeps tdm0 k) s.regs
    mem := nkeep (fun a => s.engineKeepsMem a) s.mem
    sys := { s.sys with cluReset := 0, sesReq := false, fwRunning := false, fallbackDue := false, started := false, warm := true, image := {}, tdm0Done := false }
    clk := { s.clk with laneGated := [], bankGated := [] }
    tim := { s.tim with restart := none, ledgerAnchor := none, anchorOut := none }
    pump := {}, memu := { bad := nkeep (fun a => s.engineKeepsMem a) s.memu.bad }, fab := {}, pop := { high := s.pop.high, nextLow := s.pop.nextLow }
    pair := { hbTx := s.pair.hbTx, hbAt := s.pair.hbAt, hbRun := s.pair.hbRun, hbRx := s.pair.hbRx, trainAt := s.pair.trainAt
              partnerClaim := s.pair.partnerClaim }
    route := {}
    scene := { gains := gains, tags := nkeep (fun t => gains.any (fun g => g.2.tag = t)) s.scene.tags
               waits := s.scene.waits.filter (fun w => wellObj w.key) }
    objs := nkeep wellObj s.objs
    tdm := if tdm0 then nkeep (fun k => k = 0) s.tdm else []
    net := {}
    hlth := { errs := s.hlth.errs, retired := s.hlth.retired, recDue := s.hlth.recDue, due := s.hlth.due, mon := s.hlth.mon
              monWarn := s.hlth.monWarn, ageRef := s.hlth.ageRef }
    evt := { seq := s.evt.seq, store := s.evt.store, hdrNext := s.evt.seq } }

/-- Each Wellhead channel at an Engine Reset: with SAFE_EN = 1 a channel that is not on the safe path crossfades to it linearly over
2 ms; with SAFE_EN = 0 an enabled channel ramps to zero over 2 ms and waits (R58). -/
def State.wellAtReset (s : State) : State :=
  let en := s.flag fSYS_STRAP_SAFE_EN
  forN 8 (fun m s =>
    let x := s.well' m
    if en then
      if s.flag fWELLm_STATUS_SAFE_ACTIVE m then s
      else
        let s := s.setSafe m 0
        s.setWell m { (s.well' m) with queue := [], toSafe := true, from' := x.out, fadeAt := s.sampleIdx, fadeLen := s.fadeLen 2 }
    else if x.st = 2 || x.st = 3 then s.setWell m { x with stop := true, queue := [] }
    else if s.flag fWELLm_CFG_EN m then s.setWell m { x with st := 1, queue := [] }
    else s) s

/-- An Engine Reset (R56, R58, R537, R545): GONE leaves, and CLAIM is released when the partner is Standby; state is cleared;
RESET_REPORT is the first record (R643, R655); the Wellhead passes to the safe path; and the staged start goes on at stage 2
unless the thermal trip holds the reset (R55). -/
def State.engineReset (s : State) (cause : Fd) (hold : Bool) : State :=
  let s := s.sendGone 2
  let s := if s.pair.partner = 3 then s.hbStop else s
  let role := s.role
  let closed := s.pop.sessions.map (fun x => x.num)
  let tdm0 := s.tdm0Keeps
  let dcis := s.dcisState
  let s := s.engineClear tdm0
  let s := (s.incSat fSYS_RESET_CAUSE_ENG_COUNT).put cause 1
  let s := if dcis = 0 || dcis = 5 then s else s.put fDCIS_STATUS_STATE 3
  let s : State := { s with sys := { s.sys with engReset := hold, thermal := hold } }
  let s := s.raise 1 [a32 (s.word .SYS_RESET_CAUSE)]
  let s := forL closed (fun n s => s.raise 9 [a8 2, a64 n]) s
  let s := if role = 0 then s else s.raise 56 [a8 role, a8 0, a8 0]
  let s := s.wellAtReset
  let s := if tdm0 then s else
    let s := s.tdm0Straps
    if s.clocked then s.safeTdm else s
  if hold then s.setStage 0 else s.startStage2

/-- ENGINE_RST (R54): a keyed register write reaches it from release on (R63); discarded while an Engine Reset is held (R57). -/
def execEngineRst (src : ReqSrc) (s : State) : Host.Outcome State Fault Refusal :=
  let ok := match src with | .reg k => decide (k = 0x5A3C) | .exec => s.clocked
  .next (s.when (s.up && !s.sys.engReset && ok) fun s => s.engineReset fSYS_RESET_CAUSE_ENG_REQUEST false)

/-- WATCHDOG_EXPIRY (R54): 1 s without service of the running firmware. -/
def execWatchdogExpiry (s : State) : Host.Outcome State Fault Refusal :=
  .next (s.when (s.up && s.sys.fwRunning && !s.sys.engReset) fun s => s.engineReset fSYS_RESET_CAUSE_ENG_WATCHDOG false)

/-- THERMAL_TRIP (R55): a sensor reads 130 °C or more for 10 ms. -/
def execThermalTrip (sensor : Nat) (celsius : Int) (ms : Nat) (s : State) : Host.Outcome State Fault Refusal :=
  .next (s.when (s.up && !s.sys.engReset && decide (sensor < 8) && decide (130 ≤ celsius) && decide (10 ≤ ms)) fun s =>
    s.engineReset fSYS_RESET_CAUSE_ENG_THERMAL true)

/-- THERMAL_TRIP_END (R55): all eight sensors read below 115 °C; stage 2 starts. -/
def execThermalTripEnd (celsius : List Int) (s : State) : Host.Outcome State Fault Refusal :=
  .next (s.when (s.up && s.sys.thermal && decide (celsius.length = 8) && celsius.all (fun c => decide (c < 115))) fun s =>
    let s : State := { s with sys := { s.sys with engReset := false, thermal := false } }
    s.startStage2)

/-! ### Cluster Reset (R59, R437) -/

/-- A Cluster Reset requested at a site: carried to the next boundary, or through the ledger in a pair (R61, R668 step 3); discarded
while the site is being retired (R580). -/
def State.requestClusterReset (s : State) (site : Nat) : State :=
  s.when (decide (site ≤ 35) && s.siteClocked site && !s.hlth.cluCopy.any (fun c => c.old = site)) fun s => s.submit (.clusterReset site)

/-- CLUSTER_RST (R54). -/
def execClusterRst (src : ReqSrc) (site : Nat) (s : State) : Host.Outcome State Fault Refusal :=
  let ok := match src with | .reg k => decide (k = 0x5A3C) | .exec => true
  .next (s.when (s.live && ok) fun s => s.requestClusterReset site)

/-- What a cluster site loses when it is reset or gated (R50, R56, R437): memories, lanes, Pump queues and counters; its
descriptors stay for its return, with every loaded task ARMED and no flag set. -/
def State.clearSite (s : State) (n : Nat) : State :=
  let s := s.zeroCluster n
  let s := s.resetFields (fun k => (keyBlock k = 14 || keyBlock k = 15) && keyI k = n)
  let s := forN 512 (fun t s => if armedLike (s.tState n t) then (s.setTState n t 2).put fTASK_FLAGS 0 n t else s) s
  { s with pump := { s.pump with lanes := nkeep (fun k => !(k / 16 = n)) s.pump.lanes, inj := nkeep (fun k => !(k / 16 = n)) s.pump.inj
                                 sites := nkeep (fun k => !(k = n)) s.pump.sites, rt := nkeep (fun k => !(k / 512 = n)) s.pump.rt } }

/-- A Cluster Reset begins, in step 3 of a boundary (R56, R59): the site is cleared and its tasks stand in meanwhile. -/
def State.beginClusterReset (s : State) (n : Nat) : State :=
  s.when (decide (n ≤ 35) && !s.hlth.cluCopy.any (fun c => c.old = n)) fun s =>
    let s := (s.put fSYS_RESET_CAUSE_CLU_REQUEST 1).clearSite n
    { s with sys := { s.sys with cluReset := putBit s.sys.cluReset n true } }

/-- CLUSTER_RESET_RETURN (R59, R371): programs are reloaded from the graph image, filter state stays zeroed, gain words of the
cluster's slice are written at rest, and dispatch starts again from this boundary. -/
def execClusterResetReturn (site : Nat) (s : State) : Host.Outcome State Fault Refusal :=
  .next (s.when (s.live && decide (site ≤ 35) && bit s.sys.cluReset site) fun s =>
    let s := forL (s.pump.image.filter (fun e => e.1 / 8192 = site)) (fun e s => s.wrMem (progAddr site (e.1 % 8192)) 8 e.2) s
    let s := match s.clusterOf site with | some c => s.restCluster c | none => s
    { s with sys := { s.sys with cluReset := putBit s.sys.cluReset site false } })

/-! ### Session Reset (R60, R61) -/

/-- A Session Reset requested: in a pair it goes through the ledger. -/
def State.requestSessionReset (s : State) : State :=
  if s.paired then s.submit .sessionReset else { s with sys := { s.sys with sesReq := true } }

/-- SESSION_RST (R54, R60). -/
def execSessionRst (src : ReqSrc) (s : State) : Host.Outcome State Fault Refusal :=
  let ok := match src with | .reg k => decide (k = 0x5A3C) | .exec => true
  .next (s.when (s.live && ok) fun s => s.requestSessionReset)

/-- Every session ends, with its subscriptions and remembered requests, and event 9 with the cause (R60, R628). -/
def State.closeAll (s : State) (cause : Nat) : State :=
  let l := s.pop.sessions
  let s : State := { s with pop := { s.pop with sessions := [], shakes := [], waits := [] } }
  forL l (fun x s => s.raise 9 [a8 cause, a64 x.num]) s

/-- Step 8 of boundary `j` (R57, R60): the Session Reset takes effect, unless a Cluster Reset in progress is heavier. -/
def State.sessionReset (s : State) : State :=
  let s : State := { s with sys := { s.sys with sesReq := false } }
  if s.sys.cluReset != 0 then s
  else
    let s := (s.put fSYS_RESET_CAUSE_SES_REQUEST 1).closeAll 2
    let s := if s.scene.press.isSome then s.pressCancel else s
    (s.emptyVat).raise 6 []

end Sys2Proof.Machine
end

