-- ==== Sys2Proof/Machine/Power.lean ====
section
/-! DEFINITION. Power states and the root clock's events (spec 02, 03): Run, Idle and Deep Standby, loss and return of XO_IN and
of the SerDes references, clock gating, the family change of stage 2 and the reconfiguration of TDM0. -/

namespace Sys2Proof.Machine

open Sys2Proof

/-! ### The boot flash (R69, R70) -/

/-- A flash write takes effect with its commit marker; configurations occupy two slots, the newer one last. -/
def Flash.commit (f : Flash) (j : FlashJob) : Flash :=
  match j with
  | .config c => { f with cfgs := (f.cfgs ++ [c]).drop (f.cfgs.length - 1) }
  | .scene l => { f with scene := l }
  | .retire k n => { f with retired := f.retired ++ [{ kind := k, site := n }] }
  | .baseline feed v => { f with baselines := f.baselines.filter (fun e => e.1 != feed) ++ [(feed, v)] }

/-- Every open flash write ends (R52). -/
def Flash.commitAll (f : Flash) : Flash := { f.jobs.foldl Flash.commit f with jobs := [] }

/-! ### Targets of SYS_PWR_CTRL (R49 to R52) -/

/-- Deep Standby (R49, R52): the outputs ramp down and are muted, the TDM ports stop silently, the links drop, the flash write
ends, and everything but the standby domain is lost; SYS_PWR_CTRL shows STATE = 4. -/
def State.deepStandby (s : State) : State :=
  let t : State :=
    { regs := nkeep (fun k => keyBlock k = 18) s.regs, flash := s.flash.commitAll
      sys := { phase := .deepStandby, pwrGood := s.sys.pwrGood, resetN := s.sys.resetN, vstby := s.sys.vstby }
      free := s.free, pending := s.pending }
  ((t.put fSYS_PWR_CTRL_STATE 4).put fSYS_PWR_CTRL_TARGET 2).put fSYS_PWR_CTRL_STBY_GPIO (s.fld fSYS_PWR_CTRL_STBY_GPIO)

/-- A write of SYS_PWR_CTRL: STBY_GPIO always, TARGET with its KEY while no change is in progress. A TARGET that differs from the
state reached begins the change; one written while the engine starts waits for Run. -/
def State.pwrWrite (s : State) (key target stby : Nat) : State :=
  let s := s.put fSYS_PWR_CTRL_STBY_GPIO stby
  if key != 0xA5 || s.flag fSYS_PWR_CTRL_BUSY || 3 ≤ target then s
  else if target = 2 then s.deepStandby
  else
    let s := s.put fSYS_PWR_CTRL_TARGET target
    let st := s.fld fSYS_PWR_CTRL_STATE
    if (target = 0 && st = 1) || (target = 1 && st = 2) then s.put fSYS_PWR_CTRL_BUSY 1 else s

/-- PWR_TARGET_RUN (R51). -/
def execPwrTargetRun (key : BitVec 8) (stbyGpio : Bool) (s : State) : Host.Outcome State Fault Refusal :=
  .next (s.when s.up fun s => s.pwrWrite key.toNat 0 (if stbyGpio then 1 else 0))

/-- PWR_TARGET_IDLE (R50). -/
def execPwrTargetIdle (key : BitVec 8) (stbyGpio : Bool) (s : State) : Host.Outcome State Fault Refusal :=
  .next (s.when s.up fun s => s.pwrWrite key.toNat 1 (if stbyGpio then 1 else 0))

/-- PWR_TARGET_DEEP_STANDBY (R52). -/
def execPwrTargetDeepStandby (key : BitVec 8) (stbyGpio : Bool) (s : State) : Host.Outcome State Fault Refusal :=
  .next (s.when s.up fun s => s.pwrWrite key.toNat 2 (if stbyGpio then 1 else 0))

/-- GPIO15 is driven low to ask that the rails be removed (R52). -/
def State.railsOff (s : State) : Bool := s.flag fSYS_PWR_CTRL_STBY_GPIO && s.fld fSYS_PWR_CTRL_STATE = 4

/-- Sinks of TDM and the network that a processed path feeds: they ramp from the last sample formed (R50). The Wellhead's sinks
follow their underflow rule (R514). -/
def State.rampsNow (s : State) : NMap (Int × Nat) :=
  let j := s.blkIndex
  (s.wireSinks.filter (fun n => decide (n < 0x2200) && !rPath (s.entryNow n) && isPosted (rSrc (s.entryNow n)))).foldl (fun m n =>
    let v := match s.outBlk n (j - 1) with | some b => b.samples.getD (s.sys.blk - 1) 0 | none => 0
    nput m n (v, j * s.sys.blk)) []

/-- ENTER_IDLE (R50, R99): at the block boundary after the request. -/
def execEnterIdle (s : State) : Host.Outcome State Fault Refusal :=
  .next (s.when (s.live && s.fld fSYS_PWR_CTRL_TARGET = 1 && s.fld fSYS_PWR_CTRL_STATE = 2 && s.flag fSYS_PWR_CTRL_BUSY) fun s =>
    let s : State := { s with route := { s.route with ramps := s.rampsNow } }
    let s := forN 36 (fun n s => if s.siteClocked n then (s.clearSite n).setClocked n false else s) s
    (s.put fSYS_PWR_CTRL_STATE 1).put fSYS_PWR_CTRL_BUSY 0)

/-- The committed parameters that differ from their defaults, with the class default transitions (R51; log entry 33). -/
def State.committedChanges (s : State) : List Change :=
  s.objs.filterMap (fun e =>
    match s.objRow (okIdx e.1) (okSub e.1) with
    | some r => if r.acc = .stg then
        (let tl := (s.timeLaw r 0xFFFF 0).getD (0, 0); some { key := e.1, val := e.2, time := tl.1, law := tl.2 })
      else none
    | none => none)

/-- Gains, filters and delays of zeroed cluster memories: a gain word that the Press writes rises from zero, and the sinks of
processed paths rise from silence (R51). -/
def State.silentRun (s : State) (l : List Change) : State :=
  let s : State := { s with route := { s.route with ramps := [], fades := [] }
                            scene := { s.scene with gains := nkeep wellObj s.scene.gains, stages := [], delays := [], waits := [] } }
  forL l (fun c s =>
    match s.objRow (okIdx c.key) (okSub c.key) with
    | none => s
    | some r =>
      if r.cls = 1 then s.setGain (gainKey c.key) {}
      else if r.cls = 3 && !rPath (s.routeEntry (sinkOf (okSub c.key) (okElem c.key))) then
        s.setInForce (sinkOf (okSub c.key) (okElem c.key)) (0xFFFF * 2 ^ 48)
      else s) s

/-- ENTER_RUN (R51, R99): the clusters are powered, their programs reloaded, and the committed parameters go to one Press, after
which BUSY is cleared. -/
def execEnterRun (s : State) : Host.Outcome State Fault Refusal :=
  .next (s.when (s.live && s.fld fSYS_PWR_CTRL_TARGET = 0 && s.fld fSYS_PWR_CTRL_STATE = 1 && s.flag fSYS_PWR_CTRL_BUSY) fun s =>
    let s := s.clockActive
    let s := forL s.pump.image (fun e s => s.wrMem (progAddr (e.1 / 8192) (e.1 % 8192)) 8 e.2) s
    let l := s.committedChanges
    ((s.silentRun l).put fSYS_PWR_CTRL_STATE 2).startAuto 3 l)

/-! ### XO_IN and the RPLL (R87 to R89) -/

/-- XO_LOST (R88): the tuning is frozen and discipline stops; a slew under way is abandoned (R91). Before the RPLL has locked the
sequencer waits for the next qualification (R67). -/
def execXoLost (s : State) : Host.Outcome State Fault Refusal :=
  .next (s.when (s.up && s.sys.xoQual) fun s =>
    let s : State := { s with sys := { s.sys with xoQual := false } }
    let s := (s.put fREF_RPLL_STATUS_XO_LOST 1).raise 17 []
    if !s.clocked then { s with sys := { s.sys with safeStep := 1 } }
    else
      let slew := s.flag fREF_RPLL_STATUS_SLEWING
      let s := (s.put fREF_RPLL_STATUS_FROZEN 1).put fREF_RPLL_STATUS_SLEWING 0
      let s : State := { s with clk := { s.clk with frozenWord := s.rpllWord }, sys := { s.sys with slewDue := s.sys.slewDue || slew } }
      s.moveCand 7 1)

/-- XO_RESTORED (R89, R91): discipline resumes, and an abandoned family change restarts from the frozen word. -/
def execXoRestored (s : State) : Host.Outcome State Fault Refusal :=
  .next (s.when (s.clocked && s.flag fREF_RPLL_STATUS_FROZEN) fun s =>
    let due := s.sys.slewDue
    let s : State := { s with sys := { s.sys with xoQual := true, slewDue := false } }
    let s := ((s.put fREF_RPLL_STATUS_FROZEN 0).raise 18 []).moveCand 7 3
    let s := if due then s.put fREF_RPLL_STATUS_SLEWING 1 else s
    s.evalSelect)

/-- RPLL_UNLOCK (R87): event 16 after step 3 of the safe sequencer while XO_IN is present. -/
def execRpllUnlock (s : State) : Host.Outcome State Fault Refusal :=
  .next (s.when (s.up && s.flag fREF_RPLL_STATUS_LOCKED) fun s =>
    let s := s.put fREF_RPLL_STATUS_LOCKED 0
    if s.clocked && s.xoPresent then s.raise 16 [] else s)

/-! ### The SerDes references (R96, R98) -/

/-- Status bit of SDSREF0 or SDSREF1. -/
def sdsOk (k : Nat) : Fd := if k = 0 then fREF_RPLL_STATUS_SDSREF0_OK else fREF_RPLL_STATUS_SDSREF1_OK

/-- The Siphon lanes take reference `k` (R96). -/
def State.siphOn (s : State) (k : Nat) : Bool := k = (if s.clk.siphFrom0 then 0 else 1)

/-- SDSREF_LOSS (R98): SDSREF0 takes the network links and the Deep Cistern with it, and the Siphon's reference its lanes. -/
def execSdsrefLoss (input : Nat) (s : State) : Host.Outcome State Fault Refusal :=
  .next (s.when (s.up && decide (input < 2) && s.flag (sdsOk input)) fun s =>
    let s := s.put (sdsOk input) 0
    let s := if input = 0 then forN 4 (fun p s => s.linkDown p) s else s
    let s := if input = 0 && s.flag fDCIS_CFG_EN && s.dcisState != 0 then
        s.dcisFail true (s.fld fDCIS_CFG_CHANNELS = 3) else s
    if s.siphOn input then forN 2 (fun l s => if s.flag (laneUp l) then s.siphLaneDown l else s) s else s)

/-- SDSREF_RESTORED (R96): links and lanes may train again. -/
def execSdsrefRestored (input : Nat) (s : State) : Host.Outcome State Fault Refusal :=
  .next (s.when (s.up && decide (input < 2) && !s.flag (sdsOk input)) fun s => s.put (sdsOk input) 1)

/-! ### Clock gating (R101, R102) -/

/-- LANE_CLOCK_GATE (R101): a lane of a clocked cluster that runs nothing. -/
def execLaneClockGate (site : Nat) (lane : Nat) (s : State) : Host.Outcome State Fault Refusal :=
  .next (s.when (s.live && decide (site < 36) && decide (lane < 9) && s.siteClocked site && (nget {} s.pump.lanes (16 * site + lane)).task.isNone) fun s =>
    { s with clk := { s.clk with laneGated := nset false s.clk.laneGated (16 * site + lane) true } })

/-- BANK_CLOCK_GATE (R102): 16 fabric cycles, which are 32 core cycles, have passed since the last access. -/
def execBankClockGate (bank : Nat) (s : State) : Host.Outcome State Fault Refusal :=
  let a := nget 0 s.memu.lastAccess bank
  .next (s.when (s.live && decide (bank < 64) && (a = 0 || decide (a + 32 ≤ s.tim.cnt + 1))) fun s =>
    { s with clk := { s.clk with bankGated := nset false s.clk.bankGated bank true } })

/-! ### The family change (R74, R90) -/

/-- The startup configuration names a family other than the one in force. -/
def State.familyDue (s : State) : Bool := match s.sys.cfg with | some c => c.family != s.family | none => false

/-- FAMILY_CHANGE (R74 steps 1 and 2): the outputs ramp to zero and the control word starts to slew. -/
def execFamilyChange (s : State) : Host.Outcome State Fault Refusal :=
  .next (s.when (s.live && s.fld fSYS_BOOT_STATUS_STAGE = 2 && s.familyDue && s.xoPresent && !s.flag fREF_RPLL_STATUS_SLEWING) fun s =>
    let s := forN 8 (fun m s =>
      let x := s.well' m
      if x.st = 2 || x.st = 3 then s.setWell m { x with stop := true } else s.setWell m { x with queue := [] }) s
    s.put fREF_RPLL_STATUS_SLEWING 1)

/-- Generator 0's steps that no write has reached take the chime's words for the family in force (R528). -/
def State.rechime (s : State) : State :=
  let w := (s.gen 0).written
  forN 2 (fun k s => if bit w k then s else s.put fWELL_GENg_STEPk_FREQ (freqWord (chimeHz k) s.family) 0 k) s

/-- FAMILY_SLEW_END (R74 step 3, R90): the word is the new family's nominal one, times stay continuous (R142), and TDM0 runs its
lead-in again unless it is stopped. -/
def execFamilySlewEnd (s : State) : Host.Outcome State Fault Refusal :=
  .next (s.when (s.live && s.flag fREF_RPLL_STATUS_SLEWING && s.familyDue) fun s =>
    let f := 1 - s.family
    let s := s.mapScales id (fun t => { t with pNum := if f = 0 then 625 else 3125, pDen := if f = 0 then 768 else 3528 })
    let s := ((s.setRpllWord (nominalWord f)).put fREF_RPLL_STATUS_FAMILY f).put fREF_RPLL_STATUS_SLEWING 0
    let s := (s.put fSYS_BOOT_STATUS_FAMILY_CHANGED 1).rechime
    if s.tdmState 0 = 3 || s.tdmState 0 = 4 then
      (s.setTdm 0 { (s.tdmP 0) with frames := 0, rx := [], last := [] }).put fTDMn_STATUS_STATE 3 0
    else s)

/-- Every Wellhead channel has been handed over and its crossfade has ended (R75, R76). -/
def State.allHanded (s : State) : Bool :=
  (List.range 8).all (fun m => !s.flag fWELLm_STATUS_SAFE_ACTIVE m && decide ((s.well' m).fadeAt + (s.well' m).fadeLen ≤ s.sampleIdx))

/-- TDM0_RECONFIGURE (R76): TDM0 stops and starts again with the role, width and offset of the startup configuration. -/
def execTdm0Reconfigure (s : State) : Host.Outcome State Fault Refusal :=
  .next (match s.sys.cfg with
    | none => s
    | some c => s.when (s.live && s.sys.started && !s.sys.tdm0Done && c.wellNamed % 256 = 255 && s.allHanded) fun s =>
      let s := if s.tdmState 0 = 0 then s else s.tdmHalt 0 true
      let s := ((s.put fTDMn_CFG_ROLE c.tdm0Role 0).put fTDMn_CFG_WIDTH c.tdm0Width 0).put fTDMn_CFG_OFFSET c.tdm0Offset 0
      let s : State := { s with sys := { s.sys with tdm0Done := true } }
      s.tdmBegin 0)

end Sys2Proof.Machine
end

