-- ==== Sys2Proof/Machine/Registers.lean ====
section
/-! DEFINITION. Writing and reading registers: the access codes of R10 to R12, the access rules of R680 to R685, and what a
write of each register does beside storing its fields. -/

namespace Sys2Proof.Machine

open Sys2Proof

/-! ### Access codes (R10 to R12) -/

/-- The value of field `f` after the value `new` is written over `old` under its access code; an RO or WO field keeps what it
holds, a W1C field loses the bits written 1. -/
def Fd.write (f : Fd) (old new : Nat) : Nat :=
  match f.acc with
  | .ro | .wo => old
  | .rw | .rws => new
  | .w1c => old ^^^ (old &&& new)

/-- A write of the word `v` to register `r` under the access codes alone; reserved bits are ignored (R11). -/
def State.regPlain (s : State) (r : Reg) (v : Nat) (i : Nat := 0) (j : Nat := 0) : State :=
  r.layout.foldl (fun s f => s.put f (f.write (s.fld f i j) (f.of v)) i j) s

/-- The word `v` with field `f` clamped, for a field whose description stores the nearer end. -/
def Fd.clamp (f : Fd) (lo hi v : Nat) : Nat := f.into v (clampN lo hi (f.of v))

/-- The word `v` with field `f` as it stands in the state where `bad` holds of the value written: "a write of X is ignored" in
a field's description keeps that field (log entry 50). -/
def State.keep (s : State) (f : Fd) (bad : Nat → Bool) (v : Nat) (i : Nat := 0) : Nat :=
  if bad (f.of v) then f.into v (s.fld f i) else v

/-! ### Master codes and port reset (R414, R435, R436) -/

/-- The master codes of R414. -/
def masterOk (m : Nat) : Bool :=
  decide (m < 36) || (decide (0x30 ≤ m) && decide (m ≤ 0x33)) || [0x38, 0x39, 0x3A, 0x3B, 0x3C, 0x3E, 0x3F].contains m

/-- The target numbers of R415. -/
def targetOk (t : Nat) : Bool :=
  decide (t ≤ 4) || (decide (0x10 ≤ t) && decide (t ≤ 0x33)) || (decide (0x40 ≤ t) && decide (t ≤ 0x7F))

/-! ### Register blocks with checks of their own -/

/-- SYS_RESET_CTRL (R54, R57): with its KEY, the heaviest reset that the word asks for. -/
def State.resetCtrl (s : State) (v : Nat) : State :=
  let site := fSYS_RESET_CTRL_CLUSTER.of v
  if fSYS_RESET_CTRL_KEY.of v != 0x5A3C then s
  else if v.testBit 0 then (if s.sys.engReset then s else s.engineReset fSYS_RESET_CAUSE_ENG_REQUEST false)
  else if v.testBit 2 && decide (site ≤ 35) then s.requestClusterReset site
  else if v.testBit 1 then s.requestSessionReset
  else s

/-- FAB_CTRL: with DBG_EN = 0 the debug port is in reset (R435); with BOOT = 0b101 it reads 1 and cannot be cleared (R418). -/
def State.dbgWrite (s : State) (v : Nat) : State :=
  if s.fld fSYS_STRAP_BOOT = 5 then s
  else s.put fFAB_CTRL_DBG_EN v

/-- TIM_CTRL: clamped times; a TIME_SEL that names a domain changes SRC at once (R160). -/
def State.timCtrl (s : State) (v : Nat) : State :=
  let v := s.keep fTIM_CTRL_TIME_SEL (fun x => x = 3) (fTIM_CTRL_VALID_WIN.clamp 5 600 (fTIM_CTRL_REACQ_HOLD.clamp 10 3600 v))
  let s := s.regPlain .TIM_CTRL v
  if s.flag fTIM_CTRL_TIME_SEL then s.nameSrc else s

/-- TIM_Dn_CFG (R155, R157): a write that would give both domains one number and a common port is ignored whole. -/
def State.timDom (s : State) (d v : Nat) : State :=
  let v := s.keep fTIM_Dn_CFG_DOMAIN (fun x => decide (127 < x)) v d
  let v := fTIM_Dn_CFG_BW.clamp 5 1000 (s.keep fTIM_Dn_CFG_PROFILE (fun x => decide (2 ≤ x)) v d)
  let o := 1 - d
  if fTIM_Dn_CFG_DOMAIN.of v = s.fld fTIM_Dn_CFG_DOMAIN o ∧ (fTIM_Dn_CFG_PORTS.of v &&& s.fld fTIM_Dn_CFG_PORTS o) ≠ 0 then s
  else
    let was := s.flag fTIM_Dn_CFG_EN d
    let s := s.regPlain .TIM_Dn_CFG v d
    if !was && s.flag fTIM_Dn_CFG_EN d then s.domEnable d
    else if was && !s.flag fTIM_Dn_CFG_EN d then s.domDisable d
    else s

/-- REF_CTRL: clamped times and slope; the selection is evaluated again (R123). -/
def State.refCtrl (s : State) (v : Nat) : State :=
  let v := fREF_CTRL_WTR.clamp 0 3600 (fREF_CTRL_HOLD_WIN.clamp 0 3600 v)
  let v := fREF_CTRL_GUARD.clamp 0 600 (fREF_CTRL_SLOPE.clamp 1 500 v)
  (s.regPlain .REF_CTRL v).evalSelect

/-- REF_LIMITS: each limit is at most 20,000; a soft limit at or above the hard limit of its window makes the write ignored
(R114). -/
def State.refLimits (s : State) (v : Nat) : State :=
  let v := Reg.REF_LIMITS.layout.foldl (fun v f => f.clamp 0 20000 v) v
  if fREF_LIMITS_SOFT_1S.of v < fREF_LIMITS_HARD_1S.of v ∧ fREF_LIMITS_SOFT_64S.of v < fREF_LIMITS_HARD_64S.of v then
    s.regPlain .REF_LIMITS v
  else s

/-- ALIGN = 0b01 is possible at candidate `n`: a physical input whose frequency is an integer multiple or divisor of the
sample rate (R105). -/
def State.alignOk (s : State) (n : Nat) : Bool :=
  let f := s.fld fREF_CANDn_FREQ_FREQ n
  decide (n < 4) && f != 0 && (f % s.fs = 0 || s.fs % f = 0)

/-- REF_CANDn_CFG (R105, R107, R117): EN of candidate 7 and the QUALITY of the PTP and pair candidates are read-only. -/
def State.refCand (s : State) (n v : Nat) : State :=
  let v := if n = 7 then fREF_CANDn_CFG_EN.into v 1 else v
  let v := if n < 4 || n = 7 then v else fREF_CANDn_CFG_QUALITY.into v (s.fld fREF_CANDn_CFG_QUALITY n)
  let v := s.keep fREF_CANDn_CFG_ALIGN (fun x => decide (4 ≤ n) || decide (2 ≤ x) || (x = 1 && !s.alignOk n)) v n
  let was := s.flag fREF_CANDn_CFG_EN n
  let s := s.regPlain .REF_CANDn_CFG v n
  let s := if !was && s.flag fREF_CANDn_CFG_EN n then s.moveCand n 1
    else if was && !s.flag fREF_CANDn_CFG_EN n then s.moveCand n 0 else s
  s.evalSelect

/-- REF_CANDn_FREQ: 0, 1, or 8,000 to 100,000,000 Hz. -/
def State.refFreq (s : State) (n v : Nat) : State :=
  s.regPlain .REF_CANDn_FREQ (s.keep fREF_CANDn_FREQ_FREQ (fun x => !(decide (x ≤ 1) || (decide (8000 ≤ x) && decide (x ≤ 100000000)))) v n) n

/-- REF_PULSEn_CTRL (R134, R135): a change of EN or SOURCE makes the output wait for an instant of its source. -/
def State.pulseCtrl (s : State) (n v : Nat) : State :=
  let v := fREF_PULSEn_CTRL_WIDTH.clamp 0 500000 (s.keep fREF_PULSEn_CTRL_SOURCE (fun x => x = 7) v n)
  let was := (s.fld fREF_PULSEn_CTRL_EN n, s.fld fREF_PULSEn_CTRL_SOURCE n)
  let s := s.regPlain .REF_PULSEn_CTRL v n
  if (s.fld fREF_PULSEn_CTRL_EN n, s.fld fREF_PULSEn_CTRL_SOURCE n) = was then s else (s.setPulse n {}).put fREF_PULSEn_CTRL_FLYWHEEL 0 n

/-- REF_PULSEn_OFS (R134): a value outside half a second of the family in force is ignored and sets OFS_ERR. -/
def State.pulseOfs (s : State) (n v : Nat) : State :=
  if (sx 32 v).natAbs ≤ s.rootPerSec / 2 then s.put fREF_PULSEn_OFS_OFFSET v n else s.put fREF_PULSEn_CTRL_OFS_ERR 1 n

/-- REF_RPLL_STATUS (R96): SIPH_FROM_0 takes effect while both Siphon lanes are down. -/
def State.rpllStatus (s : State) (v : Nat) : State :=
  let s := s.regPlain .REF_RPLL_STATUS v
  if s.flag fSIPH_STATUS_LANE0_UP || s.flag fSIPH_STATUS_LANE1_UP then s
  else { s with clk := { s.clk with siphFrom0 := s.flag fREF_RPLL_STATUS_SIPH_FROM_0 } }

/-- SIPH_CTRL written with the word `v`, checked: SWITCH and REJOIN with their KEY (R546, R561). -/
def State.siphWord (s : State) (v : Nat) : State :=
  let s := s.regPlain .SIPH_CTRL v
  if fSIPH_CTRL_KEY.of v != 0x6D then s
  else
    let s := if fSIPH_CTRL_SWITCH.of v = 1 then s.switchOver else s
    if fSIPH_CTRL_REJOIN.of v = 1 then (if s.role = 5 then s.rejoin else s.partnerDiverge) else s

/-- SIPH_CTRL: PAIR_EN changes only in Solo, and the times are clamped. -/
def State.siphCtrl (s : State) (v : Nat) : State :=
  let v := s.keep fSIPH_CTRL_PAIR_EN (fun _ => s.role != 0) v
  s.siphWord (fSIPH_CTRL_CONTEST_TMO.clamp 10 10000 (fSIPH_CTRL_REJOIN_WAIT.clamp 1 255 (fSIPH_CTRL_WIT_PROBE.clamp 5 255 v)))

/-- NET_PORTp_CFG (R474, R475): clearing EN, or a change of MODE while EN = 1, drops the link. -/
def State.netPort (s : State) (p v : Nat) : State :=
  let v := s.keep fNET_PORTp_CFG_MODE (fun x => x = 3) v p
  let was := s.fld fNET_PORTp_CFG_MODE p
  let s := s.regPlain .NET_PORTp_CFG v p
  if !s.flag fNET_PORTp_CFG_EN p || s.fld fNET_PORTp_CFG_MODE p != was then s.linkDown p else s

/-- NET_PLANEx_CFG (R476, R477). -/
def State.netPlane (s : State) (x v : Nat) : State :=
  let v := s.keep fNET_PLANEx_CFG_PREFIX (fun n => decide (32 < n)) v x
  let v := s.keep fNET_PLANEx_CFG_MEDIA_VID (fun n => n = 4095) (s.keep fNET_PLANEx_CFG_MGMT_VID (fun n => n = 4095) v x) x
  let was := s.fld fNET_PLANEx_CFG_IPV4 x
  let s := s.regPlain .NET_PLANEx_CFG (fNET_PLANEx_CFG_IPV4.into v was) x
  if fNET_PLANEx_CFG_IPV4.of v = was then s else s.ipv4Write x (fNET_PLANEx_CFG_IPV4.of v)

/-- Word 0 of a receive descriptor (R497): while EN = 1 only EN changes. -/
def State.rxWord0 (s : State) (i v : Nat) : State :=
  let en := decide (fSTRM_RXs_EN.of v = 1)
  if s.flag fSTRM_RXs_EN i then (if en then s else s.rxDisable i)
  else
    let v := s.keep fSTRM_RXs_FMT (fun x => x = 3) v i
    let v := s.keep fSTRM_RXs_PTIME (fun x => decide (4 < x)) (s.keep fSTRM_RXs_CHANS (fun x => decide (64 < x)) v i) i
    let s := s.regPlain .STRM_RXs_W0 (fSTRM_RXs_EN.into v 0) i
    if en then s.rxEnable i else s

/-- Word 0 of a transmit descriptor (R497). -/
def State.txWord0 (s : State) (i v : Nat) : State :=
  let en := decide (fSTRM_TXs_EN.of v = 1)
  if s.flag fSTRM_TXs_EN i then (if en then s else s.txDisable i)
  else
    let v := s.keep fSTRM_TXs_FMT (fun x => x = 3) v i
    let v := s.keep fSTRM_TXs_PTIME (fun x => decide (4 < x)) (s.keep fSTRM_TXs_CHANS (fun x => decide (64 < x)) v i) i
    let s := s.regPlain .STRM_TXs_W0 (fSTRM_TXs_EN.into v 0) i
    if en then s.txEnable i else s

/-- A byte range of the Cistern touches bank `k`. -/
def spanInBank (k a n : Nat) : Bool := n != 0 && decide (a < (k + 1) * 0x80000) && decide (k * 0x80000 < a + n)

/-- A bank holds a slot region, window or staging slot of the graph (R402). -/
def State.bankInGraph (s : State) (k : Nat) : Bool :=
  s.regs.any (fun e => keyId e.1 = fBUF_LEN.id &&
    (let n := keyI e.1; let b := keyJ e.1
     decide (2 ≤ s.fld fBUF_KIND n b) && spanInBank k (s.fld fBUF_CIS n b * 512) (s.bSlots n b * s.fld fBUF_LEN n b * 4))) ||
  s.regs.any (fun e => keyId e.1 = fDCIS_STR_EN.id && spanInBank k (s.fld fDCIS_STR_CIS (keyI e.1) * 512) (s.strSlots (keyI e.1) * s.strWords (keyI e.1) * 4))

/-- CIS_BANKk_CTRL (R393, R402): a write from a master other than those of R393 is ignored and sets HO_ERR. -/
def State.bankCtrl (s : State) (master k v : Nat) : State :=
  let s := s.put fCIS_BANKk_CTRL_HO_ERR (fCIS_BANKk_CTRL_HO_ERR.write (s.fld fCIS_BANKk_CTRL_HO_ERR k) (fCIS_BANKk_CTRL_HO_ERR.of v)) k
  if !s.bankWriter master k then s.put fCIS_BANKk_CTRL_HO_ERR 1 k
  else
    let s := s.put fCIS_BANKk_CTRL_FAB_WR (fCIS_BANKk_CTRL_FAB_WR.of v) k
    let ret := fCIS_BANKk_CTRL_RET.of v
    let s := if ret = 1 && !s.flag fCIS_BANKk_CTRL_RET k && s.bankInGraph k then s.put fCIS_BANKk_CTRL_HO_ERR 1 k
      else s.put fCIS_BANKk_CTRL_RET ret k
    let new := fCIS_BANKk_CTRL_NEW_OWNER.of v
    if fCIS_BANKk_CTRL_REQ.of v = 1 then s.handoverReq master k new
    else if s.flag fCIS_BANKk_CTRL_PENDING k then s else s.put fCIS_BANKk_CTRL_NEW_OWNER new k

/-- DCIS_CFG (R403, R405): accepted in stage 2; the first enable starts training and sets INSTALLED and USABLE. -/
def State.dcisCfg (s : State) (v : Nat) : State :=
  let v := s.keep fDCIS_CFG_RATE (fun x => x = 3) v
  let v := s.keep fDCIS_CFG_CHANNELS (fun x => x = 0 || x = 2) (s.keep fDCIS_CFG_DENSITY (fun x => decide (4 < x)) v)
  let t := s.regPlain .DCIS_CFG v
  if s.fld fSYS_BOOT_STATUS_STAGE != 2 || decide (128 < t.dcisInstalled) then s
  else if t.flag fDCIS_CFG_EN && s.dcisState = 0 then
    ((t.put fDCIS_STATUS_STATE 1).put fDCIS_STATUS_INSTALLED t.dcisInstalled).put fDCIS_STATUS_USABLE (t.dcisInstalled * 7 / 8)
  else t

/-- DCIS_REGIONr (R406): a region that would overlap another, exceed the usable capacity, or move a kept one outside stage 2
is ignored. -/
def State.dcisRegion (s : State) (r v : Nat) : State :=
  let v := s.keep fDCIS_REGIONr_KIND (fun x => decide (6 < x)) v r
  let kind := fDCIS_REGIONr_KIND.of v
  let size := if kind = 0 then 0 else fDCIS_REGIONr_SIZE.of v
  let base := fDCIS_REGIONr_BASE.of v
  let clash := (List.range 8).any (fun q => q != r && s.flag fDCIS_REGIONr_KIND q && size != 0 &&
    decide (base < s.fld fDCIS_REGIONr_BASE q + s.fld fDCIS_REGIONr_SIZE q) && decide (s.fld fDCIS_REGIONr_BASE q < base + size))
  let kept := s.flag fDCIS_REGIONr_KEEP r && s.fld fSYS_BOOT_STATUS_STAGE != 2
  if clash || decide (s.fld fDCIS_STATUS_USABLE * 64 < base + size) || kept then s
  else ((s.regPlain .DCIS_REGIONr v r).put fDCIS_REGIONr_KEEP (if kind = 1 || kind = 2 then 1 else 0) r).setRecOk

/-- A word of a Deep Cistern stream descriptor (R407 to R409): written only while EN = 0, except EN itself. -/
def State.dcisWord (s : State) (r : Reg) (i v : Nat) : State :=
  if s.flag fDCIS_STR_EN i then (if r = .DCIS_STR_W0 && fDCIS_STR_EN.of v = 0 then s.put fDCIS_STR_EN 0 i else s)
  else if r = .DCIS_STR_W0 then
    let t := s.regPlain r (s.keep fDCIS_STR_SLOTS (fun x => decide (8 < x)) v i) i
    let ok := (if t.flag fDCIS_STR_DIR i then decide (2 ≤ t.fld fDCIS_STR_SLOTS i) && decide (3 * s.sys.blk ≤ t.fld fDCIS_STR_OFFSET i)
        else decide (3 ≤ t.fld fDCIS_STR_SLOTS i)) && decide (t.deepRate t.rxOn ≤ t.deepLimit)
    if t.flag fDCIS_STR_EN i && !ok then t.put fDCIS_STR_EN 0 i else t
  else s.regPlain r v i

/-! ### A write of a register -/

/-- What a write of the word `v` to register `r` of indices `i`, `j` by `master` does, access checks passed (R12, R680). -/
def State.regDo (s : State) (master : Nat) (r : Reg) (i j v : Nat) : State :=
  match r with
  | .SYS_PWR_CTRL => s.pwrWrite (fSYS_PWR_CTRL_KEY.of v) (fSYS_PWR_CTRL_TARGET.of v) (fSYS_PWR_CTRL_STBY_GPIO.of v)
  | .SYS_RESET_CTRL => s.resetCtrl v
  | .SYS_CTRL => if fSYS_CTRL_KEY.of v = 0x96 && v.testBit 0 then s.put fSYS_CTRL_REMAP 1 else s
  | .FAB_CTRL => s.dbgWrite v
  | .FAB_TGTt_CTRL => if targetOk i then s.regPlain r (s.keep fFAB_TGTt_CTRL_PARK (fun x => !masterOk x) v i) i else s
  | .EVT_CFGe => if (evtDefault i).isNone then s else s.regPlain r v i
  | .TIM_CTRL => s.timCtrl v
  | .TIM_SNAP_CTRL => if v.testBit 0 then s.takeSnapshot else s
  | .TIM_Dn_CFG => s.timDom i v
  | .TIM_PORTn_ASYM => s.corrWrite i (fTIM_PORTn_ASYM_CORR.of v)
  | .REF_RPLL_STATUS => s.rpllStatus v
  | .REF_CTRL => s.refCtrl v
  | .REF_LIMITS => s.refLimits v
  | .REF_CANDn_CFG => s.refCand i v
  | .REF_CANDn_FREQ => s.refFreq i v
  | .REF_PULSEn_CTRL => s.pulseCtrl i v
  | .REF_PULSEn_OFS => s.pulseOfs i v
  | .HLTH_CTRL => s.regPlain r (fHLTH_CTRL_ERR_WIN.clamp 1 168 (fHLTH_CTRL_PASS.clamp 1 24 v))
  | .HLTH_RETIRE => if fHLTH_RETIRE_KEY.of v = 0xE7 then s.retire (fHLTH_RETIRE_KIND.of v) (fHLTH_RETIRE_SITE.of v) else s
  | .SIPH_CTRL => s.siphCtrl v
  | .WELLm_CFG => s.wellCfgWrite i v
  | .WELLm_CODE => s.wellCodeWrite i v
  | .WELL_GENg_CFG => s.genWrite i none v
  | .WELL_GENg_STEPk => s.genWrite i (some j) v
  | .TDMn_CFG => s.tdmCfgWrite i v
  | .TDMn_MASK_IN => s.tdmMaskWrite i false v
  | .TDMn_MASK_OUT => s.tdmMaskWrite i true v
  | .TDM_START => s.tdmStart v s.paired
  | .TDM_STOP => s.tdmStop v
  | .NET_PORTp_CFG => s.netPort i v
  | .NET_PLANEx_CFG => s.netPlane i v
  | .NET_SW_CTRL => s.regPlain r (fNET_SW_CTRL_AGE.clamp 10 4095 v)
  | .STRM_RXs_W0 => s.rxWord0 i v
  | .STRM_RXs_W1 | .STRM_RXs_W2 | .STRM_RXs_W3 => if s.flag fSTRM_RXs_EN i then s else s.regPlain r v i
  | .STRM_TXs_W0 => s.txWord0 i v
  | .STRM_TXs_W1 | .STRM_TXs_W2 | .STRM_TXs_W3 => if s.flag fSTRM_TXs_EN i then s else s.regPlain r v i
  | .CIS_BANKk_CTRL => s.bankCtrl master i v
  | .DCIS_CFG => s.dcisCfg v
  | .DCIS_REGIONr => s.dcisRegion i v
  | .DCIS_STR_W0 | .DCIS_STR_W1 | .DCIS_STR_W2 | .DCIS_STR_W3 => s.dcisWord r i v
  | .CLUn_ARITH_CTRL =>
    if fCLUn_ARITH_CTRL_KEY.of v = 0xC3 && v.testBit 0 && decide (fCLUn_ARITH_CTRL_INJ_LANE.of v ≤ 8) then
      { s with pump := { s.pump with inj := nset false s.pump.inj (laneKey i (fCLUn_ARITH_CTRL_INJ_LANE.of v)) true } }
    else s
  | .PUMPn_CMD => s.hostPump (fPUMPn_CMD_OP.of v) i (fPUMPn_CMD_SLOT.of v) (fPUMPn_CMD_BIT.of v)
  | .PUMPn_TIMERk => if decide (29 < fPUMPn_TIMERk_BIT.of v) then s else s.regPlain r v i j
  | .TASK_W0 => s.writeTaskWord i j 0 v
  | .TASK_W1 => s.writeTaskWord i j 1 v
  | .TASK_W2 => s.writeTaskWord i j 2 v
  | .TASK_W3 => s.writeTaskWord i j 3 v
  | _ => s.regPlain r v i j

/-- Registers whose writes can change the outputs, so that in a pair they travel in the ledger (R505, R556). -/
def inLedger (r : Reg) : Bool :=
  match r with
  | .WELLm_CFG | .WELLm_CODE | .WELL_GENg_CFG | .WELL_GENg_STEPk | .TDMn_CFG | .TDMn_MASK_IN | .TDMn_MASK_OUT | .TDM_START | .TDM_STOP
  | .NET_PORTp_CFG | .NET_PORTp_STATUS | .NET_PLANEx_CFG | .NET_PLANEx_GW | .NET_QOS | .NET_SW_CTRL | .NET_EDGEe_MAP
  | .STRM_RXs_W0 | .STRM_RXs_W1 | .STRM_RXs_W2 | .STRM_RXs_W3 | .STRM_TXs_W0 | .STRM_TXs_W1 | .STRM_TXs_W2 | .STRM_TXs_W3
  | .DCIS_STR_W0 | .DCIS_STR_W1 | .DCIS_STR_W2 | .DCIS_STR_W3 | .PUMPn_TIMERk => true
  | _ => false

/-- A register write as the register space takes it, through the ledger where R556 asks for it. -/
def State.regPost (s : State) (master : Nat) (r : Reg) (i j v : Nat) : State :=
  if s.paired && inLedger r && (master = 0x3A || master = 0x3B) then s.submit (.regWrite (regAddr r i j) v) else s.regDo master r i j v

/-- A register write of the ledger at its boundary (R558). -/
def State.regApply (s : State) (a v : Nat) : State :=
  match regAt a with
  | some (r, i, j, _) => s.regDo 0x3A r i j v
  | none => s

/-! ### Access checks (R418, R680 to R682, R684) -/

/-- The cluster site whose window slot or register block an address falls in. -/
def siteOfAddr (a : Nat) : Option Nat :=
  if 0x11000000 ≤ a ∧ a < 0x11240000 then some ((a - 0x11000000) / 0x10000)
  else if 0x12000000 ≤ a ∧ a < 0x12240000 then some ((a - 0x12000000) / 0x10000)
  else if 0x20000000 ≤ a ∧ a < 0x22400000 then some ((a - 0x20000000) / 0x100000)
  else none

/-- Cause with which an access of a cluster site's window or blocks is refused, 0 if it is not (R380, R437, R585, R682). -/
def State.siteCause (s : State) (master n : Nat) : Nat :=
  if bit s.sys.cluReset n then 6
  else if !s.siteClocked n || (s.hlth.spareTest = some (true, n) && master != 0x39) then 5
  else 0

/-- The registers of the control processor complex, the debug unit and the flash controller (R681). -/
def hiddenRegs (a : Nat) : Bool := (decide (0x10020000 ≤ a) && decide (a < 0x10040000)) || (decide (0x10000100 ≤ a) && decide (a < 0x10000200))

/-- Cause with which register space refuses an access at byte address `a`, 0 if it does not. -/
def State.spaceCause (s : State) (master a : Nat) : Nat :=
  if master = 0x3B && !(decide (0x10000000 ≤ a) && decide (a < 0x10000030)) then 4
  else if hiddenRegs a then (if master = 0x3A || master = 0x3C then 0 else 4)
  else match siteOfAddr a with
    | some n => s.siteCause master n
    | none => 0

/-- The masters from which a register accepts writes (R439, FAB_CTRL, WELLm_CODE, HLTH_RETIRE, R684). -/
def mayWrite (master : Nat) (r : Reg) (i : Nat) : Bool :=
  match r with
  | .SYS_CTRL | .FAB_CTRL => master = 0x3A
  | .WELLm_CODE | .HLTH_RETIRE => master = 0x3A || master = 0x3C
  | .POST | .BUF_W0 | .BUF_W1 | .BUF_W2 | .BUF_W3 => decide (i < 36) || master = 0x3A
  | _ => true

/-- A write of register word `v` at address `a`, all bytes enabled: the state after it and the cause of an ERROR, 0 for OK. -/
def State.regWrite (s : State) (master a v : Nat) : State × Nat :=
  let c := s.spaceCause master a
  if c != 0 then (s, c)
  else if hiddenRegs a then (s, 0)
  else match regAt a with
    | none => (s, 1)
    | some (r, i, j, o) =>
      if o != 0 || !mayWrite master r i then (s, 4)
      else if (r = .TASK_W0 || r = .TASK_W1 || r = .TASK_W2 || r = .TASK_W3) && decide (1 < s.tState i j) then (s, 7)
      else (s.regPost master r i j v, 0)

/-- The value of field `f` as a read returns it: WO fields read zero, DBG_EN reads 1 with BOOT = 0b101, and HB_OK and PARTNER_SEEN
read 0 once 10 µs have passed since the last edge and the last frame (SIPH_STATUS of spec 16). -/
def State.fldRead (s : State) (f : Fd) (i j : Nat) : Nat :=
  if f.acc = .wo then 0
  else if f = fSIPH_STATUS_HB_OK && decide (s.pair.hbRx + 12288 ≤ s.tim.cnt) then 0
  else if f = fSIPH_STATUS_PARTNER_SEEN && decide (s.pair.frameAt + 12288 ≤ s.tim.cnt) then 0
  else if f = fFAB_CTRL_DBG_EN && s.fld fSYS_STRAP_BOOT = 5 then 1
  else s.fld f i j

/-- The value of a register as a read returns it (R12, R680). TIM_DIFF and TIM_COUNT_LO follow the timescales. -/
def State.regVal (s : State) (r : Reg) (i j : Nat) : Nat :=
  let s := if r = .TIM_DIFF then s.timRefresh else if r = .TIM_COUNT_LO then s.latchCount else s
  if (r = .EVT_CFGe && (evtDefault i).isNone) || (r = .FAB_TGTt_CTRL && !targetOk i) then 0
  else r.layout.foldl (fun w f => w + s.fldRead f i j * 2 ^ f.lo) 0

/-- The master may reach register space (R418). -/
def State.mayRegs (s : State) (master : Nat) : Bool :=
  [0x39, 0x3A, 0x3B].contains master || (master = 0x3C && s.dbgOn)

/-- REGISTER_WRITE (R12, R680 to R685): one write of a whole register by a master. -/
def execRegisterWrite (master addr : Nat) (value : BitVec 64) (s : State) : Host.Outcome State Fault Refusal :=
  .next (s.when (s.live && masterOk master) fun s =>
    let r := if !s.mayRegs master then (s, 4)
      else if s.decodeAddr addr != some 2 then (s, 1) else s.regWrite master addr value.toNat
    if r.2 = 0 then r.1 else r.1.fabError master r.2 addr)

/-- REMAP_SET (R438, R439): a keyed write of REMAP = 1, which only the control processor may make. -/
def execRemapSet (master key : Nat) (s : State) : Host.Outcome State Fault Refusal :=
  .next (s.when (s.live && masterOk master) fun s =>
    if master != 0x3A then s.fabError master 4 0x10000014
    else if key = 0x96 then s.put fSYS_CTRL_REMAP 1 else s)

end Sys2Proof.Machine
end

