-- ==== Sys2Proof/Machine/Dictionary.lean ====
section
/-! DEFINITION. Reading and writing objects: the value of every object of the dictionary, computed ones included, what a
WRITE of each does, and with which status it is refused (R605 to R616, R625 and the object tables of every chapter). -/

namespace Sys2Proof.Machine

open Sys2Proof

/-! ### Computed values -/

/-- The 40-byte record of an open session (R628). -/
def State.sessionBytes (s : State) (x : Session) : List Byte :=
  let sec (t : Nat) : Nat := (s.tim.cnt - t) / s.corePerSec
  leBytes 8 x.num ++ leBytes 1 x.role ++ [0, 0, 0] ++ leBytes 4 x.addr ++ leBytes 2 x.port ++ leBytes 2 x.subs.length ++
  leBytes 4 (min (sec x.lastMsg) (2 ^ 32 - 1)) ++ leBytes 4 x.badMac ++ [0, 0, 0, 0] ++ leBytes 8 (sec x.opened)

/-- Element `e` of the session table: network sessions in the order in which they opened, then the SPI session (log
entry 52). -/
def State.sessionElem (s : State) (e : Nat) : List Byte :=
  let x := if e = 32 then s.pop.sessions.find? (fun x => x.spi) else (s.pop.sessions.filter (fun x => !x.spi))[e]?
  match x with
  | some x => s.sessionBytes x
  | none => List.replicate 40 0

/-- The 48 bytes of an event record (R645). -/
def recBytes (r : EvRec) : List Byte :=
  leBytes 1 r.num ++ leBytes 1 r.prio ++ leBytes 1 r.role ++ leBytes 1 (if r.cont then 1 else 0) ++ leBytes 4 r.seq ++ leBytes 8 r.root ++
  leBytes 8 (r.e / 2 ^ 32) ++ leBytes 4 r.e ++ leBytes 4 r.block ++ padArgs r.args

/-- The records that the recorder region holds. -/
def State.recHeld (s : State) : List EvRec := s.evt.store.filterMap (fun e => e.2)

/-- The oldest SEQ that the recorder holds, NEXT where it holds none. -/
def State.recOldest (s : State) : Nat :=
  match minBy (fun (a b : EvRec) => decide ((s.evt.seq + 2 ^ 32 - b.seq) % 2 ^ 32 < (s.evt.seq + 2 ^ 32 - a.seq) % 2 ^ 32)) s.recHeld with
  | some r => r.seq
  | none => s.evt.seq

/-- The last Press record (R375). -/
def State.pressBytes (s : State) : List Byte :=
  let c := s.scene
  leBytes 8 c.lastBlock ++ leBytes 8 (unsx 64 c.lastMedia) ++ leBytes 4 c.lastScene ++ leBytes 4 c.lastEntries ++ leBytes 1 c.lastStatus ++
  leBytes 1 c.lastKind ++ [0, 0, 0, 0, 0, 0]

/-- The latest Sounding result of a feed (object 0x9100.10). -/
def State.soundBytes (s : State) (f : Nat) : List Byte :=
  let x := s.line f
  leBytes 1 x.state ++ leBytes 2 (satBits 16 x.d) ++ leBytes 2 (satBits 16 x.phi) ++ leBytes 2 (satBits 16 x.g) ++ leBytes 8 x.frame

/-- State of a detector (R316). -/
def State.detState (s : State) (kind n : Nat) : Nat := (nget ({} : Det) s.route.dets (4096 * kind + n)).state

/-- The value of a computed object in its POP type, `none` where the element holds none (R31, R176, R334, R374, R412, R567,
R603, R612, R613, R638, R659, R675). -/
def State.objCalc (s : State) (idx sub elem : Nat) : Option PVal :=
  let num (n : Nat) : Option PVal := some (.num n)
  let raw (b : List Byte) : Option PVal := some (.bytes b)
  match idx, sub with
  | 0x0001, 1 => raw (txt "Hernaxon")
  | 0x0001, 2 => raw (txt "PM-4096")
  | 0x0001, 3 => raw (txt "A1")
  | 0x0001, 4 => num 0x00A1
  | 0x0001, 5 => num s.fwWord
  | 0x0001, 6 => raw (Config.serialNumber.take 32)
  | 0x0001, 7 => num (s.fld fNET_PLANEx_MAC_VALUE)
  | 0x0001, 0x10 => num s.configDigest
  | 0x0001, 0x20 => raw s.consistency
  | 0x1000, 4 => num s.pop.sessions.length
  | 0x1000, 5 => raw (s.sessionElem elem)
  | 0x1010, 5 => num ((List.range 4).foldl (fun n r => if ampUsed (s.objBytes 0x1010 (r + 1) 0) then n + 2 ^ r else n) 0)
  | 0x1100, 1 => raw (match s.pop.roster[elem]? with | some p => s.peerBytes p | none => List.replicate 52 0)
  | 0x2000, 1 => num s.family
  | 0x2000, 2 => num s.sys.rateClass
  | 0x2000, 3 => num s.fs
  | 0x2210, 1 => num (time96 (s.now s.tim.eng))
  | 0x2210, 5 => raw s.domainIdent
  | 0x3100, 1 => raw (s.strmBytes false elem)
  | 0x3200, 1 => raw (s.strmBytes true elem)
  | 0x3200, 2 => raw (s.txSdp elem)
  | 0x3300, 0x10 => raw (match s.net.sap[elem]? with | some e => e.text | none => [])
  | 0x5000, 1 => num s.sys.blk
  | 0x5100, 0x11 => num (s.routeStatus (sinkOf 1 elem))
  | 0x5100, 0x12 => num (s.routeStatus (sinkOf 2 elem))
  | 0x5100, 0x13 => num (s.routeStatus (sinkOf 3 elem))
  | 0x5100, 0x14 => num (s.routeStatus (sinkOf 4 elem))
  | 0x5500, 0x10 => num (nget 0 s.route.reduction elem)
  | 0x5600, 0x11 => num (s.detState 0 elem)
  | 0x5600, 0x12 => num (s.detState 1 elem)
  | 0x5600, 0x13 => num (s.detState 2 elem)
  | 0x7000, 1 => num s.scene.vat.length
  | 0x7000, 2 => num s.vatState
  | 0x7000, 3 => num s.pendingDigest
  | 0x7000, 4 => num s.scene.counter
  | 0x7000, 5 => raw s.pressBytes
  | 0x7020, 1 => num s.scene.tags.length
  | 0x8000, 2 => num s.pair.node
  | 0x9000, 3 => num (unsx 32 (nget 0 s.hlth.mon elem))
  | 0x9010, 2 => raw (s.flash.retired.flatMap (fun r => leBytes 1 r.kind ++ leBytes 1 r.cause ++ [0, 0] ++ leBytes 4 r.site ++ leBytes 8 r.sec))
  | 0x9100, 0x10 => raw (s.soundBytes elem)
  | 0x9120, 1 => raw s.hlth.nightly
  | 0xF020, 0x10 => (s.recHeld.find? (fun r => r.seq = elem)).map (fun r => .bytes (recBytes r))
  | 0xF020, 0x11 => num s.recOldest
  | 0xF020, 0x12 => num s.evt.seq
  | 0xF030, 1 => num s.tim.actBlk
  | 0xF030, 2 => num s.tim.actMask
  | 0xF030, 3 => num s.tim.actTick
  | _, 0x20 =>
    if 0x2100 ≤ idx && idx < 0x2108 then num (unsx 64 ((s.cand (idx - 0x2100)).ofs64 - (s.cand elem).ofs64)) else none
  | _, 0x10 =>
    if 0x5E00 ≤ idx && idx < 0x5E24 then
      raw (leBytes 8 (s.word .STAT_W0 (idx - 0x5E00) elem) ++ leBytes 8 (s.word .STAT_W1 (idx - 0x5E00) elem))
    else none
  | _, _ => none

/-- The committed value of an element in its POP type, as a READ returns it (R606, R607, R613, R639). -/
def State.objRead (s : State) (r : ObjRow) (idx sub elem : Nat) : Option PVal :=
  let i := if r.byElem then elem else idx - r.i0
  let j := if r.byElem then 0 else elem
  match r.src with
  | .own =>
    if idx = 0x1200 then some (.bytes ((s.objBytes 0x1200 1 elem).take 8 ++ List.replicate 32 0))
    else some (toPopVal r (s.objVal r idx sub elem))
  | .fld _ f => some (toPopVal r (.num (if r.ty = .i32 then unsx 32 (sx f.width (s.fldRead f i j)) else s.fldRead f i j)))
  | .reg g => some (.num (if g = .WELL_GENg_CFG then s.regVal g i j / 2 ^ 24 * 2 ^ 24 else s.regVal g i j))
  | .calc => s.objCalc idx sub elem

/-! ### Writes -/

/-- The word of a register's RW fields as they stand: the ground on which a mirrored field is written. -/
def State.rwWord (s : State) (g : Reg) (i j : Nat) : Nat :=
  g.layout.foldl (fun w f => if f.acc = .rw || f.acc = .rws then w + s.fld f i j * 2 ^ f.lo else w) 0

/-- STATUS, DETAIL and the stored form of a value written to or staged for an element (R606, R610, R625, R292). A DETAIL of a
RANGE refusal is the element. A descriptor with EN = 1 takes only a value with EN = 0, which disables it. -/
def State.objCheck (s : State) (r : ObjRow) (idx sub elem : Nat) (v : PVal) : Nat × Nat × PVal :=
  match s.objAccept r idx sub v with
  | none => (6, elem, v)
  | some w =>
    match r.src, w with
    | .own, .num n =>
      let why := if idx = 0x5100 then s.routeReason (sub = 1) n else 0
      if why != 0 then (8, why, w) else (0, 0, w)
    | .own, .bytes _ => if idx = 0x3100 && sub = 2 && s.flag fSTRM_RXs_EN elem then (7, 0, w) else (0, 0, w)
    | .fld _ f, .num n => if 2 ^ f.width ≤ n || !fieldRange f n then (6, elem, w) else (0, 0, w)
    | .fld _ _, .bytes _ => (0, 0, w)
    | .reg g, .num n => if g.layout.all (fun f => fieldRange f (f.of n)) then (0, 0, w) else (6, elem, w)
    | .reg _, .bytes _ => (0, 0, w)
    | .calc, .bytes b =>
      let en := if idx = 0x3100 then s.flag fSTRM_RXs_EN elem else s.flag fSTRM_TXs_EN elem
      let w0 := ofLeBytes (b.take 8)
      let enNew := if idx = 0x3100 then fSTRM_RXs_EN.of w0 else fSTRM_TXs_EN.of w0
      let l := if idx = 0x3100 then Reg.STRM_RXs_W0.layout else Reg.STRM_TXs_W0.layout
      if en && enNew = 1 then (7, 0, w) else if l.all (fun f => fieldRange f (f.of w0)) then (0, 0, w) else (6, elem, w)
    | .calc, .num _ => (0, 0, w)

/-- The value `v`, accepted by `objCheck`, put in force at an object that is not STG. -/
def State.objStore (s : State) (r : ObjRow) (idx sub elem : Nat) (v : PVal) : State :=
  let i := if r.byElem then elem else idx - r.i0
  let j := if r.byElem then 0 else elem
  match r.src, v with
  | .own, .bytes b =>
    if idx = 0x3100 then s.sdpWrite elem b
    else
      let s := s.setObj idx sub elem v
      if idx = 0x1100 then s.syncAmps else if idx = 0x9100 then s.raise 155 [a16 elem] else s
  | .own, .num _ => s.setObj idx sub elem v
  | .fld g f, .num n => s.regDo 0x3A g i j (f.into (s.rwWord g i j) n)
  | .reg g, .num n =>
    if g = .WELL_GENg_CFG then
      -- every field but AMP, whose glide goes on (R530)
      let t := s.regDo 0x3A g i j (fWELL_GENg_CFG_AMP.into n (s.fld fWELL_GENg_CFG_AMP i))
      { t with scene := { t.scene with gains := s.scene.gains } }
    else s.regDo 0x3A g i j n
  | .calc, .bytes b =>
    let w (k : Nat) : Nat := ofLeBytes ((b.drop (8 * k)).take 8)
    let l : List (Reg × Nat) := if idx = 0x3100 then
        [(.STRM_RXs_W1, w 1), (.STRM_RXs_W2, w 2), (.STRM_RXs_W3, w 3), (.STRM_RXs_W0, w 0)]
      else [(.STRM_TXs_W1, w 1), (.STRM_TXs_W2, w 2), (.STRM_TXs_W3, w 3), (.STRM_TXs_W0, w 0)]
    forL l (fun e s => s.regDo 0x3A e.1 elem 0 e.2) s
  | _, _ => s

/-- The object is pair-local: neither a ledger input nor part of the digest (R567). -/
def pairLocal (idx sub : Nat) : Bool :=
  (idx = 0x1000 && sub = 1) || (idx = 0x8010 && decide (1 ≤ sub) && decide (sub ≤ 6)) ||
    ((idx = 0x3010 || idx = 0x3011) && (sub = 1 || sub = 2 || sub = 3 || sub = 6))

end Sys2Proof.Machine
end

