-- ==== Sys2Proof/Machine/Boot.lean ====
section
/-! DEFINITION. The staged start after the safe stage (spec 02): the boot ROM and its checks, the startup configuration, the
retirement record, and the commit of a boot-flash write. -/

namespace Sys2Proof.Machine

open Sys2Proof

/-- The checks of R71 on an image, its commit marker and checksum apart. -/
def State.imageOk (s : State) (f : FwSlot) : Bool :=
  f.sigOk && decide (s.flash.antiRollback ≤ f.secVersion) && f.stepping = 0x00A1

/-- Slots in the order in which the boot ROM tries them (R71): the valid ones, the higher firmware version first; slot A first
of two equal ones (log entry 53). -/
def Flash.order (f : Flash) : List (Nat × FwSlot) :=
  let both := if f.fwA.fwVersion < f.fwB.fwVersion then [(1, f.fwB), (0, f.fwA)] else [(0, f.fwA), (1, f.fwB)]
  both.filter (fun e => e.2.valid)

/-- An object that keeps its value at an Engine Reset (R609). -/
def warmKeeps (idx : Nat) : Bool :=
  (decide (0x2100 ≤ idx) && decide (idx < 0x2130)) || (decide (0x2200 ≤ idx) && decide (idx < 0x2240)) || (decide (0x4100 ≤ idx) && decide (idx < 0x4120))

/-- One value of the startup configuration takes effect (R56, R609): an RW object as a write of it, an STG object as its committed
value. A value that its object refuses is passed over. -/
def State.bootValue (s : State) (e : SceneEntry) : State :=
  match s.objRow e.idx e.sub with
  | none => s
  | some r =>
    if s.sys.warm && warmKeeps e.idx then s
    else
      match s.objCheck r e.idx e.sub e.elem e.val with
      | (0, _, v) => if r.acc = .stg then s.commitVal (objKey e.idx e.sub e.elem) v else if r.acc = .ro then s else s.objStore r e.idx e.sub e.elem v
      | _ => s

/-- The rate class and B of the startup configuration (R30, R140): at the next block boundary when the sample count runs. -/
def State.bootRates (s : State) (cls b : Nat) : State :=
  if s.tim.running then
    (if s.sys.rateClass = cls && s.sys.blk = b then s else { s with tim := { s.tim with restart := some (cls, b) } })
  else { s with sys := { s.sys with rateClass := cls, blk := b } }

/-- The firmware starts from image `f` (R30, R68): SEC_VERSION, STAGE 2, the startup configuration of the slot with the higher
number that is valid, or base rate and B = 16 without one. -/
def State.startFirmware (s : State) (f : FwSlot) : State :=
  let s := (s.put fSYS_BOOT_STATUS_SEC_VERSION f.secVersion).setStage 2
  let cfg := (s.flash.cfgs.filter (fun c => c.valid)).getLast?
  let s : State := { s with sys := { s.sys with fwRunning := true, image := f, cfg := cfg } }
  let s := if s.clocked && !s.pair.hbRun then s.hbStart else s
  match cfg with
  | none => s.bootRates 0 16
  | some c => forL c.values (fun e s => s.bootValue e) (s.bootRates c.rateClass c.blk)

/-- No image passes: STAGE = 0xF, and event 3 (R72). -/
def State.recovery (s : State) : State :=
  let s := s.setStage 0xF
  s.raise 3 [a32 (s.word .SYS_BOOT_STATUS)]

/-- The failed-signature bit of a firmware slot. -/
def sigFailFd (slot : Nat) : Fd := if slot = 0 then fSYS_BOOT_STATUS_SIG_FAIL_A else fSYS_BOOT_STATUS_SIG_FAIL_B

/-- BOOT_ROM_VERIFY (R71, R72): the slots are tried in turn; the first that passes starts. -/
def execBootRomVerify (s : State) : Host.Outcome State Fault Refusal :=
  .next (s.when (s.up && !s.sys.engReset && !s.sys.fwRunning && s.fld fSYS_BOOT_STATUS_STAGE = 1 && decide (s.fld fSYS_STRAP_BOOT ≤ 2)) fun s =>
    let tries := s.flash.order
    let bad := tries.takeWhile (fun e => !s.imageOk e.2)
    let s := forL bad (fun e s => s.put (sigFailFd e.1) 1) s
    match tries.drop bad.length with
    | [] => s.recovery
    | e :: _ =>
      let s := (s.put fSYS_BOOT_STATUS_SLOT e.1).put fSYS_BOOT_STATUS_FALLBACK (if bad.isEmpty then 0 else 1)
      let s := if bad.isEmpty then s
        else if s.eventsOn then s.raise 4 []
        else { s with sys := { s.sys with fallbackDue := true } }
      s.startFirmware e.2)

/-! ### The retirement record (R73, R387, R578) -/

/-- One fewer spare, without a report: the record only restores what was reported when the resource retired. -/
def State.lessSpare (s : State) (f : Fd) : State := s.put f (s.fld f - 1)

/-- A recorded resource is mapped out again. -/
def State.applyRetired (s : State) (r : Retired) : State :=
  let n := r.site
  if r.kind = 2 then
    let s := s.lessSpare fHLTH_SPARES_CLUSTERS
    match s.clusterOf n, s.freeClusters with
    | some k, p :: _ => ((s.put fHLTH_CMAPk_SITE p k).setClocked p true).setClocked n false
    | some _, [] => s.setClocked n false
    | none, _ => s
  else if r.kind = 1 then
    let s := (s.lessSpare fHLTH_SPARES_LANES).put fHLTH_LMAPn_RETIRED (putBit (s.fld fHLTH_LMAPn_RETIRED (n / 16)) (n % 16) true) (n / 16)
    match s.laneOf (n / 16) (n % 16), s.spareLane (n / 16) with
    | some k, some p => s.put fHLTH_LMAPn_LANES (putBits (s.fld fHLTH_LMAPn_LANES (n / 16)) (4 * k + 3) (4 * k) p) (n / 16)
    | _, _ => s
  else if r.kind = 4 then
    let s := s.lessSpare fHLTH_SPARES_BANKS
    match s.bankOf n, s.freeBanks with
    | some k, p :: _ => s.put fCIS_BANKk_CTRL_PHYS p k
    | _, _ => s
  else if r.kind = 3 then
    match s.freeRow (n / 66560) (rowSeg (n % 66560)) with
    | some p =>
      let s : State := { s with hlth := { s.hlth with rowMap := nput s.hlth.rowMap n p } }
      let s := match s.bankOf (n / 66560) with | some k => s.incSat fCIS_BANKk_ERR_SPARE_ROWS k | none => s
      s.put fHLTH_SPARES_ROWS_MIN s.rowsMin
    | none => s
  else if r.kind = 5 then s.lessSpare fHLTH_SPARES_SIPH
  else s

/-- RETIREMENT_RECORD_APPLY (R73): the last act of stage 2; every recorded spare is mapped in, clusters first, and STAGE becomes
3. -/
def execRetirementRecordApply (s : State) : Host.Outcome State Fault Refusal :=
  .next (s.when (s.live && s.sys.fwRunning && s.fld fSYS_BOOT_STATUS_STAGE = 2 && !s.familyDue && !s.flag fREF_RPLL_STATUS_SLEWING) fun s =>
    let more := s.hlth.retired.filter (fun r => !s.flash.retired.any (fun x => x.kind = r.kind && x.site = r.site))
    let l := s.flash.retired ++ more
    let s : State := { s with hlth := { s.hlth with retired := l } }
    let s := forL (sortBy (fun r => if r.kind = 2 then 0 else if r.kind = 4 then 1 else 2) l) (fun r s => s.applyRetired r) s
    s.setStage 3)

/-! ### The commit of a boot-flash write (R32, R70, R76) -/

/-- The engine stores a configuration: its graph meets the acceptance rules, and one that leaves a Wellhead channel on the safe
path gives TDM0 what the straps give it. -/
def State.cfgOk (s : State) (c : StartupCfg) : Bool :=
  let w := s.fld fSYS_STRAP_SAFE_WIDTH
  c.graphOk && (c.wellNamed % 256 = 255 ||
    (c.tdm0Role = s.fld fSYS_STRAP_SAFE_ROLE && c.tdm0Width = min w 2 && c.tdm0Offset = (if w = 3 then 1 else 0)
      && c.family = s.fld fSYS_STRAP_SAFE_FAM))

/-- BOOT_FLASH_WRITE_END (R70): the oldest open write gets its commit marker; until then the slot before it stays in use. -/
def execBootFlashWriteEnd (s : State) : Host.Outcome State Fault Refusal :=
  .next (s.when s.up fun s =>
    match s.flash.jobs with
    | [] => s
    | j :: rest =>
      let f : Flash := { s.flash with jobs := rest }
      let ok := match j with | .config c => s.cfgOk c | _ => true
      { s with flash := if ok then f.commit j else f })

end Sys2Proof.Machine
end

