-- ==== Sys2Proof/Machine/Graph.lean ====
section
/-! DEFINITION. Graph acceptance and loading (R221, R283, R284, with R324, R366, R402 and R554), and the startup Press that
follows the first load. -/

namespace Sys2Proof.Machine

open Sys2Proof

/-! ### Valid bundles (R221) -/

/-- A flow slot (R235). -/
def flowOk (w : Nat) : Bool :=
  let f := bits w 11 8
  decide (f ≤ 8) && (!(f = 0 || f = 7 || f = 8) || bits w 7 0 = 0)

/-- An X or Y slot of fourteen bits (R231). -/
def memSlotOk (w : Nat) : Bool :=
  let m := bits w 13 10
  if m = 0 then bits w 9 0 = 0
  else if m = 4 || m = 5 then bits w 5 4 != 3 && bits w 3 2 = 0
  else decide (m ≤ 3)

/-- A MAC slot of 22 bits (R222, R223, R225). -/
def macSlotOk (w : Nat) : Bool :=
  let op := bits w 21 18
  if op = 0 || op = 11 then (if op = 0 then bits w 15 0 = 0 else bits w 11 0 = 0)
  else if op ≤ 3 then bits w 11 6 != 63 && bits w 5 0 != 63
  else if op ≤ 6 then true
  else if op = 7 then bits w 12 0 = 0
  else if op = 8 || op = 9 then decide (bits w 7 2 ≤ 48) && bits w 1 0 = 0
  else if op = 10 then bits w 10 0 = 0
  else false

/-- An ALU slot of 22 bits (R227 to R229). -/
def aluSlotOk (w : Nat) : Bool :=
  let op := bits w 21 17
  let rd := bits w 14 9
  let ra := bits w 8 3
  let cond := bits w 2 0
  decide (op ≤ 0x16) && cond != 7 && (op != 0 || (rd = 0 && ra = 0 && cond = 0))
    && (op != 0x15 || !bit rd 3) && (op != 0x16 || !bit ra 3)

/-- An extended ALU slot, bits 61 to 26 of its bundle (R230). -/
def extSlotOk (w : Nat) : Bool :=
  let op := bits w 61 57
  let ra := bits w 48 43
  let cond := bits w 36 34
  decide (op ≤ 0x14) && cond != 7 && bits w 33 26 = 0 && (op != 0 || (bits w 54 49 = 0 && ra = 0 && cond = 0))
    && (!(op = 3 || op = 4 || op = 5 || op = 9) || ra = 0)

/-- A control slot, bits 61 to 12 of its bundle, with the flow operation beside it (R229, R236). -/
def controlSlotOk (w : Nat) : Bool :=
  let cop := bits w 61 58
  let reg := bits w 57 52
  let imm := bits w 51 20
  let fop := bits w 11 8
  bits w 19 12 = 0 &&
  (if cop = 0 then true
   else if cop = 1 then !bit reg 3
   else if cop = 2 then reg = 0 && bits imm 6 0 = 0 && (fop = 0 || fop = 7)
   else if cop = 3 then bits imm 31 16 = 0 && bits imm 6 0 = 0 && (fop = 0 || fop = 7)
   else if cop = 4 then reg = 0 && bits imm 31 13 = 0 && (fop = 0 || fop = 7)
   else false)

/-- A bundle is valid: no reserved encoding, and every reserved field zero (R219, R221). -/
def bundleOk (w : Nat) : Bool :=
  let c := bits w 63 62
  decide (w < 2 ^ 64) && flowOk (bits w 11 0) &&
  (if c = 2 then controlSlotOk w
   else memSlotOk (bits w 25 12) &&
    (if c = 3 then extSlotOk w
     else memSlotOk (bits w 39 26) && (if c = 0 then macSlotOk (bits w 61 40) else aluSlotOk (bits w 61 40))))

/-- A program image holds no invalid bundle and lies in program memory (R220, R221). -/
def progOk (p : GProg) : Bool := decide (p.base + p.bundles.length ≤ 8192) && p.bundles.all bundleOk

/-! ### Writing a graph -/

/-- Descriptors, post entries and task slots of every cluster, and of the network and TDM blocks, are emptied. -/
def graphField (k : Nat) : Bool := decide (fTASK_ENTRY.id ≤ keyId k) && decide (keyId k ≤ fBUF_RBUF.id)

/-- The words of one task; STATE and FLAGS keep their values (R252). -/
def State.writeTask (s : State) (t : GTask) : State :=
  let st := s.tState t.site t.slot
  let fl := s.fld fTASK_FLAGS t.site t.slot
  let s := (s.setWord .TASK_W0 t.w0 t.site t.slot).setWord .TASK_W1 t.w1 t.site t.slot
  let s := (s.setWord .TASK_W2 t.w2 t.site t.slot).setWord .TASK_W3 t.w3 t.site t.slot
  let s := (s.put fTASK_STATE st t.site t.slot).put fTASK_FLAGS fl t.site t.slot
  { s with pump := { s.pump with costs := nset 0 s.pump.costs (taskKey t.site t.slot) t.cost } }

/-- The words of one buffer descriptor; no slot of it has a consumer outstanding. -/
def State.writeBuf (s : State) (b : GBuf) : State :=
  let s := (s.setWord .BUF_W0 b.w0 b.site b.idx).setWord .BUF_W1 b.w1 b.site b.idx
  (s.setWord .BUF_W2 b.w2 b.site b.idx).put fBUF_PEND 0 b.site b.idx

/-- Program images that hold no invalid bundle become part of the graph image (R221). -/
def State.writeImage (s : State) (p : GProg) : State :=
  if progOk p && decide (p.site < 36) then
    (List.range p.bundles.length).foldl (fun s i =>
      { s with pump := { s.pump with image := nset 0 s.pump.image (8192 * p.site + p.base + i) (p.bundles.getD i 0) } }) s
  else s

/-- The descriptors as they would be after a load, which replaces the graph, or an update, which adds to it. -/
def State.candidate (s : State) (g : Graph) : State :=
  let s := if g.update then s
    else
      let s := s.resetFields graphField
      let s := forL s.pump.sites (fun e s => s.setPumpSt e.1 { tick := e.2.tick }) s
      { s with pump := { s.pump with rt := [], credits := [], egress := [], costs := [], image := [], shed := [] } }
  let s := forL g.tasks (fun t s => s.writeTask t) s
  let s := forL g.bufs (fun b s => s.writeBuf b) s
  let s := forL g.posts (fun p s => s.setWord .POST p.w p.site p.idx) s
  forL g.progs (fun p s => s.writeImage p) s

/-! ### The acceptance rules of R283 -/

/-- A task or buffer of a graph: site and index. -/
abbrev At := Nat × Nat

/-- What acceptance found broken: code, cluster site, slot or buffer index. -/
structure Broken where
  code : Nat
  site : Nat
  idx : Nat
deriving DecidableEq, Repr

/-- Tasks of the resulting graph: those of the command, and for an update the loaded ones. -/
def State.graphTasks (s : State) (g : Graph) : List At :=
  let new := g.tasks.map (fun t => (t.site, t.slot))
  if g.update then
    let old := (s.regs.filter (fun e => keyId e.1 = fTASK_STATE.id)).map (fun e => (keyI e.1, keyJ e.1))
    new ++ old.filter (fun t => !new.contains t)
  else new

/-- Buffers of the resulting graph. -/
def State.graphBufs (s : State) (g : Graph) : List At :=
  let new := g.bufs.map (fun b => (b.site, b.idx))
  if g.update then
    let old := (s.regs.filter (fun e => keyId e.1 = fBUF_LEN.id || keyId e.1 = fBUF_KIND.id)).map (fun e => (keyI e.1, keyJ e.1))
    (new ++ old.filter (fun b => !new.contains b)).eraseDups
  else new

/-- The first element that breaks a rule, as its code, site and index. -/
def firstBad (code : Nat) (l : List At) (ok : At → Bool) : Option Broken :=
  (l.find? (fun a => !ok a)).map (fun a => { code := code, site := a.1, idx := a.2 })

/-- Rule 1: active cluster sites, and table sizes; the network block holds 256 edges and the TDM block 32 (R684). -/
def State.gRule1 (s : State) (g : Graph) (ts bs : List At) : Option Broken :=
  (firstBad 1 ts (fun t => decide (t.1 < 36) && decide (t.2 < 512) && s.siteClocked t.1)).orElse fun _ =>
  (firstBad 1 bs (fun b => if b.1 = 62 then b.2 < 256 else if b.1 = 63 then b.2 < 32 else b.1 < 36 && b.2 < 2048)).orElse fun _ =>
  firstBad 1 (g.posts.map (fun p => (p.site, p.idx)))
    (fun p => if p.1 = 62 then p.2 < 8192 else if p.1 = 63 then p.2 < 1024 else p.1 < 36 && p.2 < 4096)

/-- Rule 2: MASK includes TICK. -/
def State.gRule2 (s : State) (ts : List At) : Option Broken := firstBad 2 ts (fun t => bit (s.fld fTASK_MASK t.1 t.2) 31)

/-- Times that the references `l` of the tasks of `b`'s site name buffer `b`. -/
def State.refCount (s : State) (ts : List At) (l : List Fd) (b : At) : Nat :=
  (ts.filter (fun t => t.1 = b.1)).foldl (fun n t => n + ((s.bufsOf l t.1 t.2).filter (fun x => x = b.2)).length) 0

/-- CIS_IN windows and transmit edges that read the CIS_OUT descriptor `b`. -/
def State.readersOf (s : State) (bs : List At) (b : At) : List At :=
  bs.filter (fun w => s.bKind w.1 w.2 = 3 && s.fld fBUF_RCLU w.1 w.2 = b.1 && s.fld fBUF_RBUF w.1 w.2 = b.2)

/-- Rule 3: one producer of each edge, and CONS counts its consumers; a flag-only edge counts those it notifies. -/
def State.gRule3 (s : State) (ts bs : List At) : Option Broken :=
  firstBad 3 (bs.filter (fun b => s.bKind b.1 b.2 = 1 || s.bKind b.1 b.2 = 2)) (fun b =>
    (decide (36 ≤ b.1) || s.refCount ts refOut b = 1) &&
    (s.bSlots b.1 b.2 = 0 || s.fld fBUF_CONS b.1 b.2 =
      (if s.bKind b.1 b.2 = 1 then s.refCount ts refIn b else (s.readersOf bs b).length)))

/-- Cistern bytes of the slots of a buffer. -/
def State.cisSpan (s : State) (b : At) : Nat × Nat := (s.fld fBUF_CIS b.1 b.2 * 512, s.bSlots b.1 b.2 * s.fld fBUF_LEN b.1 b.2 * 4)

/-- Rule 4: an edge that crosses clusters is a CIS_OUT with one CIS_IN per consuming cluster, its region in the producer's own
banks. A window that names itself belongs to a Deep Cistern stream (R407). -/
def State.gRule4 (s : State) (bs : List At) : Option Broken :=
  (firstBad 4 (bs.filter (fun b => s.bKind b.1 b.2 = 1)) (fun b =>
    (s.postList b.1 b.2 0).all (fun p => fPOST_TYPE.of p.word != 0 || fPOST_CLU.of p.word = b.1 || s.bSlots b.1 b.2 = 0))).orElse fun _ =>
  (firstBad 4 (bs.filter (fun b => s.bKind b.1 b.2 = 3)) (fun b =>
    let p := (s.fld fBUF_RCLU b.1 b.2, s.fld fBUF_RBUF b.1 b.2)
    p = b || (bs.contains p && s.bKind p.1 p.2 = 2 && ((s.readersOf bs p).filter (fun w => w.1 = b.1 && decide (b.1 < 36))).length ≤ 1))).orElse fun _ =>
  firstBad 4 (bs.filter (fun b => s.bKind b.1 b.2 = 2)) (fun b =>
    let r := s.cisSpan b
    (List.range 64).all (fun k => !spanInBank k r.1 r.2 || s.fld fCIS_BANKk_CTRL_OWNER k = b.1))

/-- Rule 5: two slots for a delayed edge and for an ingress edge. -/
def State.gRule5 (s : State) (bs : List At) : Option Broken :=
  firstBad 5 bs (fun b =>
    !(s.bKind b.1 b.2 != 0 && s.flag fBUF_DELAY b.1 b.2 || (decide (36 ≤ b.1) && s.bKind b.1 b.2 = 2)) || decide (2 ≤ s.bSlots b.1 b.2))

/-- One dependency: producer task, consumer task, and the terms of rule 10 between them: the producer's write-back, the post
that crosses, and the fetch. -/
structure Dep where
  src : At
  dst : At
  cost : Nat
deriving DecidableEq, Repr

/-- Tasks that the post list of buffer `b` makes ready for the producer's block, with the cost on the way (R271): posts at once,
fetch requests through their window. Delayed edges carry none (rule 6). -/
def State.gConsumers (s : State) (b : At) (cost : Nat) : List (At × Nat) :=
  let flags (src : Nat) (c : Nat) (x : At) : List (At × Nat) :=
    (s.postList x.1 x.2 0).filterMap (fun p =>
      let clu := fPOST_CLU.of p.word
      let t := (clu, fPOST_INDEX.of p.word)
      if fPOST_TYPE.of p.word = 0 && decide (clu < 36) && bit (s.fld fTASK_MASK t.1 t.2) (fPOST_BIT.of p.word) then
        some (t, c + (if clu = src then 0 else 64)) else none)
  if s.flag fBUF_DELAY b.1 b.2 then []
  else
    flags b.1 cost b ++ (s.postList b.1 b.2 0).flatMap (fun p =>
      let w := (fPOST_CLU.of p.word, fPOST_INDEX.of p.word)
      if fPOST_TYPE.of p.word = 1 && decide (w.1 < 36) && !s.flag fBUF_DELAY w.1 w.2 then
        flags w.1 (cost + (if w.1 = b.1 then 0 else 64) + 48 + s.fld fBUF_LEN w.1 w.2) w
      else [])

/-- The dependencies between tasks. -/
def State.gDeps (s : State) (ts : List At) : List Dep :=
  ts.flatMap (fun t => (s.bufsOf refOut t.1 t.2).flatMap (fun b =>
    let wb := if s.bKind t.1 b = 2 then 48 + s.fld fBUF_LEN t.1 b else 0
    (s.gConsumers (t.1, b) wb).map (fun c => { src := t, dst := c.1, cost := c.2 })))

/-- T_S of R554, with C channels of network receive edges. -/
def State.tS (s : State) (bs : List At) : Nat :=
  let words := (bs.filter (fun b => b.1 = 62 && s.bKind b.1 b.2 = 2)).foldl (fun n b => n + s.fld fBUF_LEN b.1 b.2) 0
  4096 + (16384 * words + 9999) / 10000

/-- Arrivals of ingress blocks at tasks: the post, the fetch, and in a pair T_S for the network's. -/
def State.gIngress (s : State) (bs : List At) : List (At × Nat) :=
  (bs.filter (fun b => decide (36 ≤ b.1) && s.bKind b.1 b.2 = 2)).flatMap (fun b =>
    s.gConsumers b (if b.1 = 62 && s.flag fSIPH_CTRL_PAIR_EN then s.tS bs else 0))

/-- Kernel cost and dispatch charge of a task (R37). -/
def State.planned (s : State) (t : At) : Nat := nget 0 s.pump.costs (taskKey t.1 t.2) + 16

/-- Tasks in an order in which every producer comes before its consumers, with the path time of each up to its end; the second
list is what a cycle leaves. -/
def State.gOrder (s : State) (deps : List Dep) (ing : List (At × Nat)) (fuel : Nat) (done : List (At × Nat)) (left : List At) :
    List (At × Nat) × List At :=
  match fuel with
  | 0 => (done, left)
  | fuel + 1 =>
    match left.find? (fun t => deps.all (fun d => d.dst != t || done.any (fun x => x.1 = d.src))) with
    | none => (done, left)
    | some t =>
      let a := ing.foldl (fun m i => if i.1 = t then max m i.2 else m) 0
      let a := deps.foldl (fun m d => if d.dst = t then max m (((done.find? (fun x => x.1 = d.src)).map (fun x => x.2)).getD 0 + d.cost) else m) a
      s.gOrder deps ing fuel ((t, a + s.planned t) :: done) (left.erase t)

/-- Rule 6: no cycle. -/
def gRule6 (left : List At) : Option Broken := firstBad 6 left (fun _ => false)

/-- Rule 7: references name address registers of their memory, each at most once. -/
def State.gRule7 (s : State) (ts : List At) : Option Broken :=
  firstBad 7 ts (fun t =>
    let rs := (refIn ++ refOut).filterMap (fun f => (refBuf (s.fld f t.1 t.2)).map (fun b => (s.fld f t.1 t.2 / 2 ^ 12 % 8, b)))
    rs.all (fun r => (decide (4 ≤ r.1)) = s.flag fBUF_MEM t.1 r.2) && decide ((rs.map (fun r => r.1)).Nodup))

/-- The word ranges of a buffer in X or Y memory: its slots, and its shadow. -/
def State.xySpans (s : State) (b : At) : List (Nat × Nat) :=
  if 36 ≤ b.1 then []
  else
    let len := s.fld fBUF_LEN b.1 b.2
    let n := if s.bKind b.1 b.2 = 0 then len else s.bSlots b.1 b.2 * len
    (s.fld fBUF_BASE b.1 b.2, n) ::
      (if s.bKind b.1 b.2 = 0 && s.flag fBUF_RETAIN b.1 b.2 then [(s.fld fBUF_SHADOW b.1 b.2, len)] else [])

/-- Two ranges share an element. -/
def spanMeet (a b : Nat × Nat) : Bool := a.2 != 0 && b.2 != 0 && decide (a.1 < b.1 + b.2) && decide (b.1 < a.1 + a.2)

/-- Rule 8: lengths, regions within their memories, and no overlap. -/
def State.gRule8 (s : State) (bs : List At) : Option Broken :=
  firstBad 8 bs (fun b =>
    let xy := s.xySpans b
    let c := s.cisSpan b
    decide (s.fld fBUF_LEN b.1 b.2 ≤ 32768) && xy.all (fun r => decide (r.1 + r.2 ≤ 32768)) &&
    (decide (s.bKind b.1 b.2 < 2) || decide (c.1 + c.2 ≤ 0x2000000)) &&
    bs.all (fun d => d = b ||
      ((d.1 != b.1 || s.fld fBUF_MEM d.1 d.2 != s.fld fBUF_MEM b.1 b.2 || xy.all (fun r => (s.xySpans d).all (fun q => !spanMeet r q))) &&
       (s.bKind b.1 b.2 != 2 || s.bKind d.1 d.2 != 2 || !spanMeet c (s.cisSpan d)))))

/-- Rule 9: consumers have later deadlines than their producers. -/
def State.gRule9 (s : State) (deps : List Dep) : Option Broken :=
  firstBad 9 (deps.map (fun d => d.dst)) (fun t =>
    deps.all (fun d => d.dst != t || decide (s.deadline d.src.1 d.src.2 < s.deadline t.1 t.2)))

/-- Rule 10, with the Press window of R366. -/
def State.gRule10 (s : State) (paths : List (At × Nat)) (ts : List At) : Option Broken :=
  firstBad 10 ts (fun t =>
    let p := ((paths.find? (fun x => x.1 = t)).map (fun x => x.2)).getD 0
    let wb := (s.bufsOf refOut t.1 t.2).foldl (fun m b => if s.bKind t.1 b = 2 then max m (48 + s.fld fBUF_LEN t.1 b) else m) 0
    decide (p + wb + 2 * s.lc ≤ s.deadline t.1 t.2))

/-- Rule 11: no lane above 62.5 % of the block (R36), each task's work shared equally over its AFFINITY. -/
def State.gRule11 (s : State) (ts : List At) : Option Broken :=
  let load (n k : Nat) : Nat := (ts.filter (fun t => t.1 = n && bit (s.fld fTASK_AFFINITY t.1 t.2) k)).foldl (fun w t =>
    w + 840 * s.planned t / ((List.range 8).filter (fun i => bit (s.fld fTASK_AFFINITY t.1 t.2) i)).length) 0
  firstBad 11 ts (fun t => (List.range 8).all (fun k =>
    !bit (s.fld fTASK_AFFINITY t.1 t.2) k || decide (8 * load t.1 k ≤ 840 * 5 * s.blkLen)))

/-- Rule 12: post lists, their targets, and kernel entries. -/
def State.gRule12 (s : State) (g : Graph) (ts bs : List At) : Option Broken :=
  (firstBad 12 (bs.filter (fun b => s.bKind b.1 b.2 != 0)) (fun b =>
    decide (s.fld fBUF_CONS b.1 b.2 ≤ 32) && (s.postList b.1 b.2 0).all (fun p =>
      let ty := fPOST_TYPE.of p.word
      let a := (fPOST_CLU.of p.word, fPOST_INDEX.of p.word)
      if ty = 0 && decide (a.1 < 36) then ts.contains a && decide (fPOST_BIT.of p.word ≤ 29)
      else if ty = 1 then bs.contains a && s.bKind a.1 a.2 = 3
      else ty != 3 && bs.contains a))).orElse fun _ =>
  firstBad 12 ts (fun t =>
    let e := s.fld fTASK_ENTRY t.1 t.2
    g.progs.any (fun p => p.site = t.1 && decide (p.base ≤ e) && decide (e < p.base + p.bundles.length) && progOk p) ||
      (g.update && (!(g.tasks.any (fun x => x.site = t.1 && x.slot = t.2)) ||
        (s.pump.image.any (fun x => x.1 / 8192 = t.1 && decide (x.1 % 8192 ≤ e)) && s.pump.image.any (fun x => x.1 / 8192 = t.1 && decide (e ≤ x.1 % 8192))))))

/-- R402: a region, window or staging slot lies in a bank with RET = 1. -/
def State.gRet (s : State) : Bool := (List.range 64).any (fun k => s.flag fCIS_BANKk_CTRL_RET k && s.bankInGraph k)

/-- R324: a task that produces a source on which WELL_OFF acts has a deadline at least 2,048 cycles before the end of the block. -/
def State.gWellOff (s : State) (serves : List GServe) : Bool :=
  serves.any (fun v =>
    (List.range (v.hi + 1 - v.lo)).any (fun i => s.flag fDET_WELL_OFF v.kind (v.lo + i)) && decide (s.blkLen < s.deadline v.site v.slot + 2048))

/-- The first rule that the candidate breaks. The manual gives R324 and R402 no code. -/
def State.gCheck (s : State) (g : Graph) (serves : List GServe) (ts bs : List At) (code : Nat) : Option Broken :=
  let deps := s.gDeps ts
  let o := s.gOrder deps (s.gIngress bs) ts.length [] ts
  (s.gRule1 g ts bs).orElse fun _ => (s.gRule2 ts).orElse fun _ => (s.gRule3 ts bs).orElse fun _ =>
  (s.gRule4 bs).orElse fun _ => (s.gRule5 bs).orElse fun _ => (gRule6 o.2).orElse fun _ =>
  (s.gRule7 ts).orElse fun _ => (s.gRule8 bs).orElse fun _ => (s.gRule9 deps).orElse fun _ =>
  (s.gRule10 o.1 ts).orElse fun _ => (s.gRule11 ts).orElse fun _ => (s.gRule12 g ts bs).orElse fun _ =>
  if s.gRet || s.gWellOff serves then some { code := code, site := 0, idx := 0 } else none

/-! ### Loading -/

/-- Rule 5: a delayed edge starts with zero words in its slots. -/
def State.zeroDelayed (s : State) (b : GBuf) : State :=
  if s.bKind b.site b.idx != 0 && s.flag fBUF_DELAY b.site b.idx then
    forN (s.bSlots b.site b.idx) (fun sl s =>
      let s := if b.site < 36 then forN (s.fld fBUF_LEN b.site b.idx) (fun i s => s.wrMem (s.slotAddr b.site b.idx sl i) 4 0) s else s
      if s.bKind b.site b.idx = 2 then
        forN (s.fld fBUF_LEN b.site b.idx) (fun i s => s.wrMem (cisAddr (s.cisSlot b.site b.idx sl + 4 * i)) 4 0) s
      else s) s
  else s

/-- The accepted graph takes effect: programs, zeroed delayed edges, the tables that go with it, and LOAD and ARM of its tasks
(R284). -/
def State.installGraph (s : State) (g : Graph) (serves : List GServe) : State :=
  let s := forL (g.progs.filter progOk) (fun p s => (List.range p.bundles.length).foldl (fun s i =>
    s.wrMem (progAddr p.site (p.base + i)) 8 (p.bundles.getD i 0)) s) s
  let s := forL g.bufs (fun b s => s.zeroDelayed b) s
  let r := s.route
  let s : State := { s with route := { r with
    serves := serves
    places := g.places ++ (if g.update then r.places else [])
    params := g.params ++ (if g.update then r.params else [])
    readers := (g.readers ++ (if g.update then r.readers else [])).eraseDups } }
  forL g.tasks (fun t s => ((s.when (s.tState t.site t.slot = 0) fun s => s.pumpLoad t.site t.slot)).pumpArm t.site t.slot) s

/-- Every task that the graph writes, and for a load every task of the engine, is EMPTY or IDLE (R252). -/
def State.graphFree (s : State) (g : Graph) : Bool :=
  g.tasks.all (fun t => decide (s.tState t.site t.slot ≤ 1)) &&
    (g.update || s.regs.all (fun e => keyId e.1 != fTASK_STATE.id || decide (e.2 ≤ 1)))

/-- The scene that the startup Press commits: the startup configuration's, or the last committed one (spec 02, stage 3). -/
def State.startupScene (s : State) : List SceneEntry :=
  match s.sys.cfg with
  | none => []
  | some c => if c.useStore then s.flash.scene else c.scene

/-- GRAPH_LOAD (R283, R284): the control processor checks the whole graph that would result; it loads it, or raises event 83 and
changes no descriptor. The first load, in stage 3, is followed by the startup Press. -/
def execGraphLoad (g : Graph) (s : State) : Host.Outcome State Fault Refusal :=
  .next (s.when (s.live && s.sys.fwRunning && decide (3 ≤ s.fld fSYS_BOOT_STATUS_STAGE) && s.graphFree g) fun s =>
    let c := s.candidate g
    let serves := g.serves ++ (if g.update then s.route.serves else [])
    match c.gCheck g serves (s.graphTasks g) (s.graphBufs g) 0 with
    | some b =>
      if b.code = 0 then let v := s.takeFree 8; v.2.raise 83 [a8 v.1.toNat, a8 b.site, a16 b.idx]
      else s.raise 83 [a8 b.code, a8 b.site, a16 b.idx]
    | none =>
      let s := c.installGraph g serves
      s.when (s.fld fSYS_BOOT_STATUS_STAGE = 3 && !s.following && s.scene.auto'.isNone) fun s =>
        s.startAuto 2 (s.startupScene.map entryChange))

end Sys2Proof.Machine
end

