-- ==== Sys2Proof/Machine/Sha.lean ====
section
/-! DEFINITION. SHA-256 and HMAC-SHA-256, which the manual names for the POP handshake and for message authentication (R626,
R627), over plain numbers so that the kernel can evaluate them. -/

namespace Sys2Proof.Machine

/-- A 32-bit word rotated right. -/
def shaRotr (n x : Nat) : Nat := (x >>> n) ||| (x % 2 ^ n) <<< (32 - n)

/-- The round constants of SHA-256. -/
def shaK : List Nat :=
  [0x428a2f98, 0x71374491, 0xb5c0fbcf, 0xe9b5dba5, 0x3956c25b, 0x59f111f1, 0x923f82a4, 0xab1c5ed5,
   0xd807aa98, 0x12835b01, 0x243185be, 0x550c7dc3, 0x72be5d74, 0x80deb1fe, 0x9bdc06a7, 0xc19bf174,
   0xe49b69c1, 0xefbe4786, 0x0fc19dc6, 0x240ca1cc, 0x2de92c6f, 0x4a7484aa, 0x5cb0a9dc, 0x76f988da] ++
  [0x983e5152, 0xa831c66d, 0xb00327c8, 0xbf597fc7, 0xc6e00bf3, 0xd5a79147, 0x06ca6351, 0x14292967,
   0x27b70a85, 0x2e1b2138, 0x4d2c6dfc, 0x53380d13, 0x650a7354, 0x766a0abb, 0x81c2c92e, 0x92722c85,
   0xa2bfe8a1, 0xa81a664b, 0xc24b8b70, 0xc76c51a3, 0xd192e819, 0xd6990624, 0xf40e3585, 0x106aa070] ++
  [0x19a4c116, 0x1e376c08, 0x2748774c, 0x34b0bcb5, 0x391c0cb3, 0x4ed8aa4a, 0x5b9cca4f, 0x682e6ff3,
   0x748f82ee, 0x78a5636f, 0x84c87814, 0x8cc70208, 0x90befffa, 0xa4506ceb, 0xbef9a3f7, 0xc67178f2]

/-- The eight chaining words. -/
structure Sha where
  a : Nat := 0x6a09e667
  b : Nat := 0xbb67ae85
  c : Nat := 0x3c6ef372
  d : Nat := 0xa54ff53a
  e : Nat := 0x510e527f
  f : Nat := 0x9b05688c
  g : Nat := 0x1f83d9ab
  h : Nat := 0x5be0cd19
deriving DecidableEq, Repr

/-- One round with its constant and schedule word. -/
def Sha.round (x : Sha) (k w : Nat) : Sha :=
  let s1 := shaRotr 6 x.e ^^^ shaRotr 11 x.e ^^^ shaRotr 25 x.e
  let ch := (x.e &&& x.f) ^^^ ((2 ^ 32 - 1 - x.e) &&& x.g)
  let t1 := x.h + s1 + ch + k + w
  let s0 := shaRotr 2 x.a ^^^ shaRotr 13 x.a ^^^ shaRotr 22 x.a
  let mj := (x.a &&& x.b) ^^^ (x.a &&& x.c) ^^^ (x.b &&& x.c)
  { a := (t1 + s0 + mj) % 2 ^ 32, b := x.a, c := x.b, d := x.c, e := (x.d + t1) % 2 ^ 32, f := x.e, g := x.f, h := x.g }

/-- The schedule, newest word first, extended by `k` words. -/
def shaExtend (k : Nat) (w : List Nat) : List Nat :=
  match k with
  | 0 => w
  | k + 1 =>
    let y := w.getD 1 0
    let x := w.getD 14 0
    let n := (shaRotr 17 y ^^^ shaRotr 19 y ^^^ y >>> 10) + w.getD 6 0 + (shaRotr 7 x ^^^ shaRotr 18 x ^^^ x >>> 3) + w.getD 15 0
    shaExtend k (n % 2 ^ 32 :: w)

/-- Big-endian words of a byte list, newest first. -/
def shaWords (k : Nat) (b : List Byte) (acc : List Nat) : List Nat :=
  match k with
  | 0 => acc
  | k + 1 => shaWords k (b.drop 4) ((b.take 4).foldl (fun n c => 256 * n + c.toNat) 0 :: acc)

/-- The rounds of one block. -/
def Sha.rounds (x : Sha) (k w : List Nat) : Sha :=
  match k, w with
  | k :: ks, w :: ws => (x.round k w).rounds ks ws
  | _, _ => x

/-- One 64-byte block. -/
def Sha.block (x : Sha) (b : List Byte) : Sha :=
  let y := x.rounds shaK (shaExtend 48 (shaWords 16 b [])).reverse
  { a := (x.a + y.a) % 2 ^ 32, b := (x.b + y.b) % 2 ^ 32, c := (x.c + y.c) % 2 ^ 32, d := (x.d + y.d) % 2 ^ 32
    e := (x.e + y.e) % 2 ^ 32, f := (x.f + y.f) % 2 ^ 32, g := (x.g + y.g) % 2 ^ 32, h := (x.h + y.h) % 2 ^ 32 }

/-- `k` blocks of a padded message. -/
def Sha.blocks (x : Sha) (k : Nat) (b : List Byte) : Sha :=
  match k with
  | 0 => x
  | k + 1 => (x.block (b.take 64)).blocks k (b.drop 64)

/-- The message padded to whole blocks. -/
def shaPad (b : List Byte) : List Byte :=
  let z := (119 - b.length % 64) % 64
  b ++ 0x80 :: List.replicate z 0 ++ (leBytes 8 (8 * b.length)).reverse

/-- SHA-256. -/
def sha256 (b : List Byte) : List Byte :=
  let p := shaPad b
  let x := ({} : Sha).blocks (p.length / 64) p
  [x.a, x.b, x.c, x.d, x.e, x.f, x.g, x.h].flatMap (fun w => (leBytes 4 w).reverse)

/-- HMAC-SHA-256 of `m` under `key`. -/
def hmac256 (key m : List Byte) : List Byte :=
  let k0 := if 64 < key.length then sha256 key else key
  let k := (k0 ++ List.replicate 64 0).take 64
  sha256 (k.map (fun c => c ^^^ 0x5C) ++ sha256 (k.map (fun c => c ^^^ 0x36) ++ m))

/-- The first 16 bytes of HMAC-SHA-256: the MAC of R627. -/
def mac16 (key m : List Byte) : List Byte := (hmac256 key m).take 16

end Sys2Proof.Machine
end

