-- ==== Sys2Proof/Machine/Pop.lean ====
section
/-! DEFINITION. The Palmund Object Protocol (R617 to R634): messages, sessions and their handshake, duplicate requests, READ,
WRITE, STAGE, EXEC, SUBSCRIBE, NOTIFY and BATCH, and the way requests take through the ledger of a pair. -/

namespace Sys2Proof.Machine

open Sys2Proof

/-! ### Messages (R617, R618) -/

/-- The header of a message. -/
structure PopHdr where
  ver : Nat
  typ : Nat
  len : Nat
  session : Nat
  req : Nat
  flags : Nat
deriving DecidableEq, Repr

/-- Bytes `o` to `o + n - 1` of a message as a number. -/
def popNum (m : List Byte) (o n : Nat) : Nat := ofLeBytes ((m.drop o).take n)

/-- The header fields of a message. -/
def popHdr (m : List Byte) : PopHdr :=
  { ver := popNum m 0 1, typ := popNum m 1 1, len := popNum m 2 2, session := popNum m 4 8, req := popNum m 12 4, flags := popNum m 16 2 }

/-- The body of a message. -/
def popBody (m : List Byte) : List Byte := (m.drop 24).take (popNum m 2 2)

/-- A handshake message, which carries no MAC (R626). -/
def isShake (typ : Nat) : Bool := decide (0x10 ≤ typ) && decide (typ ≤ 0x13)

/-- A message built by the engine; a key adds its MAC (R618, R627). -/
def popMake (typ session req flags st det : Nat) (body : List Byte) (key : Option (List Byte)) : List Byte :=
  let m := leBytes 1 1 ++ leBytes 1 typ ++ leBytes 2 body.length ++ leBytes 8 session ++ leBytes 4 req ++ leBytes 2 flags ++ leBytes 2 st ++
    leBytes 4 det ++ body
  match key with
  | some k => m ++ mac16 k m
  | none => m

/-- The message has the length that its header gives, and at most 1,472 bytes (R617). -/
def popLenOk (spi : Bool) (m : List Byte) : Bool :=
  let h := popHdr m
  decide (24 ≤ m.length) && decide (m.length ≤ 1472) && m.length = 24 + h.len + (if spi || isShake h.typ then 0 else 16)

/-- A message leaves: on the network at once, on the SPI port to its queue, responses ahead of NOTIFY (R635). -/
def State.popEmit (s : State) (dst : PopFrom) (m : List Byte) : State :=
  match dst with
  | .net .. => { s with pop := { s.pop with sent := s.pop.sent ++ [{ dst := dst, msg := m }] } }
  | .spi =>
    let q := s.pop.spiOut
    let note (x : List Byte) : Bool := popNum x 1 1 = 6
    let r := if note m then q ++ [m] else q.filter (fun x => !note x) ++ m :: q.filter note
    { s with pop := { s.pop with spiOut := r } }

/-! ### Sessions (R626 to R630) -/

/-- Session `num`. -/
def State.sess (s : State) (num : Nat) : Option Session := s.pop.sessions.find? (fun x => x.num = num)

/-- The outcome of a request: STATUS, DETAIL, body, whether the response waits for the next boundary (R632), and whether it is
held until a witness probe ends (R548). -/
structure Ans where
  st : Nat := 0
  det : Nat := 0
  body : List Byte := []
  late : Bool := false
  held : Bool := false
deriving DecidableEq, Repr

/-- The key with which a session's messages are authenticated; the SPI session's carry no MAC (R636). -/
def Session.mac (x : Session) : Option (List Byte) := if x.spi then none else some x.key

/-- A remembered request is less than 2 s old (R630). -/
def State.young (s : State) (m : ReqMem) : Bool := decide (s.tim.cnt < m.at' + 2 * s.corePerSec)

/-- The remembered requests with one more or a new result: the 64 highest, and those of the last 2 s (R630). -/
def State.remember (s : State) (x : Session) (m : ReqMem) : Session :=
  let l := (sortBy (fun e => e.req) (m :: x.mem.filter (fun e => e.req != m.req))).reverse
  { x with mem := l.take 64 ++ (l.drop 64).filter s.young }

/-- The response of a request is remembered (R630). -/
def State.noteResp (s : State) (num req : Nat) (m : List Byte) : State :=
  match s.sess num with
  | none => s
  | some x => s.setSess { x with mem := x.mem.map (fun e => if e.req = req then { e with resp := some m } else e) }

/-- A response is sent, or waits for its boundary and its ACK (R557, R632); `rseq` is the ledger record's number, plus one. A
unit that only follows remembers it. -/
def State.popRespond (s : State) (dst : PopFrom) (x : Session) (req typ : Nat) (a : Ans) (rseq : Nat) : State :=
  let a := if 1432 < a.body.length then { a with st := 14, det := 0, body := [] } else a
  let m := popMake (typ % 128 + 128) x.num req 0 a.st a.det a.body x.mac
  if a.held then { s with pop := { s.pop with witness := some (x.num, req, dst) } }
  else if s.following then s.noteResp x.num req m
  else if a.late || rseq != 0 then
    let k := if a.late then s.blkIndex + 1 else 0
    let w : PopWait := { blk := k, rseq := rseq, dst := dst, session := x.num, req := req, msg := m }
    { s with pop := { s.pop with waits := s.pop.waits ++ [w] } }
  else (s.noteResp x.num req m).popEmit dst m

/-- A waiting response may be sent: its boundary has come, and its ledger record is acknowledged where a partner takes part. -/
def State.waitDone (s : State) (w : PopWait) : Bool :=
  decide (w.blk ≤ s.blkIndex) && (w.rseq = 0 || !(s.role = 2 && (s.pair.partner = 1 || s.pair.partner = 3)) ||
    decide ((s.pair.ackRseq + 2 ^ 33 - w.rseq) % 2 ^ 32 < 2 ^ 31))

/-- Waiting responses that may be sent are sent (R632). -/
def State.releaseWaits (s : State) : State :=
  let go := s.pop.waits.filter s.waitDone
  let s : State := { s with pop := { s.pop with waits := s.pop.waits.filter (fun w => !s.waitDone w) } }
  forL go (fun w s => (s.noteResp w.session w.req w.msg).popEmit w.dst w.msg) s

/-- A session ends with its subscriptions, remembered requests and open batch, and event 9 (R628, R711). -/
def State.closeSession (s : State) (num cause : Nat) : State :=
  s.when (s.sess num).isSome fun s =>
    let p := s.pop
    let s : State := { s with pop := { p with sessions := p.sessions.filter (fun x => x.num != num) } }
    s.raise 9 [a8 cause, a64 num]

/-- A session opens, with event 8 (R626, R711). -/
def State.openSession (s : State) (x : Session) : State :=
  let s : State := { s with pop := { s.pop with sessions := s.pop.sessions ++ [{ x with opened := s.tim.cnt, lastMsg := s.tim.cnt }] } }
  s.raise 8 [a8 x.role, a32 x.addr, a16 x.port, a64 x.num]

/-- The next session number (R628). -/
def State.takeNumber (s : State) : Nat × State :=
  (s.pop.high * 2 ^ 32 + s.pop.nextLow, { s with pop := { s.pop with nextLow := if s.pop.nextLow = 2 ^ 32 - 1 then 1 else s.pop.nextLow + 1 } })

/-- The session of a network session number or of the port: an Active unit opens and closes it through the ledger (R633). -/
def State.submitOpen (s : State) (x : Session) : State :=
  if s.role = 2 then s.submit (.sessionOpen x.num x.role x.addr x.port x.key) else s.openSession x

/-- A session's end, through the ledger on an Active unit. -/
def State.submitClose (s : State) (num cause : Nat) : State :=
  if s.role = 2 then s.submit (.sessionClose num cause) else s.closeSession num cause

/-! ### Addresses and access (R605, R607, R608, R619) -/

/-- The object that a body names. -/
structure ObjAt where
  idx : Nat
  sub : Nat
  aflags : Nat
  elem : Nat
deriving DecidableEq, Repr

/-- The address at the front of a body. -/
def objAt (b : List Byte) : ObjAt := { idx := popNum b 0 2, sub := popNum b 2 1, aflags := popNum b 3 1, elem := popNum b 4 4 }

/-- The row that a request names with the right it needs: defined, accessible, and within the session's role; an element number
for an array and for nothing else (R605, R607, R608, R611). `off` is the byte offset of the body. -/
def State.popObj (s : State) (role : Nat) (a : ObjAt) (off : Nat) (want : ObjRow → Bool) (write : Bool) : Except Ans ObjRow :=
  match s.objRow a.idx a.sub with
  | none => .error { st := 1 }
  | some r =>
    let need := if write then r.wr else r.rr
    if !want r then .error { st := 4 }
    else if role < need then .error { st := 5, det := need }
    else if 1 < a.aflags || decide (r.len ≠ 0) ≠ decide (a.aflags = 1) then .error { st := 13, det := off + 3 }
    else .ok r

/-- The element exists and is valid under R290. -/
def State.elemOk (s : State) (r : ObjRow) (a : ObjAt) (e : Nat) : Bool :=
  r.len = 0 || (decide (e < r.len) && s.elemValid a.idx a.sub e)

/-! ### READ (R620) -/

/-- One value as READ returns it; a STRING or BLOB from byte `ofs` on, in at most `room` bytes. -/
def encPart (ty : PTy) (v : PVal) (ofs room : Nat) : List Byte :=
  match v with
  | .bytes b => let c := (b.drop ofs).take (room - 2); leBytes 2 c.length ++ c
  | .num _ => encVal ty v

/-- The value of an element that a session reads, with the byte that tells a staged entry of its own where it asks for it. -/
def State.readOne (s : State) (num : Nat) (r : ObjRow) (a : ObjAt) (e : Nat) (staged : Bool) : Option (PVal × List Byte) :=
  let k := objKey a.idx a.sub e
  match s.scene.vat.find? (fun x => staged && x.1 = k && x.2.session = num) with
  | some x => some (toPopVal r x.2.val, [1])
  | none => (s.objRead r a.idx a.sub e).map (fun v => (v, if staged then [0] else []))

/-- `k` elements from `e` on, while they fit: how many, their bytes, or the first bad element. -/
def State.readMany (s : State) (num : Nat) (r : ObjRow) (a : ObjAt) (staged : Bool) (ofs k e room n : Nat) (acc : List Byte) :
    Except Nat (Nat × List Byte) :=
  match k with
  | 0 => .ok (n, acc)
  | k + 1 =>
    if !s.elemOk r a e then .error e
    else match s.readOne num r a e staged with
      | none => .error e
      | some (v, pre) =>
        let b := pre ++ encPart r.ty v ofs (if n = 0 then room - pre.length else 65537)
        if room < b.length then .ok (n, acc) else s.readMany num r a staged ofs k (e + 1) (room - b.length) (n + 1) (acc ++ b)

/-- Code of an EXE object's result. -/
def exeResult (a : ObjAt) : Nat := if a.idx = 0x8030 then 2 else 0

/-- The DESCRIBE body; a default is absent for WO and EXE objects, and for those that hold no value of their own. -/
def State.describe (s : State) (r : ObjRow) (a : ObjAt) : List Byte :=
  let exe := r.acc = .exe
  let d := if r.acc = .wo || exe || (r.src = .calc && r.acc = .ro) then []
    else if r.src = .calc then encVal r.ty (.bytes (List.replicate 32 0)) else encVal r.ty (toPopVal r (s.objDflt r a.idx a.elem))
  leBytes 1 (if exe then 0 else r.ty.code) ++ leBytes 1 (if r.len = 0 then 0 else 1) ++ leBytes 1 r.acc.code ++ leBytes 1 r.rr ++ leBytes 1 r.wr ++
  leBytes 1 r.cls ++ leBytes 1 (if exe then r.ty.code else 0) ++ leBytes 1 (exeResult a) ++ leBytes 4 (min r.len (2 ^ 32 - 1)) ++ d

/-- READ. TOTAL of a value that is neither STRING nor BLOB is open (log entry 60). -/
def State.popRead (s : State) (x : Session) (b : List Byte) (off : Nat) : Ans × State :=
  let a := objAt b
  let count := popNum b 8 2
  let rf := popNum b 10 1
  if b.length != 16 then ({ st := 13, det := off + b.length }, s)
  else if 3 < rf then ({ st := 13, det := off + 10 }, s)
  else if popNum b 11 1 != 0 then ({ st := 13, det := off + 11 }, s)
  else match s.popObj x.role a off (fun r => 2 ≤ rf || (r.acc != .wo && r.acc != .exe)) false with
    | .error e => (e, s)
    | .ok r =>
      if 2 ≤ rf then (if s.elemOk r a a.elem then ({ body := s.describe r a }, s) else ({ st := 2, det := a.elem }, s))
      else if r.len = 0 && decide (1 < count) then ({ st := 13, det := off + 8 }, s)
      else match s.readMany x.num r a (rf = 1) (popNum b 12 4) count a.elem 1424 0 [] with
        | .error e => ({ st := 2, det := e }, s)
        | .ok (n, l) =>
          let t := match s.readOne x.num r a a.elem (rf = 1) with
            | some (.bytes c, _) => (c.length, s)
            | _ => let v := s.takeFree 32; (v.1.toNat, v.2)
          ({ body := leBytes 1 r.ty.code ++ leBytes 1 rf ++ leBytes 2 n ++ leBytes 4 t.1 ++ l }, t.2)

/-! ### WRITE and STAGE (R621) -/

/-- `k` values of a type decoded from the front of `b`; the offset of the fault when the bytes run out or are left over. -/
def decMany (ty : PTy) (k off : Nat) (b : List Byte) : Except Nat (List PVal) :=
  match k with
  | 0 => if b.isEmpty then .ok [] else .error off
  | k + 1 =>
    match decVal ty b with
    | none => .error off
    | some (v, rest) => (decMany ty k (off + (b.length - rest.length)) rest).map (fun l => v :: l)

/-- A WRITE or STAGE with its checks passed: row, address, transition and the values as the objects hold them. -/
structure Put where
  row : ObjRow
  at' : ObjAt
  time : Nat
  law : Nat
  vals : List (Nat × PVal)

/-- The first element whose value is refused, or all values as held (R606, R610, R147). -/
def State.checkVals (s : State) (r : ObjRow) (a : ObjAt) (l : List (Nat × PVal)) : Except Ans (List (Nat × PVal)) :=
  match l with
  | [] => .ok []
  | (e, v) :: t =>
    let bad96 : Bool := match v with | .num n => (r.ty = .time96 || r.ty = .time96f) && !time96Ok n | .bytes _ => false
    let c := s.objCheck r a.idx a.sub e v
    if !s.elemOk r a e then .error { st := 2, det := e }
    else if bad96 then .error { st := 16 }
    else if c.1 != 0 then .error { st := c.1, det := c.2.1 }
    else (s.checkVals r a t).map (fun m => (e, c.2.2) :: m)

/-- The checks of a WRITE or a STAGE. -/
def State.putCheck (s : State) (role : Nat) (b : List Byte) (off : Nat) (stage : Bool) : Except Ans Put :=
  let a := objAt b
  let count := popNum b 12 2
  if b.length < 16 then .error { st := 13, det := off + b.length }
  else if popNum b 14 2 != 0 then .error { st := 13, det := off + (if popNum b 14 1 != 0 then 14 else 15) }
  else match s.popObj role a off (fun r => if stage then r.acc = .stg else r.acc = .rw || r.acc = .wo || r.acc = .stg) true with
    | .error e => .error e
    | .ok r =>
      if r.len = 0 && decide (1 < count) then .error { st := 13, det := off + 12 }
      else if popNum b 11 1 != r.ty.code then .error { st := 3, det := r.ty.code }
      else match decMany r.ty count (off + 16) (b.drop 16) with
        | .error o => .error { st := 13, det := o }
        | .ok vs =>
          match (if r.acc = .stg then s.timeLaw r (popNum b 8 2) (popNum b 10 1) else some (0, 0)) with
          | none => .error { st := 6, det := a.elem }
          | some (t, w) =>
            match s.checkVals r a ((List.range vs.length).map (fun i => (a.elem + i, vs.getD i (.num 0)))) with
            | .error e => .error e
            | .ok l => .ok { row := r, at' := a, time := t, law := w, vals := l }

/-- WRITE (R336, R338, R621): an STG object takes effect at the next boundary, any other at once. -/
def State.popWrite (s : State) (x : Session) (b : List Byte) (off : Nat) : Ans × State :=
  match s.putCheck x.role b off false with
  | .error e => (e, s)
  | .ok p =>
    let stg := p.row.acc = .stg
    ({ late := stg && !p.vals.isEmpty }, forL p.vals (fun v s =>
      if stg then s.queueWrite { key := objKey p.at'.idx p.at'.sub v.1, val := v.2, time := p.time, law := p.law }
      else s.objStore p.row p.at'.idx p.at'.sub v.1 v.2) s)

/-- Staged values one by one; the first refusal, or the state with all of them. -/
def State.stageAll (s : State) (num : Nat) (p : Put) (l : List (Nat × PVal)) : Ans × State :=
  match l with
  | [] => ({}, s)
  | v :: r =>
    let q := s.stageOne (objKey p.at'.idx p.at'.sub v.1) { val := v.2, time := p.time, law := p.law, session := num }
    if q.1.1 != 0 then ({ st := q.1.1, det := q.1.2 }, q.2) else q.2.stageAll num p r

/-- STAGE (R355, R621): all of its elements, or none. -/
def State.popStage (s : State) (x : Session) (b : List Byte) (off : Nat) : Ans × State :=
  match s.putCheck x.role b off true with
  | .error e => (e, s)
  | .ok p => let q := s.stageAll x.num p p.vals; if q.1.st != 0 then (q.1, s) else q

/-! ### EXEC (R622) -/

/-- The argument of an EXEC after ATCODE: its number or its bytes (R622). -/
def exeArg (ty : PTy) (b : List Byte) (off : Nat) : Except Ans PVal :=
  if popNum b 8 1 != ty.code then .error { st := 3, det := ty.code }
  else if ty = .none' then (if b.length = 12 then .ok (.num 0) else .error { st := 13, det := off + 12 })
  else match decMany ty 1 (off + 12) (b.drop 12) with
    | .ok [v] => .ok v
    | .ok _ => .error { st := 13, det := off + 12 }
    | .error o => .error { st := 13, det := o }

/-- The answer that an operation of a defining chapter left (R622). -/
def State.fromReply (s : State) : Ans × State := ({ st := s.pop.reply.1, det := s.pop.reply.2.1 }, s)

/-- A refusal by rules that state no reason code. -/
def State.refusedOpen (s : State) : Ans × State := let v := s.takeFree 32; ({ st := 8, det := v.1.toNat }, v.2)

/-- EXEC of the system object 0x1000: Session Reset, Engine Reset, and the close of a session. -/
def State.exeSystem (s : State) (sub n : Nat) (led : Bool) : Ans × State :=
  if sub = 0x10 then ({}, if led then { s with sys := { s.sys with sesReq := true } } else s.requestSessionReset)
  else if sub = 0x11 then ({}, s.engineReset fSYS_RESET_CAUSE_ENG_REQUEST false)
  else if (s.sess n).isSome then ({}, s.closeSession n 3) else ({ st := 12 }, s)

/-- EXEC of a Pump object: the word is a PUMPn_CMD word. -/
def State.exePump (s : State) (k n : Nat) (led : Bool) : Ans × State :=
  ({}, if led then s.when (s.siteClocked k) fun s => s.pumpCmd (fPUMPn_CMD_OP.of n) k (fPUMPn_CMD_SLOT.of n) (fPUMPn_CMD_BIT.of n)
       else s.hostPump (fPUMPn_CMD_OP.of n) k (fPUMPn_CMD_SLOT.of n) (fPUMPn_CMD_BIT.of n))

/-- EXEC of the scene object 0x7000: a Press at a time or at once, its cancel, and the Vat's clear. -/
def State.exeScene (s : State) (sub : Nat) (arg : List Byte) (led : Bool) : Ans × State :=
  let s := if led then s.applyWrites else s
  (if sub = 0x10 then s.pressExec 0 arg else if sub = 0x20 then s.pressExec 1 arg
   else if sub = 0x11 then s.pressCancel.answer 0 0 0 else s.vatClear).fromReply

/-- EXEC of the pair object 0x8010: switchover, rejoin and divergence. -/
def State.exeRole (s : State) (sub n : Nat) : Ans × State :=
  if sub = 0x10 then (if s.role = 2 && s.pair.partner = 3 then ({}, s.switchOver) else s.switchOver.refusedOpen)
  else if n = 0 then ({}, s.rejoin) else if n = 1 then ({}, s.partnerDiverge) else ({ st := 6 }, s)

/-- EXEC of the health object 0x9010: Cluster Reset and retirement. -/
def State.exeHealth (s : State) (sub n : Nat) (led : Bool) : Ans × State :=
  if sub = 1 then
    (if 35 < n then ({ st := 6 }, s)
     else ({}, if led then s.when (s.siteClocked n) fun s => s.beginClusterReset n else s.requestClusterReset n))
  else ({}, s.retire (fHLTH_RETIRE_KIND.of n) (fHLTH_RETIRE_SITE.of n))

/-- EXEC of an object whose checks have passed. `led` tells that it is applied at a boundary, from the ledger. -/
def State.exeDo (s : State) (idx sub : Nat) (v : PVal) (led : Bool) : Ans × State :=
  let n := match v with | .num n => n | .bytes _ => 0
  let arg := match v with | .num _ => [] | .bytes b => b
  if idx = 0x1000 then s.exeSystem sub n led
  else if idx = 0x4010 then ({}, if sub = 1 then s.tdmStart n s.paired else s.tdmStop n)
  else if 0x5E00 ≤ idx && idx < 0x5E24 then s.exePump (idx - 0x5E00) n led
  else if idx = 0x7000 then s.exeScene sub arg led
  else if idx = 0x8010 then s.exeRole sub n
  else if idx = 0x8030 then
    let t := s.witnessProbe n
    (if t.pair.probe.isSome then ({ held := true }, t) else ({ body := [2, 0, 0, 0] ++ leBytes 1 t.pair.reply }, t))
  else if idx = 0x9010 then s.exeHealth sub n led
  else if 0x9020 ≤ idx && idx < 0x9044 then
    (if 8 < n then ({ st := 6 }, s) else ({}, { s with pump := { s.pump with inj := nset false s.pump.inj (laneKey (idx - 0x9020) n) true } }))
  else ({}, s.soundLearn n)

/-- EXEC (R622). A plain answer is four zero bytes: no result. -/
def State.popExec (s : State) (x : Session) (b : List Byte) (off : Nat) (led : Bool) : Ans × State :=
  let a := objAt b
  if b.length < 12 then ({ st := 13, det := off + b.length }, s)
  else if popNum b 9 3 != 0 then ({ st := 13, det := off + 9 }, s)
  else match s.popObj x.role a off (fun r => r.acc = .exe) true with
    | .error e => (e, s)
    | .ok r =>
      match exeArg r.ty b off with
      | .error e => (e, s)
      | .ok v =>
        let q := s.exeDo a.idx a.sub v led
        (if (q.1.st = 0 || q.1.st = 8) && q.1.body.isEmpty then { q.1 with body := [0, 0, 0, 0] } else q.1, q.2)

/-! ### SUBSCRIBE and NOTIFY (R623) -/

/-- Type code and value of a subscribed element. -/
def State.subValue (s : State) (key : Nat) : List Byte :=
  match s.objRow (okIdx key) (okSub key) with
  | some r => (match s.objRead r (okIdx key) (okSub key) (okElem key) with | some v => leBytes 1 r.ty.code ++ encVal r.ty v | none => [])
  | none => []

/-- SUBSCRIBE. The handle is the lowest that the session does not use. -/
def State.popSubscribe (s : State) (x : Session) (b : List Byte) (off : Nat) : Ans × State :=
  let a := objAt b
  let kind := popNum b 8 1
  let total := s.pop.sessions.foldl (fun n y => n + y.subs.length) 0
  if b.length != 16 then ({ st := 13, det := off + b.length }, s)
  else if 2 < kind then ({ st := 13, det := off + 8 }, s)
  else if popNum b 9 1 != 0 then ({ st := 13, det := off + 9 }, s)
  else if popNum b 15 1 != 0 then ({ st := 13, det := off + 15 }, s)
  else if kind = 2 then
    (if x.subs.any (fun u => u.handle = a.elem) then ({ det := a.elem }, s.setSess { x with subs := x.subs.filter (fun u => u.handle != a.elem) })
     else ({ st := 2, det := a.elem }, s))
  else
    let chk : Except Ans Unit := if kind = 1 then .ok () else
      match s.popObj x.role a off (fun r => r.acc != .wo && r.acc != .exe) false with
      | .error e => .error e
      | .ok r => if s.elemOk r a a.elem then .ok () else .error { st := 2, det := a.elem }
    match chk with
    | .error e => (e, s)
    | .ok _ =>
      if 256 ≤ x.subs.length || 4096 ≤ total then ({ st := 18 }, s)
      else
        let h := ((List.range 258).find? (fun k => k != 0 && !x.subs.any (fun u => u.handle = k))).getD 0
        let key := if kind = 0 then objKey a.idx a.sub a.elem else 0
        let u : Sub := { handle := h, kind := kind, key := key, isArr := a.aflags = 1, minMs := popNum b 10 2, firstEv := popNum b 12 1
                         lastEv := popNum b 13 1, minPrio := popNum b 14 1, last := s.subValue key, sent := 0 }
        ({ det := h }, s.setSess { x with subs := x.subs ++ [u] })

/-- An object subscription whose committed value has changed, MIN_MS after its last item, queues one item with the latest
value. -/
def State.subScan (s : State) (num : Nat) (u : Sub) : State :=
  let v := s.subValue u.key
  if u.kind != 0 || v = u.last || (u.sent != 0 && decide (s.tim.cnt < u.sent - 1 + s.msCycles u.minMs)) then s
  else
    let it := leBytes 2 (okIdx u.key) ++ leBytes 1 (okSub u.key) ++ leBytes 1 (if u.isArr then 1 else 0) ++ leBytes 4 (okElem u.key) ++ v
    match s.sess num with
    | none => s
    | some x =>
      let s := s.setSess { x with subs := x.subs.map (fun w => if w.handle = u.handle then { w with last := v, sent := s.tim.cnt + 1 } else w) }
      s.pushNote num u.handle it

/-- Every object subscription is compared with the committed values. -/
def State.notifyScan (s : State) : State :=
  forL s.pop.sessions (fun x s => forL x.subs (fun u s => s.subScan x.num u) s) s

/-- NOTIFY_SEND (R623): the oldest queued item leaves for the address of the session's last authenticated request. -/
def execNotifySend (session : Nat) (s : State) : Host.Outcome State Fault Refusal :=
  .next (s.when (s.live && s.sys.fwRunning && (s.role = 0 || s.role = 2)) fun s =>
    match s.sess session with
    | none => s
    | some x =>
      match x.notify with
      | [] => s
      | (h, it) :: rest =>
        if x.spi && decide (16 ≤ s.pop.spiOut.length) then s
        else
          let n := (x.nseq + 1) % 2 ^ 32
          let flags := (if x.resync then 4 else 0) + (if x.lost then 8 else 0)
          let m := popMake 6 x.num n flags 0 0 ([1, 0, 0, 0] ++ leBytes 2 h ++ leBytes 2 it.length ++ it) x.mac
          (s.setSess { x with notify := rest, nseq := n, lost := false, resync := false }).popEmit (if x.spi then .spi else .net x.addr x.port) m)

/-! ### BATCH (R624) -/

/-- The sub-requests of a BATCH body after its first four bytes; the offset of a fault in their layout. -/
def batchSubs (fuel off : Nat) (b : List Byte) : Except Nat (List (Nat × SubReq)) :=
  match fuel with
  | 0 => .ok []
  | fuel + 1 =>
    if b.isEmpty then .ok []
    else
      let n := popNum b 2 2
      if b.length < 4 || b.length < 4 + n then .error (off + b.length)
      else if popNum b 0 1 = 0 || 4 < popNum b 0 1 then .error off
      else if popNum b 1 1 != 0 then .error (off + 1)
      else (batchSubs fuel (off + 4 + n) (b.drop (4 + n))).map (fun l => (off + 4, { sty := popNum b 0 1, body := (b.drop 4).take n }) :: l)

/-- One sub-request. A witness query inside a batch answers UNKNOWN while its probe runs. -/
def State.subRun (s : State) (num : Nat) (off : Nat) (q : SubReq) (led : Bool) : Ans × State :=
  match s.sess num with
  | none => ({ st := 12 }, s)
  | some x =>
    if q.sty = 1 then s.popRead x q.body off else if q.sty = 2 then s.popWrite x q.body off
    else if q.sty = 3 then s.popStage x q.body off
    else
      let r := s.popExec x q.body off led
      (if r.1.held then { r.1 with held := false, body := [2, 0, 0, 0, 2] } else r.1, r.2)

/-- Sub-requests in order, each with its result; one whose result does not fit answers TOO_LARGE. -/
def State.batchRun (s : State) (num : Nat) (l : List (Nat × SubReq)) (led : Bool) (acc : Ans) : Ans × State :=
  match l with
  | [] => (acc, s)
  | (off, q) :: r =>
    let a := s.subRun num off q led
    let left := 12 * r.length
    let c := if 1432 < acc.body.length + 12 + a.1.body.length + left then { a.1 with st := 14, det := 0, body := [] } else a.1
    let b := leBytes 1 q.sty ++ [0] ++ leBytes 2 c.st ++ leBytes 4 c.det ++ leBytes 2 c.body.length ++ [0, 0] ++ c.body
    a.2.batchRun num r led { acc with body := acc.body ++ b, late := acc.late || c.late }

/-- The sub-requests of an atomic batch: all of them, or the index of the first that fails. -/
def State.atomicRun (s : State) (num k : Nat) (l : List SubReq) : Except Nat State :=
  match l with
  | [] => .ok s
  | q :: r => let a := s.subRun num 0 q true; if a.1.st != 0 then .error k else a.2.atomicRun num (k + 1) r

/-- An atomic batch is checked, and applies in full or not at all. -/
def State.atomicApply (s : State) (num : Nat) (l : List SubReq) : Ans × State :=
  match s.atomicRun num 0 l with
  | .ok t => ({}, t)
  | .error k => ({ st := 17, det := k }, s)

/-- BATCH. Parts of an atomic batch are collected; with the last one it applies at one boundary: this one when the ledger brings
it, else the next. -/
def State.popBatch (s : State) (x : Session) (h : PopHdr) (b : List Byte) (dst : PopFrom) (led : Bool) : Option Ans × State :=
  let id := popNum b 0 2
  let part := popNum b 2 2
  let atomic := bit h.flags 1
  let more := bit h.flags 0
  let own : Bool := match x.batch with | some t => t.id = id | none => false
  if b.length < 4 then (some { st := 13, det := 24 + b.length }, s)
  else match batchSubs b.length 28 (b.drop 4) with
    | .error o => (some { st := 13, det := o }, s)
    | .ok l =>
      if !atomic then
        (if own then (some { st := 13, det := 16 }, s) else let r := s.batchRun x.num l led {}; (some r.1, r.2))
      else match l.find? (fun q => q.2.sty != 2 && q.2.sty != 3) with
        | some q => (some { st := 13, det := q.1 - 4 }, s)
        | none =>
          let had := match x.batch with | some t => if own then t.subs else [] | none => []
          let next := match x.batch with | some t => if own then t.next else 0 | none => 0
          if part != next then (some { st := 13, det := 26 }, if own then s else s.setSess { x with batch := none })
          else
            let subs := had ++ l.map (fun q => q.2)
            if more then (some {}, s.setSess { x with batch := some { id := id, next := part + 1, at' := s.tim.cnt, subs := subs } })
            else
              let s := s.setSess { x with batch := none }
              if led then let r := s.atomicApply x.num subs; (some r.1, r.2)
              else (none, { s with pop := { s.pop with jobs := s.pop.jobs ++ [{ session := x.num, req := h.req, dst := dst, subs := subs }] } })

/-- Atomic batches that have been entered apply in step 3 of the boundary. -/
def State.runJobs (s : State) : State :=
  let l := s.pop.jobs
  let s : State := { s with pop := { s.pop with jobs := [] } }
  forL l (fun j s =>
    match s.sess j.session with
    | none => s
    | some x => let r := s.atomicApply x.num j.subs; r.2.popRespond j.dst x j.req 7 r.1 0) s

/-- BATCH_TIMEOUT (R624): 2 s without a part discard the open batch of a session. -/
def execBatchTimeout (session : Nat) (s : State) : Host.Outcome State Fault Refusal :=
  .next (s.when (s.live && s.sys.fwRunning) fun s =>
    match s.sess session with
    | none => s
    | some x => s.setSess { x with batch := none })

/-! ### Requests (R627, R630, R631, R633) -/

/-- A request of a session runs; a body of more than 1,432 bytes, which only the SPI port can carry, is TOO_LARGE (R617, R625). -/
def State.popRun (s : State) (x : Session) (h : PopHdr) (b : List Byte) (dst : PopFrom) (led : Bool) : Option Ans × State :=
  if h.ver != 1 then (some { st := 13, det := 0 }, s)
  else if 1432 < b.length then (some { st := 14 }, s)
  else if h.typ = 7 then s.popBatch x h b dst led
  else
    let r := if h.typ = 1 then s.popRead x b 24 else if h.typ = 2 then s.popWrite x b 24
      else if h.typ = 3 then s.popStage x b 24 else if h.typ = 4 then s.popExec x b 24 led
      else if h.typ = 5 then s.popSubscribe x b 24 else ({ st := 13, det := 1 }, s)
    (some r.1, r.2)

/-- A request or sub-request that only reads, or that this unit serves itself (R567, R633). -/
def localReq (typ : Nat) (b : List Byte) : Bool :=
  let a := objAt b
  if typ = 1 then true
  else if typ = 2 then pairLocal a.idx a.sub
  else if typ = 4 then a.idx = 0x8030 else false

/-- Every sub-request of a BATCH body is served by this unit itself. -/
def localBatch (b : List Byte) : Bool :=
  match batchSubs b.length 28 (b.drop 4) with
  | .ok l => l.all (fun q => localReq q.2.sty q.2.body)
  | .error _ => true

/-- An EXEC that a unit which is not Active passes to the Active one (R61, R633). -/
def passedExec (b : List Byte) : Bool :=
  let a := objAt b
  (a.idx = 0x1000 && a.sub = 0x10) || (a.idx = 0x9010 && a.sub = 1) || (a.idx = 0x7000 && a.sub = 0x20)

/-- An EXEC that acts on one unit of a pair only: an Engine Reset, the pairing objects and a retirement (R61, R546, R556). -/
def ownExec (b : List Byte) : Bool :=
  let a := objAt b
  (a.idx = 0x1000 && a.sub = 0x11) || a.idx = 0x8010 || a.idx = 0x8030 || (a.idx = 0x9010 && a.sub = 3)

/-- A passed EXEC: its checks are made here, and the Active unit carries it out (R633, log entry 61). -/
def State.passExec (s : State) (x : Session) (b : List Byte) : Ans :=
  match s.popObj x.role (objAt b) 24 (fun r => r.acc = .exe) true with
  | .error e => e
  | .ok r => match exeArg r.ty b 24 with
    | .error e => e
    | .ok (.num n) => if (objAt b).idx = 0x9010 && decide (35 < n) then { st := 6 } else { body := [0, 0, 0, 0], late := true }
    | .ok _ => { body := [0, 0, 0, 0], late := true }

/-- A new request: refused, passed on or served alone on a unit that is not Active; through the ledger on an Active unit; at once on
any other (R556, R557, R633). -/
def State.popNew (s : State) (src : PopFrom) (x : Session) (h : PopHdr) (m : List Byte) : State :=
  let b := popBody m
  let own := h.ver != 1 || h.typ = 0 || 7 < h.typ || h.typ = 6 || localReq h.typ b || (h.typ = 7 && (b.length < 4 || localBatch b))
  let now (s : State) : State := let r := s.popRun x h b src false
    match r.1 with | some a => r.2.popRespond src x h.req h.typ a 0 | none => r.2
  if s.role = 1 || s.role = 3 || s.role = 5 then
    (if own || h.typ = 5 then
      (let r := s.popRun x h b src false
       match r.1 with
       | some a =>
         let y := popMake (h.typ % 128 + 128) x.num h.req 0 a.st a.det a.body x.mac
         if a.held then r.2.popRespond src x h.req h.typ a 0 else (r.2.noteResp x.num h.req y).popEmit src y
       | none => r.2)
     else
      let a : Ans := if h.typ = 4 && passedExec b then s.passExec x b else { st := 9, det := s.pair.node }
      let y := popMake (h.typ % 128 + 128) x.num h.req 0 a.st a.det a.body x.mac
      (s.noteResp x.num h.req y).popEmit src y)
  else if s.role = 2 && !own && !(h.typ = 4 && ownExec b) then s.submit (.pop src m)
  else now s

/-- A message without a session of its own is answered without a MAC (R627). -/
def State.popBare (s : State) (src : PopFrom) (h : PopHdr) (st det : Nat) : State :=
  s.popEmit src (popMake (h.typ % 128 + 128) h.session h.req 0 st det [] none)

/-- An answer of a session without a body. -/
def State.popPlain (s : State) (src : PopFrom) (x : Session) (h : PopHdr) (st det : Nat) : State :=
  s.popEmit src (popMake (h.typ % 128 + 128) x.num h.req 0 st det [] x.mac)

/-- An authenticated message of a session: CLOSE, a duplicate, a stale number, or a new request (R628, R630). -/
def State.popSession (s : State) (src : PopFrom) (x : Session) (h : PopHdr) (m : List Byte) : State :=
  let x := { x with lastMsg := s.tim.cnt, addr := match src with | .net a _ => a | .spi => x.addr
                    port := match src with | .net _ p => p | .spi => x.port
                    mem := x.mem.take 64 ++ (x.mem.drop 64).filter s.young }
  let s := s.setSess x
  if h.ver = 1 && h.typ = 0x14 then (s.popPlain src x h 0 0).submitClose x.num 0
  else match x.mem.find? (fun e => e.req = h.req) with
    | some e =>
      (match e.resp with
       | some r => s.popEmit src r
       | none => { s with pop := { s.pop with waits := s.pop.waits ++ (s.pop.waits.filter (fun w => w.session = x.num && w.req = h.req && w.dst != src)).map (fun w => { w with dst := src }) } })
    | none =>
      let low := x.mem.foldl (fun n e => min n e.req) (2 ^ 32)
      if !x.mem.isEmpty && decide (h.req < low) then s.popPlain src x h 10 low
      else if 1024 ≤ (x.mem.filter s.young).length then s.popPlain src x h 11 0
      else
        let x := s.remember x { req := h.req, at' := s.tim.cnt, resp := none }
        (s.setSess x).popNew src x h m

/-! ### The handshake (R626, R628, R629, R636) -/

/-- Key of a role, `none` where it is not provisioned (R613). -/
def State.roleKey (s : State) (role : Nat) : Option (List Byte) :=
  let k := s.objBytes 0x1010 (role + 1) 0
  if k.any (fun b => b != 0) then some k else none

/-- OPEN on the network: CHALLENGE, or ROLE or LIMIT; nothing from a blocked address. -/
def State.netOpen (s : State) (addr port : Nat) (h : PopHdr) (m : List Byte) : State :=
  let b := popBody m
  let src := PopFrom.net addr port
  let role := popNum b 0 1
  if s.tim.cnt < (nget {} s.pop.fails addr).blocked then s
  else if h.ver != 1 then s.popBare src h 13 0
  else if b.length != 24 then s.popBare src h 13 (24 + min b.length 24)
  else if 3 < role then s.popBare src h 13 24
  else if popNum b 1 3 != 0 then s.popBare src h 13 25
  else if 8 ≤ s.pop.shakes.length || 32 ≤ (s.pop.sessions.filter (fun x => !x.spi)).length then s.popBare src h 18 0
  else if (s.roleKey role).isNone then s.popBare src h 5 role
  else
    let v := s.takeFree 128
    let n := v.2.takeNumber
    let nonce := leBytes 16 v.1.toNat
    let k : Handshake := { session := n.1, addr := addr, port := port, role := role, node := popNum b 4 4, nonceC := b.drop 8, nonceE := nonce
                           at' := s.tim.cnt }
    let s : State := { n.2 with pop := { n.2.pop with shakes := n.2.pop.shakes ++ [k] } }
    s.popEmit src (popMake 0x11 n.1 h.req 0 0 0 (nonce ++ leBytes 4 (s.objNum 0x1000 1 0) ++ [0, 0, 0, 0]) none)

/-- The bytes that a proof covers (R626). -/
def proofText (tag : Nat) (k : Handshake) : List Byte := leBytes 3 0x504F50 ++ leBytes 1 tag ++ leBytes 8 k.session ++ k.nonceC ++ k.nonceE

/-- A failed PROOF: the eighth within 60 s from one address blocks its OPENs for 60 s, with event 10 at most once per second. -/
def State.proofFails (s : State) (addr : Nat) : State :=
  let f : AuthFail := nget {} s.pop.fails addr
  let l := s.tim.cnt :: f.times.filter (fun t => decide (s.tim.cnt < t + 60 * s.corePerSec))
  if 8 ≤ l.length then
    let g : AuthFail := { times := [], blocked := s.tim.cnt + 60 * s.corePerSec }
    let s : State := { s with pop := { s.pop with fails := nset {} s.pop.fails addr g } }
    if s.pop.lastAuth = 0 || decide (s.pop.lastAuth - 1 + s.corePerSec ≤ s.tim.cnt) then
      let s : State := { s with pop := { s.pop with lastAuth := s.tim.cnt + 1 } }
      s.raise 10 [a32 addr]
    else s
  else { s with pop := { s.pop with fails := nset {} s.pop.fails addr { f with times := l } } }

/-- The body of ACCEPT. -/
def State.acceptBody (s : State) (mac : List Byte) : List Byte := mac ++ leBytes 2 (s.objNum 0x1000 3 0) ++ leBytes 2 1472 ++ [0, 0, 0, 0]

/-- PROOF: the key of the role as it stands now decides; the session opens with ACCEPT, through the ledger on an Active unit. -/
def State.proof (s : State) (addr port : Nat) (h : PopHdr) (m : List Byte) : State :=
  let src := PopFrom.net addr port
  match s.pop.shakes.find? (fun k => k.session = h.session && k.addr = addr) with
  | none => s.popBare src h 12 0
  | some k =>
    let s : State := { s with pop := { s.pop with shakes := s.pop.shakes.filter (fun x => x.session != k.session) } }
    match s.roleKey k.role with
    | none => s.proofFails addr
    | some key =>
      if h.ver != 1 || popBody m != mac16 key (proofText 0x63 k) then s.proofFails addr
      else
        let x : Session := { num := k.session, role := k.role, addr := addr, port := port, key := hmac256 key (proofText 0x6B k) }
        let y := popMake 0x13 k.session h.req 0 0 0 (s.acceptBody (mac16 key (proofText 0x65 k))) none
        let rs := s.pair.rseq
        let s := s.submitOpen x
        if s.role = 2 then
          { s with pop := { s.pop with waits := s.pop.waits ++ [{ blk := s.blkIndex + 2, rseq := rs + 1, dst := src, session := x.num, req := 2 ^ 32, msg := y }] } }
        else s.popEmit src y

/-- OPEN on the SPI port ends the previous SPI session and is answered at once with ACCEPT (R636). -/
def State.spiOpen (s : State) (h : PopHdr) (m : List Byte) : State :=
  let b := popBody m
  let role := popNum b 0 1
  if h.ver != 1 then s.popBare .spi h 13 0
  else if b.length != 24 then s.popBare .spi h 13 (24 + min b.length 24)
  else if 3 < role then s.popBare .spi h 13 24
  else
    let s := match s.pop.sessions.find? (fun x => x.spi) with | some x => s.submitClose x.num 0 | none => s
    let n := s.takeNumber
    let x : Session := { num := n.1, spi := true, role := min role (s.objNum 0x1010 6 0) }
    let s := n.2.submitOpen x
    s.popEmit .spi (popMake 0x13 x.num h.req 0 0 0 (s.acceptBody (List.replicate 16 0)) none)

/-! ### Receiving -/

/-- One message reaches the engine (R617, R618, R626, R627). -/
def State.popRx (s : State) (src : PopFrom) (m : List Byte) : State :=
  let h := popHdr m
  let spi := decide (src = .spi)
  if !popLenOk spi m then s
  else if h.typ = 0x10 then (match src with | .net a p => s.netOpen a p h m | .spi => s.spiOpen h m)
  else if h.typ = 0x12 && !spi then (match src with | .net a p => s.proof a p h m | .spi => s)
  else if isShake h.typ then s.popBare src h 13 1
  else match s.sess h.session with
    | none => s.popBare src h 12 0
    | some x =>
      if x.spi != spi || (!spi && x.key.isEmpty) then s.popBare src h 12 0
      else if !spi && m.drop (24 + h.len) != mac16 x.key (m.take (24 + h.len)) then
        s.setSess { x with badMac := min (x.badMac + 1) (2 ^ 32 - 1) }
      else s.popSession src x h m

/-- A message of one of the types `l` arrives while the firmware runs. -/
def State.popRow (s : State) (l : Nat → Bool) (src : PopFrom) (m : List Byte) : Host.Outcome State Fault Refusal :=
  .next (s.when (s.live && s.sys.fwRunning && src != .spi && l (popHdr m).typ) fun s => s.popRx src m)

/-- A type that a row of its own names. -/
def rowType (t : Nat) : Bool := [1, 2, 3, 4, 5, 7, 0x10, 0x12, 0x14].contains t

/-- POP_READ (R620), and a message of a TYPE that no row names (R618). -/
def execPopRead (src : PopFrom) (msg : List Byte) (s : State) : Host.Outcome State Fault Refusal := s.popRow (fun t => t = 1 || !rowType t) src msg
/-- POP_WRITE (R621). -/
def execPopWrite (src : PopFrom) (msg : List Byte) (s : State) : Host.Outcome State Fault Refusal := s.popRow (fun t => t = 2) src msg
/-- POP_STAGE (R355, R621). -/
def execPopStage (src : PopFrom) (msg : List Byte) (s : State) : Host.Outcome State Fault Refusal := s.popRow (fun t => t = 3) src msg
/-- POP_EXEC (R622). -/
def execPopExec (src : PopFrom) (msg : List Byte) (s : State) : Host.Outcome State Fault Refusal := s.popRow (fun t => t = 4) src msg
/-- POP_SUBSCRIBE (R623). -/
def execPopSubscribe (src : PopFrom) (msg : List Byte) (s : State) : Host.Outcome State Fault Refusal := s.popRow (fun t => t = 5) src msg
/-- POP_BATCH (R624). -/
def execPopBatch (src : PopFrom) (msg : List Byte) (s : State) : Host.Outcome State Fault Refusal := s.popRow (fun t => t = 7) src msg
/-- POP_OPEN (R626, R628, R629). -/
def execPopOpen (src : PopFrom) (msg : List Byte) (s : State) : Host.Outcome State Fault Refusal := s.popRow (fun t => t = 0x10) src msg
/-- POP_PROOF (R626, R629). -/
def execPopProof (src : PopFrom) (msg : List Byte) (s : State) : Host.Outcome State Fault Refusal := s.popRow (fun t => t = 0x12) src msg
/-- POP_CLOSE (R628). -/
def execPopClose (src : PopFrom) (msg : List Byte) (s : State) : Host.Outcome State Fault Refusal := s.popRow (fun t => t = 0x14) src msg

/-- PROOF_TIMEOUT (R626): a handshake ends without a response. -/
def execProofTimeout (session : Nat) (s : State) : Host.Outcome State Fault Refusal :=
  .next (s.when (s.live && s.sys.fwRunning) fun s =>
    { s with pop := { s.pop with shakes := s.pop.shakes.filter (fun k => k.session != session) } })

/-- SESSION_CLOSE_EXEC (R628): the session that an EXEC of object 0x1000.12 names closes. -/
def execSessionCloseExec (session : Nat) (s : State) : Host.Outcome State Fault Refusal :=
  .next (s.when (s.live && s.sys.fwRunning) fun s => s.submitClose session 3)

/-- SESSION_IDLE_TIMEOUT (R628). -/
def execSessionIdleTimeout (session : Nat) (s : State) : Host.Outcome State Fault Refusal :=
  .next (s.when (s.live && s.sys.fwRunning) fun s => s.submitClose session 1)

/-! ### The ledger's POP records (R556, R558, R633) -/

/-- A POP message of the ledger runs at its boundary; both units remember its result, and the Active one answers. -/
def State.popApply (s : State) (src : PopFrom) (m : List Byte) (rseq : Nat) : State :=
  let h := popHdr m
  match s.sess h.session with
  | none => s
  | some x =>
    let x := if x.mem.any (fun e => e.req = h.req) then x else s.remember x { req := h.req, at' := s.tim.cnt, resp := none }
    let s := s.setSess x
    let r := s.popRun x h (popBody m) src true
    match r.1 with
    | some a => r.2.popRespond src x h.req h.typ { a with late := false } (rseq + 1)
    | none => r.2

/-- A session that the ledger opens; the one of the Active unit's own SPI port has no source and no key. -/
def State.openApply (s : State) (num role addr port : Nat) (key : List Byte) : State :=
  s.openSession { num := num, spi := s.role = 2 && addr = 0 && port = 0 && key.isEmpty, role := role, addr := addr, port := port, key := key }

/-- The answer of an EXEC of object 0x8030.01 once its probe has ended (R548, R622). -/
def State.witnessStep (s : State) : State :=
  match s.pop.witness with
  | none => s
  | some (num, req, dst) =>
    if s.pair.probe.isSome then s
    else
      let s : State := { s with pop := { s.pop with witness := none } }
      match s.sess num with
      | none => s
      | some x =>
        let y := popMake 0x84 num req 0 0 0 ([2, 0, 0, 0] ++ leBytes 1 s.pair.reply) x.mac
        (s.noteResp num req y).popEmit dst y

end Sys2Proof.Machine
end

