-- ==== Sys2Proof/Machine/Hostport.lean ====
section
/-! DEFINITION. The host SPI port (R635, R636), the I²C supervision port (R637), and the event controller's own steps: the
overflow event and the recorder (R652 to R656). -/

namespace Sys2Proof.Machine

open Sys2Proof

/-! ### Host SPI port -/

/-- BOOT_LOAD: the host may write an image (R635). -/
def State.bootLoad (s : State) : Bool :=
  (s.fld fSYS_STRAP_BOOT = 3 && s.fld fSYS_BOOT_STATUS_STAGE = 1) || s.fld fSYS_BOOT_STATUS_STAGE = 0xF

/-- TX_SPACE: one of the four places for a received message is free. -/
def State.spiRoom (s : State) : Bool := decide (s.pop.spiIn.length < 4)

/-- The queue of sixteen has room for one more response, those that still wait counted. -/
def State.spiOutRoom (s : State) : Bool :=
  decide (s.pop.spiOut.length + (s.pop.waits.filter (fun w => w.dst = .spi)).length < 16)

/-- One received message is served, or one discarded SEND answered with BUSY, while its response has room. -/
def State.spiServe (s : State) : State :=
  if !s.sys.fwRunning || !s.spiOutRoom then s
  else match s.pop.spiIn with
    | m :: rest =>
      let s : State := { s with pop := { s.pop with spiIn := rest } }
      s.popRx .spi m
    | [] =>
      match s.pop.spiBusy with
      | m :: rest =>
        let s : State := { s with pop := { s.pop with spiBusy := rest } }
        s.popBare .spi (popHdr m) 11 0
      | [] => s

/-- Received messages are served in order while there is room for their responses. -/
def State.spiPump (s : State) : State := forN (s.pop.spiIn.length + s.pop.spiBusy.length) (fun _ s => s.spiServe) s

/-- SPI_STATUS (R635): the status byte. -/
def execSpiStatus (s : State) : Host.Outcome State Fault Refusal :=
  .next (s.when (s.up && !s.sys.engReset) fun s =>
    let b := (if s.pop.spiOut.isEmpty then 0 else 1) + (if s.spiRoom then 2 else 0) + (if s.bootLoad then 4 else 0) +
      (if s.pop.sessions.any (fun x => x.spi) then 8 else 0)
    { s with pop := { s.pop with spiReply := leBytes 1 b } })

/-- SPI_SEND (R635): one message of `len` bytes; discarded when chip select rises before its end or LEN exceeds 1,472, and
answered with BUSY later when there is no space. -/
def execSpiSend (len : Nat) (msg : List Byte) (s : State) : Host.Outcome State Fault Refusal :=
  .next (s.when (s.live && decide (len ≤ 1472) && decide (len ≤ msg.length)) fun s =>
    let m := msg.take len
    if s.spiRoom then
      let s : State := { s with pop := { s.pop with spiIn := s.pop.spiIn ++ [m] } }
      s.spiPump
    else { s with pop := { s.pop with spiBusy := s.pop.spiBusy ++ [m.take 24] } })

/-- SPI_RECEIVE (R635): LEN and the next message; one whose transaction ends early stays queued. -/
def execSpiReceive (early : Bool) (s : State) : Host.Outcome State Fault Refusal :=
  .next (s.when (s.up && !s.sys.engReset) fun s =>
    match s.pop.spiOut with
    | [] => { s with pop := { s.pop with spiReply := [0, 0] } }
    | m :: rest =>
      let s : State := { s with pop := { s.pop with spiReply := leBytes 2 m.length ++ m } }
      if early then s
      else
        let s : State := { s with pop := { s.pop with spiOut := rest } }
        s.spiPump)

/-- SPI_IMAGE (R635): image bytes to working RAM while BOOT_LOAD = 1. -/
def execSpiImage (offset : Nat) (data : List Byte) (s : State) : Host.Outcome State Fault Refusal :=
  .next (s.when (s.up && !s.sys.engReset && s.bootLoad) fun s =>
    forN (min data.length (0x100000 - offset)) (fun i s => s.wrMem (0x08000000 + offset + i) 1 (data.getD i 0).toNat) s)

/-- SPI_IMAGE_DONE (R71, R72, R635): the boot ROM checks the image of `len` bytes, whose attributes it finds as `image`; one that
passes starts. An image that fails any check is not run, and the port still takes another. -/
def execSpiImageDone (len : Nat) (image : FwSlot) (s : State) : Host.Outcome State Fault Refusal :=
  .next (s.when (s.up && !s.sys.engReset && s.bootLoad && decide (len ≤ 0x100000) && !s.sys.fwRunning) fun s =>
    if s.imageOk image then s.startFirmware image else s)

/-! ### I²C supervision -/

/-- CRC-8 of SMBus, polynomial x⁸ + x² + x + 1, of one byte: `k` shifts. -/
def crc8Go (k c : Nat) : Nat :=
  match k with
  | 0 => c
  | k + 1 => crc8Go k (if c.testBit 7 then (2 * c % 256) ^^^ 0x07 else 2 * c)

/-- The PEC of a transaction's bytes (R637). -/
def pec (l : List Byte) : Nat := l.foldl (fun c b => crc8Go 8 (c ^^^ b.toNat)) 0

/-- The register that SEL names. -/
def i2cReg (sel : Nat) : Option Reg :=
  ([.SYS_PWR_CTRL, .SYS_RESET_CTRL, .SYS_RESET_CAUSE, .SYS_STRAP, .SYS_BOOT_STATUS] : List Reg)[sel]?

/-- The outcome of the last transaction: the bytes returned and whether the engine answered NACK. -/
def State.i2cDone (s : State) (b : List Byte) (nack : Bool) : State := { s with pop := { s.pop with lastI2c := b, i2cNack := nack } }

/-- I2C_WRITE (R637): SEL, the data bytes and the PEC that the master sends; it needs no firmware. A wrong SEL, count or PEC is
NACKed and nothing is performed. SYS_STRAP and SYS_BOOT_STATUS ignore the write. -/
def execI2cWrite (sel : BitVec 8) (data : List Byte) (pecByte : BitVec 8) (s : State) : Host.Outcome State Fault Refusal :=
  .next (s.when s.up fun s =>
    match i2cReg sel.toNat with
    | none => s.i2cDone [] true
    | some r =>
      if data.length != 4 || pecByte.toNat != pec (0x78 :: sel :: data) then s.i2cDone [] true
      else
        let s := s.i2cDone [] false
        let v := ofLeBytes data
        match r with
        | .SYS_PWR_CTRL | .SYS_RESET_CTRL | .SYS_RESET_CAUSE => s.regDo 0x3A r 0 0 v
        | _ => s)

/-- I2C_READ (R637): four data bytes and the PEC; SYS_RESET_CTRL reads as zero. -/
def execI2cRead (sel : BitVec 8) (s : State) : Host.Outcome State Fault Refusal :=
  .next (s.when s.up fun s =>
    match i2cReg sel.toNat with
    | none => s.i2cDone [] true
    | some r =>
      let d := leBytes 4 (if r = .SYS_RESET_CTRL then 0 else s.regVal r 0 0)
      s.i2cDone (d ++ leBytes 1 (pec ([0x78, sel, 0x79] ++ d))) false)

/-! ### The event controller (R652 to R656) -/

/-- The queue of a route has space again: 0 intake, 1 control processor, 2 recorder. -/
def State.evtSpace (s : State) (route : Nat) : Bool :=
  if route = 0 then decide (s.evt.intake.length < 512)
  else if route = 1 then decide (s.evt.cpq.length < 256) else decide (s.evt.recq.length < 1024)

/-- EVT_OVERFLOW (R652): event 5 with the route and the records dropped since, at most once per second per route. -/
def execEvtOverflow (route : Nat) (s : State) : Host.Outcome State Fault Refusal :=
  let n := nget 0 s.evt.dropped route
  let at' := nget 0 s.evt.ovfAt route
  .next (s.when (s.eventsOn && decide (route < 3) && decide (n ≠ 0) && s.evtSpace route &&
      (at' = 0 || decide (at' - 1 + s.corePerSec ≤ s.tim.cnt))) fun s =>
    let s : State := { s with evt := { s.evt with dropped := nset 0 s.evt.dropped route 0, ovfAt := nset 0 s.evt.ovfAt route (s.tim.cnt + 1) } }
    s.raise 5 [a8 route, a32 n])

/-- Bytes written to the Deep Cistern from byte `a` of the fabric address space. -/
def State.wrBytes (s : State) (a : Nat) (l : List Byte) : State :=
  forN l.length (fun i s => s.wrMem (a + i) 1 (l.getD i 0).toNat) s

/-- The header of the recorder region (R654). -/
def recHeader (cap next : Nat) : List Byte := leBytes 4 1 ++ leBytes 4 cap ++ leBytes 4 next ++ List.replicate 52 0

/-- The recorder's region: base address and capacity in records (R654). -/
def State.recRegion (s : State) : Option (Nat × Nat) := (s.region 2).map (fun r => (dcisAddr r.1, (r.2 - 64) / 48))

/-- One record takes its place in the region; the header follows after every 1,024 records. -/
def State.recordOne (s : State) (base cap : Nat) (r : EvRec) : State :=
  let k := r.seq % cap
  let s := s.wrBytes (base + 64 + 48 * k) (recBytes r)
  let s : State := { s with evt := { s.evt with store := nset none s.evt.store k (some r), sinceHdr := s.evt.sinceHdr + 1 } }
  if 1024 ≤ s.evt.sinceHdr then
    let n := (r.seq + 1) % 2 ^ 32
    let s := s.wrBytes base (recHeader cap n)
    { s with evt := { s.evt with sinceHdr := 0, hdrNext := n } }
  else s

/-- RECORDER_WRITE (R653, R654): queued records go to the region in SEQ order while it is ready. -/
def execRecorderWrite (s : State) : Host.Outcome State Fault Refusal :=
  .next (s.when (s.live && s.dcisState = 2) fun s =>
    match s.recRegion with
    | none => s
    | some (base, cap) =>
      if cap = 0 then s
      else
        let q := s.evt.recq
        let s : State := { s with evt := { s.evt with recq := [] } }
        forL q (fun r s => s.recordOne base cap r) s)

end Sys2Proof.Machine
end

