-- ==== Sys2Proof/Machine/Boundary.lean ====
section
/-! DEFINITION. The block boundary (R668 to R675): the nine steps in their fixed order, and the replay of a stored block on a
unit that joins (R563). -/

namespace Sys2Proof.Machine

open Sys2Proof

/-! ### Step 0: the close of the block before -/

/-- Every task of a site that is clocked has had its deadline handled for the block in force (R274, R668). -/
def State.deadlines (s : State) : State :=
  forN 36 (fun n s => if s.siteClocked n then forN 512 (fun t s => s.deadlineOf n t) s else s) s

/-- Step 0 at boundary `j` (R668): deadlines, the block that the egress blocks form, and abandoned Deep Cistern moves. -/
def State.closeBlock (s : State) (j : Nat) : State :=
  let s := if s.tim.blkIdx.isNone then s
    else
      let k := s.blkIndex
      (((s.deadlines).formBlock k).txCollect k).wellOnTime k
  s.boundaryMoves j

/-! ### Steps 1 and 3: the inputs of the ledger (R556, R558) -/

/-- Inputs that are due at boundary `j`, in RSEQ order; a Syncing unit keeps them for its replay (R563). -/
def State.dueInputs (s : State) (j : Nat) : List LedgerRec := s.pair.inputs.filter (fun r => decide (r.apply ≤ j))

/-- An anchor record acts in step 1 (R558). -/
def State.anchorInput (s : State) (r : LedgerRec) : State :=
  match r.body with
  | .anchor dm e ev => { s with tim := { s.tim with ledgerAnchor := some (dm, e, ev) } }
  | _ => s

/-- A capture boundary acts before the block begins, so that the image is the state that block K starts from (R563). -/
def State.captureInput (s : State) (r : LedgerRec) : State :=
  match r.body with
  | .capture k => if s.role = 2 then s.capture k else s
  | _ => s

/-- EXEC of an object that the ledger carries without a POP message (R61, R372, R560 cause 11). -/
def State.execInput (s : State) (idx sub : Nat) (arg : List Byte) : State :=
  if idx = 0x7000 then
    let s := s.applyWrites
    (if sub = 0x10 then s.pressExec 0 arg else if sub = 0x20 then s.pressExec 1 arg
     else if sub = 0x11 then s.pressCancel.answer 0 0 0 else s.vatClear)
  else if idx = 0x8010 && s.role = 3 then s.diverge 11
  else s

/-- One input in step 3 of boundary `j` (R558): Press stamps are noted for step 4, a handover for step 7 and a Session Reset
for step 8; anchors and captures have acted. -/
def State.input (s : State) (j : Nat) (r : LedgerRec) : State :=
  match r.body with
  | .pump op n t b => s.when (s.siteClocked n) fun s => s.pumpCmd op n t b
  | .regWrite a v => s.regApply a v
  | .press _ =>
    (match s.scene.press with
     | some p => { s with scene := { s.scene with press := some { p with stamped := some j } } }
     | none => s)
  | .anchor _ _ _ => s
  | .chime g level => s.takeChime g level
  | .pop src m => s.popApply src m r.rseq
  | .exec idx sub arg => s.execInput idx sub arg
  | .sessionReset => { s with sys := { s.sys with sesReq := true } }
  | .sessionOpen num role addr port key => s.openApply num role addr port key
  | .sessionClose num cause => s.closeSession num cause
  | .clusterReset n => s.beginClusterReset n
  | .shed l _ => s.shedTasks l
  | .capture _ => s
  | .handover h => { s with pair := { s.pair with handover := some h } }

/-- Inputs leave the queue and act in RSEQ order. -/
def State.takeInputs (s : State) (j : Nat) : State :=
  let l := s.dueInputs j
  let s : State := { s with pair := { s.pair with inputs := s.pair.inputs.filter (fun r => !decide (r.apply ≤ j)) } }
  forL l (fun r s => s.input j r) s

/-- ARM of every task that waits for it (R262). -/
def State.armStep (s : State) : State :=
  forL (s.pump.rt.filter (fun e => e.2.armDue)) (fun e s => s.applyArm (e.1 / 512) (e.1 % 512)) s

/-- Step 3 at boundary `j` (R668): glide tags that have become free, inputs, atomic batches, WRITEs, ARM, and TDM stops. On a
unit that joins, inputs wait for its replay. -/
def State.inputStep (s : State) (j : Nat) (joins : Bool) : State :=
  let s := (s.tagBoundary j).retryGlides
  let s := if joins then s else s.takeInputs j
  (((s.runJobs).applyWrites).armStep).tdmStopStep

/-! ### Steps 5 to 8 -/

/-- Step 5 (R668): route changes, filter and delay changes whose crossfade has ended, the gain words of this block (R299) and
the generators' block values (R525). -/
def State.routesStep (s : State) : State := ((((s.routeStep).releaseStages).releaseDelays).gainBlock).genBoundary

/-- Step 6 (R668): silence detectors, then WELL_OFF and the Sounding pilots that follow them (R324, R596). -/
def State.silenceStep (s : State) (j : Nat) : State := ((s.detStep j).wellOffStep).soundStep

/-- Step 7 (R668): claims, handovers and releases, the digest that is missing, and lockstep entry as its last action (R564). -/
def State.claimStep (s : State) (j : Nat) (enters : Bool) : State :=
  let s := (s.pairStep j).digestMissing j
  if enters then s.setRole 3 0 else s

/-- TICK in every armed task, after the Pump's boundary writes (R258, R670). -/
def State.ticks (s : State) : State := forN 36 (fun n s => if s.pumpRuns n then s.tickSite n else s) s

/-! ### What 0xF030 reports (R675) -/

/-- Step 1 acted: an anchor, a step of a timescale, a restart of S, or a new target of a timed Press. -/
def acted1 (a b : State) : Bool :=
  a.mapOfs != b.mapOfs || a.fld fTIM_MAP_STATUS_ANCHORS != b.fld fTIM_MAP_STATUS_ANCHORS || a.tim.doms != b.tim.doms ||
  a.tim.cSamp != b.tim.cSamp || a.scene.press != b.scene.press

/-- Step 2 acted: a resource was mapped or tasks were shed. -/
def acted2 (a b : State) : Bool := a.hlth != b.hlth || a.pump.shed != b.pump.shed

/-- Step 3 has something to do. -/
def acts3 (s : State) (j : Nat) : Bool :=
  !(s.dueInputs j).isEmpty || !s.scene.writes.isEmpty || !s.pop.jobs.isEmpty || s.pump.rt.any (fun e => e.2.armDue) ||
  s.tdm.any (fun e => e.2.stop)

/-- Step 5 acted: a route was taken or held, or a held filter or delay change began. -/
def acted5 (a b : State) : Bool :=
  a.route.due != b.route.due || a.route.held != b.route.held || a.route.fades != b.route.fades ||
  a.scene.stages != b.scene.stages || a.scene.delays != b.scene.delays

/-- Step 6 acted: a detector changed state or QUIESCE was set or cleared. -/
def acted6 (a b : State) : Bool :=
  a.route.dets.map (fun e => (e.1, e.2.state)) != b.route.dets.map (fun e => (e.1, e.2.state)) ||
  (a.route.serves.any fun v => a.fld fTASK_QUIESCE v.site v.slot != b.fld fTASK_QUIESCE v.site v.slot)

/-- Step 7 acted: CLAIM, role or the planes changed. -/
def acted7 (a b : State) : Bool :=
  a.role != b.role || a.claims != b.claims || a.pair.release != b.pair.release || a.pair.dropClaim != b.pair.dropClaim

/-- Object 0xF030 after boundary `j`: the steps that acted, and the core cycles to the last TICK, which the spec bounds but does
not give: a free value of at most 64 + 2 × L_c (R365, R670; log entry 62). -/
def State.noteSteps (s : State) (j mask : Nat) : State :=
  if mask = 0 then s
  else
    let v := s.takeFree 32
    let t := v.1.toNat % (65 + 2 * s.lc)
    let s := v.2
    { s with tim := { s.tim with actBlk := j, actMask := mask, actTick := t } }

/-! ### The boundary -/

/-- An anchor that step 1 has made goes to the ledger. -/
def State.ledgerAnchors (s : State) : State :=
  match s.tim.anchorOut with
  | some (dm, e, ev) => { s with tim := { s.tim with anchorOut := none } }.submit (.anchor dm e ev)
  | none => s

/-- The block's inputs from the network, the TDM ports and the test generators, and its transmit packets. -/
def State.blockInputs (s : State) (j : Nat) : State := (((s.netIngress j).tdmIngress j).sineIngress j).txBoundary j

/-- A Session Reset that was asked for takes place (R60). -/
def State.sessionStep (s : State) : State := if s.sys.sesReq then s.sessionReset else s

/-- Captures whose block has come, taken from the state before the block's inputs, and their anchors; a unit that joins takes
none. -/
def State.capturesDue (s : State) (joins : Bool) : State :=
  if joins then s else forL (s.dueInputs s.blkIndex) (fun r s => (s.captureInput r).anchorInput r) s

/-- The bit of step `k` in the mask of object 0xF030.02. -/
def stepBit (k : Nat) (b : Bool) : Nat := if b then 2 ^ k else 0

/-- Steps 1 to 8 of the boundary that begins block `s.blkIndex` (R668, R669). -/
def State.boundarySteps (s : State) (joins enters : Bool) : State :=
  let s0 := s.capturesDue joins
  let s1 := (s0.reAnchorStep).retarget.ledgerAnchors
  let j := s1.blkIndex
  let s1i := s1.blockInputs j
  let s2 := s1i.spareStep
  let s3 := s2.inputStep j joins
  let p := s3.pressStep j
  let s5 := p.1.routesStep
  let s6 := s5.silenceStep j
  let s7 := s6.claimStep j enters
  let mask := stepBit 1 (acted1 s0 s1) + stepBit 2 (acted2 s1i s2) + stepBit 3 (acts3 s2 j) + stepBit 4 p.2
    + stepBit 5 (acted5 p.1 s5) + stepBit 6 (acted6 s5 s6) + stepBit 7 (acted7 s6 s7)
    + stepBit 8 (s7.sys.sesReq && s7.sys.cluReset = 0)
  (s7.sessionStep.ticks).noteSteps j mask

/-- What follows the boundary: the configuration digest (R615), amplifiers heard (R638), answers and notifications that it
releases (R623, R632), and the MARKER to the partner (R551). -/
def State.boundaryAfter (s : State) : State :=
  let s := (s.takeDigest).hearAmps
  let s := if s.sys.fwRunning then (((s.witnessStep).releaseWaits).notifyScan).spiPump else s
  s.sendMarker s.blkIndex

/-- BLOCK_BOUNDARY (R668): the counter reaches the next boundary and the steps run; while an Engine Reset is in progress only
the time unit takes part (R56). -/
def execBlockBoundary (s : State) : Host.Outcome State Fault Refusal :=
  .next (s.when (s.clocked && s.tim.running) fun s =>
    let j := match s.tim.blkIdx with | some k => k + 1 | none => 0
    let c := max s.tim.cnt (s.boundaryAt j)
    let s := s.drain (c - s.tim.cnt)
    let s : State := { s with tim := { s.tim with cnt := c } }
    if s.sys.engReset then
      let s : State := { s with tim := { s.tim with blkIdx := some j } }
      s.reAnchorStep
    else
      let due := s.lockstepDue
      let s := s.closeBlock j
      let s : State := { s with tim := { s.tim with blkIdx := some j } }
      let s := match due with | some m => s.lockstepBegin m | none => s
      (s.boundarySteps (s.role = 1 && due.isNone) due.isSome).boundaryAfter)

/-! ### The replay of a joining unit (R563 to R565) -/

/-- Inputs and stored ingress of block `k` act in the replay; inputs before the capture boundary are already in the image. -/
def State.replayBlock (s : State) (c : Copy) (k : Nat) : State :=
  let l := s.dueInputs k
  let s : State := { s with pair := { s.pair with inputs := s.pair.inputs.filter (fun r => !decide (r.apply ≤ k)) } }
  let l := l.filter (fun r => decide (c.k ≤ r.apply))
  let s := forL l (fun r s => s.anchorInput r) s
  let s := match s.tim.ledgerAnchor with
    | some (dm, e, ev) => ({ s with tim := { s.tim with ledgerAnchor := none } }).anchorAct dm e ev
    | none => s
  let s := forL (c.stored.filter (fun p => p.blk = k)) (fun p s => s.ingressPiece p) s
  let s := forL l (fun r s => s.input k r) s
  s.applyWrites

/-- REPLAY_BLOCK_COMPLETE (R563, R565): the joining unit has replayed block k from its stored inputs and has formed the digests
`out` and `tdmIn`; a difference from the partner's ends the copy, otherwise the next block follows and BACKLOG falls. -/
def execReplayBlockComplete (out tdmIn : Nat) (s : State) : Host.Outcome State Fault Refusal :=
  .next (s.when (s.live && s.role = 1) fun s =>
    match s.pair.copy with
    | none => s
    | some c =>
      match c.replay with
      | none => s
      | some k =>
        if s.pair.theirs.any (fun e => e.1 = k && e.2 != (out, tdmIn)) then s.syncFail
        else
          let s := s.replayBlock c k
          let c := { c with replay := some (k + 1), stored := c.stored.filter (fun p => decide (k < p.blk)) }
          let s : State := { s with pair := { s.pair with copy := some c } }
          s.setBacklog)

/-! ### Core cycles without a command -/

/-- The record that the firmware takes next: the highest priority, the lowest SEQ within it (R650). -/
def nextRecord (l : List EvRec) : Option EvRec := l.foldl (fun m r =>
  match m with | none => some r | some b => if b.prio < r.prio then some r else m) none

/-- The firmware takes one record of the control processor queue (R650). -/
def State.takeRecord1 (s : State) : State :=
  match nextRecord s.evt.cpq with
  | some r => { s with evt := { s.evt with cpq := s.evt.cpq.erase r } }
  | none => s

/-- One core cycle in which no command acts (log entry 4): the counter rises (R138), the intake queue gives up one record
(R652), and the firmware, while it runs, takes one (R650). Without the root clock nothing happens. -/
def State.idleCycle (s : State) : State :=
  s.when s.clocked fun s =>
    let s : State := { s with tim := { s.tim with cnt := (s.tim.cnt + 1) % 2 ^ 80 } }
    let s := s.drainOne
    if s.sys.fwRunning then s.takeRecord1 else s

end Sys2Proof.Machine
end

