-- ==== Sys2Proof/Machine/Fabric.lean ====
section
/-! DEFINITION. The bus matrix (spec 12, 21): requests and their checks, arbitration, bursts beat by beat at each target, locked
sequences and master ports in reset. -/

namespace Sys2Proof.Machine

open Sys2Proof

/-! ### Masters and targets (R414 to R418) -/

/-- Class A masters (R414). -/
def classA (m : Nat) : Bool := decide (m < 36) || (decide (0x30 ≤ m) && decide (m ≤ 0x33)) || [0x38, 0x3E, 0x3F].contains m

/-- The port of master `m` is in reset (R435). -/
def State.portDown (s : State) (m : Nat) : Bool :=
  if m < 36 then bit s.sys.cluReset m || !s.siteClocked m
  else if m = 0x38 then !s.siphUp
  else if m = 0x3C then !s.dbgOn else false

/-- Kinds of target: 0 boot ROM, 1 working RAM, 2 register space, 3 boot flash, 4 Deep Cistern, 5 cluster window, 6 Cistern. -/
def tgtKind (t : Nat) : Nat := if t < 5 then t else if t < 0x40 then 5 else 6

/-- The host bridge reaches working RAM (R418). -/
def State.bridgeRam (s : State) : Bool :=
  (s.fld fSYS_STRAP_BOOT = 3 && s.fld fSYS_BOOT_STATUS_STAGE = 1) || s.fld fSYS_BOOT_STATUS_STAGE = 0xF

/-- The table of R418; writes to the boot ROM and the flash are judged apart. -/
def State.mayReach (s : State) (m kind : Nat) (write : Bool) : Bool :=
  if decide (m < 36) || (decide (0x30 ≤ m) && decide (m ≤ 0x33)) || m = 0x3F then kind = 6
  else if m = 0x38 || m = 0x3E then kind = 1 || kind = 4 || kind = 6
  else if m = 0x39 then kind = 2 || kind = 5 || kind = 6 || (kind = 4 && !write)
  else if m = 0x3B then kind = 2 || (kind = 1 && s.bridgeRam)
  else m = 0x3A || (m = 0x3C && s.dbgOn)

/-- The lock at target `t` is released. -/
def State.unlock (s : State) (t : Nat) : State :=
  (({ s with fab := { s.fab with locks := nerase s.fab.locks t } }).put fFAB_TGTt_CTRL_LOCKED 0 t).put fFAB_TGTt_CTRL_LOCK_MASTER 0 t

/-- Master port `m` enters reset (R436 steps 1, 4 and 5): its waiting requests and its response are dropped and its locks are
released. -/
def State.portReset (s : State) (m : Nat) : State :=
  let s : State := { s with fab := { s.fab with queue := s.fab.queue.filter (fun q => q.master != m), resp := nerase s.fab.resp m } }
  forL (s.fab.locks.filter (fun e => e.2.master = m)) (fun e s => s.unlock e.1) s

/-! ### One beat at each target -/

/-- What a beat gives: the state, a cause of R423 (0: OK, 99: COLLIDED) and the read data. -/
abbrev Beat := State × Nat × Nat

/-- A beat refused with a cause; the data of a read that fails is open. -/
def State.badBeat (s : State) (cause : Nat) : Beat :=
  let v := s.takeFree 64
  (v.2, cause, v.1.toNat)

/-- ECC words of the 8-byte range at `base` in which `be` enables a byte. -/
def beatWords (base be : Nat) : List Nat :=
  if be % 256 = 0 then []
  else if eccLen base = 4 then
    (if be % 16 != 0 then [base] else []) ++ (if be / 16 % 16 != 0 then [base + 4] else [])
  else [base]

/-- `be` enables the whole of ECC word `w`. -/
def beatWhole (base be w : Nat) : Bool := if eccLen base = 4 then be / 2 ^ (w - base) % 16 = 15 else be % 256 = 255

/-- ECC words read one after the other; `ecc` is what the check of the first finds. The second value tells whether one is
uncorrectable. -/
def State.readWords (s : State) (l : List Nat) (ecc : Ecc) : State × Bool :=
  match l with
  | [] => (s, false)
  | w :: r =>
    let e := s.eccOf w ecc
    let t := (s.eccRead w e).readWords r .ok
    (t.1, e = .uncorrectable || t.2)

/-- A read or a write of the memory range at `base` (R381, R382, R389, R396, R404). `f` gives the word to merge from the old one;
`rmw` tells that it is needed. A write that must read first is not performed on an uncorrectable word. -/
def State.memBeat (s : State) (base be : Nat) (f : Option (Nat → Nat)) (rmw : Bool) (ecc : Ecc) : Beat :=
  let ws := beatWords base be
  match f with
  | none =>
    let r := s.readWords ws ecc
    if r.2 then r.1.badBeat 8 else (r.1, 0, r.1.rdMem base 8)
  | some g =>
    let r := s.readWords (if rmw then ws else ws.filter (fun w => !beatWhole base be w)) ecc
    if r.2 then r.1.badBeat 8
    else
      let old := r.1.rdMem base 8
      let new := mergeBytes be old (g old)
      (forL ws (fun w s => s.wrMem w (eccLen base) (new / 2 ^ (8 * (w - base)))) r.1, 0, 0)

/-- Lowest enabled byte of a beat. -/
def firstLane (be : Nat) : Nat := ((List.range 8).find? (fun i => be.testBit i)).getD 0

/-- A read of register space (R680, R681): any bytes; TIM_COUNT_LO only whole, latching the counter. -/
def State.regRead (s : State) (master base be : Nat) : Beat :=
  let lanes := (List.range 8).filter (fun i => be.testBit i)
  let c := s.spaceCause master (base + firstLane be)
  if lanes.isEmpty then (s, 0, 0)
  else if c != 0 then s.badBeat c
  else if hiddenRegs base then s.badBeat 0
  else
    let found := lanes.filterMap (fun i => (regAt (base + i)).map (fun x => (i, x)))
    if found.isEmpty then s.badBeat 1
    else if found.any (fun x => x.2.1 = .TIM_COUNT_LO) then
      (if be % 256 = 255 then (let t := s.latchCount; (t, 0, t.word .TIM_COUNT_LO)) else s.badBeat 4)
    else
      (s, 0, found.foldl (fun w x => w + s.regVal x.2.1 x.2.2.1 x.2.2.2.1 / 2 ^ (8 * x.2.2.2.2) % 256 * 2 ^ (8 * x.1)) 0)

/-- A write of register space (R680): exactly the bytes of one register. -/
def State.regBeat (s : State) (master base be v : Nat) : Beat :=
  if be % 256 = 0 then (s, 0, 0)
  else
    let lo := firstLane be
    let a := base + lo
    let c := s.spaceCause master a
    if c != 0 then (s, c, 0)
    else if hiddenRegs a then (s, 0, 0)
    else
      match regAt a with
      | some (r, _, _, o) =>
        if o = 0 && be % 256 = (2 ^ r.bytes - 1) * 2 ^ lo then
          (let q := s.regWrite master a (v / 2 ^ (8 * lo) % 2 ^ (8 * r.bytes)); (q.1, q.2, 0))
        else (s, 4, 0)
      | none => (s, if (List.range 8).any (fun i => be.testBit i && (regAt (base + i)).isSome) then 4 else 1, 0)

/-- A read of the Pump area of a cluster window (R678). -/
def State.winRead (s : State) (base : Nat) : Nat :=
  (List.range 8).foldl (fun w i =>
    match regAt (base + i) with
    | some (r, x, y, o) => w + s.regVal r x y / 2 ^ (8 * o) % 256 * 2 ^ (8 * i)
    | none => w) 0

/-- A write of the Pump area of a cluster window (R252, R678): each record that the enabled bytes reach takes them. -/
def State.winWrite (s : State) (master base be v : Nat) : Beat :=
  let hit := ([0, 4] : List Nat).filterMap (fun d =>
    match regAt (base + d) with
    | some (r, i, j, 0) => if be / 2 ^ d % 2 ^ r.bytes != 0 then some (d, r, i, j) else none
    | _ => none)
  if hit.any (fun x => (x.2.1 = .TASK_W0 || x.2.1 = .TASK_W1 || x.2.1 = .TASK_W2 || x.2.1 = .TASK_W3) &&
      decide (1 < s.tState x.2.2.1 x.2.2.2)) then (s, 7, 0)
  else
    (forL hit (fun x s =>
      let old := s.word x.2.1 x.2.2.1 x.2.2.2
      let new := mergeBytes (be / 2 ^ x.1 % 2 ^ x.2.1.bytes) old (v / 2 ^ (8 * x.1))
      s.regDo master x.2.1 x.2.2.1 x.2.2.2 new) s, 0, 0)

/-- The site of an address of the cluster windows (R382). -/
def cluSite (base : Nat) : Nat := (base - 0x20000000) / 0x100000

/-- The address is in a memory of its cluster, not in its registers (R382). -/
def inCluMem (base : Nat) : Bool := decide (base % 0x100000 < 0x50000)

/-- A beat at a cluster window slot (R380, R437, R678). -/
def State.cluBeat (s : State) (master base be : Nat) (write : Option Nat) (ecc : Ecc) : Beat :=
  let c := s.siteCause master (cluSite base)
  if c != 0 then s.badBeat c
  else if inCluMem base then s.memBeat base be (write.map (fun v _ => v)) false ecc
  else if (regAt base).isNone then s.badBeat 1
  else match write with
    | none => (s, 0, s.winRead base)
    | some v => s.winWrite master base be v

/-- A beat at the fabric port or the owner port of a bank (R388 to R391, R393). -/
def State.cisBeat (s : State) (owner : Bool) (base be : Nat) (write : Option Nat) (ecc : Ecc) : Beat :=
  let x := base % 0x2000000
  let k := cisBank x
  let f (v : Nat) : Nat → Nat :=
    if base < 0x42000000 then fun _ => v else if base < 0x46000000 then fun old => old ||| v else fun old => old &&& (2 ^ 64 - 1 - v)
  if write.isSome && !owner && !s.flag fCIS_BANKk_CTRL_FAB_WR k then (s, 7, 0)
  else (s.touchBank k).memBeat (cisAddr x) be (write.map f) (decide (0x42000000 ≤ base)) ecc

/-- A beat at the Deep Cistern (R404, R677). -/
def State.dcisBeat (s : State) (base be : Nat) (write : Option Nat) (ecc : Ecc) : Beat :=
  if s.dcisState != 2 || decide (s.fld fDCIS_STATUS_USABLE * 0x4000000 ≤ base - 0x100000000) then s.badBeat 5
  else s.memBeat base be (write.map (fun v _ => v)) false ecc

/-- One beat of a master at the 8-byte range `base`. The boot ROM's and the flash's contents are open (log entry 54). -/
def State.beat (s : State) (owner : Bool) (master base be : Nat) (write : Option Nat) (ecc : Ecc) : Beat :=
  if write.isSome && be % 256 = 0 then (s, 0, 0)
  else match (s.decodeAddr base).map tgtKind with
    | none => s.badBeat 1
    | some 1 => s.memBeat (0x08000000 + base % 0x100000) be (write.map (fun v _ => v)) false ecc
    | some 2 => (match write with | none => s.regRead master base be | some v => s.regBeat master base be v)
    | some 4 => s.dcisBeat base be write ecc
    | some 5 => s.cluBeat master base be write ecc
    | some 6 => s.cisBeat owner base be write ecc
    | some _ => s.badBeat 0

/-! ### Bursts (R420, R421, R425, R430) -/

/-- Another port writes, in the same cycle, the row or word that a write beat reaches (R379, R390). -/
def collides (base be : Nat) (hit : Option Nat) : Bool :=
  match hit with
  | none => false
  | some a =>
    if 0x40000000 ≤ base && base < 0x4A000000 then a % 0x2000000 / 8 = base % 0x2000000 / 8
    else if 0x20000000 ≤ base && base < 0x22400000 && base % 0x100000 < 0x40000 then (beatWords base be).contains (a / 4 * 4)
    else false

/-- COLLIDED of a bank raised by `n` (R390). -/
def State.countCollided (s : State) (base n : Nat) : State :=
  if 0x40000000 ≤ base && base < 0x4A000000 then s.addSat fCIS_BANKk_ERR_COLLIDED n (cisBank (base % 0x2000000)) else s

/-- A beat with the collision of `times` cycles in a row: a class A master retries eight times, the others not at all (R425). -/
def State.tryBeat (s : State) (owner : Bool) (master base be : Nat) (write : Option Nat) (hit : Option Nat) (times : Nat) (ecc : Ecc) : Beat :=
  if write.isSome && !owner && times != 0 && collides base be hit then
    if !classA master then (s.countCollided base 1, 99, 0)
    else if 9 ≤ times then (s.countCollided base 9, 0xB, 0)
    else (s.countCollided base times).beat owner master base be write ecc
  else s.beat owner master base be write ecc

/-- The first `n` beats of a burst: NOTDONE mask, whether a beat erred or collided, and the data, last beat first. A read beat
that errs is recorded on its own, a write once (R421, R423). -/
def State.runBeats (s : State) (owner : Bool) (b : FabBurst) (n : Nat) (hit : Option Nat) (times : Nat) (ecc : Ecc) :
    State × Nat × Bool × Bool × List Nat :=
  forN n (fun k (p : State × Nat × Bool × Bool × List Nat) =>
    let base := b.addr / 8 * 8 + 8 * k
    let a := if k = 0 then b.addr else base
    let w : Option Nat := if b.write then some (b.data.getD k 0) else none
    let r := p.1.tryBeat owner b.master base (b.be.getD k 0) w hit times (if k = 0 then ecc else .ok)
    let c := r.2.1
    if c = 0 then (r.1, p.2.1, p.2.2.1, p.2.2.2.1, r.2.2 :: p.2.2.2.2)
    else if c = 99 then (r.1, p.2.1 + 2 ^ k, p.2.2.1, true, 0 :: p.2.2.2.2)
    else
      let s := if b.write && p.2.2.1 then r.1 else r.1.fabError b.master c a
      (s, p.2.1 + 2 ^ k, true, p.2.2.2.1, r.2.2 :: p.2.2.2.2)) (s, 0, false, false, [])

/-- The answer to a request (R421). -/
def State.respond (s : State) (b : FabBurst) (code notDone : Nat) (data : List Nat) : State :=
  { s with fab := { s.fab with resp := nput s.fab.resp b.master { master := b.master, tag := b.tag, code := code, notDone := notDone, data := data } } }

/-- A whole burst and its answer. -/
def State.runBurst (s : State) (owner : Bool) (b : FabBurst) (hit : Option Nat) (times : Nat) (ecc : Ecc) : State :=
  let r := s.runBeats owner b b.len hit times ecc
  let code := if r.2.2.1 then 1 else if r.2.2.2.1 then 2 else 0
  r.1.respond b code r.2.1 (if b.write then [] else r.2.2.2.2.reverse)

/-- A request answered with ERROR, no beat of it performed. -/
def State.refuse (s : State) (b : FabBurst) (cause : Nat) : State :=
  (s.fabError b.master cause b.addr).respond b 1 (2 ^ b.len - 1) []

/-! ### A request (R418 to R420, R432, R433) -/

/-- The layout rules of R420, 0 when they hold. -/
def State.layoutCause (s : State) (b : FabBurst) : Nat :=
  let o := b.addr % 8
  if b.len = 0 then 2
  else if b.len = 1 then (if (List.range 8).any (fun i => decide (i < o) && (b.be.getD 0 0).testBit i) then 3 else 0)
  else if o != 0 || b.addr / 4096 != (b.addr + 8 * b.len - 1) / 4096 || s.decodeAddr b.addr != s.decodeAddr (b.addr + 8 * b.len - 1) then 3
  else 0

/-- The lock that master `m` holds, with its target. -/
def State.lockOf (s : State) (m : Nat) : Option (Nat × FabLock) := s.fab.locks.find? (fun e => e.2.master = m)

/-- The lock rules that a request breaks on its way to its target (R432, R433). -/
def State.lockBreak (s : State) (b : FabBurst) : Bool :=
  s.fab.dead.contains b.master || (b.lock && (classA b.master || b.target = 3)) ||
    (match s.lockOf b.master with | some (t, _) => t != b.target | none => false)

/-- A lock-breaking request: it is refused and the target that its master holds is released. -/
def State.refuseLock (s : State) (b : FabBurst) : State :=
  let s : State := { s with fab := { s.fab with dead := s.fab.dead.filter (fun m => m != b.master) } }
  let s := match s.lockOf b.master with | some (t, _) => s.unlock t | none => s
  s.refuse b 9

/-- The cause with which a request is refused before it reaches an arbiter, 0 if it is not (R415, R418, R420). -/
def State.requestCause (s : State) (b : FabBurst) : Nat :=
  let c := s.layoutCause b
  if c != 0 then c
  else match s.decodeAddr b.addr with
    | none => 1
    | some t =>
      if !s.mayReach b.master (tgtKind t) b.write then 4
      else if b.write && (tgtKind t = 0 || tgtKind t = 3) then 7 else 0

/-- FABRIC_REQUEST (R416, R418 to R420): checked, then served at once by the owner port of a bank that the master owns, or queued
at its target. `ecc` is the outcome of the first read of an owner-port access. -/
def execFabricRequest (r : FabReq) (ecc : Ecc) (s : State) : Host.Outcome State Fault Refusal :=
  let ok := masterOk r.master && decide (r.len ≤ 16) && decide (r.tag < 8) && decide (r.addr < 2 ^ 36)
  .next (s.when (s.live && ok && !s.portDown r.master && !s.fab.queue.any (fun q => q.master = r.master && q.tag = r.tag)) fun s =>
    let b : FabBurst := { master := r.master, tag := r.tag, addr := r.addr, write := r.write, len := r.len, be := r.be, data := r.data
                          lock := r.lock, target := (s.decodeAddr r.addr).getD 0x7F, at' := s.tim.cnt }
    let c := s.requestCause b
    if c != 0 then s.refuse b c
    else if s.lockBreak b then s.refuseLock b
    else if 0x40 ≤ b.target && s.viaOwner b.master (b.target - 0x40) then s.runBurst true b none 0 ecc
    else { s with fab := { s.fab with queue := s.fab.queue ++ [b] } })

/-! ### Arbitration (R428 to R434) -/

/-- The next code in round-robin order after `last` among the masters of a list. -/
def nextCode (last : Nat) (l : List Nat) : Option Nat := minBy (fun a b => decide ((a + 63 - last) % 64 < (b + 63 - last) % 64)) l

/-- The master that R428 grants among those that wait. -/
def State.arbitrate (s : State) (t : Nat) (l : List Nat) : Option Nat :=
  let a := l.filter classA
  let b := l.filter (fun m => !classA m)
  let toB := a.isEmpty || (!b.isEmpty && decide (7 ≤ nget 0 s.fab.run t))
  if toB then nextCode (nget 63 s.fab.last (2 * t + 1)) b else nextCode (nget 63 s.fab.last (2 * t)) a

/-- The request that target `t` grants next: the lock holder's while it is locked; at an idle target the parked master's among
the first to arrive (R431); otherwise R428. Requests of one master keep their order (R424). -/
def State.winner (s : State) (t : Nat) : Option FabBurst :=
  let q := s.fab.queue.filter (fun b => b.target = t && !s.portDown b.master)
  match s.fab.locks.find? (fun e => e.1 = t) with
  | some (_, l) => q.find? (fun b => b.master = l.master)
  | none =>
    let busy := q.any (fun b => decide (b.at' < nget 0 s.fab.grantAt t))
    let first := q.foldl (fun m b => min m b.at') (match q with | b :: _ => b.at' | [] => 0)
    let now := if busy then q else q.filter (fun b => b.at' = first)
    let codes := now.map (fun b => b.master)
    let park := s.fld fFAB_TGTt_CTRL_PARK t
    let m := if !busy && codes.contains park then some park else s.arbitrate t codes
    match m with
    | none => none
    | some m => q.find? (fun b => b.master = m)

/-- The round-robin and class B counts after a grant (R428). -/
def State.noteGrant (s : State) (t : Nat) (b : FabBurst) : State :=
  let waitsB := s.fab.queue.any (fun q => q.target = t && !classA q.master)
  let run := if classA b.master && waitsB then nget 0 s.fab.run t + 1 else 0
  { s with fab := { s.fab with
      run := nset 0 s.fab.run t run
      last := nput s.fab.last (if classA b.master then 2 * t else 2 * t + 1) b.master
      grantAt := nput s.fab.grantAt t (s.tim.cnt + 1) } }

/-- The lock after a request of the sequence (R432). -/
def State.lockAfter (s : State) (t : Nat) (b : FabBurst) (held : Nat) : State :=
  if b.lock then
    let l : FabLock := { master := b.master, beats := held + b.len, at' := s.tim.cnt }
    (({ s with fab := { s.fab with locks := nput s.fab.locks t l } }).put fFAB_TGTt_CTRL_LOCKED 1 t).put fFAB_TGTt_CTRL_LOCK_MASTER b.master t
  else if held != 0 then s.unlock t else s

/-- FABRIC_GRANT (R428 to R430): the arbiter of target `target` grants a request, which runs to its last beat. `hit` is the address of
a row or word that another port of the target writes in the same cycle, `times` cycles in a row; `ecc` is the outcome of the first
read. -/
def execFabricGrant (target : Nat) (hit : Option Nat) (times : Nat) (ecc : Ecc) (s : State) : Host.Outcome State Fault Refusal :=
  .next (match s.winner target with
    | none => s
    | some b => s.when s.live fun s =>
      let s : State := { s with fab := { s.fab with queue := s.fab.queue.erase b } }
      let held := match s.fab.locks.find? (fun e => e.1 = target) with | some (_, l) => l.beats | none => 0
      let s := s.noteGrant target b
      if (b.lock || held != 0) && decide (4 < held + b.len) then (if held != 0 then s.unlock target else s).refuse b 9
      else (s.runBurst false b hit times ecc).lockAfter target b held)

/-- LOCK_TIMEOUT (R433): more than 16 fabric cycles have passed since the last request of the sequence; the target is released, and
the holder's next request is refused. -/
def execLockTimeout (target : Nat) (s : State) : Host.Outcome State Fault Refusal :=
  .next (match s.fab.locks.find? (fun e => e.1 = target) with
    | none => s
    | some (_, l) => s.when (s.live && !s.fab.queue.any (fun b => b.target = target && b.master = l.master)) fun s =>
      let s := (s.unlock target).put fFAB_TGTt_CTRL_LOCK_TMO 1 target
      let s : State := { s with fab := { s.fab with dead := s.fab.dead ++ [l.master] } }
      s.raise 95 [])

/-- A burst of the port, under way at target `t` with `beats` beats accepted, is aborted (R436 steps 2, 3 and 6). -/
def State.abortBurst (s : State) (master t beats : Nat) : State :=
  match s.fab.queue.find? (fun b => b.master = master && b.target = t) with
  | none => s
  | some b =>
    let n := min beats b.len
    let s := if b.write then (s.runBeats false b n none 0 .ok).1 else s
    let s := ((s.put fFAB_TGTt_CTRL_ABORTED 1 t).put fFAB_TGTt_CTRL_ABORT_MASTER master t).put fFAB_TGTt_CTRL_ABORT_BEATS n t
    (s.incSat fFAB_TGTt_CTRL_ABORT_COUNT t).raise 94 [a8 master, a8 n]

/-- MASTER_PORT_RESET (R435, R436): the debug port by a TAP reset, the host bridge by a deselected SPI port, a cluster port or the
Siphon's while its unit is down. `running` names the target of a burst under way, `beats` the beats it has accepted. -/
def execMasterPortReset (master : Nat) (running : Option Nat) (beats : Nat) (s : State) : Host.Outcome State Fault Refusal :=
  .next (s.when (s.live && (s.portDown master && (decide (master < 36) || master = 0x38) || master = 0x3B || master = 0x3C)) fun s =>
    let s := match running with | some t => s.abortBurst master t beats | none => s
    s.portReset master)

end Sys2Proof.Machine
end

