-- ==== Sys2Proof/Machine/Lane.lean ====
section
/-! DEFINITION. The lane's operations, one meaning per row of the MAC, ALU, X and Y, flow and control slots (spec 06, 07). A
slot of a lane that does not run, or with operands that no valid bundle holds (R221), does not occur (log entry 5). -/

namespace Sys2Proof.Machine

open Sys2Proof

/-- One slot of the bundle under way: a fetch beyond 8,191 is an error (R249), otherwise `f` acts and the bundle ends
with its last slot. -/
def State.slot (s : State) (p : LaneAt) (ok : Bool) (f : State → State) : Host.Outcome State Fault Refusal :=
  .next (s.when (s.laneRuns p.site p.lane && ok) fun s =>
    if 8192 ≤ (s.lane p.site p.lane).pc then s.laneIllegal p.site p.lane 6
    else (f s).endSlot p.site p.lane p.eob)

/-! ### The MAC slot (R222 to R226) -/

/-- The effect of a MAC operation on the accumulators: each target with its exact addend or new value, in order. `fresh`
marks an operation that writes without adding (R190). A residue mismatch, real or injected (R207, R214), stops the task
after the flags are recorded (R212). -/
def State.macOp (s : State) (n m : Nat) (c : MacBits) (names : List Nat) (fresh : Bool) (g : Lane → List (Nat × Int)) : State :=
  let s := s.onLane n m (fun x => names.foldl (fun x k => x.useE (x.phys k)) x)
  let inj := !fresh && nget false s.pump.inj (laneKey n m)
  let s := if inj then { s with pump := { s.pump with inj := nset false s.pump.inj (laneKey n m) false } } else s
  let quiet := c.flt || inj
  let s := forL (g (s.lane n m)) (fun e s =>
    if fresh then s.setAcc n m e.1 (mkAcc e.2 false)
    else
      let o := accumulate ((s.lane n m).accOf e.1) e.2 c.sat
      let s := s.setAcc n m e.1 o.acc
      let s := if o.aov then s.setSticky n m 0 e.1 quiet else s
      if o.asat then s.setSticky n m 1 e.1 quiet else s) s
  if quiet then s.residueError n m (inj && !c.flt) else s

/-- The two signed products of mac2, msu2 and mpy2, joined when both name one accumulator (R223). -/
def products2 (t0 t1 : Nat) (ra rb : Nat) (neg : Bool) (x : Lane) : List (Nat × Int) :=
  let sg : Int := if neg then -1 else 1
  let p0 := sg * ((x.dreg ra).toInt * (x.dreg rb).toInt)
  let p1 := sg * ((x.dreg (ra + 1)).toInt * (x.dreg (rb + 1)).toInt)
  if t0 = t1 then [(t0, p0 + p1)] else [(t0, p0), (t1, p1)]

/-- The product of mac1, msu1 and mpy1 with the operand kinds of SU (R224). -/
def product1 (t su : Nat) (ra rb : Nat) (neg : Bool) (x : Lane) : List (Nat × Int) :=
  let p := operand (x.dreg ra) (su = 0 || su = 1) * operand (x.dreg rb) (su = 0 || su = 2)
  [(t, if neg then -p else p)]

/-- MAC2 (R222, R223). -/
def execMac2 (p : LaneAt) (t0 t1 : BitVec 2) (ra rb : BitVec 6) (c : MacBits) (s : State) : Host.Outcome State Fault Refusal :=
  s.slot p (ra != 63 && rb != 63) fun s => s.macOp p.site p.lane c [ra.toNat, rb.toNat, ra.toNat + 1, rb.toNat + 1] false
    (products2 t0.toNat t1.toNat ra.toNat rb.toNat false)

/-- MSU2 (R222, R223). -/
def execMsu2 (p : LaneAt) (t0 t1 : BitVec 2) (ra rb : BitVec 6) (c : MacBits) (s : State) : Host.Outcome State Fault Refusal :=
  s.slot p (ra != 63 && rb != 63) fun s => s.macOp p.site p.lane c [ra.toNat, rb.toNat, ra.toNat + 1, rb.toNat + 1] false
    (products2 t0.toNat t1.toNat ra.toNat rb.toNat true)

/-- MPY2 (R222, R223, R225): writes, clearing CL; S is ignored. -/
def execMpy2 (p : LaneAt) (t0 t1 : BitVec 2) (ra rb : BitVec 6) (c : MacBits) (s : State) : Host.Outcome State Fault Refusal :=
  s.slot p (ra != 63 && rb != 63) fun s => s.macOp p.site p.lane c [ra.toNat, rb.toNat, ra.toNat + 1, rb.toNat + 1] true
    (products2 t0.toNat t1.toNat ra.toNat rb.toNat false)

/-- MAC1 (R222, R224). -/
def execMac1 (p : LaneAt) (t su : BitVec 2) (ra rb : BitVec 6) (c : MacBits) (s : State) : Host.Outcome State Fault Refusal :=
  s.slot p true fun s => s.macOp p.site p.lane c [ra.toNat, rb.toNat] false (product1 t.toNat su.toNat ra.toNat rb.toNat false)

/-- MSU1 (R222, R224). -/
def execMsu1 (p : LaneAt) (t su : BitVec 2) (ra rb : BitVec 6) (c : MacBits) (s : State) : Host.Outcome State Fault Refusal :=
  s.slot p true fun s => s.macOp p.site p.lane c [ra.toNat, rb.toNat] false (product1 t.toNat su.toNat ra.toNat rb.toNat true)

/-- MPY1 (R222, R224, R225). -/
def execMpy1 (p : LaneAt) (t su : BitVec 2) (ra rb : BitVec 6) (c : MacBits) (s : State) : Host.Outcome State Fault Refusal :=
  s.slot p true fun s => s.macOp p.site p.lane c [ra.toNat, rb.toNat] true (product1 t.toNat su.toNat ra.toNat rb.toNat false)

/-- FTAP (R222, R226): the latched words YD × XD, added or subtracted. -/
def execFtap (p : LaneAt) (t : BitVec 2) (neg : Bool) (c : MacBits) (s : State) : Host.Outcome State Fault Refusal :=
  s.slot p true fun s => s.macOp p.site p.lane c [] false (fun x =>
    let q := x.yd.toInt * x.xd.toInt
    [(t.toNat, if neg then -q else q)])

/-- EXT (R197, R222): the register written at the end of E2. -/
def execExt (p : LaneAt) (a : BitVec 2) (rd sh : BitVec 6) (c : MacBits) (s : State) : Host.Outcome State Fault Refusal :=
  s.slot p (decide (sh.toNat ≤ 48)) fun s =>
    let n := p.site; let m := p.lane
    let r := extract ((s.lane n m).accOf a.toNat) sh.toNat c.sat c.rnd
    let s := s.onLane n m (fun x => (x.landE2 (x.phys rd.toNat)).setD rd.toNat r.1)
    let s := if r.2 then s.setSticky n m 2 0 c.flt else s
    if c.flt then s.residueError n m false else s

/-- DEP (R199, R222). -/
def execDep (p : LaneAt) (a : BitVec 2) (rs sh : BitVec 6) (s : State) : Host.Outcome State Fault Refusal :=
  s.slot p (decide (sh.toNat ≤ 48)) fun s =>
    let s := s.onLane p.site p.lane (fun x => x.useE (x.phys rs.toNat))
    s.setAcc p.site p.lane a.toNat (deposit ((s.lane p.site p.lane).dreg rs.toNat) sh.toNat)

/-- AADD (R200, R222): the source accumulator's value in place of a product. -/
def execAadd (p : LaneAt) (t u : BitVec 2) (neg : Bool) (c : MacBits) (s : State) : Host.Outcome State Fault Refusal :=
  s.slot p true fun s => s.macOp p.site p.lane c [] false (fun x =>
    let v := (x.accOf u.toNat).val.toInt
    [(t.toNat, if neg then -v else v)])

/-- CLR (R222): the accumulators named in MASK become zero, with CL and residue zero. -/
def execClr (p : LaneAt) (mask : BitVec 4) (s : State) : Host.Outcome State Fault Refusal :=
  s.slot p true fun s =>
    forN 4 (fun k s => if mask.getLsbD k then s.setAcc p.site p.lane k {} else s) s

/-! ### The ALU slot (R203, R227 to R230) -/

/-- Where an ALU operation takes its operands: binary, unary, or immediate shift. -/
inductive AluKind where
  | binary | unary | immediate
deriving DecidableEq, Repr

/-- Register names that the operation reads (R227, R230). -/
def aluReads (o : Alu) (k : AluKind) : List Nat :=
  match k with
  | .binary => if o.ext then [o.ra.toNat, o.rb.toNat] else [o.rd.toNat, o.ra.toNat]
  | .unary => if o.ext then [o.rb.toNat] else [o.ra.toNat]
  | .immediate => if o.ext then [o.ra.toNat] else [o.rd.toNat]

/-- First operand, and second operand or shift amount. -/
def aluOperands (o : Alu) (k : AluKind) (x : Lane) : Word32 × Word32 :=
  match k with
  | .binary => if o.ext then (x.dreg o.ra.toNat, x.dreg o.rb.toNat) else (x.dreg o.rd.toNat, x.dreg o.ra.toNat)
  | .unary => if o.ext then (x.dreg o.rb.toNat, 0) else (x.dreg o.ra.toNat, 0)
  | .immediate =>
    if o.ext then (x.dreg o.ra.toNat, o.rb.setWidth 32) else (x.dreg o.rd.toNat, o.ra.setWidth 32)

/-- The operands are ones that a valid bundle holds (R221, R228, R230). -/
def aluOk (o : Alu) (k : AluKind) : Bool :=
  o.cond != 7 && (o.ext || o.rb = 0) && (!(o.ext && k = .unary) || o.ra = 0)

/-- COND holds at the start of E1, once the flags it reads have been written (R228, R243). -/
def Lane.useCond (x : Lane) (c : BitVec 3) : Lane := if c = 0 then x else x.useE condReg

/-- One ALU operation that writes d[RD] with `f` of its operands; a clamp sets RSAT (R203). A failed condition writes
nothing and sets no flag (R228). -/
def State.aluOp (s : State) (p : LaneAt) (o : Alu) (k : AluKind) (f : Word32 → Word32 → Word32 × Bool) :
    Host.Outcome State Fault Refusal :=
  s.slot p (aluOk o k) fun s =>
    let n := p.site; let m := p.lane
    let s := s.onLane n m (fun x => (aluReads o k).foldl (fun x r => x.useE (x.phys r)) (x.useCond o.cond))
    let x := s.lane n m
    if !condHolds o.cond.toNat x.z x.n then s
    else
      let v := aluOperands o k x
      let r := f v.1 v.2
      let s := s.onLane n m (fun x => (x.landE (x.phys o.rd.toNat)).setD o.rd.toNat r.1)
      if r.2 then s.setSticky n m 2 0 false else s

/-- ANOP (R227): a slot with no operation. -/
def execAnop (p : LaneAt) (s : State) : Host.Outcome State Fault Refusal := s.slot p true id

/-- MNOP (R222): a slot with no operation. -/
def execMnop (p : LaneAt) (s : State) : Host.Outcome State Fault Refusal := s.slot p true id

/-- ADD (R203, R227). -/
def execAdd (p : LaneAt) (o : Alu) (s : State) : Host.Outcome State Fault Refusal :=
  s.aluOp p o .binary (fun a b => alu32 (a.toInt + b.toInt) o.sat)

/-- SUB (R203, R227). -/
def execSub (p : LaneAt) (o : Alu) (s : State) : Host.Outcome State Fault Refusal :=
  s.aluOp p o .binary (fun a b => alu32 (a.toInt - b.toInt) o.sat)

/-- NEG (R203, R227). -/
def execNeg (p : LaneAt) (o : Alu) (s : State) : Host.Outcome State Fault Refusal :=
  s.aluOp p o .unary (fun a _ => alu32 (-a.toInt) o.sat)

/-- ABS (R203, R227). -/
def execAbs (p : LaneAt) (o : Alu) (s : State) : Host.Outcome State Fault Refusal :=
  s.aluOp p o .unary (fun a _ => alu32 (a.toInt.natAbs : Int) o.sat)

/-- MOV (R227). -/
def execMov (p : LaneAt) (o : Alu) (s : State) : Host.Outcome State Fault Refusal :=
  s.aluOp p o .unary (fun a _ => (a, false))

/-- AND (R227). -/
def execAnd (p : LaneAt) (o : Alu) (s : State) : Host.Outcome State Fault Refusal :=
  s.aluOp p o .binary (fun a b => (a &&& b, false))

/-- OR (R227). -/
def execOr (p : LaneAt) (o : Alu) (s : State) : Host.Outcome State Fault Refusal :=
  s.aluOp p o .binary (fun a b => (a ||| b, false))

/-- XOR (R227). -/
def execXor (p : LaneAt) (o : Alu) (s : State) : Host.Outcome State Fault Refusal :=
  s.aluOp p o .binary (fun a b => (a ^^^ b, false))

/-- NOT (R227). -/
def execNot (p : LaneAt) (o : Alu) (s : State) : Host.Outcome State Fault Refusal :=
  s.aluOp p o .unary (fun a _ => (~~~a, false))

/-- ASL (R203, R227): the amount is taken modulo 64. -/
def execAsl (p : LaneAt) (o : Alu) (s : State) : Host.Outcome State Fault Refusal :=
  s.aluOp p o .binary (fun a b => aslR a (b.toNat % 64) o.sat)

/-- ASR (R203, R227). -/
def execAsr (p : LaneAt) (o : Alu) (s : State) : Host.Outcome State Fault Refusal :=
  s.aluOp p o .binary (fun a b => asrR a (b.toNat % 64) o.rnd)

/-- LSL (R227). -/
def execLsl (p : LaneAt) (o : Alu) (s : State) : Host.Outcome State Fault Refusal :=
  s.aluOp p o .binary (fun a b => lslR a (b.toNat % 64))

/-- LSR (R227). -/
def execLsr (p : LaneAt) (o : Alu) (s : State) : Host.Outcome State Fault Refusal :=
  s.aluOp p o .binary (fun a b => lsrR a (b.toNat % 64))

/-- ASLI (R227, R230). -/
def execAsli (p : LaneAt) (o : Alu) (s : State) : Host.Outcome State Fault Refusal :=
  s.aluOp p o .immediate (fun a b => aslR a (b.toNat % 64) o.sat)

/-- ASRI (R227, R230). -/
def execAsri (p : LaneAt) (o : Alu) (s : State) : Host.Outcome State Fault Refusal :=
  s.aluOp p o .immediate (fun a b => asrR a (b.toNat % 64) o.rnd)

/-- LSLI (R227, R230). -/
def execLsli (p : LaneAt) (o : Alu) (s : State) : Host.Outcome State Fault Refusal :=
  s.aluOp p o .immediate (fun a b => lslR a (b.toNat % 64))

/-- LSRI (R227, R230). -/
def execLsri (p : LaneAt) (o : Alu) (s : State) : Host.Outcome State Fault Refusal :=
  s.aluOp p o .immediate (fun a b => lsrR a (b.toNat % 64))

/-- MIN (R227). -/
def execMin (p : LaneAt) (o : Alu) (s : State) : Host.Outcome State Fault Refusal :=
  s.aluOp p o .binary (fun a b => (if a.toInt ≤ b.toInt then a else b, false))

/-- MAX (R227). -/
def execMax (p : LaneAt) (o : Alu) (s : State) : Host.Outcome State Fault Refusal :=
  s.aluOp p o .binary (fun a b => (if a.toInt ≤ b.toInt then b else a, false))

/-- CMP (R227): Z and N, and no register write. -/
def execCmp (p : LaneAt) (o : Alu) (s : State) : Host.Outcome State Fault Refusal :=
  s.slot p (aluOk o .binary) fun s => s.onLane p.site p.lane (fun x =>
    let x := (aluReads o .binary).foldl (fun x r => x.useE (x.phys r)) (x.useCond o.cond)
    if !condHolds o.cond.toNat x.z x.n then x
    else
      let v := aluOperands o .binary x
      let z := decide (v.1 = v.2)
      let n := decide (v.1.toInt < v.2.toInt)
      { x.landE condReg with z := z, n := n })

/-- An address-side name is valid: bit 3 is 0 (R229). -/
def asNameOk (nm : BitVec 6) : Bool := !nm.getLsbD 3

/-- Kind of an address-side name. -/
def asKind (nm : BitVec 6) : Nat := nm.toNat / 16
/-- Index of an address-side name. -/
def asIdx (nm : BitVec 6) : Nat := nm.toNat % 8

/-- SETA (R227, R229): the address-side register named by RD takes d[RA] at the end of E1. -/
def execSeta (p : LaneAt) (o : Alu) (s : State) : Host.Outcome State Fault Refusal :=
  s.slot p (aluOk o .unary && !o.ext && asNameOk o.rd) fun s => s.onLane p.site p.lane (fun x =>
    let x := (x.useCond o.cond).useE (x.phys o.ra.toNat)
    if !condHolds o.cond.toNat x.z x.n then x
    else (x.landE (asReg (asKind o.rd) (asIdx o.rd))).asSet (asKind o.rd) (asIdx o.rd) (x.dreg o.ra.toNat))

/-- GETA (R227, R229): d[RD] takes the register named by RA as it stands after this bundle's D stage. -/
def execGeta (p : LaneAt) (o : Alu) (s : State) : Host.Outcome State Fault Refusal :=
  s.slot p (aluOk o .unary && !o.ext && asNameOk o.ra) fun s => s.onLane p.site p.lane (fun x =>
    let r := asReg (asKind o.ra) (asIdx o.ra)
    let x := (if x.land r = x.tD then x else x.useD r).useCond o.cond
    if !condHolds o.cond.toNat x.z x.n then x
    else (x.landE (x.phys o.rd.toNat)).setD o.rd.toNat (x.asGet (asKind o.ra) (asIdx o.ra)))

/-! ### The X and Y slots (R231 to R233) -/

/-- Latch of the slot that read a word (R216, R226). -/
def Lane.latch (x : Lane) (y : Bool) (v : Word32) : Lane := if y then { x with yd := v } else { x with xd := v }

/-- A read by an X or Y slot: address generation, the stores that the read sees (R245), and the word's ECC (R381, R382).
`k` continues with the word and the succ address, unless the lane has stopped. -/
def State.slotRead (s : State) (p : LaneAt) (y : Bool) (ar md : Nat) (ecc : Ecc) (k : Word32 → Nat → State → State) : State :=
  let n := p.site; let m := p.lane
  let i := slotReg y ar
  let s := s.onLane n m (fun x => x.useAddr i md)
  let x := s.lane n m
  let a := nget 0 x.a i
  let nx := x.succ i
  let s := s.flushStores n m x.tM
  let addr := xyAddr n y a
  match s.eccOf addr ecc with
  | .uncorrectable => s.laneEcc n m addr false
  | e =>
    let s := s.eccRead addr e
    let v := s.rdXY n y a
    let s := s.onLane n m (fun x => (x.latch y v).modify i md)
    k v nx s

/-- LD (R231). -/
def execLd (p : LaneAt) (o : MemSlot) (ecc : Ecc) (s : State) : Host.Outcome State Fault Refusal :=
  s.slot p true fun s => s.slotRead p o.y o.ar.toNat o.md.toNat ecc (fun v _ s =>
    s.onLane p.site p.lane (fun x => (x.landM (x.phys o.reg.toNat)).setD o.reg.toNat v))

/-- TAP (R231, R233): as LD, and the same word goes to succ(a). -/
def execTap (p : LaneAt) (o : MemSlot) (ecc : Ecc) (s : State) : Host.Outcome State Fault Refusal :=
  s.slot p true fun s => s.slotRead p o.y o.ar.toNat o.md.toNat ecc (fun v nx s =>
    let s := s.onLane p.site p.lane (fun x => (x.landM (x.phys o.reg.toNat)).setD o.reg.toNat v)
    s.issueStore p.site p.lane o.y nx v)

/-- ST (R231): the store data is read in E1 and written in W. -/
def execSt (p : LaneAt) (o : MemSlot) (s : State) : Host.Outcome State Fault Refusal :=
  s.slot p true fun s =>
    let i := slotReg o.y o.ar.toNat
    let s := s.onLane p.site p.lane (fun x => (x.useAddr i o.md.toNat).useE (x.phys o.reg.toNat))
    let x := s.lane p.site p.lane
    let s := s.onLane p.site p.lane (fun x => x.modify i o.md.toNat)
    s.issueStore p.site p.lane o.y (nget 0 x.a i) (x.dreg o.reg.toNat)

/-- SACC (R201, R231, R233). -/
def execSacc (p : LaneAt) (o : SpillSlot) (flt : Bool) (s : State) : Host.Outcome State Fault Refusal :=
  s.slot p (o.w != 3) fun s =>
    let i := slotReg o.y o.ar.toNat
    let s := s.onLane p.site p.lane (fun x => x.useAddr i o.md.toNat)
    let x := s.lane p.site p.lane
    let s := s.onLane p.site p.lane (fun x => x.modify i o.md.toNat)
    let s := s.issueStore p.site p.lane o.y (nget 0 x.a i) (spillWord (x.accOf o.k.toNat) o.w.toNat)
    if flt then s.residueError p.site p.lane false else s

/-- LACC (R201, R231, R233): words 0 and 1 enter the staging register, word 2 commits the fill with the bundle (R244). -/
def execLacc (p : LaneAt) (o : SpillSlot) (ecc : Ecc) (s : State) : Host.Outcome State Fault Refusal :=
  s.slot p (o.w != 3) fun s => s.slotRead p o.y o.ar.toNat o.md.toNat ecc (fun v _ s =>
    s.onLane p.site p.lane (fun x =>
      let k := o.k.toNat
      let g := nget 0 x.stag k
      if o.w = 0 then { x with stag := nset 0 x.stag k (g / 2 ^ 32 * 2 ^ 32 + v.toNat) }
      else if o.w = 1 then { x with stag := nset 0 x.stag k (g % 2 ^ 32 + v.toNat * 2 ^ 32) }
      else { x with fills := nput x.fills k (fillAcc g v) }))

/-! ### Flow and control (R235 to R241) -/

/-- A taken branch or jump to `t`, ending the loops it leaves (R239); a target outside program memory is an error (R249). -/
def State.goTo (s : State) (n m : Nat) (t : Int) : State :=
  if t < 0 ∨ 8191 < t then s.laneIllegal n m 5
  else s.onLane n m (fun x => { x with target := some t.toNat, loops := leaveLoops t.toNat x.loops })

/-- A branch of R235: `wait` holds it in D, `c` decides it. -/
def State.branch (s : State) (p : LaneAt) (off : BitVec 8) (wait : Lane → Lane) (c : State → Lane → Bool) :
    Host.Outcome State Fault Refusal :=
  s.slot p true fun s =>
    let s := s.onLane p.site p.lane wait
    let x := s.lane p.site p.lane
    if c s x then s.goTo p.site p.lane ((x.pc : Int) + 1 + off.toInt) else s

/-- BRA (R235). -/
def execBra (p : LaneAt) (off : BitVec 8) (s : State) : Host.Outcome State Fault Refusal :=
  s.branch p off id (fun _ _ => true)

/-- BEQ (R235). -/
def execBeq (p : LaneAt) (off : BitVec 8) (s : State) : Host.Outcome State Fault Refusal :=
  s.branch p off (fun x => x.useD condReg) (fun _ x => x.z)

/-- BNE (R235). -/
def execBne (p : LaneAt) (off : BitVec 8) (s : State) : Host.Outcome State Fault Refusal :=
  s.branch p off (fun x => x.useD condReg) (fun _ x => !x.z)

/-- BLT (R235). -/
def execBlt (p : LaneAt) (off : BitVec 8) (s : State) : Host.Outcome State Fault Refusal :=
  s.branch p off (fun x => x.useD condReg) (fun _ x => x.n)

/-- BGE (R235). -/
def execBge (p : LaneAt) (off : BitVec 8) (s : State) : Host.Outcome State Fault Refusal :=
  s.branch p off (fun x => x.useD condReg) (fun _ x => !x.n)

/-- BFL (R235, R243): it holds in D until every older bundle has completed E2. -/
def execBfl (p : LaneAt) (off : BitVec 8) (s : State) : Host.Outcome State Fault Refusal :=
  s.branch p off (fun x => if x.eP = 0 then x else x.holdD (x.eP + 2)) (fun s _ =>
    s.flag fCLUn_LARITHm_AOV p.site p.lane || s.flag fCLUn_LARITHm_ASAT p.site p.lane || s.flag fCLUn_LARITHm_RSAT p.site p.lane)

/-- ROTW (R235, R241): the window rotates before the bundle's own names are mapped. -/
def execRotw (p : LaneAt) (s : State) : Host.Outcome State Fault Refusal :=
  s.slot p true fun s => s.onLane p.site p.lane Lane.rotate

/-- END (R235, R239, R248). -/
def execEnd (p : LaneAt) (s : State) : Host.Outcome State Fault Refusal :=
  s.slot p true fun s => s.onLane p.site p.lane (fun x => { x with ending := true })

/-- LDI (R236): written at the end of D. -/
def execLdi (p : LaneAt) (rd : BitVec 6) (imm : BitVec 32) (s : State) : Host.Outcome State Fault Refusal :=
  s.slot p true fun s => s.onLane p.site p.lane (fun x => (x.landD (x.phys rd.toNat)).setD rd.toNat imm)

/-- SETAG (R229, R236). -/
def execSetag (p : LaneAt) (name : BitVec 6) (imm : BitVec 32) (s : State) : Host.Outcome State Fault Refusal :=
  s.slot p (asNameOk name) fun s => s.onLane p.site p.lane (fun x =>
    (x.landD (asReg (asKind name) (asIdx name))).asSet (asKind name) (asIdx name) imm)

/-- Start of a loop with `count` iterations over `len + 1` bundles, or a skip of its body (R237, R238, R241). -/
def State.startLoop (s : State) (p : LaneAt) (count len : Nat) (rot : Bool) : State :=
  let n := p.site; let m := p.lane
  let x := s.lane n m
  let last := x.pc + len + 1
  if 2 ≤ x.loops.length then s.laneIllegal n m 2
  else if x.loops.any (fun l => decide (l.last < last)) then s.laneIllegal n m 3
  else if 8191 < last then s.laneIllegal n m 4
  else if count = 0 then s.onLane n m (fun x => { x with target := some (last + 1) })
  else s.onLane n m (fun x =>
    let l : LoopLvl := { first := x.pc + 1, last := last, remaining := count, rot := rot }
    let x := { x with loops := l :: x.loops }
    if rot then x.rotate else x)

/-- LOOP (R236, R237). -/
def execLoop (p : LaneAt) (count : BitVec 16) (len : BitVec 8) (rot : Bool) (s : State) : Host.Outcome State Fault Refusal :=
  s.slot p true fun s => s.startLoop p count.toNat len.toNat rot

/-- LOOPR (R236, R237): the count is bits 15:0 of d[RS], read in D. -/
def execLoopr (p : LaneAt) (rs : BitVec 6) (len : BitVec 8) (rot : Bool) (s : State) : Host.Outcome State Fault Refusal :=
  s.slot p true fun s =>
    let s := s.onLane p.site p.lane (fun x => x.useD (x.phys rs.toNat))
    s.startLoop p (((s.lane p.site p.lane).dreg rs.toNat).toNat % 2 ^ 16) len.toNat rot

/-- JMP (R236, R239). -/
def execJmp (p : LaneAt) (target : BitVec 13) (s : State) : Host.Outcome State Fault Refusal :=
  s.slot p true fun s => s.goTo p.site p.lane target.toNat

/-- LOOP_RETURN (R237, R238, R241): the innermost body has ended; the lane returns to its first bundle, rotating when ROT
is set, or leaves the loop when the count is spent. -/
def execLoopReturn (site lane : Nat) (s : State) : Host.Outcome State Fault Refusal :=
  let x := s.lane site lane
  .next (s.when (s.live && x.task.isSome && !x.ended && x.atLoopEnd) fun s =>
    s.onLane site lane (fun x =>
      match x.loops with
      | [] => x
      | l :: r =>
        if 1 < l.remaining then
          let x := { x with pc := l.first, loops := { l with remaining := l.remaining - 1 } :: r }
          if l.rot then x.rotate else x
        else { x with loops := r }))

/-- RES_INJ (R214): keyed, the next accumulate on the named lane site fails its residue check. -/
def execResInj (src : ReqSrc) (site lane : Nat) (s : State) : Host.Outcome State Fault Refusal :=
  let keyed := match src with | .reg k => decide (k = 0xC3) | .exec => true
  .next (s.when (s.live && keyed && decide (site < 36) && decide (lane ≤ 8)) fun s =>
    { s with pump := { s.pump with inj := nset false s.pump.inj (laneKey site lane) true } })

end Sys2Proof.Machine
end

