-- ==== Sys2Proof/Machine/Dispatch.lean ====
section
/-! DEFINITION. One arm per command: a direct call of its meaning. -/

namespace Sys2Proof.Machine

open Sys2Proof

def exec (i : Instr) (s : State) : Host.Outcome State Fault Refusal :=
  match i with
  | .pwrGoodLow => Sys2Proof.Machine.execPwrGoodLow s
  | .resetNLow ns => Sys2Proof.Machine.execResetNLow ns s
  | .brownOut ns => Sys2Proof.Machine.execBrownOut ns s
  | .vstbyLow => Sys2Proof.Machine.execVstbyLow s
  | .wake => Sys2Proof.Machine.execWake s
  | .release straps rank => Sys2Proof.Machine.execRelease straps rank s
  | .xoQualified => Sys2Proof.Machine.execXoQualified s
  | .xoMissing => Sys2Proof.Machine.execXoMissing s
  | .rpllLocked => Sys2Proof.Machine.execRpllLocked s
  | .pwrTargetRun key stbyGpio => Sys2Proof.Machine.execPwrTargetRun key stbyGpio s
  | .pwrTargetIdle key stbyGpio => Sys2Proof.Machine.execPwrTargetIdle key stbyGpio s
  | .pwrTargetDeepStandby key stbyGpio => Sys2Proof.Machine.execPwrTargetDeepStandby key stbyGpio s
  | .enterIdle => Sys2Proof.Machine.execEnterIdle s
  | .enterRun => Sys2Proof.Machine.execEnterRun s
  | .engineRst src => Sys2Proof.Machine.execEngineRst src s
  | .sessionRst src => Sys2Proof.Machine.execSessionRst src s
  | .clusterRst src site => Sys2Proof.Machine.execClusterRst src site s
  | .watchdogExpiry => Sys2Proof.Machine.execWatchdogExpiry s
  | .thermalTrip sensor celsius ms => Sys2Proof.Machine.execThermalTrip sensor celsius ms s
  | .thermalTripEnd celsius => Sys2Proof.Machine.execThermalTripEnd celsius s
  | .clusterResetReturn site => Sys2Proof.Machine.execClusterResetReturn site s
  | .bootRomVerify => Sys2Proof.Machine.execBootRomVerify s
  | .retirementRecordApply => Sys2Proof.Machine.execRetirementRecordApply s
  | .familyChange => Sys2Proof.Machine.execFamilyChange s
  | .familySlewEnd => Sys2Proof.Machine.execFamilySlewEnd s
  | .tdm0Reconfigure => Sys2Proof.Machine.execTdm0Reconfigure s
  | .xoLost => Sys2Proof.Machine.execXoLost s
  | .xoRestored => Sys2Proof.Machine.execXoRestored s
  | .rpllUnlock => Sys2Proof.Machine.execRpllUnlock s
  | .sdsrefLoss input => Sys2Proof.Machine.execSdsrefLoss input s
  | .laneClockGate site lane => Sys2Proof.Machine.execLaneClockGate site lane s
  | .bankClockGate bank => Sys2Proof.Machine.execBankClockGate bank s
  | .rpllWordUpdate intPart frac => Sys2Proof.Machine.execRpllWordUpdate intPart frac s
  | .refWindow1s raw => Sys2Proof.Machine.execRefWindow1s raw s
  | .refWindow64s raw => Sys2Proof.Machine.execRefWindow64s raw s
  | .refLossOfSignal cand => Sys2Proof.Machine.execRefLossOfSignal cand s
  | .refSignalPresent cand => Sys2Proof.Machine.execRefSignalPresent cand s
  | .wtrExpiry cand => Sys2Proof.Machine.execWtrExpiry cand s
  | .refSelect => Sys2Proof.Machine.execRefSelect s
  | .refSwitch phaseErr => Sys2Proof.Machine.execRefSwitch phaseErr s
  | .passThroughEnd phaseErr => Sys2Proof.Machine.execPassThroughEnd phaseErr s
  | .holdHistoryEntry word steady => Sys2Proof.Machine.execHoldHistoryEntry word steady s
  | .pulseEmit out instant lost => Sys2Proof.Machine.execPulseEmit out instant lost s
  | .pulseRealign out instant => Sys2Proof.Machine.execPulseRealign out instant s
  | .ptpSync dom port logInt t1 corr rc2 => Sys2Proof.Machine.execPtpSync dom port logInt t1 corr rc2 s
  | .ptpDelayResp dom port t4 corr => Sys2Proof.Machine.execPtpDelayResp dom port t4 corr s
  | .ptpAnnounce dom port a => Sys2Proof.Machine.execPtpAnnounce dom port a s
  | .delayReqSend dom rc3 => Sys2Proof.Machine.execDelayReqSend dom rc3 s
  | .announceReceiptTimeout dom => Sys2Proof.Machine.execAnnounceReceiptTimeout dom s
  | .syncLoss dom => Sys2Proof.Machine.execSyncLoss dom s
  | .timeJumpResolved dom => Sys2Proof.Machine.execTimeJumpResolved dom s
  | .reacqHoldExpiry dom => Sys2Proof.Machine.execReacqHoldExpiry dom s
  | .catchupEnd => Sys2Proof.Machine.execCatchupEnd s
  | .tcForward f => Sys2Proof.Machine.execTcForward f s
  | .tcFollowUpLate seq => Sys2Proof.Machine.execTcFollowUpLate seq s
  | .take => Sys2Proof.Machine.execTake s
  | .timCountLoRead => Sys2Proof.Machine.execTimCountLoRead s
  | .corrWrite port corr => Sys2Proof.Machine.execCorrWrite port corr s
  | .mnop p => Sys2Proof.Machine.execMnop p s
  | .mac2 p t0 t1 ra rb c => Sys2Proof.Machine.execMac2 p t0 t1 ra rb c s
  | .msu2 p t0 t1 ra rb c => Sys2Proof.Machine.execMsu2 p t0 t1 ra rb c s
  | .mpy2 p t0 t1 ra rb c => Sys2Proof.Machine.execMpy2 p t0 t1 ra rb c s
  | .mac1 p t su ra rb c => Sys2Proof.Machine.execMac1 p t su ra rb c s
  | .msu1 p t su ra rb c => Sys2Proof.Machine.execMsu1 p t su ra rb c s
  | .mpy1 p t su ra rb c => Sys2Proof.Machine.execMpy1 p t su ra rb c s
  | .ftap p t neg c => Sys2Proof.Machine.execFtap p t neg c s
  | .extA p a rd sh c => Sys2Proof.Machine.execExt p a rd sh c s
  | .depA p a rs sh => Sys2Proof.Machine.execDep p a rs sh s
  | .aadd p t u neg c => Sys2Proof.Machine.execAadd p t u neg c s
  | .clrA p mask => Sys2Proof.Machine.execClr p mask s
  | .anop p => Sys2Proof.Machine.execAnop p s
  | .addR p o => Sys2Proof.Machine.execAdd p o s
  | .subR p o => Sys2Proof.Machine.execSub p o s
  | .negR p o => Sys2Proof.Machine.execNeg p o s
  | .absR p o => Sys2Proof.Machine.execAbs p o s
  | .movR p o => Sys2Proof.Machine.execMov p o s
  | .andR p o => Sys2Proof.Machine.execAnd p o s
  | .orR p o => Sys2Proof.Machine.execOr p o s
  | .xorR p o => Sys2Proof.Machine.execXor p o s
  | .notR p o => Sys2Proof.Machine.execNot p o s
  | .asl p o => Sys2Proof.Machine.execAsl p o s
  | .asr p o => Sys2Proof.Machine.execAsr p o s
  | .lsl p o => Sys2Proof.Machine.execLsl p o s
  | .lsr p o => Sys2Proof.Machine.execLsr p o s
  | .asli p o => Sys2Proof.Machine.execAsli p o s
  | .asri p o => Sys2Proof.Machine.execAsri p o s
  | .lsli p o => Sys2Proof.Machine.execLsli p o s
  | .lsri p o => Sys2Proof.Machine.execLsri p o s
  | .minR p o => Sys2Proof.Machine.execMin p o s
  | .maxR p o => Sys2Proof.Machine.execMax p o s
  | .cmpR p o => Sys2Proof.Machine.execCmp p o s
  | .seta p o => Sys2Proof.Machine.execSeta p o s
  | .geta p o => Sys2Proof.Machine.execGeta p o s
  | .ldW p o ecc => Sys2Proof.Machine.execLd p o ecc s
  | .stW p o => Sys2Proof.Machine.execSt p o s
  | .tapW p o ecc => Sys2Proof.Machine.execTap p o ecc s
  | .sacc p o flt => Sys2Proof.Machine.execSacc p o flt s
  | .lacc p o ecc => Sys2Proof.Machine.execLacc p o ecc s
  | .bra p off => Sys2Proof.Machine.execBra p off s
  | .beq p off => Sys2Proof.Machine.execBeq p off s
  | .bne p off => Sys2Proof.Machine.execBne p off s
  | .blt p off => Sys2Proof.Machine.execBlt p off s
  | .bge p off => Sys2Proof.Machine.execBge p off s
  | .bfl p off => Sys2Proof.Machine.execBfl p off s
  | .rotw p => Sys2Proof.Machine.execRotw p s
  | .endTask p => Sys2Proof.Machine.execEnd p s
  | .ldi p rd imm => Sys2Proof.Machine.execLdi p rd imm s
  | .setag p name imm => Sys2Proof.Machine.execSetag p name imm s
  | .loopI p count len rot => Sys2Proof.Machine.execLoop p count len rot s
  | .loopr p rs len rot => Sys2Proof.Machine.execLoopr p rs len rot s
  | .jmp p target => Sys2Proof.Machine.execJmp p target s
  | .loopReturn site lane => Sys2Proof.Machine.execLoopReturn site lane s
  | .resInj src site lane => Sys2Proof.Machine.execResInj src site lane s
  | .taskReady site slot => Sys2Proof.Machine.execTaskReady site slot s
  | .taskDispatch site ecc => Sys2Proof.Machine.execTaskDispatch site ecc s
  | .taskComplete site slot => Sys2Proof.Machine.execTaskComplete site slot s
  | .heldRelease site slot => Sys2Proof.Machine.execHeldRelease site slot s
  | .retainCopyEnd site slot => Sys2Proof.Machine.execRetainCopyEnd site slot s
  | .postDeliver site carries => Sys2Proof.Machine.execPostDeliver site carries s
  | .fetchComplete site ecc => Sys2Proof.Machine.execFetchComplete site ecc s
  | .writeBackComplete site carries => Sys2Proof.Machine.execWriteBackComplete site carries s
  | .creditReturn site buf slot => Sys2Proof.Machine.execCreditReturn site buf slot s
  | .taskDeadline site slot => Sys2Proof.Machine.execTaskDeadline site slot s
  | .taskRetry site slot => Sys2Proof.Machine.execTaskRetry site slot s
  | .pumpLoad site slot => Sys2Proof.Machine.execPumpLoad site slot s
  | .pumpArm site slot => Sys2Proof.Machine.execPumpArm site slot s
  | .pumpCancel site slot => Sys2Proof.Machine.execPumpCancel site slot s
  | .pumpUnload site slot => Sys2Proof.Machine.execPumpUnload site slot s
  | .pumpFlag site slot flag => Sys2Proof.Machine.execPumpFlag site slot flag s
  | .pumpTimer site k => Sys2Proof.Machine.execPumpTimer site k s
  | .taskDescriptorWrite master site slot word value => Sys2Proof.Machine.execTaskDescriptorWrite master site slot word value s
  | .graphLoad g => Sys2Proof.Machine.execGraphLoad g s
  | .directPathWord port slot word => Sys2Proof.Machine.execDirectPathWord port slot word s
  | .routeCrossfadeEnd sink => Sys2Proof.Machine.execRouteCrossfadeEnd sink s
  | .press arg => Sys2Proof.Machine.execPress arg s
  | .sceneReassert arg => Sys2Proof.Machine.execSceneReassert arg s
  | .pressCancel => Sys2Proof.Machine.execPressCancel s
  | .vatClear => Sys2Proof.Machine.execVatClear s
  | .pressPrepared => Sys2Proof.Machine.execPressPrepared s
  | .filterCrossfadeEnd idx stage elem => Sys2Proof.Machine.execFilterCrossfadeEnd idx stage elem s
  | .delayCrossfadeEnd idx sub elem => Sys2Proof.Machine.execDelayCrossfadeEnd idx sub elem s
  | .delaySlewEnd idx sub elem => Sys2Proof.Machine.execDelaySlewEnd idx sub elem s
  | .popRead src msg => Sys2Proof.Machine.execPopRead src msg s
  | .popWrite src msg => Sys2Proof.Machine.execPopWrite src msg s
  | .popStage src msg => Sys2Proof.Machine.execPopStage src msg s
  | .popSubscribe src msg => Sys2Proof.Machine.execPopSubscribe src msg s
  | .popBatch src msg => Sys2Proof.Machine.execPopBatch src msg s
  | .batchTimeout session => Sys2Proof.Machine.execBatchTimeout session s
  | .popOpen src msg => Sys2Proof.Machine.execPopOpen src msg s
  | .popProof src msg => Sys2Proof.Machine.execPopProof src msg s
  | .proofTimeout session => Sys2Proof.Machine.execProofTimeout session s
  | .popClose src msg => Sys2Proof.Machine.execPopClose src msg s
  | .sessionCloseExec session => Sys2Proof.Machine.execSessionCloseExec session s
  | .sessionIdleTimeout session => Sys2Proof.Machine.execSessionIdleTimeout session s
  | .notifySend session => Sys2Proof.Machine.execNotifySend session s
  | .peerKeepalive elem answer => Sys2Proof.Machine.execPeerKeepalive elem answer s
  | .mdnsReceive plane addr info => Sys2Proof.Machine.execMdnsReceive plane addr info s
  | .rosterAgeOut kind node => Sys2Proof.Machine.execRosterAgeOut kind node s
  | .disagreementClear kind node flag => Sys2Proof.Machine.execDisagreementClear kind node flag s
  | .spiStatus => Sys2Proof.Machine.execSpiStatus s
  | .spiSend len msg => Sys2Proof.Machine.execSpiSend len msg s
  | .spiReceive early => Sys2Proof.Machine.execSpiReceive early s
  | .spiImage offset data => Sys2Proof.Machine.execSpiImage offset data s
  | .spiImageDone len image => Sys2Proof.Machine.execSpiImageDone len image s
  | .i2cWrite sel data pecByte => Sys2Proof.Machine.execI2cWrite sel data pecByte s
  | .i2cRead sel => Sys2Proof.Machine.execI2cRead sel s
  | .eccWriteBack addr => Sys2Proof.Machine.execEccWriteBack addr s
  | .programLineRestore site line ecc => Sys2Proof.Machine.execProgramLineRestore site line ecc s
  | .fabricRequest r ecc => Sys2Proof.Machine.execFabricRequest r ecc s
  | .fabricGrant target hit times ecc => Sys2Proof.Machine.execFabricGrant target hit times ecc s
  | .lockTimeout target => Sys2Proof.Machine.execLockTimeout target s
  | .masterPortReset master running beats => Sys2Proof.Machine.execMasterPortReset master running beats s
  | .remapSet master key => Sys2Proof.Machine.execRemapSet master key s
  | .cisternBitSet master off lanes data ownerWriting ecc => Sys2Proof.Machine.execCisternBitSet master off lanes data ownerWriting ecc s
  | .cisternBitClear master off lanes data ownerWriting ecc => Sys2Proof.Machine.execCisternBitClear master off lanes data ownerWriting ecc s
  | .bankHandoverReq master bank newOwner => Sys2Proof.Machine.execBankHandoverReq master bank newOwner s
  | .bankHandover bank => Sys2Proof.Machine.execBankHandover bank s
  | .bankRetentionEnter bank => Sys2Proof.Machine.execBankRetentionEnter bank s
  | .bankWake bank => Sys2Proof.Machine.execBankWake bank s
  | .spareRowCopy bankSite row ecc => Sys2Proof.Machine.execSpareRowCopy bankSite row ecc s
  | .spareBankCopyEnd bank => Sys2Proof.Machine.execSpareBankCopyEnd bank s
  | .dcisTrainingEnd ok0 ok1 => Sys2Proof.Machine.execDcisTrainingEnd ok0 ok1 s
  | .dcisSelfRefreshExit => Sys2Proof.Machine.execDcisSelfRefreshExit s
  | .dcisZeroingEnd => Sys2Proof.Machine.execDcisZeroingEnd s
  | .dcisWriteMove stream => Sys2Proof.Machine.execDcisWriteMove stream s
  | .dcisReadMove stream badWords => Sys2Proof.Machine.execDcisReadMove stream badWords s
  | .dcisLate stream => Sys2Proof.Machine.execDcisLate stream s
  | .dcisFailed channel => Sys2Proof.Machine.execDcisFailed channel s
  | .tdmStart word => Sys2Proof.Machine.execTdmStart word s
  | .tdmStartTrigger trig => Sys2Proof.Machine.execTdmStartTrigger trig s
  | .tdmStop word => Sys2Proof.Machine.execTdmStop word s
  | .tdmFrame port words => Sys2Proof.Machine.execTdmFrame port words s
  | .tdmFsyncEdge port m root => Sys2Proof.Machine.execTdmFsyncEdge port m root s
  | .tdmLockLost port => Sys2Proof.Machine.execTdmLockLost port s
  | .tdmLeadInEnd port => Sys2Proof.Machine.execTdmLeadInEnd port s
  | .tdmLeadOutEnd port => Sys2Proof.Machine.execTdmLeadOutEnd port s
  | .tdmMaskWrite port out mask => Sys2Proof.Machine.execTdmMaskWrite port out mask s
  | .tdmCfgWrite port value => Sys2Proof.Machine.execTdmCfgWrite port value s
  | .netLinkUp port => Sys2Proof.Machine.execNetLinkUp port s
  | .netLinkDown port => Sys2Proof.Machine.execNetLinkDown port s
  | .ipv4Write plane addr => Sys2Proof.Machine.execIpv4Write plane addr s
  | .addrProbeEnd plane => Sys2Proof.Machine.execAddrProbeEnd plane s
  | .netAddrConflict plane => Sys2Proof.Machine.execNetAddrConflict plane s
  | .switchFrame f => Sys2Proof.Machine.execSwitchFrame f s
  | .macAgeOut plane mac => Sys2Proof.Machine.execMacAgeOut plane mac s
  | .rtpPacketRx p => Sys2Proof.Machine.execRtpPacketRx p s
  | .rxLegTimeout stream plane => Sys2Proof.Machine.execRxLegTimeout stream plane s
  | .rxIdleTimeout stream => Sys2Proof.Machine.execRxIdleTimeout stream s
  | .txPacketClose stream => Sys2Proof.Machine.execTxPacketClose stream s
  | .streamEnable tx stream => Sys2Proof.Machine.execStreamEnable tx stream s
  | .streamDisable tx stream => Sys2Proof.Machine.execStreamDisable tx stream s
  | .sdpWrite stream text => Sys2Proof.Machine.execSdpWrite stream text s
  | .mdnsAnnounce => Sys2Proof.Machine.execMdnsAnnounce s
  | .sapAnnounce stream => Sys2Proof.Machine.execSapAnnounce stream s
  | .sapReceive a => Sys2Proof.Machine.execSapReceive a s
  | .sapAgeOut src hash => Sys2Proof.Machine.execSapAgeOut src hash s
  | .wellSampleTick chime => Sys2Proof.Machine.execWellSampleTick chime s
  | .wellFallbackReturn channel => Sys2Proof.Machine.execWellFallbackReturn channel s
  | .wellCodeWrite channel code => Sys2Proof.Machine.execWellCodeWrite channel code s
  | .wellCfgWrite channel value => Sys2Proof.Machine.execWellCfgWrite channel value s
  | .wellChangeSwitch channel => Sys2Proof.Machine.execWellChangeSwitch channel s
  | .wellChime level => Sys2Proof.Machine.execWellChime level s
  | .gateRise gen => Sys2Proof.Machine.execGateRise gen s
  | .gateFall gen => Sys2Proof.Machine.execGateFall gen s
  | .genStepEnd gen => Sys2Proof.Machine.execGenStepEnd gen s
  | .wellGenCfgWrite gen step value => Sys2Proof.Machine.execWellGenCfgWrite gen step value s
  | .hbToggle => Sys2Proof.Machine.execHbToggle s
  | .hbFault => Sys2Proof.Machine.execHbFault s
  | .partnerLost => Sys2Proof.Machine.execPartnerLost s
  | .gone hdr cause => Sys2Proof.Machine.execGone hdr cause s
  | .claimHoldRelease => Sys2Proof.Machine.execClaimHoldRelease s
  | .claimTake highFor witnessOk => Sys2Proof.Machine.execClaimTake highFor witnessOk s
  | .contestWaitEnd high witnessOk => Sys2Proof.Machine.execContestWaitEnd high witnessOk s
  | .contestTmo => Sys2Proof.Machine.execContestTmo s
  | .witnessQuery node => Sys2Proof.Machine.execWitnessQuery node s
  | .witnessProbeEnd alive => Sys2Proof.Machine.execWitnessProbeEnd alive s
  | .witnessReply reply => Sys2Proof.Machine.execWitnessReply reply s
  | .siphLaneUp lane => Sys2Proof.Machine.execSiphLaneUp lane s
  | .siphLaneDown lane => Sys2Proof.Machine.execSiphLaneDown lane s
  | .siphLaneRetrainTimeout lane => Sys2Proof.Machine.execSiphLaneRetrainTimeout lane s
  | .marker hdr body => Sys2Proof.Machine.execMarker hdr body s
  | .statusFrame hdr => Sys2Proof.Machine.execStatus hdr s
  | .statusTimer => Sys2Proof.Machine.execStatusTimer s
  | .nak hdr first => Sys2Proof.Machine.execNak hdr first s
  | .seqGapTimeout => Sys2Proof.Machine.execSeqGapTimeout s
  | .hello hdr body => Sys2Proof.Machine.execHello hdr body s
  | .ledger hdr recs => Sys2Proof.Machine.execLedger hdr recs s
  | .digest hdr blk out tdmIn => Sys2Proof.Machine.execDigest hdr blk out tdmIn s
  | .digestSend blk => Sys2Proof.Machine.execDigestSend blk s
  | .prep hdr counter => Sys2Proof.Machine.execPrep hdr counter s
  | .epochEnd hdr epoch bytes crc => Sys2Proof.Machine.execEpochEnd hdr epoch bytes crc s
  | .epochAck hdr epoch result => Sys2Proof.Machine.execEpochAck hdr epoch result s
  | .ingress hdr edge dropped off words => Sys2Proof.Machine.execIngress hdr edge dropped off words s
  | .snap hdr epoch off data => Sys2Proof.Machine.execSnap hdr epoch off data s
  | .switchOver => Sys2Proof.Machine.execSwitch s
  | .rejoin => Sys2Proof.Machine.execRejoin s
  | .partnerDivergeRequest => Sys2Proof.Machine.execPartnerDivergeRequest s
  | .rejoinWaitExpiry => Sys2Proof.Machine.execRejoinWaitExpiry s
  | .syncTimeout => Sys2Proof.Machine.execSyncTimeout s
  | .errWinExpiry => Sys2Proof.Machine.execErrWinExpiry s
  | .spareClusterReady site ok => Sys2Proof.Machine.execSpareClusterReady site ok s
  | .hlthRetire kind site => Sys2Proof.Machine.execHlthRetire kind site s
  | .retirementRecordWrite ok => Sys2Proof.Machine.execRetirementRecordWrite ok s
  | .brineBorrow addr => Sys2Proof.Machine.execBrineBorrow addr s
  | .brineBorrowEnd memId pass => Sys2Proof.Machine.execBrineBorrowEnd memId pass s
  | .brineYield memId => Sys2Proof.Machine.execBrineYield memId s
  | .brineScrub addr ecc => Sys2Proof.Machine.execBrineScrub addr ecc s
  | .brineSpareTest cluster site => Sys2Proof.Machine.execBrineSpareTest cluster site s
  | .brineSpareTestEnd pass => Sys2Proof.Machine.execBrineSpareTestEnd pass s
  | .brineShadow site lane => Sys2Proof.Machine.execBrineShadow site lane s
  | .brineShadowEnd site => Sys2Proof.Machine.execBrineShadowEnd site s
  | .monitorSample values osc => Sys2Proof.Machine.execMonitorSample values osc s
  | .soundFrameResult feed frame corr => Sys2Proof.Machine.execSoundFrameResult feed frame corr s
  | .soundLearn feed => Sys2Proof.Machine.execSoundLearn feed s
  | .soundLearnEnd feed => Sys2Proof.Machine.execSoundLearnEnd feed s
  | .soundNightly => Sys2Proof.Machine.execSoundNightly s
  | .evtOverflow route => Sys2Proof.Machine.execEvtOverflow route s
  | .recorderWrite => Sys2Proof.Machine.execRecorderWrite s
  | .blockBoundary => Sys2Proof.Machine.execBlockBoundary s
  | .registerWrite master addr value => Sys2Proof.Machine.execRegisterWrite master addr value s
  | .brownOutEnd straps rank => Sys2Proof.Machine.execBrownOutEnd straps rank s
  | .vstbyRise straps rank => Sys2Proof.Machine.execVstbyRise straps rank s
  | .sdsrefRestored input => Sys2Proof.Machine.execSdsrefRestored input s
  | .wellheadReferencesSettled => Sys2Proof.Machine.execWellheadReferencesSettled s
  | .hbRxEdge => Sys2Proof.Machine.execHbRxEdge s
  | .popExec src msg => Sys2Proof.Machine.execPopExec src msg s
  | .bootFlashWriteEnd => Sys2Proof.Machine.execBootFlashWriteEnd s
  | .replayBlockComplete out tdmIn => Sys2Proof.Machine.execReplayBlockComplete out tdmIn s

end Sys2Proof.Machine
end

