-- ==== Sys2Proof/WellFormed.lean ====
section
/-! DEFINITION. Well-formed commands: every operand lies in the range that its field of the spec has. A command that is not
well formed names no unit of the engine. -/

namespace Sys2Proof

/-- Cluster sites 0 to 35, lane sites 0 to 8 (R39, R216). -/
def LaneAt.wf (p : LaneAt) : Bool := decide (p.site < 36) && decide (p.lane < 9)

/-- IPv4 address and UDP port. -/
def PopFrom.wf (p : PopFrom) : Bool :=
  match p with
  | .net a q => decide (a < 2 ^ 32) && decide (q < 65536)
  | .spi => true

/-- Field widths of a Siphon frame header (R550). -/
def FrameHdr.wf (h : FrameHdr) : Bool := decide (h.seq < 2 ^ 32) && decide (h.ack < 2 ^ 32) && decide (h.blk < 2 ^ 32) && decide (h.lane < 2)

/-- A matrix request: 6-bit master, 40-bit address, and one BE and one data word per beat (R419). -/
def FabReq.wf (r : FabReq) : Bool :=
  decide (r.master < 64) && decide (r.addr < 2 ^ 40) && r.be.all (fun b => decide (b < 256)) && r.data.all (fun d => decide (d < 2 ^ 64))

/-- Every operand of a command is in range. -/
def Instr.wf (i : Instr) : Bool :=
  match i with
  | .pwrGoodLow => true
  | .resetNLow _ => true
  | .brownOut _ => true
  | .vstbyLow => true
  | .wake => true
  | .release _ _ => true
  | .xoQualified => true
  | .xoMissing => true
  | .rpllLocked => true
  | .pwrTargetRun _ _ => true
  | .pwrTargetIdle _ _ => true
  | .pwrTargetDeepStandby _ _ => true
  | .enterIdle => true
  | .enterRun => true
  | .engineRst _ => true
  | .sessionRst _ => true
  | .clusterRst _ site => decide (site < 36)
  | .watchdogExpiry => true
  | .thermalTrip sensor _ _ => decide (sensor < 8)
  | .thermalTripEnd celsius => decide (celsius.length = 8)
  | .clusterResetReturn site => decide (site < 36)
  | .bootRomVerify => true
  | .retirementRecordApply => true
  | .familyChange => true
  | .familySlewEnd => true
  | .tdm0Reconfigure => true
  | .xoLost => true
  | .xoRestored => true
  | .rpllUnlock => true
  | .sdsrefLoss input => decide (input < 2)
  | .laneClockGate site lane => decide (site < 36) && decide (lane < 9)
  | .bankClockGate bank => decide (bank < 64)
  | .rpllWordUpdate _ _ => true
  | .refWindow1s raw => decide (raw.length = 8)
  | .refWindow64s raw => decide (raw.length = 8)
  | .refLossOfSignal cand => decide (cand < 8)
  | .refSignalPresent cand => decide (cand < 8)
  | .wtrExpiry cand => decide (cand < 8)
  | .refSelect => true
  | .refSwitch _ => true
  | .passThroughEnd _ => true
  | .holdHistoryEntry _ _ => true
  | .pulseEmit out _ _ => decide (out < 4)
  | .pulseRealign out _ => decide (out < 4)
  | .ptpSync dom port _ _ _ _ => decide (dom < 2) && decide (port < 4)
  | .ptpDelayResp dom port _ _ => decide (dom < 2) && decide (port < 4)
  | .ptpAnnounce dom port _ => decide (dom < 2) && decide (port < 4)
  | .delayReqSend dom _ => decide (dom < 2)
  | .announceReceiptTimeout dom => decide (dom < 2)
  | .syncLoss dom => decide (dom < 2)
  | .timeJumpResolved dom => decide (dom < 2)
  | .reacqHoldExpiry dom => decide (dom < 2)
  | .catchupEnd => true
  | .tcForward _ => true
  | .tcFollowUpLate seq => decide (seq < 2 ^ 96)
  | .take => true
  | .timCountLoRead => true
  | .corrWrite port _ => decide (port < 4)
  | .mnop p => p.wf
  | .mac2 p _ _ _ _ _ => p.wf
  | .msu2 p _ _ _ _ _ => p.wf
  | .mpy2 p _ _ _ _ _ => p.wf
  | .mac1 p _ _ _ _ _ => p.wf
  | .msu1 p _ _ _ _ _ => p.wf
  | .mpy1 p _ _ _ _ _ => p.wf
  | .ftap p _ _ _ => p.wf
  | .extA p _ _ _ _ => p.wf
  | .depA p _ _ _ => p.wf
  | .aadd p _ _ _ _ => p.wf
  | .clrA p _ => p.wf
  | .anop p => p.wf
  | .addR p _ => p.wf
  | .subR p _ => p.wf
  | .negR p _ => p.wf
  | .absR p _ => p.wf
  | .movR p _ => p.wf
  | .andR p _ => p.wf
  | .orR p _ => p.wf
  | .xorR p _ => p.wf
  | .notR p _ => p.wf
  | .asl p _ => p.wf
  | .asr p _ => p.wf
  | .lsl p _ => p.wf
  | .lsr p _ => p.wf
  | .asli p _ => p.wf
  | .asri p _ => p.wf
  | .lsli p _ => p.wf
  | .lsri p _ => p.wf
  | .minR p _ => p.wf
  | .maxR p _ => p.wf
  | .cmpR p _ => p.wf
  | .seta p _ => p.wf
  | .geta p _ => p.wf
  | .ldW p _ _ => p.wf
  | .stW p _ => p.wf
  | .tapW p _ _ => p.wf
  | .sacc p _ _ => p.wf
  | .lacc p _ _ => p.wf
  | .bra p _ => p.wf
  | .beq p _ => p.wf
  | .bne p _ => p.wf
  | .blt p _ => p.wf
  | .bge p _ => p.wf
  | .bfl p _ => p.wf
  | .rotw p => p.wf
  | .endTask p => p.wf
  | .ldi p _ _ => p.wf
  | .setag p _ _ => p.wf
  | .loopI p _ _ _ => p.wf
  | .loopr p _ _ _ => p.wf
  | .jmp p _ => p.wf
  | .loopReturn site lane => decide (site < 36) && decide (lane < 9)
  | .resInj _ site lane => decide (site < 36) && decide (lane < 9)
  | .taskReady site slot => decide (site < 36) && decide (slot < 512)
  | .taskDispatch site _ => decide (site < 36)
  | .taskComplete site slot => decide (site < 36) && decide (slot < 512)
  | .heldRelease site slot => decide (site < 36) && decide (slot < 512)
  | .retainCopyEnd site slot => decide (site < 36) && decide (slot < 512)
  | .postDeliver site _ => decide (site < 36)
  | .fetchComplete site _ => decide (site < 64)
  | .writeBackComplete site _ => decide (site < 64)
  | .creditReturn site buf slot => decide (site < 64) && decide (buf < 2048) && decide (slot < 512)
  | .taskDeadline site slot => decide (site < 36) && decide (slot < 512)
  | .taskRetry site slot => decide (site < 36) && decide (slot < 512)
  | .pumpLoad site slot => decide (site < 36) && decide (slot < 512)
  | .pumpArm site slot => decide (site < 36) && decide (slot < 512)
  | .pumpCancel site slot => decide (site < 36) && decide (slot < 512)
  | .pumpUnload site slot => decide (site < 36) && decide (slot < 512)
  | .pumpFlag site slot _ => decide (site < 36) && decide (slot < 512)
  | .pumpTimer site k => decide (site < 64) && decide (k < 4)
  | .taskDescriptorWrite master site slot word _ => decide (master < 64) && decide (site < 36) && decide (slot < 512) && decide (word < 4)
  | .graphLoad _ => true
  | .directPathWord port slot _ => decide (port < 16) && decide (slot < 32)
  | .routeCrossfadeEnd sink => decide (sink < 65536)
  | .press arg => decide (arg.length = 32)
  | .sceneReassert arg => decide (arg.length = 32)
  | .pressCancel => true
  | .vatClear => true
  | .pressPrepared => true
  | .filterCrossfadeEnd idx stage elem => decide (idx < 65536) && decide (stage < 256) && decide (elem < 2 ^ 32)
  | .delayCrossfadeEnd idx sub elem => decide (idx < 65536) && decide (sub < 256) && decide (elem < 2 ^ 32)
  | .delaySlewEnd idx sub elem => decide (idx < 65536) && decide (sub < 256) && decide (elem < 2 ^ 32)
  | .popRead src _ => src.wf
  | .popWrite src _ => src.wf
  | .popStage src _ => src.wf
  | .popSubscribe src _ => src.wf
  | .popBatch src _ => src.wf
  | .batchTimeout session => decide (session < 2 ^ 64)
  | .popOpen src _ => src.wf
  | .popProof src _ => src.wf
  | .proofTimeout session => decide (session < 2 ^ 64)
  | .popClose src _ => src.wf
  | .sessionCloseExec session => decide (session < 2 ^ 64)
  | .sessionIdleTimeout session => decide (session < 2 ^ 64)
  | .notifySend session => decide (session < 2 ^ 64)
  | .peerKeepalive elem _ => decide (elem < 2 ^ 32)
  | .mdnsReceive plane addr _ => decide (plane < 2) && decide (addr < 2 ^ 32)
  | .rosterAgeOut kind node => decide (kind < 4) && decide (node < 2 ^ 32)
  | .disagreementClear kind node flag => decide (kind < 4) && decide (node < 2 ^ 32) && decide (flag < 4)
  | .spiStatus => true
  | .spiSend _ msg => decide (msg.length ≤ 1472)
  | .spiReceive _ => true
  | .spiImage _ _ => true
  | .spiImageDone _ _ => true
  | .i2cWrite _ _ _ => true
  | .i2cRead _ => true
  | .eccWriteBack addr => decide (addr < 2 ^ 40)
  | .programLineRestore site line _ => decide (site < 36) && decide (line < 1024)
  | .fabricRequest r _ => r.wf
  | .fabricGrant target _ _ _ => decide (target < 256)
  | .lockTimeout target => decide (target < 256)
  | .masterPortReset master _ _ => decide (master < 64)
  | .remapSet master key => decide (master < 64) && decide (key < 256)
  | .cisternBitSet master off _ _ _ _ => decide (master < 64) && decide (off < 2 ^ 25)
  | .cisternBitClear master off _ _ _ _ => decide (master < 64) && decide (off < 2 ^ 25)
  | .bankHandoverReq master bank newOwner => decide (master < 64) && decide (bank < 64) && decide (newOwner < 64)
  | .bankHandover bank => decide (bank < 64)
  | .bankRetentionEnter bank => decide (bank < 64)
  | .bankWake bank => decide (bank < 64)
  | .spareRowCopy bankSite row _ => decide (bankSite < 68) && decide (row < 65536)
  | .spareBankCopyEnd bank => decide (bank < 64)
  | .dcisTrainingEnd _ _ => true
  | .dcisSelfRefreshExit => true
  | .dcisZeroingEnd => true
  | .dcisWriteMove stream => decide (stream < 1024)
  | .dcisReadMove stream _ => decide (stream < 1024)
  | .dcisLate stream => decide (stream < 1024)
  | .dcisFailed channel => decide (channel < 2)
  | .tdmStart _ => true
  | .tdmStartTrigger trig => decide (trig < 16)
  | .tdmStop _ => true
  | .tdmFrame port words => decide (port < 16) && decide (words.length ≤ 32)
  | .tdmFsyncEdge port _ _ => decide (port < 16)
  | .tdmLockLost port => decide (port < 16)
  | .tdmLeadInEnd port => decide (port < 16)
  | .tdmLeadOutEnd port => decide (port < 16)
  | .tdmMaskWrite port _ _ => decide (port < 16)
  | .tdmCfgWrite port _ => decide (port < 16)
  | .netLinkUp port => decide (port < 4)
  | .netLinkDown port => decide (port < 4)
  | .ipv4Write plane _ => decide (plane < 2)
  | .addrProbeEnd plane => decide (plane < 2)
  | .netAddrConflict plane => decide (plane < 2)
  | .switchFrame f => decide (f.port < 5) && decide (f.plane < 2)
  | .macAgeOut plane mac => decide (plane < 2) && decide (mac < 2 ^ 48)
  | .rtpPacketRx p => decide (p.plane < 2)
  | .rxLegTimeout stream plane => decide (stream < 1024) && decide (plane < 2)
  | .rxIdleTimeout stream => decide (stream < 1024)
  | .txPacketClose stream => decide (stream < 1024)
  | .streamEnable _ stream => decide (stream < 1024)
  | .streamDisable _ stream => decide (stream < 1024)
  | .sdpWrite stream text => decide (stream < 1024) && decide (text.length ≤ 4096)
  | .mdnsAnnounce => true
  | .sapAnnounce stream => decide (stream < 1024)
  | .sapReceive _ => true
  | .sapAgeOut src hash => decide (src < 2 ^ 32) && decide (hash < 65536)
  | .wellSampleTick _ => true
  | .wellFallbackReturn channel => decide (channel < 8)
  | .wellCodeWrite channel _ => decide (channel < 8)
  | .wellCfgWrite channel _ => decide (channel < 8)
  | .wellChangeSwitch channel => decide (channel < 8)
  | .wellChime _ => true
  | .gateRise gen => decide (gen < 16)
  | .gateFall gen => decide (gen < 16)
  | .genStepEnd gen => decide (gen < 16)
  | .wellGenCfgWrite gen _ _ => decide (gen < 16)
  | .hbToggle => true
  | .hbFault => true
  | .partnerLost => true
  | .gone hdr _ => hdr.wf
  | .claimHoldRelease => true
  | .claimTake _ _ => true
  | .contestWaitEnd _ _ => true
  | .contestTmo => true
  | .witnessQuery node => decide (node < 2 ^ 32)
  | .witnessProbeEnd _ => true
  | .witnessReply reply => decide (reply < 3)
  | .siphLaneUp lane => decide (lane < 2)
  | .siphLaneDown lane => decide (lane < 2)
  | .siphLaneRetrainTimeout lane => decide (lane < 2)
  | .marker hdr _ => hdr.wf
  | .statusFrame hdr => hdr.wf
  | .statusTimer => true
  | .nak hdr _ => hdr.wf
  | .seqGapTimeout => true
  | .hello hdr _ => hdr.wf
  | .ledger hdr _ => hdr.wf
  | .digest hdr _ out tdmIn => hdr.wf && decide (out < 2 ^ 64) && decide (tdmIn < 2 ^ 64)
  | .digestSend blk => decide (blk < 2 ^ 64)
  | .prep hdr _ => hdr.wf
  | .epochEnd hdr epoch _ _ => hdr.wf && decide (epoch < 2 ^ 32)
  | .epochAck hdr epoch _ => hdr.wf && decide (epoch < 2 ^ 32)
  | .ingress hdr edge _ _ words => hdr.wf && decide (edge < 2048) && decide (words.length ≤ 1022)
  | .snap hdr _ _ data => hdr.wf && decide (data.length ≤ 4088)
  | .switchOver => true
  | .rejoin => true
  | .partnerDivergeRequest => true
  | .rejoinWaitExpiry => true
  | .syncTimeout => true
  | .errWinExpiry => true
  | .spareClusterReady site _ => decide (site < 64)
  | .hlthRetire kind site => decide (kind < 8) && decide (site < 2 ^ 24)
  | .retirementRecordWrite _ => true
  | .brineBorrow addr => decide (addr < 2 ^ 40)
  | .brineBorrowEnd _ _ => true
  | .brineYield _ => true
  | .brineScrub addr _ => decide (addr < 2 ^ 40)
  | .brineSpareTest _ site => decide (site < 68)
  | .brineSpareTestEnd _ => true
  | .brineShadow site lane => decide (site < 36) && decide (lane < 8)
  | .brineShadowEnd site => decide (site < 64)
  | .monitorSample values osc => decide (values.length = 25) && decide (osc.length = 16)
  | .soundFrameResult feed _ _ => decide (feed < 65536)
  | .soundLearn feed => decide (feed < 65536)
  | .soundLearnEnd feed => decide (feed < 65536)
  | .soundNightly => true
  | .evtOverflow route => decide (route < 3)
  | .recorderWrite => true
  | .blockBoundary => true
  | .registerWrite master addr _ => decide (master < 64) && decide (addr < 2 ^ 40)
  | .brownOutEnd _ _ => true
  | .vstbyRise _ _ => true
  | .sdsrefRestored input => decide (input < 2)
  | .wellheadReferencesSettled => true
  | .hbRxEdge => true
  | .popExec src _ => src.wf
  | .bootFlashWriteEnd => true
  | .replayBlockComplete out tdmIn => decide (out < 2 ^ 64) && decide (tdmIn < 2 ^ 64)

end Sys2Proof
end

