-- ==== Sys2Proof/Machine/Step.lean ====
section
/-! DEFINITION. One step of the engine: the command at the front of the queue, or a core cycle without one. -/

namespace Sys2Proof.Machine

open Sys2Proof

/-- The command at the front of the queue acts with the queue's rest; on an empty queue one core cycle passes (log entry
4). -/
def step (s : State) : Host.Outcome State Fault Refusal :=
  match s.pending with
  | c :: rest => exec c { s with pending := rest }
  | [] => .next s.idleCycle

/-- The command that a word of the table spells is put at the front of the queue; a word that spells none leaves the state
as it is. -/
def State.withFetchWord (s : State) (nbits w : Nat) : State :=
  match decodeTableWord nbits w with
  | some c => { s with pending := c :: s.pending }
  | none => s

end Sys2Proof.Machine
end

