-- ==== Sys2Proof/Safety.lean ====
section
/-! DEFINITION. What counts as a well-kept state and a safe step, and the parts of the state that a frame speaks of, in the
terms the statements use. -/

namespace Sys2Proof.Machine

open Sys2Proof

/-- Memory and the register fields are in canonical form: keys strictly rising, and no memory byte listed that reads as an
unlisted one does (log entry 7). Equal contents are then equal data. -/
def State.Canonical (s : State) : Prop := Memory.wf s.mem = true ∧ nsorted s.regs = true

/-- The next step answers a state: it neither faults nor refuses. -/
def State.Safe (s : State) : Prop := ∃ t, step s = .next t

/-- A part of the state: memory, one of the state's records, or the register fields of one block (`keyBlock`). `anyRegs`
stands in a list of parts for every register block at once. -/
inductive Part where
  | mem | sys | flash | clk | ref | tim | pump | memu | fab | pair | route | scene | pop | objs | tdm | net | well | hlth | evt
  | free | anyRegs | regs (block : Nat)
deriving DecidableEq, Repr

/-- `t` agrees with `s` on a part: every byte of memory reads the same, every register field of the block reads the same, or
the record is the same. -/
def State.sameOn (s t : State) : Part → Prop
  | .mem => ∀ a, memGet t.mem a = memGet s.mem a
  | .sys => t.sys = s.sys
  | .flash => t.flash = s.flash
  | .clk => t.clk = s.clk
  | .ref => t.ref = s.ref
  | .tim => t.tim = s.tim
  | .pump => t.pump = s.pump
  | .memu => t.memu = s.memu
  | .fab => t.fab = s.fab
  | .pair => t.pair = s.pair
  | .route => t.route = s.route
  | .scene => t.scene = s.scene
  | .pop => t.pop = s.pop
  | .objs => t.objs = s.objs
  | .tdm => t.tdm = s.tdm
  | .net => t.net = s.net
  | .well => t.well = s.well
  | .hlth => t.hlth = s.hlth
  | .evt => t.evt = s.evt
  | .free => t.free = s.free
  | .anyRegs => True
  | .regs b => ∀ f i j, Fd.blk f = b → t.fld f i j = s.fld f i j

/-- Part `p` is among the parts of the list. -/
def Part.among (l : List Part) : Part → Bool
  | .regs b => l.contains (.regs b) || l.contains .anyRegs
  | p => l.contains p

/-- `t` agrees with `s` on every part outside the list. -/
def State.sameBut (s t : State) (l : List Part) : Prop := ∀ p, p.among l = false → s.sameOn t p

/-- Every part. -/
def Part.all : List Part :=
  [.mem, .sys, .flash, .clk, .ref, .tim, .pump, .memu, .fab, .pair, .route, .scene, .pop, .objs, .tdm, .net, .well, .hlth, .evt,
   .free, .anyRegs]

/-- The parts of the state that a command may change, the queue apart. Register blocks are numbered as in `keyBlock`: 1 SYS,
2 FAB, 3 EVT, 4 TIM, 5 REF, 6 HLTH, 7 SIPH, 8 WELL, 9 TDM, 10 NET, 11 STRM, 12 CIS, 13 DCIS, 14 CLU, 15 PUMP, 16
descriptors, 18 standby domain. -/
def parts (i : Instr) : List Part :=
  match i with
  | .pwrGoodLow | .resetNLow _ | .brownOut _ | .vstbyLow | .wake | .pwrTargetRun _ _ | .pwrTargetIdle _ _
  | .pwrTargetDeepStandby _ _ | .engineRst _ | .watchdogExpiry | .thermalTrip _ _ _ | .bootRomVerify | .popRead _ _
  | .popWrite _ _ | .popStage _ _ | .popSubscribe _ _ | .popBatch _ _ | .popOpen _ _ | .popProof _ _ | .popClose _ _
  | .spiSend _ _ | .spiReceive _ | .spiImageDone _ _ | .i2cWrite _ _ _ | .fabricRequest _ _ | .fabricGrant _ _ _ _
  | .masterPortReset _ _ _ | .tdmStart _ | .tdmStop _ | .tdmMaskWrite _ _ _ | .tdmCfgWrite _ _ | .ipv4Write _ _
  | .streamEnable _ _ | .streamDisable _ _ | .wellCodeWrite _ _ | .wellCfgWrite _ _ | .wellGenCfgWrite _ _ _
  | .blockBoundary | .registerWrite _ _ _ | .popExec _ _ | .replayBlockComplete _ _ => Part.all
  | .release _ _ | .brownOutEnd _ _ | .vstbyRise _ _ => [.sys, .pop, .well, .free, .anyRegs]
  | .xoQualified | .wellheadReferencesSettled => [.sys]
  | .xoMissing => [.regs 1]
  | .rpllLocked => [.sys, .tim, .pair, .tdm, .evt, .regs 1, .regs 3, .regs 5, .regs 6, .regs 8, .regs 9]
  | .enterIdle => [.mem, .pump, .memu, .route, .anyRegs]
  | .enterRun => [.mem, .memu, .route, .scene, .regs 1, .regs 6]
  | .sessionRst _ => [.sys, .pair, .scene, .pop, .evt, .regs 3, .regs 18]
  | .clusterRst _ _ | .hbToggle | .statusTimer | .seqGapTimeout | .rejoin | .partnerDivergeRequest => [.pair]
  | .thermalTripEnd _ => [.sys, .regs 1]
  | .clusterResetReturn _ => [.mem, .sys, .memu, .scene]
  | .retirementRecordApply => [.hlth, .regs 1, .regs 5, .regs 6, .regs 12]
  | .familyChange => [.well, .regs 1, .regs 5, .regs 8]
  | .familySlewEnd => [.tim, .tdm, .regs 1, .regs 5, .regs 8, .regs 9]
  | .tdm0Reconfigure => [.sys, .tdm, .evt, .regs 3, .regs 9]
  | .xoLost => [.sys, .clk, .ref, .evt, .free, .regs 3, .regs 5]
  | .xoRestored => [.sys, .ref, .evt, .free, .regs 3, .regs 5]
  | .rpllUnlock => [.evt, .regs 3, .regs 5]
  | .sdsrefLoss _ =>
    [.mem, .clk, .pump, .memu, .pair, .pop, .net, .hlth, .evt, .regs 1, .regs 3, .regs 5, .regs 6, .regs 7, .regs 10, .regs 13]
  | .laneClockGate _ _ | .bankClockGate _ => [.clk]
  | .rpllWordUpdate _ _ => [.tim, .free, .regs 5]
  | .refWindow1s _ | .refWindow64s _ | .refLossOfSignal _ | .refSignalPresent _ | .wtrExpiry _ | .refSelect
  | .refSwitch _ => [.ref, .evt, .free, .regs 3, .regs 5]
  | .passThroughEnd _ | .sdsrefRestored _ => [.regs 5]
  | .holdHistoryEntry _ _ => [.ref, .free, .regs 5]
  | .pulseEmit _ _ _ | .pulseRealign _ _ => [.ref, .regs 5]
  | .ptpSync _ _ _ _ _ _ | .ptpDelayResp _ _ _ _ => [.tim, .evt, .free, .regs 3, .regs 4]
  | .ptpAnnounce _ _ _ => [.ref, .tim, .evt, .free, .regs 3, .regs 4, .regs 5]
  | .delayReqSend _ _ => [.tim]
  | .announceReceiptTimeout _ | .syncLoss _ | .timeJumpResolved _ | .reacqHoldExpiry _ => [.tim, .evt, .regs 3, .regs 4]
  | .catchupEnd | .tcForward _ => [.tim, .free, .regs 4]
  | .tcFollowUpLate _ | .corrWrite _ _ => [.tim, .regs 4]
  | .take | .timCountLoRead => [.regs 4]
  | .mnop _ | .depA _ _ _ _ | .clrA _ _ | .anop _ | .addR _ _ | .subR _ _ | .negR _ _ | .absR _ _ | .movR _ _
  | .andR _ _ | .orR _ _ | .xorR _ _ | .notR _ _ | .asl _ _ | .asr _ _ | .lsl _ _ | .lsr _ _ | .asli _ _ | .asri _ _
  | .lsli _ _ | .lsri _ _ | .minR _ _ | .maxR _ _ | .cmpR _ _ | .seta _ _ | .geta _ _ | .stW _ _ | .bra _ _ | .beq _ _
  | .bne _ _ | .blt _ _ | .bge _ _ | .bfl _ _ | .rotw _ | .endTask _ | .ldi _ _ _ | .setag _ _ _ | .loopI _ _ _ _
  | .loopr _ _ _ _ | .jmp _ _ => [.mem, .pump, .memu, .evt, .free, .regs 3, .regs 14, .regs 15, .regs 16]
  | .mac2 _ _ _ _ _ _ | .msu2 _ _ _ _ _ _ | .mpy2 _ _ _ _ _ _ | .mac1 _ _ _ _ _ _ | .msu1 _ _ _ _ _ _
  | .mpy1 _ _ _ _ _ _ | .ftap _ _ _ _ | .extA _ _ _ _ _ | .aadd _ _ _ _ _ | .sacc _ _ _ =>
    [.mem, .pump, .memu, .hlth, .evt, .free, .regs 1, .regs 3, .regs 6, .regs 14, .regs 15, .regs 16]
  | .ldW _ _ _ | .tapW _ _ _ | .lacc _ _ _ =>
    [.mem, .pump, .memu, .hlth, .evt, .free, .regs 1, .regs 3, .regs 6, .regs 12, .regs 14, .regs 15, .regs 16]
  | .loopReturn _ _ | .resInj _ _ _ => [.pump]
  | .taskReady _ _ => [.mem, .pump, .memu, .regs 15, .regs 16]
  | .taskDispatch _ _ =>
    [.mem, .clk, .pump, .memu, .hlth, .evt, .free, .regs 1, .regs 3, .regs 6, .regs 12, .regs 14, .regs 15, .regs 16]
  | .taskComplete _ _ => [.mem, .pump, .memu, .hlth, .regs 14, .regs 15, .regs 16]
  | .heldRelease _ _ => [.pump, .hlth, .regs 14, .regs 15, .regs 16]
  | .retainCopyEnd _ _ => [.mem, .pump, .memu, .regs 16]
  | .postDeliver _ _ =>
    [.mem, .pump, .memu, .route, .well, .evt, .free, .regs 3, .regs 7, .regs 8, .regs 14, .regs 15, .regs 16]
  | .fetchComplete _ _ =>
    [.mem, .clk, .pump, .memu, .hlth, .evt, .regs 1, .regs 3, .regs 6, .regs 12, .regs 14, .regs 15, .regs 16]
  | .writeBackComplete _ _ =>
    [.mem, .clk, .pump, .memu, .route, .well, .evt, .free, .regs 3, .regs 7, .regs 8, .regs 12, .regs 14, .regs 15, .regs 16]
  | .creditReturn _ _ _ => [.pump, .regs 16]
  | .taskDeadline _ _ => [.mem, .pump, .memu, .evt, .regs 3, .regs 14, .regs 15, .regs 16]
  | .taskRetry _ _ => [.mem, .clk, .pump, .memu, .evt, .regs 3, .regs 14, .regs 15, .regs 16]
  | .pumpLoad _ _ | .pumpArm _ _ | .pumpCancel _ _ | .pumpUnload _ _ | .pumpFlag _ _ _ =>
    [.pump, .pair, .regs 15, .regs 16]
  | .pumpTimer _ _ => [.regs 15, .regs 16]
  | .taskDescriptorWrite _ _ _ _ _ => [.fab, .evt, .anyRegs]
  | .graphLoad _ => [.mem, .pump, .memu, .route, .scene, .evt, .free, .anyRegs]
  | .directPathWord _ _ _ => [.route, .tdm, .well, .regs 8, .regs 9]
  | .routeCrossfadeEnd _ => [.route]
  | .press _ | .sceneReassert _ | .pressCancel | .vatClear => [.pair, .scene, .pop, .evt, .regs 3]
  | .pressPrepared => [.pair, .scene]
  | .filterCrossfadeEnd _ _ _ | .delayCrossfadeEnd _ _ _ | .delaySlewEnd _ _ _ => [.scene]
  | .batchTimeout _ | .proofTimeout _ | .notifySend _ | .rosterAgeOut _ _ | .disagreementClear _ _ _ | .spiStatus
  | .i2cRead _ => [.pop]
  | .sessionCloseExec _ | .sessionIdleTimeout _ => [.pair, .pop, .evt, .regs 3]
  | .peerKeepalive _ _ | .mdnsReceive _ _ _ => [.pop, .evt, .regs 3]
  | .spiImage _ _ => [.mem, .memu]
  | .eccWriteBack _ => [.memu]
  | .programLineRestore _ _ _ | .dcisTrainingEnd _ _ | .dcisReadMove _ _ | .dcisLate _ | .dcisFailed _ =>
    [.mem, .memu, .evt, .regs 3, .regs 13]
  | .lockTimeout _ => [.fab, .evt, .regs 2, .regs 3]
  | .remapSet _ _ => [.fab, .evt, .regs 1, .regs 2, .regs 3]
  | .cisternBitSet _ _ _ _ _ _ | .cisternBitClear _ _ _ _ _ _ =>
    [.mem, .clk, .pump, .memu, .fab, .hlth, .evt, .regs 1, .regs 2, .regs 3, .regs 6, .regs 12, .regs 14]
  | .bankHandoverReq _ _ _ | .bankHandover _ => [.memu, .evt, .regs 3, .regs 12]
  | .bankRetentionEnter _ => [.regs 12]
  | .bankWake _ => [.clk, .memu, .regs 12]
  | .spareRowCopy _ _ _ => [.memu, .hlth]
  | .spareBankCopyEnd _ => [.hlth, .regs 12]
  | .dcisSelfRefreshExit => [.regs 13]
  | .dcisZeroingEnd => [.mem, .memu, .regs 3, .regs 13]
  | .dcisWriteMove _ => [.mem, .memu, .regs 13]
  | .tdmStartTrigger _ | .tdmFsyncEdge _ _ _ | .tdmLockLost _ | .tdmLeadOutEnd _ => [.tdm, .evt, .regs 3, .regs 9]
  | .tdmFrame _ _ => [.pump, .route, .tdm, .evt, .regs 3, .regs 9, .regs 16]
  | .tdmLeadInEnd _ => [.evt, .regs 3, .regs 9]
  | .netLinkUp _ => [.evt, .regs 3, .regs 10]
  | .netLinkDown _ | .netAddrConflict _ | .switchFrame _ => [.net, .evt, .regs 3, .regs 10]
  | .addrProbeEnd _ | .macAgeOut _ _ => [.net, .regs 10]
  | .rtpPacketRx _ => [.pair, .net, .evt, .regs 3, .regs 11]
  | .rxLegTimeout _ _ | .rxIdleTimeout _ => [.evt, .regs 3, .regs 11]
  | .txPacketClose _ => [.pump, .net, .regs 10, .regs 11, .regs 16]
  | .sdpWrite _ _ => [.objs, .net, .regs 11]
  | .mdnsAnnounce | .sapReceive _ | .sapAgeOut _ _ => [.net]
  | .sapAnnounce _ => [.net, .regs 11]
  | .wellSampleTick _ => [.sys, .route, .well, .evt, .regs 1, .regs 3, .regs 8]
  | .wellFallbackReturn _ => [.well, .evt, .regs 3, .regs 8]
  | .wellChangeSwitch _ | .gateRise _ | .gateFall _ | .genStepEnd _ => [.well, .regs 8]
  | .wellChime _ => [.pair, .well, .evt, .regs 3, .regs 8]
  | .hbFault => [.evt, .regs 3, .regs 7]
  | .partnerLost => [.pair, .scene, .pop, .well, .evt, .regs 3, .regs 7, .regs 8]
  | .gone _ _ | .marker _ _ | .statusFrame _ | .nak _ _ | .hello _ _ | .ledger _ _ | .digest _ _ _ _ | .prep _ _
  | .epochEnd _ _ _ _ | .epochAck _ _ _ | .ingress _ _ _ _ _ | .snap _ _ _ _ =>
    [.mem, .clk, .ref, .pump, .memu, .pair, .scene, .pop, .well, .evt, .free, .regs 3, .regs 7, .regs 8, .regs 12, .regs 15, .regs 16]
  | .claimHoldRelease => [.pair, .regs 7, .regs 8]
  | .claimTake _ _ | .contestWaitEnd _ _ | .witnessReply _ => [.pair, .pop, .evt, .regs 3, .regs 7, .regs 8]
  | .contestTmo | .switchOver | .rejoinWaitExpiry | .hbRxEdge => [.pair, .regs 7]
  | .witnessQuery _ | .witnessProbeEnd _ => [.pair, .pop]
  | .siphLaneUp _ => [.pair, .hlth, .evt, .regs 3, .regs 7]
  | .siphLaneDown _ => [.clk, .pump, .pair, .pop, .hlth, .evt, .regs 1, .regs 3, .regs 5, .regs 6, .regs 7]
  | .siphLaneRetrainTimeout _ | .hlthRetire _ _ => [.pump, .hlth, .evt, .regs 1, .regs 3, .regs 6]
  | .digestSend _ | .syncTimeout => [.pair, .pop, .evt, .regs 3, .regs 7]
  | .errWinExpiry | .brineBorrow _ | .soundLearn _ => [.hlth]
  | .spareClusterReady _ _ => [.mem, .pump, .memu, .hlth, .evt, .regs 1, .regs 3, .regs 6, .regs 18]
  | .retirementRecordWrite _ => [.flash, .hlth, .evt, .regs 3]
  | .brineBorrowEnd _ _ => [.mem, .pump, .hlth, .evt, .regs 1, .regs 3, .regs 6, .regs 12]
  | .brineYield _ => [.mem, .hlth, .regs 6]
  | .brineScrub _ _ => [.pump, .memu, .hlth, .evt, .regs 1, .regs 3, .regs 6, .regs 12, .regs 14]
  | .brineSpareTest _ _ => [.hlth, .regs 1, .regs 6]
  | .brineSpareTestEnd _ => [.mem, .pump, .memu, .hlth, .evt, .regs 1, .regs 3, .regs 6]
  | .brineShadow _ _ => [.clk, .pump, .hlth, .regs 6, .regs 14]
  | .brineShadowEnd _ => [.pump, .hlth, .evt, .regs 1, .regs 3, .regs 6, .regs 14]
  | .monitorSample _ _ => [.hlth, .evt, .regs 3, .regs 6]
  | .soundFrameResult _ _ _ => [.net, .hlth, .evt, .free, .regs 3]
  | .soundLearnEnd _ => [.flash, .objs, .net, .hlth, .evt, .regs 3]
  | .soundNightly => [.hlth, .evt, .regs 3, .regs 4]
  | .evtOverflow _ => [.evt, .regs 3]
  | .recorderWrite => [.mem, .memu, .evt]
  | .bootFlashWriteEnd => [.flash]

end Sys2Proof.Machine
end

