-- ==== Sys2Proof/Certificates/Slice0/Obligations.lean ====
section
/-! DEFINITION. The statements for the provers: what each command does, its frame, and the invariants that every step keeps. -/

open Sys2Proof Sys2Proof.Machine

namespace Sys2Proof.Machine

/-! ### The lane -/

/-- The next slot of lane `p` issues: the lane runs and its bundle lies in program memory (R216, R248, R249). -/
def Slotting (s : State) (p : LaneAt) : Prop := s.laneRuns p.site p.lane = true ∧ (s.lane p.site p.lane).pc < 8192

/-- What lane `p` holds: `y` after and `x` before agree on every register but those that the flags leave open: the data
registers when `d`, the address side when `a`, the condition flags when `z`. -/
def KeepsLane (x y : Lane) (d a z : Bool) : Prop :=
  (d = true → y.d = x.d) ∧ (a = true → y.a = x.a ∧ y.b = x.b ∧ y.l = x.l ∧ y.m = x.m) ∧
  (z = true → y.z = x.z ∧ y.n = x.n) ∧ y.rrb = x.rrb ∧ y.task = x.task ∧ (x.ending = false → y.loops = x.loops)

/-- Data register `nm` takes `v` and no other data register changes. -/
def SetsReg (x y : Lane) (nm : BitVec 6) (v : Word32) : Prop :=
  y.dreg nm.toNat = v ∧ ∀ r, r ≠ x.phys nm.toNat → nget 0 y.d r = nget 0 x.d r

/-- A result under S (R203): clamped to 32 bits, with whether it clamped; otherwise the low 32 bits. -/
def clamped (sat : Bool) (e : Int) : Word32 × Bool :=
  if sat then
    (if 2 ^ 31 ≤ e then (0x7FFFFFFF, true) else if e < -(2 ^ 31) then (0x80000000, true) else (BitVec.ofInt 32 e, false))
  else (BitVec.ofInt 32 e, false)

/-- The condition of an ALU slot holds on the lane's flags (R228). -/
def CondHolds (o : Alu) (x : Lane) : Prop :=
  match o.cond.toNat with
  | 0 => True | 1 => x.z = true | 2 => x.z = false | 3 => x.n = true | 4 => x.n = false
  | 5 => x.z = false ∧ x.n = false | 6 => x.z = true ∨ x.n = true | _ => False

/-- `v ÷ 2^k` under RND (R195): the integer below, or the nearest integer with halves to the even one. -/
def rounded (trunc : Bool) (v : Int) (k : Nat) : Int :=
  if trunc then v / 2 ^ k
  else if 2 * (v % 2 ^ k) < 2 ^ k ∨ (2 * (v % 2 ^ k) = 2 ^ k ∧ v / 2 ^ k % 2 = 0) then v / 2 ^ k
  else v / 2 ^ k + 1

/-- The result and clamping of the binary and shift operations of R203 and R227 on `a` and `b`. -/
def aluTable : List ((LaneAt → Alu → Instr) × AluKind × (Alu → Word32 → Word32 → Word32 × Bool)) := [
  (.addR, .binary, fun o a b => clamped o.sat (a.toInt + b.toInt)),
  (.subR, .binary, fun o a b => clamped o.sat (a.toInt - b.toInt)),
  (.andR, .binary, fun _ a b => (a &&& b, false)),
  (.orR, .binary, fun _ a b => (a ||| b, false)),
  (.xorR, .binary, fun _ a b => (a ^^^ b, false)),
  (.minR, .binary, fun _ a b => (if a.sle b then a else b, false)),
  (.maxR, .binary, fun _ a b => (if a.sle b then b else a, false)),
  (.negR, .unary, fun o a _ => clamped o.sat (-a.toInt)),
  (.absR, .unary, fun o a _ => clamped o.sat (if a.toInt < 0 then -a.toInt else a.toInt)),
  (.movR, .unary, fun _ a _ => (a, false)),
  (.notR, .unary, fun _ a _ => (~~~a, false)),
  (.asl, .binary, fun o a b => clamped o.sat (a.toInt * 2 ^ (b.toNat % 64))),
  (.asr, .binary, fun o a b => (BitVec.ofInt 32 (rounded o.rnd a.toInt (b.toNat % 64)), false)),
  (.lsl, .binary, fun _ a b => (a <<< (b.toNat % 64), false)),
  (.lsr, .binary, fun _ a b => (a >>> (b.toNat % 64), false)),
  (.asli, .immediate, fun o a b => clamped o.sat (a.toInt * 2 ^ (b.toNat % 64))),
  (.asri, .immediate, fun o a b => (BitVec.ofInt 32 (rounded o.rnd a.toInt (b.toNat % 64)), false)),
  (.lsli, .immediate, fun _ a b => (a <<< (b.toNat % 64), false)),
  (.lsri, .immediate, fun _ a b => (a >>> (b.toNat % 64), false))]


/-- The value, clamp latch, AOV and ASAT that accumulating `p` gives an accumulator under S (R185, R187 to R189). -/
def accResult (sat : Bool) (a : LAcc) (p : Int) : Word80 × Bool × Bool × Bool :=
  if a.cl then (a.val, true, false, false)
  else if a.val.toInt + p < -(2 ^ 79) then
    (if sat then (BitVec.ofInt 80 (-(2 ^ 79)), true, false, true) else (BitVec.ofInt 80 (a.val.toInt + p), false, true, false))
  else if 2 ^ 79 ≤ a.val.toInt + p then
    (if sat then (BitVec.ofInt 80 (2 ^ 79 - 1), true, false, true) else (BitVec.ofInt 80 (a.val.toInt + p), false, true, false))
  else (BitVec.ofInt 80 (a.val.toInt + p), false, false, false)

/-- The accumulators of lane `p` took the addends `l`, one entry an accumulator: value, CL, AOV and ASAT as R185 to R189 say; the
others and every other register of the lane are as before. -/
def Accumulated (s t : State) (p : LaneAt) (sat : Bool) (l : List (Nat × Int)) : Prop :=
  let x := s.lane p.site p.lane
  let y := t.lane p.site p.lane
  KeepsLane x y true true true ∧ ∀ k, k < 4 →
    match l.lookup k with
    | none => y.accOf k = x.accOf k ∧
        bit (t.fld fCLUn_LARITHm_AOV p.site p.lane) k = bit (s.fld fCLUn_LARITHm_AOV p.site p.lane) k ∧
        bit (t.fld fCLUn_LARITHm_ASAT p.site p.lane) k = bit (s.fld fCLUn_LARITHm_ASAT p.site p.lane) k
    | some e =>
        (y.accOf k).val = (accResult sat (x.accOf k) e).1 ∧ (y.accOf k).cl = (accResult sat (x.accOf k) e).2.1 ∧
        bit (t.fld fCLUn_LARITHm_AOV p.site p.lane) k =
          (bit (s.fld fCLUn_LARITHm_AOV p.site p.lane) k || (accResult sat (x.accOf k) e).2.2.1) ∧
        bit (t.fld fCLUn_LARITHm_ASAT p.site p.lane) k =
          (bit (s.fld fCLUn_LARITHm_ASAT p.site p.lane) k || (accResult sat (x.accOf k) e).2.2.2)

/-- Accumulator `k` of lane `p` holds `v` with CL clear, and the other accumulators and registers are as before. -/
def AccWritten (s t : State) (p : LaneAt) (l : List (Nat × Int)) : Prop :=
  let x := s.lane p.site p.lane
  let y := t.lane p.site p.lane
  KeepsLane x y true true true ∧ ∀ k, k < 4 →
    match l.lookup k with
    | none => y.accOf k = x.accOf k
    | some v => (y.accOf k).val = BitVec.ofInt 80 v ∧ (y.accOf k).cl = false

/-- No fill commits with this slot, so that the accumulators show the slot's own effect (R244). -/
def NoFill (s : State) (p : LaneAt) : Prop := p.eob = false ∨ (s.lane p.site p.lane).fills = []

/-- No residue error in this slot (R207, R214). -/
def NoResidue (s : State) (p : LaneAt) (c : MacBits) : Prop := c.flt = false ∧ nget false s.pump.inj (laneKey p.site p.lane) = false

/-- The lane slot that a command is, with its last-slot mark set to `b`; none for a command that is no lane slot. -/
def withEob (b : Bool) (i : Instr) : Option (LaneAt × Instr) :=
  match i with
  | .mnop p => some (p, .mnop { p with eob := b })
  | .mac2 p t0 t1 ra rb c => some (p, .mac2 { p with eob := b } t0 t1 ra rb c)
  | .msu2 p t0 t1 ra rb c => some (p, .msu2 { p with eob := b } t0 t1 ra rb c)
  | .mpy2 p t0 t1 ra rb c => some (p, .mpy2 { p with eob := b } t0 t1 ra rb c)
  | .mac1 p t su ra rb c => some (p, .mac1 { p with eob := b } t su ra rb c)
  | .msu1 p t su ra rb c => some (p, .msu1 { p with eob := b } t su ra rb c)
  | .mpy1 p t su ra rb c => some (p, .mpy1 { p with eob := b } t su ra rb c)
  | .ftap p t neg c => some (p, .ftap { p with eob := b } t neg c)
  | .extA p a rd sh c => some (p, .extA { p with eob := b } a rd sh c)
  | .depA p a rs sh => some (p, .depA { p with eob := b } a rs sh)
  | .aadd p t u neg c => some (p, .aadd { p with eob := b } t u neg c)
  | .clrA p mask => some (p, .clrA { p with eob := b } mask)
  | .anop p => some (p, .anop { p with eob := b })
  | .addR p o => some (p, .addR { p with eob := b } o)
  | .subR p o => some (p, .subR { p with eob := b } o)
  | .negR p o => some (p, .negR { p with eob := b } o)
  | .absR p o => some (p, .absR { p with eob := b } o)
  | .movR p o => some (p, .movR { p with eob := b } o)
  | .andR p o => some (p, .andR { p with eob := b } o)
  | .orR p o => some (p, .orR { p with eob := b } o)
  | .xorR p o => some (p, .xorR { p with eob := b } o)
  | .notR p o => some (p, .notR { p with eob := b } o)
  | .asl p o => some (p, .asl { p with eob := b } o)
  | .asr p o => some (p, .asr { p with eob := b } o)
  | .lsl p o => some (p, .lsl { p with eob := b } o)
  | .lsr p o => some (p, .lsr { p with eob := b } o)
  | .asli p o => some (p, .asli { p with eob := b } o)
  | .asri p o => some (p, .asri { p with eob := b } o)
  | .lsli p o => some (p, .lsli { p with eob := b } o)
  | .lsri p o => some (p, .lsri { p with eob := b } o)
  | .minR p o => some (p, .minR { p with eob := b } o)
  | .maxR p o => some (p, .maxR { p with eob := b } o)
  | .cmpR p o => some (p, .cmpR { p with eob := b } o)
  | .seta p o => some (p, .seta { p with eob := b } o)
  | .geta p o => some (p, .geta { p with eob := b } o)
  | .ldW p o ecc => some (p, .ldW { p with eob := b } o ecc)
  | .stW p o => some (p, .stW { p with eob := b } o)
  | .tapW p o ecc => some (p, .tapW { p with eob := b } o ecc)
  | .sacc p o flt => some (p, .sacc { p with eob := b } o flt)
  | .lacc p o ecc => some (p, .lacc { p with eob := b } o ecc)
  | .bra p off => some (p, .bra { p with eob := b } off)
  | .beq p off => some (p, .beq { p with eob := b } off)
  | .bne p off => some (p, .bne { p with eob := b } off)
  | .blt p off => some (p, .blt { p with eob := b } off)
  | .bge p off => some (p, .bge { p with eob := b } off)
  | .bfl p off => some (p, .bfl { p with eob := b } off)
  | .rotw p => some (p, .rotw { p with eob := b })
  | .endTask p => some (p, .endTask { p with eob := b })
  | .ldi p rd imm => some (p, .ldi { p with eob := b } rd imm)
  | .setag p name imm => some (p, .setag { p with eob := b } name imm)
  | .loopI p count len rot => some (p, .loopI { p with eob := b } count len rot)
  | .loopr p rs len rot => some (p, .loopr { p with eob := b } rs len rot)
  | .jmp p target => some (p, .jmp { p with eob := b } target)
  | _ => none

/-- Some registers whose write does nothing beside its fields' access codes. -/
def plainRegs : List Reg := [.SYS_SCRATCH, .SYS_STRAP, .SYS_RESET_CAUSE, .FAB_ERR_LOG, .EVT_CTRL, .EVT_STATUSw, .TIM_MAP_STATUS,
  .REF_SEL_STATUS, .HLTH_SPARES, .SIPH_STATUS, .WELLm_STATUS, .TDMn_STATUS, .NET_QOS, .NET_PLANEx_GW, .NET_EDGEe_MAP, .NET_PORTp_STATUS]

/-- The machine after a Power-on Reset that left everything but the standby domain at reset (R47, R54, R56): the boot flash, without the
writes under way, and the scratch words are kept, `cause` is set, memory reads zero, and every register outside the standby domain holds
its reset value. -/
def PoweredOn (s t : State) (cause : Fd) : Prop :=
  t.sys.phase = .por ∧ t.fld cause = 1 ∧ (∀ a, memGet t.mem a = 0) ∧ t.flash = { s.flash with jobs := [] } ∧ t.pump = {} ∧ t.tim = {} ∧
  (∀ i, t.fld fSYS_SCRATCH_VALUE i = s.fld fSYS_SCRATCH_VALUE i) ∧
  (∀ (f : Fd) (i j : Nat), f.blk ≠ cause.blk → t.fld f i j = f.resetAt i)

/-- The machine after an Engine Reset (R54, R56, R58): counted, its cause set, working RAM and scratch words kept, cluster memories and
Cistern zero, no task and no session, the counter running on, a used Deep Cistern in self refresh, and stage 2 started unless held. -/
def EngineResetDone (s t : State) (cause : Fd) (hold : Bool) : Prop :=
  t.fld fSYS_RESET_CAUSE_ENG_COUNT = min (s.fld fSYS_RESET_CAUSE_ENG_COUNT + 1) 65535 ∧ t.fld cause = 1 ∧
  (∀ a, a < 0x20000000 → memGet t.mem a = memGet s.mem a) ∧
  (∀ a, 0x20000000 ≤ a → a < 0x100000000 → memGet t.mem a = 0) ∧ t.pump = {} ∧ t.pop.sessions = [] ∧ t.tim.cnt = s.tim.cnt ∧
  t.flash = s.flash ∧ (∀ i, t.fld fSYS_SCRATCH_VALUE i = s.fld fSYS_SCRATCH_VALUE i) ∧ t.sys.engReset = hold ∧
  (s.dcisState ≠ 0 → s.dcisState ≠ 5 → t.dcisState = 3) ∧
  t.fld fSYS_BOOT_STATUS_STAGE = (if hold ∨ 4 ≤ t.fld fSYS_STRAP_BOOT then 0 else 1) ∧ t.fld fSYS_STRAP_BOOT = s.fld fSYS_STRAP_BOOT

/-- A Press or Scene Reassert argument of 32 bytes without reserved bits and without an instant (R713), with its digest and count. -/
def PressArg (arg : List Byte) (digest count : Nat) : Prop :=
  arg.length = 32 ∧ pressReserved arg = none ∧ (arg.getD 12 0).toNat % 2 = 0 ∧ digest = ofLeBytes (arg.take 8) ∧
    count = ofLeBytes ((arg.drop 8).take 4)

/-- A request of session `x` with its MAC (R617, R618, R627). -/
def popReq (typ : Nat) (x : Session) (req fl : Nat) (b : List Byte) : List Byte := popMake typ x.num req fl 0 0 b (some x.key)

/-- A unit that runs alone serves network session `x`, whose next request is new and has body `b`. -/
def PopReady (s : State) (x : Session) (req : Nat) (b : List Byte) : Prop :=
  s.live = true ∧ s.sys.fwRunning = true ∧ s.role = 0 ∧ s.sess x.num = some x ∧ x.spi = false ∧ x.key ≠ [] ∧ x.num < 2 ^ 64 ∧
    x.mem = [] ∧ req < 2 ^ 32 ∧ b.length ≤ 1432

/-- The session and the state in which a new request of session `x` is served: heard now, from this address, and remembered (R628, R630). -/
def State.serving (s : State) (addr port : Nat) (x : Session) (req : Nat) : Session × State :=
  let y := { x with lastMsg := s.tim.cnt, addr := addr, port := port }
  let z := (s.setSess y).remember y { req := req, at' := s.tim.cnt, resp := none }
  (z, (s.setSess y).setSess z)

/-- The answer of session `x` is the one message that the network gets. -/
def Answers (s t : State) (addr port : Nat) (x : Session) (req typ st det : Nat) (body : List Byte) : Prop :=
  t.pop.sent = s.pop.sent ++ [{ dst := .net addr port, msg := popMake (typ + 128) x.num req 0 st det body (some x.key) }]

/-- The pairing logic runs (R533, R534). -/
abbrev PairOn (s : State) : Prop := s.pairLive = true ∧ s.pairEn = true

/-- A frame is taken from its lane, in order, none is held, and no switchover waits for CLAIM (R550, R552, R566). -/
abbrev FrameReady (s : State) (h : FrameHdr) : Prop :=
  PairOn s ∧ h.lane < 2 ∧ s.flag (laneUp h.lane) = true ∧ h.crcOk = true ∧ (s.pair.anySeq = true ∨ h.seq = s.pair.rxSeq) ∧ s.pair.early = [] ∧
    (s.role = 3 → s.pair.gone = false)

/-- The newest frame that waits for its acknowledgement is the next SEQ with this body, and it left now (R550, R552). -/
def SentFrame (s t : State) (b : FrameBody) : Prop :=
  t.pair.replay.getLast? = some (s.pair.txSeq, b) ∧ t.pair.txSeq = (s.pair.txSeq + 1) % 2 ^ 32 ∧ t.pair.txAt = s.tim.cnt

end Sys2Proof.Machine

/-- A step takes the command at the front of the queue: it is exec of that command on the state with the queue's rest. On an empty queue a
core cycle passes (log entry 4): the counter of a clocked engine rises, wrapping at 80 bits, one record leaves the intake queue, and memory,
registers, tasks, routes, scene and objects stay. -/
def Obligations.StepRunsFront : Prop :=
  (∀ (c : Instr) (rest : List Instr) (s : State), s.pending = c :: rest → step s = exec c { s with pending := rest }) ∧
  (∀ s : State, s.pending = [] → s.clocked = false → step s = .next s) ∧
  (∀ s : State, s.pending = [] → s.clocked = true →
    ∃ t, step s = .next t ∧ t.tim = { s.tim with cnt := (s.tim.cnt + 1) % 2 ^ 80 } ∧ t.mem = s.mem ∧ t.pump = s.pump ∧ t.route = s.route ∧
      t.scene = s.scene ∧ t.objs = s.objs ∧ t.pending = [] ∧ t.evt.intake = s.evt.intake.drop 1)

/-- The state at first power-up (R47, R62): canonical, held in Power-on Reset with POR_STANDBY and POR_PWR_GOOD set, every other register
field at its reset value, no command waiting, no session, no task and no time running. Memory reading zero and the reset values of fields to
which the spec gives none are the model's choice (log entries 7 and 8). -/
def Obligations.ResetState : Prop :=
  State.reset.Canonical ∧ State.reset.sys.phase = .por ∧ State.reset.pending = [] ∧ State.reset.pop.sessions = [] ∧
  State.reset.pump = {} ∧ State.reset.tim.running = false ∧ (∀ a, memGet State.reset.mem a = 0) ∧
  State.reset.fld fSYS_RESET_CAUSE_POR_STANDBY = 1 ∧ State.reset.fld fSYS_RESET_CAUSE_POR_PWR_GOOD = 1 ∧
  (∀ (f : Fd) (i j : Nat), f.id ≠ fSYS_RESET_CAUSE_POR_STANDBY.id → f.id ≠ fSYS_RESET_CAUSE_POR_PWR_GOOD.id →
    State.reset.fld f i j = f.resetAt i)

/-- The frame of every command: exec answers a next state, leaves the queue as it is, and changes nothing but the parts of the state that
`parts` names for the command: every byte of memory, every register block and every record of the state outside them is as before. -/
def Obligations.CommandFrames : Prop :=
  ∀ (i : Instr) (s : State), ∃ t, exec i s = .next t ∧ t.pending = s.pending ∧ s.sameBut t (parts i)

/-- Every step answers a next state and keeps memory and the register fields in their canonical form: keys strictly rising, and no byte
listed that reads as an unlisted one does (log entry 7). -/
def Obligations.StepKeepsCanonical : Prop :=
  ∀ s : State, s.Canonical → s.Safe ∧ ∀ t, step s = .next t → t.Canonical

/-- The ALU operations of R203 and R227, with their results under S and RND: when the condition holds, RD takes the result, RSAT is set by a
clamp and never cleared, and nothing else of the lane changes. Both slot classes, every condition and every shift amount are covered. An ALU
operation whose condition fails writes nothing and sets no flag (R228). -/
def Obligations.AluConditions : Prop :=
  (∀ e ∈ aluTable, ∀ (s : State) (p : LaneAt) (o : Alu),
    Slotting s p → aluOk o e.2.1 = true → CondHolds o (s.lane p.site p.lane) →
    ∃ t, exec (e.1 p o) s = .next t ∧
      (let x := s.lane p.site p.lane
       let r := e.2.2 o (aluOperands o e.2.1 x).1 (aluOperands o e.2.1 x).2
       SetsReg x (t.lane p.site p.lane) o.rd r.1 ∧ KeepsLane x (t.lane p.site p.lane) false true true ∧
       bit (t.fld fCLUn_LARITHm_RSAT p.site p.lane) 0 = (bit (s.fld fCLUn_LARITHm_RSAT p.site p.lane) 0 || r.2))) ∧
  ((∀ e ∈ aluTable.map (fun e => (e.1, e.2.1)) ++ [(Instr.cmpR, AluKind.binary)], ∀ (s : State) (p : LaneAt) (o : Alu),
    Slotting s p → aluOk o e.2 = true → ¬ CondHolds o (s.lane p.site p.lane) →
    ∃ t, exec (e.1 p o) s = .next t ∧ KeepsLane (s.lane p.site p.lane) (t.lane p.site p.lane) true true true ∧
      t.fld fCLUn_LARITHm_RSAT p.site p.lane = s.fld fCLUn_LARITHm_RSAT p.site p.lane) ∧
  (∀ (s : State) (p : LaneAt) (o : Alu), ∀ e ∈ [(Instr.seta, o.rd), (.geta, o.ra)],
    Slotting s p → aluOk o .unary = true → o.ext = false → asNameOk e.2 = true → ¬ CondHolds o (s.lane p.site p.lane) →
    ∃ t, exec (e.1 p o) s = .next t ∧ KeepsLane (s.lane p.site p.lane) (t.lane p.site p.lane) true true true ∧
      t.fld fCLUn_LARITHm_RSAT p.site p.lane = s.fld fCLUn_LARITHm_RSAT p.site p.lane))

/-- The accumulating operations of R222 to R226 and R200 without a residue error: the exact sum of R185 under S, with CL, AOV and ASAT as
R187 to R189 say. Two products for one accumulator are added as one. A slot with a residue error, made or injected (R207, R212, R214): the
sums and flags are written as without it, and then the lane reports the residue error, which the count on the health side leaves out when it
was injected. -/
def Obligations.Accumulates : Prop :=
  (∀ (s : State) (p : LaneAt) (c : MacBits), Slotting s p → NoResidue s p c → NoFill s p →
    (let x := s.lane p.site p.lane
     (∀ (t0 t1 : BitVec 2) (ra rb : BitVec 6), ra ≠ 63 → rb ≠ 63 →
       (let a := (x.dreg ra.toNat).toInt * (x.dreg rb.toNat).toInt
        let b := (x.dreg (ra.toNat + 1)).toInt * (x.dreg (rb.toNat + 1)).toInt
        (∃ t, exec (.mac2 p t0 t1 ra rb c) s = .next t ∧
          Accumulated s t p c.sat (if t0 = t1 then [(t0.toNat, a + b)] else [(t0.toNat, a), (t1.toNat, b)])) ∧
        (∃ t, exec (.msu2 p t0 t1 ra rb c) s = .next t ∧
          Accumulated s t p c.sat (if t0 = t1 then [(t0.toNat, -(a + b))] else [(t0.toNat, -a), (t1.toNat, -b)])))) ∧
     (∀ (k su : BitVec 2) (ra rb : BitVec 6),
       (let a := if su = 0 ∨ su = 1 then (x.dreg ra.toNat).toInt else ((x.dreg ra.toNat).toNat : Int)
        let b := if su = 0 ∨ su = 2 then (x.dreg rb.toNat).toInt else ((x.dreg rb.toNat).toNat : Int)
        (∃ t, exec (.mac1 p k su ra rb c) s = .next t ∧ Accumulated s t p c.sat [(k.toNat, a * b)]) ∧
        (∃ t, exec (.msu1 p k su ra rb c) s = .next t ∧ Accumulated s t p c.sat [(k.toNat, -(a * b))]))) ∧
     (∀ (k : BitVec 2) (neg : Bool), ∃ t, exec (.ftap p k neg c) s = .next t ∧
       Accumulated s t p c.sat [(k.toNat, if neg then -(x.yd.toInt * x.xd.toInt) else x.yd.toInt * x.xd.toInt)]) ∧
     (∀ (k u : BitVec 2) (neg : Bool), ∃ t, exec (.aadd p k u neg c) s = .next t ∧
       Accumulated s t p c.sat [(k.toNat, if neg then -(x.accOf u.toNat).val.toInt else (x.accOf u.toNat).val.toInt)]))) ∧
  (∀ (s : State) (p : LaneAt) (c : MacBits) (k u : BitVec 2) (ra rb : BitVec 6) (neg : Bool),
    Slotting s p → ¬ NoResidue s p c → ra ≠ 63 → rb ≠ 63 →
    (let x := s.lane p.site p.lane
     let a := (x.dreg ra.toNat).toInt * (x.dreg rb.toNat).toInt
     let b := (x.dreg (ra.toNat + 1)).toInt * (x.dreg (rb.toNat + 1)).toInt
     ∀ e ∈ [(Instr.mac2 p k k ra rb c, [(k.toNat, a + b)]), (Instr.msu2 p k k ra rb c, [(k.toNat, -(a + b))]),
            (Instr.mac1 p k 0 ra rb c, [(k.toNat, a)]), (Instr.msu1 p k 0 ra rb c, [(k.toNat, -a)]),
            (Instr.ftap p k neg c, [(k.toNat, if neg then -(x.yd.toInt * x.xd.toInt) else x.yd.toInt * x.xd.toInt)]),
            (Instr.aadd p k u neg c,
              [(k.toNat, if neg then -(x.accOf u.toNat).val.toInt else (x.accOf u.toNat).val.toInt)])],
       ∃ v, Accumulated s v p c.sat e.2 ∧
         exec e.1 s = .next ((v.residueError p.site p.lane (!c.flt)).endSlot p.site p.lane p.eob)))

/-- The operations that write an accumulator or read one out (R190, R197, R199, R222, R225) without a residue error: products written, a
deposit, zeroing, and an extraction with its rounding and clamp. -/
def Obligations.MacWrites : Prop :=
  ∀ (s : State) (p : LaneAt) (c : MacBits), Slotting s p → c.flt = false → NoFill s p →
    (let x := s.lane p.site p.lane
     (∀ (t0 t1 : BitVec 2) (ra rb : BitVec 6), ra ≠ 63 → rb ≠ 63 →
       (let a := (x.dreg ra.toNat).toInt * (x.dreg rb.toNat).toInt
        let b := (x.dreg (ra.toNat + 1)).toInt * (x.dreg (rb.toNat + 1)).toInt
        ∃ t, exec (.mpy2 p t0 t1 ra rb c) s = .next t ∧
          AccWritten s t p (if t0 = t1 then [(t0.toNat, a + b)] else [(t0.toNat, a), (t1.toNat, b)]))) ∧
     (∀ (k su : BitVec 2) (ra rb : BitVec 6),
       (let a := if su = 0 ∨ su = 1 then (x.dreg ra.toNat).toInt else ((x.dreg ra.toNat).toNat : Int)
        let b := if su = 0 ∨ su = 2 then (x.dreg rb.toNat).toInt else ((x.dreg rb.toNat).toNat : Int)
        ∃ t, exec (.mpy1 p k su ra rb c) s = .next t ∧ AccWritten s t p [(k.toNat, a * b)])) ∧
     (∀ mask : BitVec 4, ∃ t, exec (.clrA p mask) s = .next t ∧
       AccWritten s t p (((List.range 4).filter (fun k => mask.getLsbD k)).map (fun k => (k, 0)))) ∧
     (∀ (k : BitVec 2) (rs sh : BitVec 6), sh.toNat ≤ 48 → ∃ t, exec (.depA p k rs sh) s = .next t ∧
       AccWritten s t p [(k.toNat, (x.dreg rs.toNat).toInt * 2 ^ sh.toNat)]) ∧
     (∀ (k : BitVec 2) (rd sh : BitVec 6), sh.toNat ≤ 48 → ∃ t, exec (.extA p k rd sh c) s = .next t ∧
       (let r := clamped c.sat (rounded c.rnd (x.accOf k.toNat).val.toInt sh.toNat)
        SetsReg x (t.lane p.site p.lane) rd r.1 ∧ KeepsLane x (t.lane p.site p.lane) false true true ∧
        (t.lane p.site p.lane).acc = x.acc ∧
        bit (t.fld fCLUn_LARITHm_RSAT p.site p.lane) 0 = (bit (s.fld fCLUn_LARITHm_RSAT p.site p.lane) 0 || r.2))))

/-- A read in an X or Y slot (R226, R231 to R233, R245): the word is read after the lane's older stores due by its M stage, the register and
the slot's latch take it, the address register steps by MOD, and TAP stores the same word at succ(a); LACC puts words 0 and 1 into the
staging register and commits word 2 as a fill. An uncorrectable word stops the lane instead. A store in an X or Y slot (R201, R231, R233):
the word waits for its W stage behind the lane's older stores, at the address before the step by MOD; it is the register's value, or word W
of the accumulator. A shadowing lane stores nothing (R589). -/
def Obligations.LaneMemory : Prop :=
  (∀ (s : State) (p : LaneAt) (o : MemSlot) (q : SpillSlot) (ecc : Ecc), Slotting s p → p.eob = false →
    (let n := p.site
     let m := p.lane
     (let i := slotReg o.y o.ar.toNat
      let w := s.onLane n m (fun x => x.useAddr i o.md.toNat)
      let x := w.lane n m
      let u := w.flushStores n m x.tM
      let v := u.rdXY n o.y (nget 0 x.a i)
      u.eccOf (xyAddr n o.y (nget 0 x.a i)) ecc = .ok →
      (∃ t, exec (.ldW p o ecc) s = .next t ∧ SetsReg (s.lane n m) (t.lane n m) o.reg v ∧
        KeepsLane (s.lane n m) (t.lane n m) false false true ∧
        (if o.y then (t.lane n m).yd = v else (t.lane n m).xd = v) ∧
        nget 0 (t.lane n m).a i = (if o.md = 0 then nget 0 x.a i else
          postModify (nget 0 x.a i) (nget 0 x.b i) (nget 0 x.l i) (x.step o.md.toNat i))) ∧
      (∃ t, exec (.tapW p o ecc) s = .next t ∧ SetsReg (s.lane n m) (t.lane n m) o.reg v ∧
        ((s.lane n m).shadow = none → ∃ st, (t.lane n m).stores = (u.lane n m).stores ++ [st] ∧ st.y = o.y ∧
          st.addr = postModify (nget 0 x.a i) (nget 0 x.b i) (nget 0 x.l i) 1 ∧ st.data = v))) ∧
     (let i := slotReg q.y q.ar.toNat
      let w := s.onLane n m (fun x => x.useAddr i q.md.toNat)
      let x := w.lane n m
      let u := w.flushStores n m x.tM
      let v := u.rdXY n q.y (nget 0 x.a i)
      q.w ≠ 3 → u.eccOf (xyAddr n q.y (nget 0 x.a i)) ecc = .ok →
      ∃ t, exec (.lacc p q ecc) s = .next t ∧ KeepsLane (s.lane n m) (t.lane n m) true false true ∧
        (let g := nget 0 (s.lane n m).stag q.k.toNat
         (q.w = 0 → nget 0 (t.lane n m).stag q.k.toNat = g / 2 ^ 32 * 2 ^ 32 + v.toNat) ∧
         (q.w = 1 → nget 0 (t.lane n m).stag q.k.toNat = g % 2 ^ 32 + v.toNat * 2 ^ 32) ∧
         (q.w = 2 → (nget {} (t.lane n m).fills q.k.toNat).val = BitVec.ofNat 80 (g % 2 ^ 64 + v.toNat % 2 ^ 16 * 2 ^ 64) ∧
           (nget {} (t.lane n m).fills q.k.toNat).cl = v.getLsbD 16))))) ∧
  (∀ (s : State) (p : LaneAt) (o : MemSlot) (q : SpillSlot), Slotting s p → p.eob = false →
    (s.lane p.site p.lane).shadow = none →
    (let x := s.lane p.site p.lane
     (∃ t st, exec (.stW p o) s = .next t ∧ (t.lane p.site p.lane).stores = x.stores ++ [st] ∧ st.y = o.y ∧
       st.addr = nget 0 x.a (slotReg o.y o.ar.toNat) % 32768 ∧ st.data = x.dreg o.reg.toNat ∧
       KeepsLane x (t.lane p.site p.lane) true false true) ∧
     (q.w ≠ 3 → ∃ t st, exec (.sacc p q false) s = .next t ∧ (t.lane p.site p.lane).stores = x.stores ++ [st] ∧ st.y = q.y ∧
       st.addr = nget 0 x.a (slotReg q.y q.ar.toNat) % 32768 ∧
       st.data = (let a := x.accOf q.k.toNat
         if q.w = 0 then a.val.setWidth 32 else if q.w = 1 then (a.val >>> 32).setWidth 32
         else (a.val >>> 64).setWidth 32 ||| (if a.cl then 0x10000 else 0)) ∧
       KeepsLane x (t.lane p.site p.lane) true false true ∧
       exec (.sacc p q true) s = .next (t.residueError p.site p.lane false))))

/-- Branches and jumps (R235, R236, R239): taken when their condition holds, to PC + 1 + OFF or to the target, ending the loops they leave;
otherwise the next bundle follows. The registers are unchanged. LOOP_RETURN takes the innermost loop to its next iteration, rotating the
window when ROT is set, or leaves it when its count is spent (R237, R238, R241); RES_INJ, keyed with 0xC3 or by EXEC, arms the residue error
of the next accumulate (R214). -/
def Obligations.LaneBranches : Prop :=
  (∀ (s : State) (p : LaneAt) (off : BitVec 8) (target : BitVec 13), Slotting s p → p.eob = false →
    (s.lane p.site p.lane).target = none →
    (let x := s.lane p.site p.lane
     let f := s.flag fCLUn_LARITHm_AOV p.site p.lane || s.flag fCLUn_LARITHm_ASAT p.site p.lane ||
       s.flag fCLUn_LARITHm_RSAT p.site p.lane
     let dst := (x.pc : Int) + 1 + off.toInt
     (∀ e ∈ [(Instr.bra p off, true), (.beq p off, x.z), (.bne p off, !x.z), (.blt p off, x.n), (.bge p off, !x.n), (.bfl p off, f)],
       0 ≤ dst → dst < 8192 → ∃ t, exec e.1 s = .next t ∧
         (t.lane p.site p.lane).target = (if e.2 then some dst.toNat else none) ∧
         (t.lane p.site p.lane).loops = (if e.2 then leaveLoops dst.toNat x.loops else x.loops) ∧
         (t.lane p.site p.lane).d = x.d ∧ (t.lane p.site p.lane).pc = x.pc) ∧
     (∃ t, exec (.jmp p target) s = .next t ∧ (t.lane p.site p.lane).target = some target.toNat ∧
       (t.lane p.site p.lane).loops = leaveLoops target.toNat x.loops ∧ (t.lane p.site p.lane).d = x.d))) ∧
  (∀ (s : State) (site lane : Nat) (l : LoopLvl) (r : List LoopLvl),
    (s.live = true → (s.lane site lane).task.isSome = true → (s.lane site lane).ended = false →
      (s.lane site lane).loops = l :: r → (s.lane site lane).pc = l.last + 1 →
      ∃ t, exec (.loopReturn site lane) s = .next t ∧
        (let x := s.lane site lane
         let y := t.lane site lane
         y.d = x.d ∧ (if 1 < l.remaining then y.pc = l.first ∧ y.loops = { l with remaining := l.remaining - 1 } :: r ∧
             y.rrb = (if l.rot then (x.rrb + 1) % 32 else x.rrb)
           else y.pc = x.pc ∧ y.loops = r ∧ y.rrb = x.rrb))) ∧
    (∀ src : ReqSrc, (src = .reg 0xC3 ∨ src = .exec) → s.live = true → site < 36 → lane ≤ 8 →
      ∃ t, exec (.resInj src site lane) s = .next t ∧ t.pump = { s.pump with inj := nset false s.pump.inj (laneKey site lane) true } ∧
        t.regs = s.regs ∧ t.mem = s.mem))

/-- CMP sets Z and N and writes no register; SETA and GETA move a word between a data register and an address-side register; ANOP and MNOP
do nothing (R222, R227, R229). The control slot (R229, R235 to R241, R248): ROTW turns the window, END ends the task with its bundle, LDI
and SETAG write a register, LOOP and LOOPR start a loop or skip its body on a count of zero. -/
def Obligations.LaneControl : Prop :=
  (∀ (s : State) (p : LaneAt) (o : Alu), Slotting s p →
    (let x := s.lane p.site p.lane
     (aluOk o .binary = true → CondHolds o x → ∃ t, exec (.cmpR p o) s = .next t ∧
        (t.lane p.site p.lane).z = decide ((aluOperands o .binary x).1 = (aluOperands o .binary x).2) ∧
        (t.lane p.site p.lane).n = (aluOperands o .binary x).1.slt (aluOperands o .binary x).2 ∧
        KeepsLane x (t.lane p.site p.lane) true true false) ∧
     (aluOk o .unary = true → o.ext = false → asNameOk o.rd = true → CondHolds o x → ∃ t, exec (.seta p o) s = .next t ∧
        (let y := t.lane p.site p.lane
         let v := (x.dreg o.ra.toNat).toNat
         let i := asIdx o.rd
         nget 0 y.a i = (if asKind o.rd = 0 then v % 2 ^ 15 else nget 0 x.a i) ∧
         nget 0 y.b i = (if asKind o.rd = 1 then v % 2 ^ 15 else nget 0 x.b i) ∧
         nget 0 y.l i = (if asKind o.rd = 2 then min (v % 2 ^ 16) 32768 else nget 0 x.l i) ∧
         nget 1 y.m i = (if asKind o.rd = 3 then sx 16 v else nget 1 x.m i) ∧
         KeepsLane x y true false true)) ∧
     (aluOk o .unary = true → o.ext = false → asNameOk o.ra = true → CondHolds o x → ∃ t, exec (.geta p o) s = .next t ∧
        (let y := t.lane p.site p.lane
         let i := asIdx o.ra
         SetsReg x y o.rd (match asKind o.ra with
           | 0 => BitVec.ofNat 32 (nget 0 x.a i) | 1 => BitVec.ofNat 32 (nget 0 x.b i) | 2 => BitVec.ofNat 32 (nget 0 x.l i)
           | _ => BitVec.ofInt 32 (nget 1 x.m i)) ∧ KeepsLane x y false true true)) ∧
     (∃ t, exec (.anop p) s = .next t ∧ KeepsLane x (t.lane p.site p.lane) true true true) ∧
     (∃ t, exec (.mnop p) s = .next t ∧ KeepsLane x (t.lane p.site p.lane) true true true))) ∧
  (∀ (s : State) (p : LaneAt) (rd name rs : BitVec 6) (imm : BitVec 32) (count : BitVec 16) (len : BitVec 8) (rot : Bool),
    Slotting s p → p.eob = false →
    (let x := s.lane p.site p.lane
     let last := x.pc + len.toNat + 1
     (∃ t, exec (.rotw p) s = .next t ∧ (t.lane p.site p.lane).rrb = (x.rrb + 1) % 32 ∧ (t.lane p.site p.lane).d = x.d) ∧
     (∃ t, exec (.endTask p) s = .next t ∧ (t.lane p.site p.lane).ending = true ∧
       KeepsLane x (t.lane p.site p.lane) true true true) ∧
     (∃ t, exec (.ldi p rd imm) s = .next t ∧ SetsReg x (t.lane p.site p.lane) rd imm ∧
       KeepsLane x (t.lane p.site p.lane) false true true) ∧
     (asNameOk name = true → ∃ t, exec (.setag p name imm) s = .next t ∧ KeepsLane x (t.lane p.site p.lane) true false true ∧
       (asKind name = 0 → nget 0 (t.lane p.site p.lane).a (asIdx name) = imm.toNat % 2 ^ 15) ∧
       (asKind name = 3 → nget 1 (t.lane p.site p.lane).m (asIdx name) = sx 16 imm.toNat)) ∧
     (x.loops.length < 2 → (∀ l ∈ x.loops, last ≤ l.last) → last ≤ 8191 →
       ∀ e ∈ [(Instr.loopI p count len rot, count.toNat), (.loopr p rs len rot, (x.dreg rs.toNat).toNat % 2 ^ 16)],
         ∃ t, exec e.1 s = .next t ∧ (t.lane p.site p.lane).d = x.d ∧
           (if e.2 = 0 then (t.lane p.site p.lane).target = some (last + 1) ∧ (t.lane p.site p.lane).loops = x.loops
            else (t.lane p.site p.lane).loops = { first := x.pc + 1, last := last, remaining := e.2, rot := rot } :: x.loops ∧
              (t.lane p.site p.lane).rrb = if rot then (x.rrb + 1) % 32 else x.rrb))))

/-- The last slot of a bundle (R242, R244, R249): whatever the slot does, with the mark it also ends the bundle, and without it does not;
operands that no valid bundle holds do nothing either way (R221; log entry 5). A bundle's end shows its address in LSTAT, commits its fills,
and moves PC to a taken target or to the next bundle; after END no bundle follows. -/
def Obligations.BundleEnds : Prop :=
  (∀ (s : State) (i j k : Instr) (p : LaneAt), withEob false i = some (p, j) → withEob true i = some (p, k) → Slotting s p →
    (exec j s = .next s ∧ exec k s = .next s) ∨
    ∃ u, exec j s = .next u ∧ exec k s = .next (u.endSlot p.site p.lane true)) ∧
  (∀ (s : State) (p : LaneAt), Slotting s p → p.eob = true → ∃ t, exec (.mnop p) s = .next t ∧
    (let x := s.lane p.site p.lane
     let y := t.lane p.site p.lane
     t.fld fCLUn_LSTATm_PC p.site p.lane = x.pc ∧ y.fills = [] ∧ y.d = x.d ∧
     (∀ k, y.accOf k = nget {} (x.fills.foldl (fun a f => nset {} a f.1 f.2) x.acc) k) ∧
     (if x.ending then y.ended = true ∧ y.loops = [] else y.pc = x.target.getD (x.pc + 1) ∧ y.target = none)))

/-- A task becomes ready (R260, R262, R281): READY for the block in force and in its queue; with QUIESCE it is skipped, done for the block.
Then arbitration puts the first task that a free lane may run on that lane (R264 to R267): RUNNING, the lane at its entry with clean
registers, entering F twelve cycles later. -/
def Obligations.TaskStarts : Prop :=
  (∀ (s : State) (n t : Nat), s.pumpRuns n = true → t < 512 → s.tim.blkIdx.isSome = true → s.readyNow n t s.blkIndex = true →
    ∃ u, exec (.taskReady n t) s = .next u ∧
      (s.flag fTASK_QUIESCE n t = false → u.tState n t = 3 ∧ (u.rt n t).blk = s.blkIndex ∧ u.mem = s.mem) ∧
      (s.flag fTASK_QUIESCE n t = true → (u.rt n t).done = some s.blkIndex)) ∧
  (∀ (s : State) (n t m : Nat) (ecc : Ecc), s.pumpRuns n = true → s.pickTask n = some (t, m) →
    s.eccOf (progAddr n (s.fld fTASK_ENTRY n t)) ecc = .ok →
    ∃ u, exec (.taskDispatch n ecc) s = .next u ∧ u.tState n t = 4 ∧ (u.rt n t).lane = m ∧
      (u.lane n m).task = some t ∧ (u.lane n m).pc = s.fld fTASK_ENTRY n t ∧ (u.lane n m).start = s.tim.cnt + 12 ∧
      (u.lane n m).d = [] ∧ (u.lane n m).acc = [] ∧ (u.lane n m).loops = [] ∧
      u.fld fCLUn_LARITHm_AOV n m = 0 ∧ u.fld fCLUn_LARITHm_ASAT n m = 0 ∧ u.fld fCLUn_LARITHm_RSAT n m = 0 ∧ u.mem = s.mem)

/-- A task completes (R262, R263, R268, R269): done for its block with its run recorded, and ARMED again, or CANCELLED when a CANCEL waited,
unless its entries do not fit the post queue: then it is HELD until they do. RETAIN copies end (R279). At its deadline a task that has not
run misses with reason WAIT, CREDIT or RUN and is ARMED again, and a CANCELLED or FAULTED one stands in (R275, R277); a retry restores the
task and runs it on another lane or queues it first (R280). -/
def Obligations.TaskEnds : Prop :=
  ((∀ (s : State) (n t : Nat), s.live = true → s.tState n t = 4 → (s.lane n (s.rt n t).lane).ended = true →
    (s.lane n (s.rt n t).lane).task = some t →
    ∃ u, exec (.taskComplete n t) s = .next u ∧ (u.rt n t).done = some (s.rt n t).blk ∧ (u.rt n t).good = true ∧
      ((u.tState n t = (if (s.rt n t).cancel then 6 else 2) ∧ (u.rt n t).held = [] ∧ u.lane n (s.rt n t).lane = {}) ∨
       (u.tState n t = 5 ∧ (u.rt n t).held ≠ []))) ∧
  (∀ (s : State) (n t : Nat), s.live = true → s.tState n t = 5 → (s.rt n t).held.length + (s.pumpSt n).postq.length ≤ 64 →
    ∃ u, exec (.heldRelease n t) s = .next u ∧ u.tState n t = (if (s.rt n t).cancel then 6 else 2) ∧ (u.rt n t).held = [] ∧
      (u.pumpSt n).postq = (s.pumpSt n).postq ++ (s.rt n t).held ∧ u.mem = s.mem) ∧
  (∀ (s : State) (n t : Nat), s.live = true → (s.rt n t).copying = true →
    ∃ u, exec (.retainCopyEnd n t) s = .next u ∧ (u.rt n t).copying = false ∧ u.regs = s.regs)) ∧
  ((∀ (s : State) (n t : Nat), s.live = true → n < 36 → s.tim.blkIdx.isSome = true → (s.rt n t).done ≠ some s.blkIndex →
    ∃ u, exec (.taskDeadline n t) s = .next u ∧
      (s.tState n t = 2 ∨ s.tState n t = 3 → (u.rt n t).done = some s.blkIndex ∧ (u.rt n t).good = false ∧ u.tState n t = 2 ∧
        u.fld fSTAT_LAST_REASON n t = (if s.tState n t = 3 then 2
          else if s.fld fTASK_FLAGS n t &&& s.fld fTASK_MASK n t ≠ s.fld fTASK_MASK n t then 0
          else if (s.bufsOf refOut n t).all (fun b => s.outCredit n b s.blkIndex) then 2 else 1)) ∧
      (s.tState n t = 6 ∨ s.tState n t = 7 → (u.rt n t).done = some s.blkIndex)) ∧
  (∀ (s : State) (n t : Nat), s.pumpRuns n = true → s.tState n t = 4 → (s.rt n t).retry.isSome = true →
    ∃ u, exec (.taskRetry n t) s = .next u ∧ ((u.tState n t = 4 ∧ (u.rt n t).retry = none) ∨ u.tState n t = 3)))

/-- Transfers and credits (R268 to R271, R407): the first waiting fetch or write-back lands and leaves its queue, the first post entry
leaves the post queue, a write-back becoming a transfer, and a credit return lowers PEND of its slot. -/
def Obligations.PumpTransfers : Prop :=
  (∀ (s : State) (n : Nat) (q : XferReq) (rest : List XferReq), s.live = true → (s.pumpSt n).xfers = q :: rest → q.writeBack = false →
    (∀ i, i < s.fld fBUF_LEN n q.buf →
      nget false s.memu.bad (eccWord (cisAddr (s.cisSlot n q.buf (s.outSlot n q.buf q.blk) + 4 * i))) = false) →
    ∃ u l, exec (.fetchComplete n .ok) s = .next u ∧ (u.pumpSt n).xfers = rest ++ l) ∧
  (∀ (s : State) (n : Nat) (q : XferReq) (rest : List XferReq) (c : List SrcBlock), s.live = true →
    (s.pumpSt n).xfers = q :: rest → q.writeBack = true →
    ∃ u l, exec (.writeBackComplete n c) s = .next u ∧ (u.pumpSt n).xfers = rest ++ l) ∧
  (∀ (s : State) (n : Nat) (p : PostItem) (rest : List PostItem) (c : List SrcBlock), s.live = true → n < 36 →
    (s.pumpSt n).postq = p :: rest →
    ∃ u, exec (.postDeliver n c) s = .next u ∧ (u.pumpSt n).postq = rest ∧
      (p.writeBack = true → (u.pumpSt n).xfers =
        (s.pumpSt n).xfers ++ [{ writeBack := true, buf := p.buf, blk := p.blk, slot := p.slot }])) ∧
  (∀ (s : State) (n b sl : Nat), s.live = true → s.pump.credits.contains (n, b, sl) = true →
    ∃ u, exec (.creditReturn n b sl) s = .next u ∧ u.pump = { s.pump with credits := s.pump.credits.erase (n, b, sl) } ∧
      u.fld fBUF_PEND n b = putBits (s.fld fBUF_PEND n b) (6 * sl + 5) (6 * sl) (s.pend n b sl - 1) % 2 ^ fBUF_PEND.width)

/-- The host's Pump commands on a unit that runs alone (R262, R263, R285): LOAD makes an EMPTY task IDLE with a clean record, ARM waits for
the boundary, CANCEL and UNLOAD change the state, FLAG sets a flag bit but bit 31; one that does not apply sets CMD_ERR. A timer sets its
flag (R259). -/
def Obligations.PumpCommands : Prop :=
  (∀ (s : State) (n t : Nat) (b : BitVec 5), s.live = true → n < 36 → t < 512 → s.siteClocked n = true → s.paired = false →
    (∃ u, exec (.pumpLoad n t) s = .next u ∧ u.mem = s.mem ∧
      (s.tState n t = 0 → u.tState n t = 1 ∧ u.rt n t = {} ∧ u.fld fSTAT_MISSES n t = 0 ∧ u.fld fSTAT_MAX_RUN n t = 0) ∧
      (s.tState n t ≠ 0 → u.fld fPUMPn_STATUS_CMD_ERR n = 1 ∧ u.pump = s.pump)) ∧
    (∃ u, exec (.pumpArm n t) s = .next u ∧ u.mem = s.mem ∧
      ((s.tState n t = 1 ∨ s.tState n t = 6 ∨ s.tState n t = 7) → s.pump.shed.contains (taskKey n t) = false →
        u.rt n t = { s.rt n t with armDue := true } ∧ u.regs = s.regs) ∧
      (¬ (s.tState n t = 1 ∨ s.tState n t = 6 ∨ s.tState n t = 7) → u.fld fPUMPn_STATUS_CMD_ERR n = 1 ∧ u.pump = s.pump)) ∧
    (∃ u, exec (.pumpCancel n t) s = .next u ∧ u.mem = s.mem ∧
      (s.tState n t = 2 ∨ s.tState n t = 3 → u.tState n t = 6) ∧
      (s.tState n t = 4 ∨ s.tState n t = 5 → u.rt n t = { s.rt n t with cancel := true } ∧ u.regs = s.regs) ∧
      (s.tState n t < 2 ∨ 5 < s.tState n t → u.fld fPUMPn_STATUS_CMD_ERR n = 1 ∧ u.pump = s.pump)) ∧
    (∃ u, exec (.pumpUnload n t) s = .next u ∧ u.mem = s.mem ∧
      (s.tState n t = 1 ∨ s.tState n t = 6 ∨ s.tState n t = 7 → u.tState n t = 0 ∧ u.rt n t = {}) ∧
      (¬ (s.tState n t = 1 ∨ s.tState n t = 6 ∨ s.tState n t = 7) → u.fld fPUMPn_STATUS_CMD_ERR n = 1 ∧ u.pump = s.pump)) ∧
    (∃ u, exec (.pumpFlag n t b) s = .next u ∧ u.mem = s.mem ∧ u.pump = s.pump ∧
      (b ≠ 31 → bit (u.fld fTASK_FLAGS n t) b.toNat = true ∧
        ∀ k, k < 32 → k ≠ b.toNat → bit (u.fld fTASK_FLAGS n t) k = bit (s.fld fTASK_FLAGS n t) k) ∧
      (b = 31 → u.fld fPUMPn_STATUS_CMD_ERR n = 1 ∧ u.fld fTASK_FLAGS n t = s.fld fTASK_FLAGS n t))) ∧
  (∀ (s : State) (n k : Nat), s.pumpRuns n = true → k < 4 → s.flag fPUMPn_TIMERk_EN n k = true → s.fld fPUMPn_TIMERk_BIT n k ≤ 29 →
    ∃ u, exec (.pumpTimer n k) s = .next u ∧ u.mem = s.mem ∧ u.pump = s.pump ∧
      bit (u.fld fTASK_FLAGS n (s.fld fPUMPn_TIMERk_SLOT n k)) (s.fld fPUMPn_TIMERk_BIT n k) = true)

/-- CISTERN_BIT_SET and CISTERN_BIT_CLEAR (R389, R391): where the master reaches the bank and the word reads correctable, bits that are 1 in
the enabled bytes of the data are set or cleared in one access; no other byte of memory and nothing of the Pump changes. On an uncorrectable
word no byte changes and the master gets cause 8 (R423); with the bank's fabric write port closed, cause 7. -/
def Obligations.CisternBits : Prop :=
  ∀ (s : State) (master off : Nat) (lanes : BitVec 8) (data : BitVec 64) (w : Bool) (ecc : Ecc),
    s.live = true → off < 0x2000000 → s.mayCistern master = true →
    (let k := off / 0x80000
     let base := 0x40000000 + off / 8 * 8
     let open' := s.viaOwner master k || (s.flag fCIS_BANKk_CTRL_FAB_WR k && !w)
     let old (i : Nat) : Byte := memGet s.mem (base + i)
     let byte (i : Nat) : Byte := (data >>> (8 * i)).setWidth 8
     ∀ e ∈ [(Instr.cisternBitSet master off lanes data w ecc, fun i => old i ||| byte i),
            (Instr.cisternBitClear master off lanes data w ecc, fun i => old i &&& ~~~byte i)],
       (open' = true → s.eccOf base ecc ≠ .uncorrectable → ∃ t, exec e.1 s = .next t ∧ t.pump = s.pump ∧
         (∀ i, i < 8 → memGet t.mem (base + i) = if lanes.getLsbD i then e.2 i else old i) ∧
         (∀ a, a < base ∨ base + 8 ≤ a → memGet t.mem a = memGet s.mem a)) ∧
       (open' = true → s.eccOf base ecc = .uncorrectable → ∃ t, exec e.1 s = .next t ∧ t.mem = s.mem ∧
         (s.flag fFAB_ERR_LOG_VALID = false → t.fld fFAB_ERR_LOG_VALID = 1 ∧ t.fld fFAB_ERR_LOG_CAUSE = 8 ∧
           t.fld fFAB_ERR_LOG_ADDR = 0x40000000 + off)) ∧
       (s.viaOwner master k = false → s.flag fCIS_BANKk_CTRL_FAB_WR k = false → ∃ t, exec e.1 s = .next t ∧ t.mem = s.mem ∧
         (s.flag fFAB_ERR_LOG_VALID = false → t.fld fFAB_ERR_LOG_VALID = 1 ∧ t.fld fFAB_ERR_LOG_CAUSE = 7)))

/-- A bank's ownership and retention (R393 to R395, R400, R401): a request that R395 does not refuse stores NEW_OWNER and waits as PENDING;
a refused one sets HO_ERR and changes no other field of the bank. With the owner port empty OWNER takes NEW_OWNER. A bank in RET mode enters
retention, and wakes for an access, counted in WAKES. Memory keeps its bytes throughout. -/
def Obligations.BankOwnership : Prop :=
  ∀ (s : State) (k : Nat), s.live = true → k < 64 →
    (∀ (master new : Nat), new < 64 →
      (let ok := s.bankWriter master k && ownerCodeOk new && !(decide (new < 36) && !s.siteClocked new) && !s.flag fCIS_BANKk_CTRL_PENDING k
       ∃ t, exec (.bankHandoverReq master k new) s = .next t ∧ t.mem = s.mem ∧
        (ok = true → new ≠ s.fld fCIS_BANKk_CTRL_OWNER k → t.fld fCIS_BANKk_CTRL_NEW_OWNER k = new ∧
          t.fld fCIS_BANKk_CTRL_PENDING k = 1 ∧ t.fld fCIS_BANKk_CTRL_OWNER k = s.fld fCIS_BANKk_CTRL_OWNER k ∧
          t.memu.handovers = s.memu.handovers ++ [{ bank := k, newOwner := new, at' := s.tim.cnt }]) ∧
        (ok = false → t.fld fCIS_BANKk_CTRL_HO_ERR k = 1 ∧ t.memu = s.memu ∧
          ∀ f ∈ [fCIS_BANKk_CTRL_OWNER, fCIS_BANKk_CTRL_NEW_OWNER, fCIS_BANKk_CTRL_PENDING], t.fld f k = s.fld f k))) ∧
    (s.flag fCIS_BANKk_CTRL_PENDING k = true → ∃ t, exec (.bankHandover k) s = .next t ∧ t.mem = s.mem ∧
      t.fld fCIS_BANKk_CTRL_OWNER k = s.fld fCIS_BANKk_CTRL_NEW_OWNER k % 64 ∧ t.fld fCIS_BANKk_CTRL_PENDING k = 0 ∧
      (∀ h ∈ t.memu.handovers, h.bank ≠ k)) ∧
    (s.flag fCIS_BANKk_CTRL_RET k = true → ∃ t, exec (.bankRetentionEnter k) s = .next t ∧ t.mem = s.mem ∧
      t.fld fCIS_BANKk_CTRL_RETAINED k = 1 ∧ t.memu = s.memu) ∧
    (s.flag fCIS_BANKk_CTRL_RETAINED k = true → ∃ t, exec (.bankWake k) s = .next t ∧ t.mem = s.mem ∧
      t.fld fCIS_BANKk_CTRL_RETAINED k = 0 ∧
      t.fld fCIS_BANKk_ERR_WAKES k = min (s.fld fCIS_BANKk_ERR_WAKES k + 1) 31)

/-- Repair of memory (R381, R382, R397, R398): a scheduled write-back is done; a program line that reads as uncorrectable takes the image's
sixteen bundles while the Deep Cistern is ready; a retiring row is copied to a free spare row of its segment, with bad check bits when it
was uncorrectable; a bank copy becomes ready for the next boundary. -/
def Obligations.MemoryRepair : Prop :=
  ∀ (s : State), s.live = true →
    (∀ a, s.memu.writeBack.contains (eccWord a) = true → ∃ t, exec (.eccWriteBack a) s = .next t ∧ t.mem = s.mem ∧
      t.memu = { s.memu with writeBack := s.memu.writeBack.erase (eccWord a) } ∧ t.regs = s.regs) ∧
    (∀ site line, site < 36 → line < 512 → s.fld fDCIS_STATUS_STATE = 2 →
      (∃ i, i < 16 ∧ nget false s.memu.bad (progAddr site (16 * line + i)) = true) →
      ∃ t, exec (.programLineRestore site line .ok) s = .next t ∧ t.regs = s.regs ∧
        (∀ i, i < 16 → t.rdMem (progAddr site (16 * line + i)) 8 =
          nget 0 s.pump.image (8192 * site + 16 * line + i) % 2 ^ 64) ∧
        (∀ a, a < progAddr site (16 * line) ∨ progAddr site (16 * line) + 128 ≤ a → memGet t.mem a = memGet s.mem a)) ∧
    (∀ b row sp k, b < 68 → row < 65536 → s.hlth.due.any (fun r => r.kind = 3 && r.site = b * 66560 + row) = true →
      s.hlth.rowCopied.any (fun e => e.1 = b * 66560 + row) = false → s.freeRow b (row / 512) = some sp → s.bankOf b = some k →
      (∃ t, exec (.spareRowCopy b row .ok) s = .next t ∧ t.hlth.rowCopied = s.hlth.rowCopied ++ [(b * 66560 + row, sp)] ∧
        t.mem = s.mem ∧ t.memu = s.memu) ∧
      (∃ t, exec (.spareRowCopy b row .uncorrectable) s = .next t ∧
        t.hlth.rowCopied = s.hlth.rowCopied ++ [(b * 66560 + row, sp)] ∧ t.mem = s.mem ∧
        nget false t.memu.bad (cisAddr (k * 0x80000 + 8 * row)) = true)) ∧
    (∀ k, k < 64 → s.hlth.bankCopy.any (fun c => c.old = s.fld fCIS_BANKk_CTRL_PHYS k) = true →
      ∃ t, exec (.spareBankCopyEnd k) s = .next t ∧ t.mem = s.mem ∧ t.regs = s.regs ∧
        (∀ c ∈ t.hlth.bankCopy, c.old = s.fld fCIS_BANKk_CTRL_PHYS k → c.ready = true))

/-- The Deep Cistern's states (R405, R411): training ends in zeroing when every channel in use is trained, and otherwise fails; self refresh
ends in zeroing; zeroing leaves every region without KEEP zero and READY; a channel's failure gives FAILED and its flag. The moves of the
Deep Cistern streams (R407, R410, R411) while it is READY or FAILED: the oldest move of the stream is done and leaves the list. A write
stream's position advances by LEN around its ring; a failed Deep Cistern gives a read stream zero words and takes no write; an abandoned
move counts in LATE. -/
def Obligations.DeepCistern : Prop :=
  ((∀ (s : State) (ok0 ok1 : Bool), s.live = true → s.fld fDCIS_STATUS_STATE = 1 →
    ∃ t, exec (.dcisTrainingEnd ok0 ok1) s = .next t ∧
      (let both := decide (s.fld fDCIS_CFG_CHANNELS = 3)
       t.fld fDCIS_STATUS_STATE = (if ok0 && (ok1 || !both) then 4 else 5) ∧
       (ok0 = false → t.fld fDCIS_STATUS_CH0_FAIL = 1) ∧ (both = true → ok1 = false → t.fld fDCIS_STATUS_CH1_FAIL = 1))) ∧
  (∀ s : State, s.up = true → s.fld fDCIS_STATUS_STATE = 3 →
    ∃ t, exec .dcisSelfRefreshExit s = .next t ∧ t.fld fDCIS_STATUS_STATE = 4 ∧ t.mem = s.mem) ∧
  (∀ s : State, s.up = true → s.fld fDCIS_STATUS_STATE = 4 →
    ∃ t, exec .dcisZeroingEnd s = .next t ∧ t.fld fDCIS_STATUS_STATE = 2 ∧
      (∀ a, memGet t.mem a =
        if a < 0x100000000 ∨ 0x300000000 ≤ a ∨ (∃ r, r < 8 ∧ s.flag fDCIS_REGIONr_KEEP r = true ∧
            0x100000000 + s.fld fDCIS_REGIONr_BASE r * 2 ^ 20 ≤ a ∧
            a < 0x100000000 + (s.fld fDCIS_REGIONr_BASE r + s.fld fDCIS_REGIONr_SIZE r) * 2 ^ 20)
        then memGet s.mem a else 0)) ∧
  (∀ (s : State) (ch : Nat), s.live = true → s.flag fDCIS_CFG_EN = true → s.fld fDCIS_STATUS_STATE ≠ 0 →
    (ch = 0 ∨ (ch = 1 ∧ s.fld fDCIS_CFG_CHANNELS = 3)) →
    ∃ t, exec (.dcisFailed ch) s = .next t ∧ t.fld fDCIS_STATUS_STATE = 5 ∧
      t.fld (if ch = 0 then fDCIS_STATUS_CH0_FAIL else fDCIS_STATUS_CH1_FAIL) = 1)) ∧
  (∀ (s : State) (i j : Nat), s.live = true → s.memu.moves.find? (fun e => e.1 = i) = some (i, j) → i < 1024 →
    (let next := (s.fld fDCIS_STR_POS i + s.fld fDCIS_STR_LEN i) % max 1 (s.fld fDCIS_STR_RING_LEN i)
     let slot (d : Nat) := (j + d) % s.strSlots i
     (s.flag fDCIS_STR_DIR i = false → (s.dcisState = 2 ∨ s.dcisState = 5) →
       ∃ t, exec (.dcisWriteMove i) s = .next t ∧ t.memu.moves = s.memu.moves.erase (i, j) ∧
         t.fld fDCIS_STR_POS i = next % 2 ^ fDCIS_STR_POS.width ∧ (s.dcisState = 5 → t.mem = s.mem)) ∧
     (s.flag fDCIS_STR_DIR i = true → (s.dcisState = 2 ∨ s.dcisState = 5) → ∀ badWords : List Nat,
       ∃ t, exec (.dcisReadMove i badWords) s = .next t ∧ t.memu.moves = s.memu.moves.erase (i, j) ∧
         (s.dcisState = 5 → ∀ k, k < s.strWords i →
           memNum t.mem (s.stageAddr i (slot 1) k) 4 = 0)) ∧
     (∃ t, exec (.dcisLate i) s = .next t ∧ t.memu.moves = s.memu.moves.erase (i, j) ∧
       t.fld fDCIS_STATUS_LATE = min (s.fld fDCIS_STATUS_LATE + 1) 255 ∧
       (s.flag fDCIS_STR_DIR i = false → t.fld fDCIS_STR_POS i = next % 2 ^ fDCIS_STR_POS.width ∧ t.mem = s.mem))))

/-- A request at the bus matrix (R416, R418 to R421): one that a rule refuses is answered ERROR with every beat not done and its cause
logged, and no byte of memory changes; one for a bank that its master owns is served at once and answered; any other waits in the queue of
its target behind the earlier ones. -/
def Obligations.FabricRequests : Prop :=
  ∀ (s : State) (r : FabReq) (ecc : Ecc), s.live = true → masterOk r.master = true → r.len ≤ 16 → r.tag < 8 → r.addr < 2 ^ 36 →
    s.portDown r.master = false → s.fab.queue.any (fun q => q.master = r.master && q.tag = r.tag) = false →
    (let b : FabBurst := { master := r.master, tag := r.tag, addr := r.addr, write := r.write, len := r.len, be := r.be, data := r.data
                           lock := r.lock, target := (s.decodeAddr r.addr).getD 0x7F, at' := s.tim.cnt }
     let own := decide (0x40 ≤ b.target) && s.viaOwner b.master (b.target - 0x40)
     ∃ t, exec (.fabricRequest r ecc) s = .next t ∧
       (s.requestCause b ≠ 0 → t.mem = s.mem ∧ t.fab.queue = s.fab.queue ∧
         t.fab.resp.find? (fun e => e.1 = r.master) =
           some (r.master, { master := r.master, tag := r.tag, code := 1, notDone := 2 ^ r.len - 1, data := [] }) ∧
         (s.flag fFAB_ERR_LOG_VALID = false → t.fld fFAB_ERR_LOG_CAUSE = s.requestCause b % 16 ∧ t.fld fFAB_ERR_LOG_ADDR = r.addr)) ∧
       (s.requestCause b = 0 → s.lockBreak b = false → own = false →
         t.fab.queue = s.fab.queue ++ [b] ∧ t.mem = s.mem ∧ t.regs = s.regs ∧ t.fab.resp = s.fab.resp) ∧
       (s.requestCause b = 0 → s.lockBreak b = false → own = true →
         t.fab.queue = s.fab.queue ∧ ∃ a, t.fab.resp.find? (fun e => e.1 = r.master) = some (r.master, a) ∧ a.tag = r.tag ∧ a.code ≤ 2))

/-- FABRIC_GRANT (R428 to R430, R421): the winning request leaves the queue and is answered. For one unlocked beat of working RAM whose word
reads good: a read returns the eight bytes of its range, and a write stores the enabled bytes and no other byte of memory. Locks and port
resets (R433, R435, R436): a lock whose holder sends nothing is released with LOCK_TMO, and its holder is marked; a master port's reset
drops its requests, its response and its locks, and records a burst that it cut short. -/
def Obligations.FabricGrants : Prop :=
  (∀ (s : State) (tgt : Nat) (b : FabBurst), s.live = true → s.winner tgt = some b → s.fab.locks.find? (fun e => e.1 = tgt) = none →
    b.lock = false →
    (∀ hit times ecc, ∃ t, exec (.fabricGrant tgt hit times ecc) s = .next t ∧
      (0x20000000 ≤ b.addr → t.fab.queue = s.fab.queue.erase b) ∧
      ∃ a, t.fab.resp.find? (fun e => e.1 = b.master) = some (b.master, a) ∧ a.tag = b.tag ∧ a.code ≤ 2) ∧
    (let base := b.addr / 8 * 8
     let be := b.be.getD 0 0
     let v := b.data.getD 0 0
     b.len = 1 → 0x08000000 ≤ b.addr → b.addr < 0x08100000 → s.flag fSYS_CTRL_REMAP = false → nget false s.memu.bad base = false →
     ∃ t, exec (.fabricGrant tgt none 0 .ok) s = .next t ∧
       (b.write = false → t.mem = s.mem ∧ t.fab.resp.find? (fun e => e.1 = b.master) =
         some (b.master, { master := b.master, tag := b.tag, code := 0, notDone := 0, data := [s.rdMem base 8] })) ∧
       (b.write = true → t.fab.resp.find? (fun e => e.1 = b.master) =
           some (b.master, { master := b.master, tag := b.tag, code := 0, notDone := 0, data := [] }) ∧
         (∀ i, i < 8 → memGet t.mem (base + i) = if be.testBit i then BitVec.ofNat 8 (v / 2 ^ (8 * i)) else memGet s.mem (base + i)) ∧
         (∀ a, a < base ∨ base + 8 ≤ a → memGet t.mem a = memGet s.mem a)))) ∧
  ((∀ (s : State) (tgt : Nat) (l : FabLock), s.live = true → s.fab.locks.find? (fun e => e.1 = tgt) = some (tgt, l) →
    s.fab.queue.any (fun b => b.target = tgt && b.master = l.master) = false →
    ∃ t, exec (.lockTimeout tgt) s = .next t ∧ t.fld fFAB_TGTt_CTRL_LOCKED tgt = 0 ∧ t.fld fFAB_TGTt_CTRL_LOCK_MASTER tgt = 0 ∧
      t.fld fFAB_TGTt_CTRL_LOCK_TMO tgt = 1 ∧ t.fab.dead = s.fab.dead ++ [l.master] ∧ (∀ e ∈ t.fab.locks, e.1 ≠ tgt) ∧ t.mem = s.mem) ∧
  (∀ (s : State) (m : Nat) (run : Option Nat) (n : Nat), s.live = true → (m = 0x3B ∨ m = 0x3C ∨ (m = 0x38 ∧ s.portDown m = true) ∨
      (m < 36 ∧ s.portDown m = true)) →
    ∃ t, exec (.masterPortReset m run n) s = .next t ∧ t.fab.resp.find? (fun e => e.1 = m) = none ∧ (∀ e ∈ t.fab.locks, e.2.master ≠ m) ∧
      (run = none → t.fab.queue = s.fab.queue.filter (fun b => b.master != m) ∧ t.mem = s.mem ∧ t.pump = s.pump) ∧
      (∀ k b, run = some k → s.fab.queue.find? (fun b => b.master = m && b.target = k) = some b →
        t.fld fFAB_TGTt_CTRL_ABORTED k = 1 ∧ t.fld fFAB_TGTt_CTRL_ABORT_MASTER k = m ∧
        t.fld fFAB_TGTt_CTRL_ABORT_BEATS k = min n b.len % 32)))

/-- REGISTER_WRITE (R10 to R12, R418, R423, R680): the control processor's write of an unpaired unit's register at its address stores RW and
RWS fields, leaves RO and WO fields, and clears the W1C bits written 1; no other register, memory or task changes. A master that R418 keeps
from register space gets ERROR of cause 4 and nothing is written. -/
def Obligations.RegisterWrites : Prop :=
  (∀ (s : State) (a : Nat) (v : BitVec 64) (r : Reg) (i j : Nat), s.live = true → s.paired = false → s.decodeAddr a = some 2 →
    s.spaceCause 0x3A a = 0 → hiddenRegs a = false → regAt a = some (r, i, j, 0) → r ∈ plainRegs →
    ∃ t, exec (.registerWrite 0x3A a v) s = .next t ∧ t.mem = s.mem ∧ t.pump = s.pump ∧
      (∀ f ∈ r.layout, t.fld f i j = (match f.acc with
        | .ro | .wo => s.fld f i j
        | .rw | .rws => f.of v.toNat
        | .w1c => s.fld f i j ^^^ (s.fld f i j &&& f.of v.toNat)) % 2 ^ f.width) ∧
      (∀ (g : Fd) (x y : Nat), (∀ f ∈ r.layout, g.id ≠ f.id) → t.fld g x y = s.fld g x y)) ∧
  (∀ (s : State) (m a : Nat) (v : BitVec 64), s.live = true → masterOk m = true → s.mayRegs m = false →
    ∃ t, exec (.registerWrite m a v) s = .next t ∧ t.mem = s.mem ∧ t.pump = s.pump ∧
      (s.flag fFAB_ERR_LOG_VALID = false → t.fld fFAB_ERR_LOG_VALID = 1 ∧ t.fld fFAB_ERR_LOG_CAUSE = 4) ∧
      (∀ (g : Fd) (x y : Nat), g.blk ≠ fFAB_ERR_LOG_VALID.blk → g.blk ≠ fEVT_CTRL_LOST.blk → t.fld g x y = s.fld g x y))

/-- REMAP_SET and TASK_DESCRIPTOR_WRITE (R252, R438, R439): the keyed write of the control processor sets REMAP, one without the key does
nothing, another master's is refused; a descriptor word of an EMPTY or IDLE task takes its fields, STATE and FLAGS excepted, and a running
task's is refused with cause 7. -/
def Obligations.RemapAndDescriptors : Prop :=
  (∀ (s : State) (m key : Nat), s.live = true → masterOk m = true →
    ∃ t, exec (.remapSet m key) s = .next t ∧ t.mem = s.mem ∧
      (m = 0x3A → key = 0x96 → t.fld fSYS_CTRL_REMAP = 1) ∧ (m = 0x3A → key ≠ 0x96 → t = s) ∧
      (m ≠ 0x3A → t.fld fSYS_CTRL_REMAP = s.fld fSYS_CTRL_REMAP ∧ (s.flag fFAB_ERR_LOG_VALID = false → t.fld fFAB_ERR_LOG_CAUSE = 4))) ∧
  (∀ (s : State) (n k w : Nat) (v : BitVec 64), s.live = true → n < 36 → k < 512 → w < 4 → bit s.sys.cluReset n = false →
    s.siteClocked n = true →
    ∃ t, exec (.taskDescriptorWrite 0x3A n k w v) s = .next t ∧ t.mem = s.mem ∧ t.fld fTASK_STATE n k = s.fld fTASK_STATE n k ∧
      t.fld fTASK_FLAGS n k = s.fld fTASK_FLAGS n k ∧
      (s.fld fTASK_STATE n k ≤ 1 → (w = 0 → t.fld fTASK_ENTRY n k = v.toNat / 2 ^ 51 ∧ t.fld fTASK_DEADLINE n k = v.toNat % 2 ^ 24 ∧
          t.fld fTASK_QUIESCE n k = v.toNat / 2 ^ 31 % 2) ∧ (w = 1 → t.fld fTASK_MASK n k = v.toNat % 2 ^ 32) ∧
        (w = 2 → t.fld fTASK_REF0 n k = v.toNat % 2 ^ 16 &&& 0xF7FF) ∧ (w = 3 → t.fld fTASK_REF4 n k = v.toNat % 2 ^ 16 &&& 0xF7FF)) ∧
      (1 < s.fld fTASK_STATE n k → (s.flag fFAB_ERR_LOG_VALID = false → t.fld fFAB_ERR_LOG_CAUSE = 7) ∧
        ∀ f ∈ [fTASK_ENTRY, fTASK_DEADLINE, fTASK_MASK, fTASK_REF0, fTASK_REF4], t.fld f n k = s.fld f n k))

/-- Power-on Reset (R47, R48, R54, R62): PWR_GOOD low in every state; RESET_N low for at least 1 µs and a brown-out of more than 1 µs
outside Deep Standby; a RESET_N pulse of at most 500 ns does nothing; the wake input in Deep Standby; loss of VSTBY also clears the scratch
words and every other cause. -/
def Obligations.PowerOnResets : Prop :=
  (∀ s : State, ∃ t, exec .pwrGoodLow s = .next t ∧ PoweredOn s t fSYS_RESET_CAUSE_POR_PWR_GOOD ∧ t.sys.pwrGood = false) ∧
  (∀ (s : State) (ns : Nat), s.sys.phase ≠ .deepStandby →
    (1000 ≤ ns → ∃ t, exec (.resetNLow ns) s = .next t ∧ PoweredOn s t fSYS_RESET_CAUSE_POR_RESET_N ∧ t.sys.resetN = false) ∧
    (ns ≤ 500 → exec (.resetNLow ns) s = .next s) ∧
    (1000 < ns → ∃ t, exec (.brownOut ns) s = .next t ∧ PoweredOn s t fSYS_RESET_CAUSE_POR_BROWNOUT ∧ t.sys.brownOut = true)) ∧
  (∀ s : State, s.sys.phase = .deepStandby → s.sys.vstby = true →
    ∃ t, exec .wake s = .next t ∧ PoweredOn s t fSYS_RESET_CAUSE_POR_WAKE) ∧
  (∀ s : State, ∃ t, exec .vstbyLow s = .next t ∧ t.sys.phase = .por ∧ t.sys.vstby = false ∧ (∀ a, memGet t.mem a = 0) ∧
    t.fld fSYS_RESET_CAUSE_POR_STANDBY = 1 ∧
    ∀ (f : Fd) (i j : Nat), f.id ≠ fSYS_RESET_CAUSE_POR_STANDBY.id → t.fld f i j = f.resetAt i)

/-- Release (R64, R65 step 1): from Power-on Reset, once PWR_GOOD, RESET_N and VSTBY are high and no brown-out lasts, the straps are
latched, the safe sequencer takes step 1, and TDM0, the Wellhead channels and the rate family take what the straps say; while one level
still forbids it, the reset stays held. -/
def Obligations.Release : Prop :=
  ∀ (s : State) (straps : BitVec 12) (rank : Bool), s.sys.phase = .por →
    ∀ e ∈ [(Instr.release straps rank, s.sys.vstby && !s.sys.brownOut),
           (.brownOutEnd straps rank, s.sys.pwrGood && s.sys.resetN && s.sys.vstby),
           (.vstbyRise straps rank, s.sys.pwrGood && s.sys.resetN && !s.sys.brownOut)],
      ∃ t, exec e.1 s = .next t ∧ t.mem = s.mem ∧ t.flash = s.flash ∧
        (e.2 = false → t.sys.phase = .por ∧ t.regs = s.regs) ∧
        (e.2 = true → t.sys.phase = .up ∧ t.sys.safeStep = 1 ∧ t.sys.startupOsc = true ∧
          (∀ f ∈ [fSYS_STRAP_SAFE_GAIN, fSYS_STRAP_SAFE_DAC, fSYS_STRAP_SAFE_RANGE, fSYS_STRAP_SAFE_WIDTH, fSYS_STRAP_SAFE_ROLE,
              fSYS_STRAP_SAFE_FAM, fSYS_STRAP_SAFE_EN, fSYS_STRAP_BOOT], t.fld f = f.of straps.toNat) ∧
          t.fld fSYS_STRAP_STRAP_INVALID = (if 6 ≤ straps.toNat % 8 then 1 else 0) ∧
          t.family = straps.toNat / 16 % 2 ∧ t.fld fSIPH_STATUS_RANK = (if rank then 1 else 0) ∧
          t.fld fSIPH_STATUS_CLAIM_LINE = 1 ∧ t.fld fSYS_BOOT_STATUS_STAGE = (if 4 ≤ straps.toNat % 8 then 0 else 1) ∧
          t.fld fTDMn_CFG_WIDTH 0 = min (straps.toNat / 64 % 4) 2 ∧ t.fld fTDMn_CFG_ROLE 0 = straps.toNat / 32 % 2 ∧
          (∀ m, m < 8 → t.fld fWELLm_CFG_EN m = straps.toNat / 8 % 2 ∧ t.fld fWELLm_STATUS_SAFE_ACTIVE m = straps.toNat / 8 % 2))

/-- Engine Reset (R54, R55, R57): a keyed register write or EXEC, the watchdog of the running firmware, and the thermal trip, which holds
the reset until every sensor reads below 115 °C; a request while a reset is held does nothing. Cluster and Session Reset (R54, R57, R59,
R60): on a unit that runs alone a request waits for the next boundary; without the key nothing happens. The return of a site clears its
reset and reloads its programs from the graph image. -/
def Obligations.EngineResets : Prop :=
  (∀ s : State, s.up = true →
    (s.sys.engReset = false → ∃ t, exec (.engineRst (.reg 0x5A3C)) s = .next t ∧ EngineResetDone s t fSYS_RESET_CAUSE_ENG_REQUEST false) ∧
    (s.sys.engReset = false → s.clocked = true →
      ∃ t, exec (.engineRst .exec) s = .next t ∧ EngineResetDone s t fSYS_RESET_CAUSE_ENG_REQUEST false) ∧
    (s.sys.engReset = true → ∀ src, exec (.engineRst src) s = .next s) ∧
    (s.sys.engReset = false → s.sys.fwRunning = true →
      ∃ t, exec .watchdogExpiry s = .next t ∧ EngineResetDone s t fSYS_RESET_CAUSE_ENG_WATCHDOG false) ∧
    (s.sys.engReset = false → ∀ (k : Nat) (c : Int) (ms : Nat), k < 8 → 130 ≤ c → 10 ≤ ms →
      ∃ t, exec (.thermalTrip k c ms) s = .next t ∧ EngineResetDone s t fSYS_RESET_CAUSE_ENG_THERMAL true ∧ t.sys.thermal = true) ∧
    (s.sys.thermal = true → ∀ l : List Int, l.length = 8 → (∀ c ∈ l, c < 115) →
      ∃ t, exec (.thermalTripEnd l) s = .next t ∧ t.sys.engReset = false ∧ t.sys.thermal = false ∧ t.mem = s.mem ∧
        t.fld fSYS_BOOT_STATUS_STAGE = (if 4 ≤ s.fld fSYS_STRAP_BOOT then 0 else 1))) ∧
  (∀ s : State, s.live = true →
    (s.role = 0 → ∀ src, (src = .reg 0x5A3C ∨ src = .exec) →
      (∃ t, exec (.sessionRst src) s = .next t ∧ t.sys = { s.sys with sesReq := true } ∧ t.regs = s.regs ∧ t.mem = s.mem ∧ t.pop = s.pop) ∧
      (∀ n, n ≤ 35 → s.siteClocked n = true → s.hlth.cluCopy.any (fun c => c.old = n) = false →
        ∃ t, exec (.clusterRst src n) s = .next t ∧ t.regs = s.regs ∧ t.mem = s.mem ∧ t.pump = s.pump ∧
          t.pair.inputs = s.pair.inputs ++ [{ apply := s.blkIndex + 1, rseq := s.pair.rseq, body := .clusterReset n }])) ∧
    (∀ k, k ≠ 0x5A3C → exec (.sessionRst (.reg k)) s = .next s ∧ ∀ n, exec (.clusterRst (.reg k) n) s = .next s) ∧
    (∀ n, n ≤ 35 → bit s.sys.cluReset n = true →
      ∃ t, exec (.clusterResetReturn n) s = .next t ∧ bit t.sys.cluReset n = false ∧ t.regs = s.regs ∧
        (∀ m, m ≠ n → bit t.sys.cluReset m = bit s.sys.cluReset m) ∧
        (nsorted s.pump.image = true → ∀ e ∈ s.pump.image, e.1 / 8192 = n → t.rdMem (progAddr n (e.1 % 8192)) 8 = e.2 % 2 ^ 64) ∧
        (∀ a, a < progAddr n 0 ∨ progAddr n 8192 ≤ a → memGet t.mem a = memGet s.mem a)))

/-- The safe sequencer (R65, R67, R87, R99): XO_IN qualifies in step 1 and gives step 2; without it XO_MISSING is set; the RPLL's first lock
after it starts the counter at zero, the heartbeat and the clocks of the active cluster sites, and a later lock only sets LOCKED; the
Wellhead references settle in step 6. -/
def Obligations.SafeSequencer : Prop :=
  ∀ s : State, s.up = true →
    (s.sys.xoQual = false → s.sys.safeStep = 1 →
      (∃ t, exec .xoQualified s = .next t ∧ t = { s with sys := { s.sys with xoQual := true, safeStep := 2 } }) ∧
      (∃ t, exec .xoMissing s = .next t ∧ t.fld fSYS_BOOT_STATUS_XO_MISSING = 1 ∧ t.sys = s.sys ∧ t.mem = s.mem)) ∧
    (2 ≤ s.sys.safeStep → s.flag fREF_RPLL_STATUS_LOCKED = false → ∃ t, exec .rpllLocked s = .next t ∧
      t.fld fREF_RPLL_STATUS_LOCKED = 1 ∧ t.mem = s.mem ∧
      (2 < s.sys.safeStep → t.sys = s.sys ∧ t.tim = s.tim ∧ t.pair = s.pair) ∧
      (s.sys.safeStep = 2 → t.sys.safeStep = 4 ∧ t.sys.startupOsc = false ∧ t.tim.cnt = 0 ∧ t.tim.running = true ∧ t.pair.hbRun = true ∧
        ∀ k, k < 32 → s.fld fHLTH_CMAPk_SITE k < 36 → s.isPermanent 2 (s.fld fHLTH_CMAPk_SITE k) = false →
          t.siteClocked (s.fld fHLTH_CMAPk_SITE k) = true)) ∧
    (3 ≤ s.sys.safeStep → s.sys.refsSettled = false → ∃ t, exec .wellheadReferencesSettled s = .next t ∧
      t = { s with sys := { s.sys with refsSettled := true, safeStep := 6 } })

/-- The staged start (R70 to R73, R578): without a valid configuration the boot ROM starts the first valid slot that passes, the higher
version first, at base rate and B = 16, or ends in recovery; the recorded retirements are applied and STAGE becomes 3; the oldest open flash
write is committed. -/
def Obligations.StagedStart : Prop :=
  (∀ s : State, s.up = true → s.sys.engReset = false → s.sys.fwRunning = false → s.fld fSYS_BOOT_STATUS_STAGE = 1 →
    s.fld fSYS_STRAP_BOOT ≤ 2 → (∀ c ∈ s.flash.cfgs, c.valid = false) →
    ∃ t, exec .bootRomVerify s = .next t ∧ t.mem = s.mem ∧ t.flash = s.flash ∧
      (∀ e, s.flash.order.find? (fun e => s.imageOk e.2) = some e → t.sys.fwRunning = true ∧ t.sys.image = e.2 ∧
        t.fld fSYS_BOOT_STATUS_SLOT = e.1 % 2 ∧ t.fld fSYS_BOOT_STATUS_STAGE = 2 ∧
        t.fld fSYS_BOOT_STATUS_SEC_VERSION = e.2.secVersion % 256 ∧
        (t.fld fSYS_BOOT_STATUS_FALLBACK = if s.flash.order.head? = some e then 0 else 1) ∧
        (s.tim.running = false → t.sys.rateClass = 0 ∧ t.sys.blk = 16)) ∧
      ((∀ e ∈ s.flash.order, s.imageOk e.2 = false) → t.sys = s.sys ∧ t.fld fSYS_BOOT_STATUS_STAGE = 15)) ∧
  (∀ s : State, s.live = true → s.sys.fwRunning = true → s.fld fSYS_BOOT_STATUS_STAGE = 2 → s.familyDue = false →
    s.flag fREF_RPLL_STATUS_SLEWING = false →
    ∃ t, exec .retirementRecordApply s = .next t ∧ t.fld fSYS_BOOT_STATUS_STAGE = 3 ∧ t.mem = s.mem ∧
      (∀ r ∈ s.flash.retired, r ∈ t.hlth.retired) ∧
      (∀ r ∈ s.hlth.retired, t.hlth.retired.any (fun x => x.kind = r.kind && x.site = r.site) = true)) ∧
  (∀ (s : State) (j : FlashJob) (rest : List FlashJob), s.up = true → s.flash.jobs = j :: rest →
    ∃ t, exec .bootFlashWriteEnd s = .next t ∧ t.flash.jobs = rest ∧ t.regs = s.regs ∧ t.mem = s.mem ∧
      (∀ k n, j = .retire k n → t.flash.retired = s.flash.retired ++ [{ kind := k, site := n }]) ∧
      (∀ l, j = .scene l → t.flash.scene = l) ∧
      (∀ c, j = .config c → t.flash.cfgs = if s.cfgOk c then (s.flash.cfgs ++ [c]).drop (s.flash.cfgs.length - 1) else s.flash.cfgs))

/-- Power states (R49 to R52, R99): with the key and no change under way, TARGET Run and Idle begin the change, Deep Standby loses all but
the standby domain, and a wrong key changes STBY_GPIO alone. Entering Idle stops every cluster site with its memories zero; entering Run
reloads the programs and starts the Press of the committed parameters. -/
def Obligations.PowerStates : Prop :=
  (∀ (s : State) (k : BitVec 8) (g : Bool), s.up = true →
    (let begun (t : State) (target : Nat) (leaves : Bool) : Prop :=
       t.mem = s.mem ∧ t.sys = s.sys ∧ t.fld fSYS_PWR_CTRL_STBY_GPIO = (if g then 1 else 0) ∧
       t.fld fSYS_PWR_CTRL_STATE = s.fld fSYS_PWR_CTRL_STATE ∧
       (k = 0xA5 → s.flag fSYS_PWR_CTRL_BUSY = false → t.fld fSYS_PWR_CTRL_TARGET = target ∧ t.flag fSYS_PWR_CTRL_BUSY = leaves) ∧
       (k ≠ 0xA5 → t.fld fSYS_PWR_CTRL_TARGET = s.fld fSYS_PWR_CTRL_TARGET ∧ t.fld fSYS_PWR_CTRL_BUSY = s.fld fSYS_PWR_CTRL_BUSY)
     (∃ t, exec (.pwrTargetRun k g) s = .next t ∧ begun t 0 (decide (s.fld fSYS_PWR_CTRL_STATE = 1))) ∧
     (∃ t, exec (.pwrTargetIdle k g) s = .next t ∧ begun t 1 (decide (s.fld fSYS_PWR_CTRL_STATE = 2))) ∧
     (k = 0xA5 → s.flag fSYS_PWR_CTRL_BUSY = false → ∃ t, exec (.pwrTargetDeepStandby k g) s = .next t ∧ t.sys.phase = .deepStandby ∧
       t.fld fSYS_PWR_CTRL_STATE = 4 ∧ (∀ a, memGet t.mem a = 0) ∧ t.flash.jobs = [] ∧
       t.fld fSYS_PWR_CTRL_STBY_GPIO = (if g then 1 else 0) ∧ ∀ i, t.fld fSYS_SCRATCH_VALUE i = s.fld fSYS_SCRATCH_VALUE i))) ∧
  (∀ s : State, s.live = true → s.fld fSYS_PWR_CTRL_TARGET = 1 → s.fld fSYS_PWR_CTRL_STATE = 2 → s.flag fSYS_PWR_CTRL_BUSY = true →
    ∃ t, exec .enterIdle s = .next t ∧ t.fld fSYS_PWR_CTRL_STATE = 1 ∧ t.fld fSYS_PWR_CTRL_BUSY = 0 ∧
      (∀ n, n < 36 → t.siteClocked n = false) ∧
      (∀ n, n < 36 → s.siteClocked n = true → ∀ a, cluBase n ≤ a → a < cluBase n + 0x50000 → memGet t.mem a = 0) ∧
      (∀ a, 0x40000000 ≤ a → memGet t.mem a = memGet s.mem a)) ∧
  (∀ s : State, s.live = true → s.fld fSYS_PWR_CTRL_TARGET = 0 → s.fld fSYS_PWR_CTRL_STATE = 1 → s.flag fSYS_PWR_CTRL_BUSY = true →
    ∃ t, exec .enterRun s = .next t ∧ t.fld fSYS_PWR_CTRL_STATE = 2 ∧ t.flag fSYS_PWR_CTRL_BUSY = true ∧
      t.scene.auto'.map (fun p => p.kind) = some 3 ∧
      (nsorted s.pump.image = true → ∀ e ∈ s.pump.image, t.rdMem (progAddr (e.1 / 8192) (e.1 % 8192)) 8 = e.2 % 2 ^ 64))

/-- XO_IN, the RPLL and the SerDes references (R87 to R89, R96, R98): loss of XO_IN sets XO_LOST and freezes the control word, its return
ends FROZEN, an unlock clears LOCKED; the loss of SDSREF0 takes every network link down and fails an enabled Deep Cistern. -/
def Obligations.RootClockEvents : Prop :=
  ∀ s : State, s.up = true →
    (s.sys.xoQual = true → ∃ t, exec .xoLost s = .next t ∧ t.sys.xoQual = false ∧ t.fld fREF_RPLL_STATUS_XO_LOST = 1 ∧ t.mem = s.mem ∧
      (s.clocked = true → t.fld fREF_RPLL_STATUS_FROZEN = 1 ∧ t.fld fREF_RPLL_STATUS_SLEWING = 0 ∧ t.rpllWord = s.rpllWord ∧
        t.clk.frozenWord = s.rpllWord) ∧
      (s.clocked = false → t.sys.safeStep = 1)) ∧
    (s.clocked = true → s.flag fREF_RPLL_STATUS_FROZEN = true → ∃ t, exec .xoRestored s = .next t ∧ t.sys.xoQual = true ∧
      t.fld fREF_RPLL_STATUS_FROZEN = 0 ∧ t.rpllWord = s.rpllWord ∧ (s.sys.slewDue = true → t.fld fREF_RPLL_STATUS_SLEWING = 1) ∧
      t.mem = s.mem) ∧
    (s.flag fREF_RPLL_STATUS_LOCKED = true → ∃ t, exec .rpllUnlock s = .next t ∧ t.fld fREF_RPLL_STATUS_LOCKED = 0 ∧ t.mem = s.mem ∧
      t.rpllWord = s.rpllWord) ∧
    (∀ k, k < 2 →
      (s.flag (sdsOk k) = true → ∃ t, exec (.sdsrefLoss k) s = .next t ∧ t.fld (sdsOk k) = 0 ∧
        (k = 0 → (∀ p, p < 4 → t.fld fNET_PORTp_STATUS_LINK p = 0) ∧
          (s.flag fDCIS_CFG_EN = true → s.dcisState ≠ 0 → t.dcisState = 5))) ∧
      (s.flag (sdsOk k) = false → ∃ t, exec (.sdsrefRestored k) s = .next t ∧ t.fld (sdsOk k) = 1 ∧ t.mem = s.mem))

/-- Clock gating and the rate family (R76, R90, R101, R102): an idle lane and a bank unused for 16 fabric cycles are gated; a family change
slews, and ends with the other family in force at its nominal word; TDM0 starts again with the configuration's role, width and offset. -/
def Obligations.ClocksAndFamily : Prop :=
  ∀ s : State, s.live = true →
    (∀ n m, n < 36 → m < 9 → s.siteClocked n = true → (s.lane n m).task = none →
      ∃ t, exec (.laneClockGate n m) s = .next t ∧ nget false t.clk.laneGated (16 * n + m) = true ∧ t.regs = s.regs ∧ t.pump = s.pump) ∧
    (∀ k, k < 64 → (nget 0 s.memu.lastAccess k = 0 ∨ nget 0 s.memu.lastAccess k + 32 ≤ s.tim.cnt + 1) →
      ∃ t, exec (.bankClockGate k) s = .next t ∧ nget false t.clk.bankGated k = true ∧ t.regs = s.regs ∧ t.mem = s.mem) ∧
    (s.fld fSYS_BOOT_STATUS_STAGE = 2 → s.familyDue = true → s.xoPresent = true → s.flag fREF_RPLL_STATUS_SLEWING = false →
      ∃ t, exec .familyChange s = .next t ∧ t.fld fREF_RPLL_STATUS_SLEWING = 1 ∧ t.family = s.family ∧ t.mem = s.mem) ∧
    (s.flag fREF_RPLL_STATUS_SLEWING = true → s.familyDue = true →
      ∃ t, exec .familySlewEnd s = .next t ∧ t.family = 1 - s.family ∧ t.rpllWord = nominalWord (1 - s.family) ∧
        t.fld fREF_RPLL_STATUS_SLEWING = 0 ∧ t.fld fSYS_BOOT_STATUS_FAMILY_CHANGED = 1 ∧
        (s.tdmState 0 = 3 ∨ s.tdmState 0 = 4 → t.tdmState 0 = 3) ∧ t.mem = s.mem) ∧
    (∀ c, s.sys.cfg = some c → s.sys.started = true → s.sys.tdm0Done = false → c.wellNamed % 256 = 255 → s.allHanded = true →
      ∃ t, exec .tdm0Reconfigure s = .next t ∧ t.sys.tdm0Done = true ∧ t.fld fTDMn_CFG_ROLE 0 = c.tdm0Role % 2 ∧
        t.fld fTDMn_CFG_WIDTH 0 = c.tdm0Width % 4 ∧ t.fld fTDMn_CFG_OFFSET 0 = c.tdm0Offset % 32 ∧ t.mem = s.mem)

/-- RPLL_WORD_UPDATE (R85, R86, R142 to R144): outside a slew the control word stays within 200 ppm of the family's nominal word; during a
slew it is the word written; and no timescale steps at the change. The PULSE outputs (R134, R135): the edge lies OFFSET after the source
instant; with the source lost, or while the flywheel runs, the instant is one second after the last one; the first instant after the
source's return realigns the output. -/
def Obligations.ControlWordAndPulses : Prop :=
  (∀ (s : State) (i : BitVec 8) (f : BitVec 40), s.clocked = true → s.flag fREF_RPLL_STATUS_FROZEN = false →
    (let w := i.toNat * 2 ^ 40 + f.toNat
     let nom := nominalWord s.family
     ∃ t, exec (.rpllWordUpdate i f) s = .next t ∧ t.mem = s.mem ∧ t.tim.cnt = s.tim.cnt ∧
       (s.flag fREF_RPLL_STATUS_SLEWING = false → t.rpllWord = min (max w (nom - nom / 5000)) (nom + nom / 5000)) ∧
       (s.flag fREF_RPLL_STATUS_SLEWING = true → w ≠ 0 → t.rpllWord = w) ∧
       (∀ d, d < 2 → t.now (t.dom d).scale = s.now (s.dom d).scale) ∧ t.now t.tim.eng = s.now s.tim.eng)) ∧
  (∀ (s : State) (k : Nat) (at' : Int), s.pulseOn k = true →
    (let ofs := s.fldI fREF_PULSEn_OFS_OFFSET k
     let fly := (s.pulse k).instant + s.rootPerSec
     (s.flag fREF_PULSEn_CTRL_FLYWHEEL k = false → ∃ t, exec (.pulseEmit k at' false) s = .next t ∧
        t.pulse k = { active := true, instant := at', edge := some (at' + ofs) } ∧ t.regs = s.regs ∧ t.mem = s.mem) ∧
     ((s.pulse k).active = true → ∃ t, exec (.pulseEmit k at' true) s = .next t ∧
        t.pulse k = { active := true, instant := fly, edge := some (fly + ofs) } ∧ t.fld fREF_PULSEn_CTRL_FLYWHEEL k = 1) ∧
     (s.flag fREF_PULSEn_CTRL_FLYWHEEL k = true → ∃ t, exec (.pulseRealign k at') s = .next t ∧
        t.pulse k = { active := true, instant := at', edge := some (at' + ofs) } ∧ t.fld fREF_PULSEn_CTRL_FLYWHEEL k = 0 ∧
        t.fld fREF_PULSEn_CTRL_REALIGNED k = 1)))

/-- The measurement windows (R111, R114, R115, R119) while no holdover word is known: a measured candidate's offset is stored, saturated to
its field, and an offset above the widened hard limit sends a QUALIFIED, DEGRADED or waiting candidate to FAILED; the 64 s offset also joins
the last eight. A DISABLED or ABSENT candidate keeps its state. A candidate's signal and the selection (R106, R117 to R119, R122, R123,
R126, R127, R130): loss makes it ABSENT with LOS, its return QUALIFYING, the end of wait-to-restore QUALIFIED; the one eligible candidate is
selected for the next boundary, and the switch there makes it the selected one, in pass-through while it has a phase error, or in holdover
on XO_IN. -/
def Obligations.ReferenceSelection : Prop :=
  (∀ (s : State) (raw : List Int) (n : Nat), s.clocked = true → s.flag fREF_RPLL_STATUS_FROZEN = false → n < 8 →
    s.holdWindow.length < 16 → s.ref.holdFix = none →
    (∃ t, exec (.refWindow1s raw) s = .next t ∧ t.mem = s.mem ∧
      (s.measured n = true → t.fldI fREF_CANDn_OFFSET_OFS_1S n = satS 32 (raw.getD n 0)) ∧
      (s.measured n = false → t.candState n = s.candState n) ∧
      (n < 7 → (s.candState n = 3 ∨ s.candState n = 4 ∨ s.candState n = 6) →
        (s.fld fREF_LIMITS_HARD_1S + s.fld fREF_DRIFT_XO_TOL) * 10000 < (raw.getD n 0).natAbs →
        t.candState n = 5 ∧ t.fld fREF_CANDn_STATUS_HARD_1 n = 1)) ∧
    (∃ t, exec (.refWindow64s raw) s = .next t ∧ t.mem = s.mem ∧
      (s.measured n = true → t.fldI fREF_CANDn_OFFSET_OFS_64S n = satS 32 (raw.getD n 0) ∧
        (t.cand n).hist = (raw.getD n 0 :: (s.cand n).hist).take 8) ∧
      (s.measured n = false → t.candState n = s.candState n))) ∧
  (∀ s : State, s.clocked = true → s.flag fREF_RPLL_STATUS_FROZEN = false →
    (∀ n, n < 7 → s.measured n = true → s.lossHolds n = true → ∃ t, exec (.refLossOfSignal n) s = .next t ∧ t.candState n = 1 ∧
      t.fld fREF_CANDn_STATUS_LOS n = 1 ∧ t.mem = s.mem) ∧
    (∀ n, n < 4 → s.candState n = 1 → s.flag fREF_CANDn_FREQ_FREQ n = true → ∃ t, exec (.refSignalPresent n) s = .next t ∧
      t.candState n = 2 ∧ (t.cand n).clean = 0 ∧ (t.cand n).hist = []) ∧
    (∀ n, n < 7 → s.candState n = 6 → s.anyCrossed n = false → ∃ t, exec (.wtrExpiry n) s = .next t ∧ t.candState n = 3) ∧
    (∀ c, (List.range 8).filter s.eligible = [c] → s.following = false → s.flag fREF_CTRL_FORCE_EN = false →
      ∃ t, exec .refSelect s = .next t ∧ t.ref.pendSel = (if c = s.fld fREF_SEL_STATUS_SELECTED then none else some c) ∧
        t.fld fREF_SEL_STATUS_SELECTED = s.fld fREF_SEL_STATUS_SELECTED) ∧
    (∀ (n : Nat) (e : Int), s.ref.pendSel = some n → n < 8 → ∃ t, exec (.refSwitch e) s = .next t ∧ t.ref.pendSel = none ∧
      t.fld fREF_SEL_STATUS_SELECTED = n ∧ (∀ k, k < 8 → t.fld fREF_CANDn_STATUS_SELECTED k = if k = n then 1 else 0) ∧
      t.fld fREF_SEL_STATUS_HOLD_AGE = 0 ∧
      t.fld fREF_SEL_STATUS_MODE = (if n = 7 then (if s.ref.holdFix.isSome ∨ 16 ≤ s.holdWindow.length then 2 else 3)
        else if s.phaseTarget n = true ∧ e ≠ 0 then 1 else 0)) ∧
    (s.fld fREF_SEL_STATUS_MODE = 1 → ∃ t, exec (.passThroughEnd 0) s = .next t ∧ t.fld fREF_SEL_STATUS_MODE = 0) ∧
    (∀ (w : BitVec 48) (steady : Bool), ∃ t, exec (.holdHistoryEntry w steady) s = .next t ∧
      (let sel := s.fld fREF_SEL_STATUS_SELECTED
       t.ref.hist = ((if steady = true ∧ sel ≠ 7 ∧ s.candState sel = 3 ∧ s.fld fREF_SEL_STATUS_MODE = 0 then some w.toNat else none)
         :: s.ref.hist).take 4200) ∧
      (2 ≤ s.fld fREF_SEL_STATUS_MODE → t.fld fREF_SEL_STATUS_HOLD_AGE = min (s.fld fREF_SEL_STATUS_HOLD_AGE + 1) (2 ^ 24 - 1))))

/-- PTP messages (R154, R155, R157): the best qualified master is followed with its identity, class and accuracy, and a domain without one
starts ACQUIRING; a Delay_Req opens a request; a lost master or lost Syncs give HOLDING without a step. -/
def Obligations.PtpMasters : Prop :=
  ∀ (s : State) (d : Nat), s.clocked = true → d < 2 →
    (∀ (p : Nat) (a : Announce), s.flag fTIM_Dn_CFG_EN d = true → bit (s.fld fTIM_Dn_CFG_PORTS d) p = true → s.annIntOk d a.logInt = true →
      ∃ t, exec (.ptpAnnounce d p a) s = .next t ∧ t.mem = s.mem ∧ (t.dom d).foreign = s.foreignAfter d p a ∧
        (t.dom d).scale = (s.dom d).scale ∧
        (∀ m, bestMaster (s.foreignAfter d p a) = some m → (t.dom d).master = some m.ann.sender ∧
          t.fld fTIM_Dn_STATUS_PORT d = m.port % 4 ∧ t.fld fTIM_Dn_GM_VALUE d = m.ann.gm % 2 ^ 64 ∧
          t.fld fTIM_Dn_STATUS_GM_CLASS d = m.ann.clockClass % 256 ∧
          t.fld fREF_CANDn_CFG_QUALITY (4 + d) = ptpQuality m.ann.clockClass m.ann.accuracy % 16 ∧
          t.domState d = (if s.domState d = 1 ∨ s.domState d = 5 then 2 else s.domState d)) ∧
        (bestMaster (s.foreignAfter d p a) = none → (t.dom d).master = (s.dom d).master ∧ t.regs = s.regs)) ∧
    (∀ rc3, 2 ≤ s.domState d → (s.dom d).master.isSome = true → ∃ t, exec (.delayReqSend d rc3) s = .next t ∧
      t.dom d = { s.dom d with req := some rc3 } ∧ t.regs = s.regs) ∧
    (s.domFollowing d = true →
      (∃ t, exec (.syncLoss d) s = .next t ∧ t.domState d = 5 ∧ (t.dom d).scale = (s.dom d).scale ∧ (t.dom d).win = none ∧
        (t.dom d).master = (s.dom d).master) ∧
      (∃ t, exec (.announceReceiptTimeout d) s = .next t ∧ t.domState d = 5 ∧ (t.dom d).scale = (s.dom d).scale ∧
        (t.dom d).master = none ∧ ∀ f ∈ (t.dom d).foreign, some f.ann.sender ≠ (s.dom d).master))

/-- A Sync and a delay answer (R157, R158): a Sync at the followed port is remembered, and once a delay is known its offset e = t2 − t1 −
corr − MPD − tmp is reported; before the first lock the domain steps by −e, and a locked one with a small e does not step. The first delays
of a port are halves of the two-way sum, and their median is MPD. Stated for a port with no correction. -/
def Obligations.PtpServo : Prop :=
  ∀ (s : State) (d p : Nat), s.clocked = true → d < 2 → 2 ≤ s.domState d → (s.ptpPort d p).corr = 0 → (s.ptpPort d p).corrDue = false →
    s.fldI fTIM_PORTn_ASYM_CORR p = 0 →
    (∀ (li t1 c : Int) (rc2 : Nat), p = s.fld fTIM_Dn_STATUS_PORT d → (s.dom d).master.isSome = true → syncIntOk li = true →
      (let t2 := s.timeAtRoot (s.dom d).scale rc2
       let e := t2 - t1 - c - (s.ptpPort d p).mpd - (s.ptpPort d p).tmp
       ∃ t, exec (.ptpSync d p li t1 c rc2) s = .next t ∧ t.mem = s.mem ∧ (t.ptpPort d p).last = some (t1, c, t2) ∧
         ((s.ptpPort d p).dly ≠ [] → (t.dom d).e = e ∧
           t.fldI fTIM_Dn_OFFSET_OFFSET d = satS 32 (e / 65536) ∧
           (s.domState d = 2 → s.flag fTIM_Dn_STATUS_HAS_LOCKED d = false → (s.dom d).first = true →
             (t.dom d).scale = { (s.dom d).scale with ofs := (s.dom d).scale.ofs - e }) ∧
           (s.domState d = 3 → s.flag fTIM_Dn_STATUS_HAS_LOCKED d = true → (s.dom d).held = [] → within e stepThr = true → t.domNow d = s.domNow d)))) ∧
    (∀ (rc3 : Nat) (t1 cs t2 t4 c : Int), (s.dom d).req = some rc3 → (s.ptpPort d p).last = some (t1, cs, t2) →
      (s.ptpPort d p).dly.length < 8 →
      (let twice := t2 - s.timeAtRoot (s.dom d).scale rc3 + (t4 - t1) - cs - c
       ∃ t m, exec (.ptpDelayResp d p t4 c) s = .next t ∧ (t.dom d).req = none ∧ (2 * m - twice).natAbs ≤ 1 ∧
         (t.ptpPort d p).dly = (s.ptpPort d p).dly ++ [m] ∧ (t.ptpPort d p).mpd = medianI ((s.ptpPort d p).dly ++ [m]) ∧
         (t.dom d).scale = (s.dom d).scale))

/-- Jumps and catching up (R157, R167, R170): a jump is dropped when the offsets have returned, rejected when they do not persist or the
other domain says otherwise, and accepted, to act at the next boundary, when it agrees; a rejected domain steps to its master after
REACQ_HOLD; engine time leaves half rate without a step. Reading time (R145, R146, R175, R680): a snapshot takes the root count and the
timescales at one instant, a read of TIM_COUNT_LO latches both halves of the counter, and a written CORR waits for the next Sync of each
domain that uses the port. -/
def Obligations.TimeJumps : Prop :=
  (∀ s : State, s.clocked = true →
    (∀ (d : Nat) (w : JumpWin), d < 2 → s.domState d = 4 → (s.dom d).win = some w → w.from' < 16 →
      (let outcome := if within (w.offs.headD w.j) stepThr then 3
         else if ¬ w.offs.all (fun e => within (e + w.j) stepTol) then 2
         else if s.otherAgrees d w.j w.start then 1
         else if s.domLockedOrSuspect (1 - d) then 2
         else if s.flag fTIM_CTRL_SOLO_ACCEPT then 1 else 2
       ∃ t, exec (.timeJumpResolved d) s = .next t ∧ t.mem = s.mem ∧ t.fld fTIM_Dn_JUMP_OUTCOME d = outcome ∧
         t.domState d = (if outcome = 2 then 6 else if w.from' = 5 then 2 else w.from') ∧ (t.dom d).win = none ∧
         (t.dom d).scale = (s.dom d).scale ∧
         (t.dom d).pendJump = (if outcome = 1 then some w.j else (s.dom d).pendJump))) ∧
    (∀ d, d < 2 → s.domState d = 6 → (s.dom d).reacq.isSome = true → ∃ t, exec (.reacqHoldExpiry d) s = .next t ∧ t.domState d = 2 ∧
      (t.dom d).scale = { (s.dom d).scale with ofs := (s.dom d).scale.ofs - (s.dom d).e } ∧ (t.dom d).reacq = none) ∧
    (s.flag fTIM_MAP_STATUS_CATCHUP = true → ∃ t, exec .catchupEnd s = .next t ∧ t.fld fTIM_MAP_STATUS_CATCHUP = 0 ∧
      t.tim.eng.half = false ∧ t.now t.tim.eng = s.now s.tim.eng)) ∧
  (∀ s : State, s.clocked = true →
    (∃ t, exec .take s = .next t ∧ t.tim = s.tim ∧ t.mem = s.mem ∧
      t.fld fTIM_SNAP_ROOT_LO_VALUE = 2 * s.tim.cnt % 2 ^ 64 ∧ t.fld fTIM_SNAP_ROOT_HI_VALUE = 2 * s.tim.cnt % 2 ^ 81 / 2 ^ 64 ∧
      (∀ e ∈ [(fTIM_SNAP_P0_SEC_VALUE, fTIM_SNAP_P0_NS_VALUE, s.domNow 0), (fTIM_SNAP_P1_SEC_VALUE, fTIM_SNAP_P1_NS_VALUE, s.domNow 1),
          (fTIM_SNAP_E_SEC_VALUE, fTIM_SNAP_E_NS_VALUE, s.now s.tim.eng)],
        (t.fld e.1 : Int) = e.2.2 / 65536 / 1000000000 % 2 ^ 64 ∧
        (t.fld e.2.1 : Int) = e.2.2 / 65536 % 1000000000 * 65536 + e.2.2 % 65536) ∧ t.fld fTIM_SNAP_CTRL_TAKE = 0) ∧
    (∃ t, exec .timCountLoRead s = .next t ∧ t.tim = s.tim ∧ t.fld fTIM_COUNT_LO_VALUE = s.tim.cnt % 2 ^ 64 ∧
      t.fld fTIM_COUNT_HI_VALUE = s.tim.cnt / 2 ^ 64 % 2 ^ 16) ∧
    (∀ (p : Nat) (c : Int), p < 4 → ∃ t, exec (.corrWrite p c) s = .next t ∧
      (t.fld fTIM_PORTn_ASYM_CORR p : Int) = c % 2 ^ 32 ∧
      ∀ d, d < 2 → bit (s.fld fTIM_Dn_CFG_PORTS d) p = true → t.ptpPort d p = { s.ptpPort d p with corrDue := true }))

/-- The transparent clock (R150 to R152): a one-step Sync or a Delay_Req leaves with its residence time, in 2⁻¹⁶ ns, added and saturated;
with TC_EN = 0 a frame leaves as it came; a peer-delay frame is dropped and counted; a Follow_Up held too long leaves unchanged and is
counted. -/
def Obligations.TransparentClock : Prop :=
  ∀ s : State, s.live = true → 0 < s.tim.pDen →
    (∀ (seq i e : Nat) (c : Int), i ≤ e →
      (∀ k ∈ [TcKind.syncOneStep, .delayReq], s.flag fTIM_CTRL_TC_EN = true →
        ∃ t r, exec (.tcForward { kind := k, seq := seq, corr := c, ingress := i, egress := e }) s = .next t ∧
          t.tim.tcLast = some (min (c + r) 0x7FFFFFFFFFFFFFFF) ∧ t.regs = s.regs ∧
          (r * (2 * s.tim.pDen) - ((e : Int) - i) * s.tim.pNum * 65536).natAbs < 2 * s.tim.pDen) ∧
      (∀ k, s.flag fTIM_CTRL_TC_EN = false →
        ∃ t, exec (.tcForward { kind := k, seq := seq, corr := c, ingress := i, egress := e }) s = .next t ∧ t.tim.tcLast = some c ∧
          t.regs = s.regs) ∧
      (s.flag fTIM_CTRL_TC_EN = true → s.fld fTIM_TC_COUNT_VALUE < 2 ^ 64 →
        ∃ t, exec (.tcForward { kind := .pdelay, seq := seq, corr := c, ingress := i, egress := e }) s = .next t ∧ t.tim = s.tim ∧
          t.fld fTIM_TC_COUNT_VALUE / 2 ^ 32 = min (s.fld fTIM_TC_COUNT_VALUE / 2 ^ 32 + 1) (2 ^ 32 - 1))) ∧
    (∀ seq c, s.tim.fuHeld.find? (fun h => h.1 = seq) = some (seq, c) → s.fld fTIM_TC_COUNT_VALUE < 2 ^ 64 →
      ∃ t, exec (.tcFollowUpLate seq) s = .next t ∧ t.tim.tcLast = some c ∧ (∀ h ∈ t.tim.fuHeld, h.1 ≠ seq) ∧
        t.fld fTIM_TC_COUNT_VALUE % 2 ^ 16 = min (s.fld fTIM_TC_COUNT_VALUE % 2 ^ 16 + 1) (2 ^ 16 - 1))

/-- The scene commands of a unit that runs alone (R358 to R362, R368, R369, R713): a Press or Scene Reassert that fails a check is answered
REFUSED with its code and leaves the Vat and a pending Press alone; one that passes waits, unprepared, for its boundary, and a Press of an
empty Vat is over at once; cancelling drops the pending Press with status 7, clearing empties an unsealed Vat, and the end of the
preparation prepares what waits. The scene commands of a pair (R61, R372, R557, R633): on the Active unit a Press, Reassert, cancellation or
clearing is stamped in the ledger two blocks ahead and changes no scene state yet; a following unit leaves it to its partner. -/
def Obligations.SceneCommands : Prop :=
  (∀ s : State, s.live = true → s.role = 0 →
    (∀ (arg : List Byte) (digest count : Nat), PressArg arg digest count →
      ∀ e ∈ [(Instr.press arg, 0), (.sceneReassert arg, 1)],
        ∃ t, exec e.1 s = .next t ∧ t.mem = s.mem ∧ t.scene.vat = s.scene.vat ∧
          (let r := s.pressCheck e.2 digest count false
           (r ≠ 0 → t.pop.reply = (8, r, 0) ∧ t.scene = s.scene) ∧
           (r = 0 → t.pop.reply = (0, 0, 0) ∧
             t.scene.press = if e.2 = 0 ∧ s.scene.vat = [] then s.scene.press else
               some { kind := e.2, digest := digest, instant := none, target := 0, prepared := false, late := false, entries := []
                      partnerReady := false, stamped := none }))) ∧
    (∀ arg : List Byte, arg.length ≠ 32 → ∃ t, exec (.press arg) s = .next t ∧ t.pop.reply = (13, arg.length, 0) ∧ t.scene = s.scene) ∧
    (∀ p, s.scene.press = some p → ∃ t, exec .pressCancel s = .next t ∧ t.scene.press = none ∧ t.scene.lastStatus = 7 ∧
      t.scene.lastKind = p.kind ∧ t.scene.vat = s.scene.vat ∧ t.pop.reply = (0, 0, 0)) ∧
    (∃ t, exec .vatClear s = .next t ∧ t.mem = s.mem ∧ t.regs = s.regs ∧
      (s.scene.press = none → t.scene = { s.scene with vat := [] } ∧ t.pop.reply = (0, 0, 0)) ∧
      (s.scene.press.isSome = true → t.scene = s.scene ∧ t.pop.reply = (8, 2, 0))) ∧
    (∀ p, s.scene.auto' = none → s.scene.press = some p → ∃ t, exec .pressPrepared s = .next t ∧
      t.scene = { s.scene with press := some { p with prepared := true } } ∧ t.regs = s.regs) ∧
    (∀ p, s.scene.auto' = some p → p.prepared = false → ∃ t, exec .pressPrepared s = .next t ∧
      t.scene = { s.scene with auto' := some { p with prepared := true } } ∧ t.regs = s.regs)) ∧
  (∀ (s : State) (arg : List Byte), s.live = true →
    ∀ e ∈ [(Instr.press arg, 0x10, arg), (.sceneReassert arg, 0x20, arg), (.pressCancel, 0x11, []), (.vatClear, 0x12, [])],
      ∃ t, exec e.1 s = .next t ∧ t.scene = s.scene ∧ t.mem = s.mem ∧ t.objs = s.objs ∧
        (s.role = 2 → { apply := s.blkIndex + 2, rseq := s.pair.rseq, body := .exec 0x7000 e.2.1 e.2.2 } ∈ t.pair.inputs) ∧
        (s.following = true → t = s))

/-- The ends of transitions (R329, R332, R348 to R352): a route crossfade that has run its samples ends without changing the entry in force;
a filter stage runs only its new filter; a delay stands at its new position, a change held behind a crossfade staying held. -/
def Obligations.TransitionEnds : Prop :=
  ∀ s : State, s.live = true →
    (∀ (n : Nat) (f : Fade), s.fadeOf n = some f → f.start + f.len ≤ s.sampleIdx →
      ∃ t, exec (.routeCrossfadeEnd n) s = .next t ∧ t.fadeOf n = none ∧ t.mem = s.mem ∧ t.regs = s.regs ∧ t.scene = s.scene ∧
        ∀ m, t.entryNow m = s.entryNow m ∧ (m ≠ n → t.fadeOf m = s.fadeOf m)) ∧
    (∀ (i st e : Nat), (nget {} s.scene.stages (objKey i st e)).running = true →
      ∃ t, exec (.filterCrossfadeEnd i st e) s = .next t ∧ t.objs = s.objs ∧ t.regs = s.regs ∧
        nget {} t.scene.stages (objKey i st e) = { held := (nget {} s.scene.stages (objKey i st e)).held }) ∧
    (∀ (i su e : Nat), (s.delayOf (objKey i su e)).len ≠ 0 →
      ∃ t, exec (.delayCrossfadeEnd i su e) s = .next t ∧ t.objs = s.objs ∧
        t.delayOf (objKey i su e) = { frm := (s.delayOf (objKey i su e)).to', to' := (s.delayOf (objKey i su e)).to'
                                      held := (s.delayOf (objKey i su e)).held }) ∧
    (∀ (i su e : Nat), (s.delayOf (objKey i su e)).slew = true →
      ∃ t, exec (.delaySlewEnd i su e) s = .next t ∧ t.objs = s.objs ∧
        t.delayOf (objKey i su e) = { frm := (s.delayOf (objKey i su e)).to', to' := (s.delayOf (objKey i su e)).to' })

/-- GRAPH_LOAD (R252, R283, R284): a graph that breaks an acceptance rule changes no descriptor, task or memory; one that breaks none is in
place with every one of its tasks due to be armed, and the first load of stage 3 is followed by the startup Press. -/
def Obligations.GraphLoads : Prop :=
  ∀ (s : State) (g : Graph), s.live = true → s.sys.fwRunning = true → 3 ≤ s.fld fSYS_BOOT_STATUS_STAGE → s.graphFree g = true →
    (let serves := g.serves ++ (if g.update then s.route.serves else [])
     let broken := (s.candidate g).gCheck g serves (s.graphTasks g) (s.graphBufs g) 0
     ∃ t, exec (.graphLoad g) s = .next t ∧
       (broken.isSome = true → t.mem = s.mem ∧ t.pump = s.pump ∧ t.route = s.route ∧
         ∀ (f : Fd) (i j : Nat), f.blk ≠ fEVT_CTRL_LOST.blk → t.fld f i j = s.fld f i j) ∧
       (broken = none → t.route.serves = serves ∧
         (g.update = false → ∀ k ∈ g.tasks, (t.rt k.site k.slot).armDue = true) ∧
         (s.fld fSYS_BOOT_STATUS_STAGE = 3 → s.following = false → s.scene.auto' = none → t.scene.auto'.map (fun p => p.kind) = some 2)))

/-- Starting and stopping ports on a unit without a partner (R464 to R467, R469, R470): a named STOPPED port is ARMED with its trigger, any
other sets CMD_ERR; at its trigger a master enters LEAD_IN, or RUNNING with PRE = 0, and a slave SEARCHING; a stop waits for the boundary,
but TDM0 keeps running for the safe path with CMD_ERR; a lead-in ends in RUNNING and a lead-out in STOPPED. Masks and configuration of a
unit without a partner (R459 to R461, R468, R469): a mask that selects no more slots than STRIDE is staged, the active mask staying in
force, and any other sets MASK_ERR; a configuration is stored in a STOPPED port when it breaks no rule, and otherwise sets CFG_ERR and
changes no field. -/
def Obligations.TdmPorts : Prop :=
  (∀ (s : State) (n : Nat), s.clocked = true → n < 16 →
    (∀ w : BitVec 64, s.paired = false → fTDM_START_GO.of w.toNat = 1 → fTDM_START_TRIG.of w.toNat ≤ 9 →
      ∃ t, exec (.tdmStart w) s = .next t ∧ t.mem = s.mem ∧ t.objs = s.objs ∧ t.well = s.well ∧
        (bit (fTDM_START_GROUP.of w.toNat) n = true → s.tdmState n = 0 →
          s.flag fTDMn_CFG_ROLE n = false ∨ s.flag fTDMn_CFG_NSLOT n = true →
          t.tdmState n = 1 ∧ (t.tdmP n).trig = fTDM_START_TRIG.of w.toNat ∧
          (∀ k, fTDM_START_AT.of w.toNat = (s.blkIndex + k) % 2 ^ 40 → 1 ≤ k → k < 2 ^ 40 →
            (t.tdmP n).at' = (if k ≤ 2 ^ 39 then s.blkIndex + k else s.blkIndex + 1))) ∧
        (bit (fTDM_START_GROUP.of w.toNat) n = true → s.tdmState n ≠ 0 →
          t.fld fTDMn_STATUS_CMD_ERR n = 1 ∧ t.tdmState n = s.tdmState n ∧ t.tdmP n = s.tdmP n) ∧
        (bit (fTDM_START_GROUP.of w.toNat) n = false → t.tdmState n = s.tdmState n ∧ t.tdmP n = s.tdmP n)) ∧
    (∀ trig, trig ≤ 9 → ∃ t, exec (.tdmStartTrigger trig) s = .next t ∧ t.mem = s.mem ∧ t.objs = s.objs ∧ t.well = s.well ∧
      (s.tdmState n = 1 → (s.tdmP n).trig = trig → (s.tdmP n).stop = false → (trig = 1 → (s.tdmP n).at' ≤ s.blkIndex) →
        t.tdmState n = (if s.flag fTDMn_CFG_ROLE n then (if s.fld fTDMn_CFG_PRE n = 0 then 4 else 3) else 2) ∧
        (s.flag fTDMn_CFG_ROLE n = true → t.fld fTDMn_STATUS_LOCKED n = 1)) ∧
      (s.tdmState n ≠ 1 ∨ (s.tdmP n).trig ≠ trig ∨ (s.tdmP n).stop = true →
        t.tdmState n = s.tdmState n ∧ t.tdmP n = s.tdmP n)) ∧
    (∀ w : BitVec 32, s.paired = false → fTDM_STOP_GO.of w.toNat = 1 →
      ∃ t, exec (.tdmStop w) s = .next t ∧ t.mem = s.mem ∧ t.objs = s.objs ∧ t.well = s.well ∧ t.tdmState n = s.tdmState n ∧
        (bit (fTDM_STOP_GROUP.of w.toNat) n = true → s.tdmState n ≠ 0 →
          if n = 0 ∧ s.anySafe = true then t.fld fTDMn_STATUS_CMD_ERR n = 1 ∧ t.tdmP n = s.tdmP n
          else t.tdmP n = { s.tdmP n with stop := true }) ∧
        (bit (fTDM_STOP_GROUP.of w.toNat) n = false ∨ s.tdmState n = 0 → t.tdmP n = s.tdmP n)) ∧
    (s.tdmState n = 3 → s.fld fTDMn_CFG_PRE n ≤ (s.tdmP n).frames →
      ∃ t, exec (.tdmLeadInEnd n) s = .next t ∧ t.tdmState n = 4 ∧ t.tdm = s.tdm ∧ t.mem = s.mem) ∧
    (s.tdmState n = 5 → s.fld fTDMn_CFG_POST n ≤ (s.tdmP n).frames →
      ∃ t, exec (.tdmLeadOutEnd n) s = .next t ∧ t.tdmState n = 0 ∧ t.fld fTDMn_STATUS_LOCKED n = 0 ∧ t.mem = s.mem ∧
        (t.tdmP n).actIn = (s.tdmP n).actIn ∧ (t.tdmP n).actOut = (s.tdmP n).actOut)) ∧
  (∀ (s : State) (n : Nat), s.clocked = true → n < 16 → s.paired = false →
    (∀ (out : Bool) (mask : BitVec 32),
      (let stride := if out then s.fld fTDMn_CFG_STRIDE_OUT n else s.fld fTDMn_CFG_STRIDE_IN n
       let k := (selSlots mask.toNat (s.tdmCount n out)).length
       ∃ t, exec (.tdmMaskWrite n out mask) s = .next t ∧ t.mem = s.mem ∧ t.objs = s.objs ∧ t.tdmState n = s.tdmState n ∧
         (∀ b, t.tdmMask n b = s.tdmMask n b) ∧
         (k ≤ stride → t.fld (if out then fTDMn_MASK_OUT_MASK else fTDMn_MASK_IN_MASK) n = mask.toNat ∧
           t.fld fTDMn_STATUS_MASK_ERR n = s.fld fTDMn_STATUS_MASK_ERR n) ∧
         (stride < k → t.fld fTDMn_STATUS_MASK_ERR n = 1 ∧ t.tdm = s.tdm ∧
           ∀ f ∈ [fTDMn_MASK_OUT_MASK, fTDMn_MASK_IN_MASK], t.fld f n = s.fld f n))) ∧
    (∀ v : BitVec 64,
      (let bad := decide (s.tdmState n ≠ 0) || s.tdmCfgBad v.toNat || (decide (n = 0) && s.tdmSafeBad v.toNat)
       ∃ t, exec (.tdmCfgWrite n v) s = .next t ∧ t.mem = s.mem ∧ t.objs = s.objs ∧ t.tdm = s.tdm ∧ t.tdmState n = s.tdmState n ∧
         (bad = true → t.fld fTDMn_STATUS_CFG_ERR n = 1 ∧ ∀ f ∈ Reg.TDMn_CFG.layout, t.fld f n = s.fld f n) ∧
         (bad = false → ∀ f ∈ Reg.TDMn_CFG.layout, t.fld f n = f.of v.toNat))))

/-- A slave's lock and slips, and frames (R447, R453 to R455, R461, R466): two good frames of one length lock, a bad one or silence loses
the lock, and an edge of a locked slave takes the next sample, or slips by one when it is more than half a period away. A frame puts the
staged masks in force, takes the selected input words of a RUNNING port, and counts in a lead-in or lead-out. DIRECT_PATH_WORD (R307 to
R310, R520): the word of a selected slot of a RUNNING port is its source's value, passes times its gain to every direct TDM or Wellhead sink
of the source that does not crossfade, and from TDM0 times the safe gain to the safe route. -/
def Obligations.TdmFrames : Prop :=
  (∀ (s : State) (n : Nat), s.clocked = true → n < 16 →
    (let x := s.tdmP n
     let lost (t : State) : Prop := t.fld fTDMn_STATUS_LOCKED n = 0 ∧ t.fld fTDMn_STATUS_FRAME_ERR n = 1 ∧ t.mem = s.mem ∧
       t.tdmState n = (if s.tdmState n = 5 then 0 else 2) ∧ (s.tdmState n ≠ 5 → (t.tdmP n).edge = none ∧ (t.tdmP n).good = 0)
     (s.flag fTDMn_CFG_ROLE n = false → s.flag fTDMn_STATUS_LOCKED n = true →
       ∃ t, exec (.tdmLockLost n) s = .next t ∧ lost t) ∧
     (s.flag fTDMn_CFG_ROLE n = false → s.tim.running = true → 2 ≤ s.tdmState n → s.tdmState n ≤ 5 →
       ∀ m root, 2 * s.tim.cSamp ≤ root →
       (x.edge = none → ∃ t, exec (.tdmFsyncEdge n m root) s = .next t ∧ t.regs = s.regs ∧ t.mem = s.mem ∧
         t.tdmP n = { x with edge := some root, m := 0, good := 0 }) ∧
       (∀ e0, x.edge = some e0 → s.tdmState n = 2 → s.tdmFrameOk n m (root - e0) = false →
         ∃ t, exec (.tdmFsyncEdge n m root) s = .next t ∧ t.regs = s.regs ∧ (t.tdmP n).good = 0 ∧ (t.tdmP n).edge = some root) ∧
       (∀ e0, x.edge = some e0 → s.tdmState n = 2 → s.tdmFrameOk n m (root - e0) = true → x.good = 1 → x.m = m →
         ∃ t, exec (.tdmFsyncEdge n m root) s = .next t ∧ t.fld fTDMn_STATUS_LOCKED n = 1 ∧ t.fld fTDMn_PHASE_PHASE n = 0 ∧
           t.tdmState n = (if s.fld fTDMn_CFG_PRE n = 0 then 4 else 3) ∧ t.mem = s.mem ∧
           (t.tdmP n).asg = (root / 2 - s.tim.cSamp) / s.perSample ∧ (t.tdmP n).due = 1) ∧
       (∀ e0, x.edge = some e0 → 3 ≤ s.tdmState n → (m ≠ x.m ∨ s.tdmFrameOk n m (root - e0) = false) →
         ∃ t, exec (.tdmFsyncEdge n m root) s = .next t ∧ lost t) ∧
       (∀ e0, x.edge = some e0 → 3 ≤ s.tdmState n → m = x.m → s.tdmFrameOk n m (root - e0) = true →
         ∃ t, exec (.tdmFsyncEdge n m root) s = .next t ∧ t.mem = s.mem ∧ t.tdmState n = s.tdmState n ∧
           (let f : Int := 2 * s.perSample
            let d : Int := root - (2 * (s.tim.cSamp + (x.asg + 1) * s.perSample) : Nat) - x.phase0
            let slip := t.fld fTDMn_STATUS_SLIPS n = min (s.fld fTDMn_STATUS_SLIPS n + 1) (2 ^ fTDMn_STATUS_SLIPS.width - 1)
            let w := fTDMn_PHASE_PHASE.width
            if f < 2 * d then (t.tdmP n).asg = x.asg + 2 ∧ t.fld fTDMn_PHASE_PHASE n = satBits w (d - f) ∧ slip
            else if 2 * d < -f then (t.tdmP n).asg = x.asg ∧ t.fld fTDMn_PHASE_PHASE n = satBits w (d + f) ∧ slip
            else (t.tdmP n).asg = x.asg + 1 ∧ t.fld fTDMn_PHASE_PHASE n = satBits w d ∧
              t.fld fTDMn_STATUS_SLIPS n = s.fld fTDMn_STATUS_SLIPS n))) ∧
     (s.tim.running = true → 3 ≤ s.tdmState n → s.tdmState n ≤ 5 → (s.flag fTDMn_CFG_ROLE n = true ∨ x.due = 1) → ∀ ws,
       ∃ t, exec (.tdmFrame n ws) s = .next t ∧ t.mem = s.mem ∧ t.tdmState n = s.tdmState n ∧
         (t.tdmP n).actIn = none ∧ (t.tdmP n).actOut = none ∧
         t.fld fTDMn_EPOCH_IN_EPOCH n =
           (if x.actIn.isSome then (s.fld fTDMn_EPOCH_IN_EPOCH n + 1) % 2 ^ 16 else s.fld fTDMn_EPOCH_IN_EPOCH n) ∧
         t.fld fTDMn_EPOCH_OUT_EPOCH n =
           (if x.actOut.isSome then (s.fld fTDMn_EPOCH_OUT_EPOCH n + 1) % 2 ^ 16 else s.fld fTDMn_EPOCH_OUT_EPOCH n) ∧
         (t.tdmP n).frames = (if s.tdmState n = 4 then x.frames else x.frames + 1) ∧
         (s.tdmState n ≠ 4 → t.route.collect = s.route.collect ∧ ∀ e ∈ (t.tdmP n).tx, e.2 = 0) ∧
         (s.tdmState n = 4 → (t.tdmP n).last = (selSlots (s.fld fTDMn_MASK_IN_MASK n) (s.fld fTDMn_CFG_COUNT_IN n)).map
           (fun k => (k, ofWire (tdmWidth (s.fld fTDMn_CFG_WIDTH n)) (ws.getD k 0).toNat)))))) ∧
  (∀ (s : State) (n k : Nat) (word : BitVec 32), s.clocked = true → n < 16 → s.tdmState n = 4 → (s.tdmSel n false).contains k = true →
    (let v := ofWire (tdmWidth (s.fld fTDMn_CFG_WIDTH n)) word.toNat
     let src := 0x1000 + 32 * n + k
     ∃ t, exec (.directPathWord n k word) s = .next t ∧ t.mem = s.mem ∧ t.objs = s.objs ∧
       nget 0 t.route.words src = v ∧ (∀ q, q ≠ src → nget 0 t.route.words q = nget 0 s.route.words q) ∧
       (∀ sink ∈ s.directSinks src, 0x2000 ≤ sink → s.fadeOf sink = none →
         nget 0 t.route.direct sink = dirMul v (s.gainAt sink s.sampleIdx)) ∧
       (n = 0 → k < 8 → (t.well' k).safe = dirMul v s.safeGain)))

/-- WELL_SAMPLE_TICK (R513, R514, R518, R524, R526, R527): a channel that plays without a change under way removes one code and fades in, or
holds its last code and, after UF_HOLD empty ticks, fades out, the first empty tick counting an underflow; WAIT ends with the first code. A
playing generator steps its phase, and WELL_CHIME is sampled. -/
def Obligations.WellheadTick : Prop :=
  ∀ (s : State) (chime : Bool), s.clocked = true → s.tim.running = true →
    ∃ t, exec (.wellSampleTick chime) s = .next t ∧ t.mem = s.mem ∧ t.objs = s.objs ∧ t.well.ball = chime ∧
      t.well.ballRun = (if s.well.ball = chime then s.well.ballRun + 1 else 1) ∧
      (∀ m, m < 8 → s.wellCodeFed m = true →
        (let x := s.well' m
         let y := t.well' m
         let nr := s.rampLen
         x.stop = false → x.sleep = false → x.phase = 0 → x.toSafe = false →
         (∀ c q, x.queue = c :: q → x.st = 1 ∨ x.st = 2 →
           (let g := min nr ((if x.st = 1 then 0 else x.g) + 1)
            y.st = 2 ∧ y.queue = q ∧ y.h = c ∧ y.e = 0 ∧ y.g = g ∧ y.out = divEven (c * g) nr ∧
            t.fld fWELLm_STATUS_STATE m = (if s.claims then 2 else 5))) ∧
         (x.queue = [] → x.st = 2 →
           (let g := if s.fld fWELLm_CFG_UF_HOLD m < x.e + 1 then x.g - 1 else x.g
            y.st = 2 ∧ y.queue = [] ∧ y.h = x.h ∧ y.e = x.e + 1 ∧ y.g = g ∧ y.out = divEven (x.h * g) nr ∧
            (x.e = 0 → t.fld fWELLm_STATUS_UNDERFLOW m = 1 ∧
              t.fld fWELLm_STATUS_UF_COUNT m = min (s.fld fWELLm_STATUS_UF_COUNT m + 1) 65535))) ∧
         (x.queue = [] → x.st = 1 → y = x))) ∧
      (∀ g, g < 16 →
        (s.flag fWELL_GENg_CFG_PLAYING g = true →
          (t.gen g).p = ((s.gen g).p + (s.gen g).freq) % 2 ^ 32 ∧ (t.gen g).k = (s.gen g).k + 1) ∧
        (s.flag fWELL_GENg_CFG_PLAYING g = false → (t.gen g).out = 0 ∧ (t.gen g).p = (s.gen g).p))

/-- Channels (R510, R511, R513, R518 to R522, R529) on a unit without a partner: a code enters the queue of a channel with FEED = 1 that is
not on the safe path, or sets OVERFLOW when sixteen wait; a configuration is stored, EN starting in WAIT or ramping down, and a change of
mode, range or feed of a PLAYING channel ramps down, switches at zero and ramps up; sixteen blocks on time end the fallback. Sine generators
(R524 to R527): a chime level held for 1 ms is every chime gate's level; a rise starts a stopped pattern at its first step with a duration,
a fall lets the step finish or releases an endless one, and a step that has ended is followed by the next, the repeat, or the stop; writes
of a unit without a partner store the fields, but a FREQ above 0x8000_0000 is ignored whole. -/
def Obligations.WellheadChannels : Prop :=
  (∀ (s : State) (m : Nat), s.clocked = true → m < 8 →
    (let x := s.well' m
     (s.paired = false → ∀ w : BitVec 32,
       (s.wellCodeFed m = false ∨ s.flag fWELLm_STATUS_SAFE_ACTIVE m = true → exec (.wellCodeWrite m w) s = .next s) ∧
       (s.wellCodeFed m = true → s.flag fWELLm_STATUS_SAFE_ACTIVE m = false →
         ∃ t, exec (.wellCodeWrite m w) s = .next t ∧ t.mem = s.mem ∧ t.objs = s.objs ∧
           (16 ≤ x.queue.length → t.fld fWELLm_STATUS_OVERFLOW m = 1 ∧ (t.well' m).queue = x.queue) ∧
           (x.queue.length < 16 → x.st = 1 ∨ x.st = 2 ∨ x.st = 3 → s.wellHeld = false → s.flag fWELLm_CFG_CHIME m = false →
             t.well' m = { x with queue := x.queue ++ [if s.wellCompat m then (w.extractLsb' 14 18).toInt else (w.extractLsb' 8 24).toInt] }))) ∧
     (s.paired = false → ∀ v : BitVec 32,
       (let new := (fWELLm_CFG_MODE.of v.toNat, fWELLm_CFG_RANGE.of v.toNat, fWELLm_CFG_FEED.of v.toNat)
        let en := fWELLm_CFG_EN.of v.toNat
        ∃ t, exec (.wellCfgWrite m v) s = .next t ∧ t.mem = s.mem ∧ t.objs = s.objs ∧
          (∀ f ∈ Reg.WELLm_CFG.layout, t.fld f m = f.of v.toNat) ∧
          (s.flag fWELLm_CFG_EN m = false → en = 1 → (t.well' m).st = 1 ∧ (t.well' m).queue = []) ∧
          (s.flag fWELLm_CFG_EN m = true → en = 0 → x.st = 2 ∨ x.st = 3 → (t.well' m).stop = true) ∧
          (s.flag fWELLm_CFG_EN m = true → en = 0 → x.st ≠ 2 → x.st ≠ 3 → (t.well' m).st = 0) ∧
          (s.flag fWELLm_CFG_EN m = true → en = 1 → x.st = 2 → x.phase = 0 → new ≠ s.wellMode m →
            t.well' m = { x with st := 3, act := some (s.wellMode m), goal := new, phase := 1, ramp := s.rampLen })))  ∧
     (x.phase = 1 → x.ramp = 0 ∨ x.g = 0 → ∃ t, exec (.wellChangeSwitch m) s = .next t ∧ t.mem = s.mem ∧ t.objs = s.objs ∧
       t.well' m = { x with act := some x.goal, queue := [], g := 0, h := 0, phase := 2, ramp := 0 }) ∧
     (s.live = true → x.fallback = true → 16 ≤ x.onTime → ∃ t, exec (.wellFallbackReturn m) s = .next t ∧ t.mem = s.mem ∧
       t.objs = s.objs ∧ t.fld fWELLm_STATUS_SAFE_ACTIVE m = 0 ∧
       t.well' m = { x with fallback := false, onTime := 0, fadeAt := s.sampleIdx, fadeLen := s.fadeLen 10, toSafe := false }))) ∧
  (∀ (s : State) (g : Nat), s.clocked = true → g < 16 →
    (let x := s.gen g
     let starts (t : State) (k : Nat) : Prop := t.fld fWELL_GENg_CFG_PLAYING g = 1 ∧ t.fld fWELL_GENg_CFG_STEP g = k ∧ (t.gen g).p = 0 ∧
       (t.gen g).k = 0 ∧ (t.gen g).freq = s.fld fWELL_GENg_STEPk_FREQ g k
     let first (k0 k : Nat) : Prop := k0 ≤ k ∧ k < 4 ∧ s.flag fWELL_GENg_STEPk_DUR g k = true ∧
       ∀ j, k0 ≤ j → j < k → s.flag fWELL_GENg_STEPk_DUR g j = false
     let stops (t : State) : Prop := t.fld fWELL_GENg_CFG_PLAYING g = 0 ∧ (t.gen g).out = 0
     (s.paired = false → ∀ level, s.well.ball = level → s.well.level ≠ level → s.msSamples 1 ≤ s.well.ballRun →
       ∃ t, exec (.wellChime level) s = .next t ∧ t.mem = s.mem ∧ t.well.level = level ∧
         (s.flag fWELL_GENg_CFG_GATE_SRC g = true → (t.gen g).gate = level ∧ (x.gate ≠ level → (t.gen g).edge = true)) ∧
         (s.flag fWELL_GENg_CFG_GATE_SRC g = false → t.gen g = x)) ∧
     (x.gate = true → x.edge = true → ∃ t, exec (.gateRise g) s = .next t ∧ t.mem = s.mem ∧ t.objs = s.objs ∧ (t.gen g).edge = false ∧
       (s.flag fWELL_GENg_CFG_PLAYING g = true → t.regs = s.regs) ∧
       (s.flag fWELL_GENg_CFG_PLAYING g = false → ∀ k, first 0 k → starts t k)) ∧
     (x.gate = false → x.edge = true → ∃ t, exec (.gateFall g) s = .next t ∧ t.mem = s.mem ∧ t.regs = s.regs ∧ (t.gen g).edge = false ∧
       (t.gen g).rel = if s.flag fWELL_GENg_CFG_PLAYING g && x.rel.isNone then some x.k else x.rel) ∧
     (s.flag fWELL_GENg_CFG_PLAYING g = true →
       ((∃ d, x.len = some d ∧ d ≤ x.k) ∨
         (x.len = none ∧ ∃ k0, x.rel = some k0 ∧ k0 + s.msSamples (s.fld fWELL_GENg_CFG_REL g) ≤ x.k)) →
       ∃ t, exec (.genStepEnd g) s = .next t ∧ t.mem = s.mem ∧ t.objs = s.objs ∧
         (x.gate = false ∨ x.rel ≠ none → stops t) ∧
         (x.gate = true → x.rel = none → (∀ k, first (s.fld fWELL_GENg_CFG_STEP g + 1) k → starts t k) ∧
           ((∀ k, s.fld fWELL_GENg_CFG_STEP g < k → k < 4 → s.flag fWELL_GENg_STEPk_DUR g k = false) →
             (s.flag fWELL_GENg_CFG_REPEAT g = false → stops t) ∧
             (s.flag fWELL_GENg_CFG_REPEAT g = true → ∀ k, first 0 k → starts t k)))) ∧
     (s.paired = false → ∀ (v : BitVec 64),
       (∃ t, exec (.wellGenCfgWrite g none v) s = .next t ∧ t.mem = s.mem ∧ t.objs = s.objs ∧ t.well = s.well ∧
         ∀ f ∈ [fWELL_GENg_CFG_GATE, fWELL_GENg_CFG_GATE_SRC, fWELL_GENg_CFG_REPEAT, fWELL_GENg_CFG_ATT, fWELL_GENg_CFG_REL,
                fWELL_GENg_CFG_AMP], t.fld f g = f.of v.toNat) ∧
       (∀ k : Fin 4, ∃ t, exec (.wellGenCfgWrite g (some k) v) s = .next t ∧ t.mem = s.mem ∧ t.objs = s.objs ∧
         (0x80000000 < v.toNat / 2 ^ 32 → t = s) ∧
         (v.toNat / 2 ^ 32 ≤ 0x80000000 → t.fld fWELL_GENg_STEPk_FREQ g k = v.toNat / 2 ^ 32 ∧
           t.fld fWELL_GENg_STEPk_DUR g k = v.toNat / 2 ^ 16 % 2 ^ 16)))))

/-- Ports, plane addresses and the switch (R475, R477 to R481): link up starts a probe of the plane's address, link down discards the port's
queues; a written address is probed and used at the probe's end, 0 or a conflict leaves the plane without one; a bad frame is counted and
dropped, a good one is learned and forwarded in its plane to the engine, the known port, or all; old addresses leave. -/
def Obligations.NetworkPorts : Prop :=
  ∀ s : State, s.live = true →
    (∀ p, p < 4 →
      (s.flag fNET_PORTp_CFG_EN p = true → s.flag fNET_PORTp_STATUS_LINK p = false →
        ∃ t, exec (.netLinkUp p) s = .next t ∧ t.mem = s.mem ∧ t.net = s.net ∧ t.fld fNET_PORTp_STATUS_LINK p = 1 ∧
          t.fld fNET_PORTp_STATUS_LINK_CHG p = 1 ∧
          (s.flag fNET_PLANEx_CFG_IPV4 (p / 2) = true → s.addrDead (p / 2) = false → t.fld fNET_PLANEx_CFG_PROBING (p / 2) = 1)) ∧
      (s.flag fNET_PORTp_STATUS_LINK p = true →
        ∃ t, exec (.netLinkDown p) s = .next t ∧ t.mem = s.mem ∧ t.fld fNET_PORTp_STATUS_LINK p = 0 ∧
          t.fld fNET_PORTp_STATUS_LINK_CHG p = 1 ∧ t.fld fNET_PORTp_STATUS_LINK_DOWNS p = min (s.fld fNET_PORTp_STATUS_LINK_DOWNS p + 1) 65535 ∧
          (let x := s.swPort p
           let y := t.swPort p
           y.q0 = [] ∧ y.q1 = [] ∧ y.q2 = [] ∧ y.q3 = [] ∧
           (0 < x.q2.length + x.q3.length →
             t.fld fNET_PORTp_COUNT_MEDIA_DROP p = min (s.fld fNET_PORTp_COUNT_MEDIA_DROP p + (x.q2.length + x.q3.length)) 65535)))) ∧
    (∀ x, x < 2 →
      (s.paired = false → ∀ a : BitVec 32, ∃ t, exec (.ipv4Write x a) s = .next t ∧ t.mem = s.mem ∧
        t.fld fNET_PLANEx_CFG_IPV4 x = a.toNat ∧
        (a = 0 → nget 0 t.net.addr x = 0 ∧ t.fld fNET_PLANEx_CFG_PROBING x = 0) ∧
        (a ≠ 0 → t.net = s.net ∧ t.fld fNET_PLANEx_CFG_PROBING x = 1)) ∧
      (s.flag fNET_PLANEx_CFG_PROBING x = true → ∃ t, exec (.addrProbeEnd x) s = .next t ∧ t.mem = s.mem ∧
        nget 0 t.net.addr x = s.fld fNET_PLANEx_CFG_IPV4 x ∧ t.fld fNET_PLANEx_CFG_PROBING x = 0) ∧
      (s.flag fNET_PLANEx_CFG_IPV4 x = true → ∃ t, exec (.netAddrConflict x) s = .next t ∧ t.mem = s.mem ∧ nget 0 t.net.addr x = 0 ∧
        t.fld fNET_PLANEx_CFG_ADDR_CONFLICT x = 1 ∧ t.fld fNET_PLANEx_CFG_PROBING x = 0)) ∧
    (∀ f : SwFrame, f.port < 4 → f.plane = f.port / 2 → s.flag fNET_PORTp_STATUS_LINK f.port = true →
      ∃ t, exec (.switchFrame f) s = .next t ∧ t.mem = s.mem ∧ t.objs = s.objs ∧
        (f.fcsOk = false → t.net = { s.net with fwd := (0, 0) } ∧
          t.fld fNET_PORTp_COUNT_FCS_ERR f.port = min (s.fld fNET_PORTp_COUNT_FCS_ERR f.port + 1) 65535) ∧
        (f.fcsOk = true → (if f.tagged then 1522 else 1518) < f.len → t.net = { s.net with fwd := (0, 0) } ∧
          t.fld fNET_PORTp_COUNT_OVERSIZE f.port = min (s.fld fNET_PORTp_COUNT_OVERSIZE f.port + 1) 65535) ∧
        (f.fcsOk = true → f.len ≤ (if f.tagged then 1522 else 1518) → s.vlanOk f = false → t = { s with net := { s.net with fwd := (0, 0) } }) ∧
        (f.fcsOk = true → f.len ≤ (if f.tagged then 1522 else 1518) → s.vlanOk f = true →
          t.net.fwd.2 = s.swClass f ∧ bit t.net.fwd.1 f.port = false ∧
          (s.net.macs.length < 4096 → { plane := f.plane, mac := f.src, port := f.port, seen := s.tim.cnt } ∈ t.net.macs) ∧
          (f.group = 0 → s.isOwnMac f.plane f.dst = true → t.net.fwd.1 = 16) ∧
          (f.group = 0 → s.isOwnMac f.plane f.dst = false → f.dst ≠ f.src → (∀ e ∈ s.net.macs, e.plane = f.plane → e.mac ≠ f.dst) →
            ∀ p, p < 5 → bit t.net.fwd.1 p = (decide (p ≠ f.port) && (decide (p / 2 = f.plane) || decide (p = 4)))) ∧
          (∀ p, p < 4 → bit t.net.fwd.1 p = true → s.flag fNET_PORTp_STATUS_LINK p = true → s.swClass f = 2 →
            (s.serve p).q2.foldl (· + ·) 0 + f.len ≤ 131072 → (t.swPort p).q2 = (s.serve p).q2 ++ [f.len]))) ∧
    (∀ plane mac, ∃ t, exec (.macAgeOut plane mac) s = .next t ∧ t.mem = s.mem ∧ t.regs = s.regs ∧
      ∀ e, e ∈ t.net.macs ↔ e ∈ s.net.macs ∧
        ¬ (e.plane = plane ∧ e.mac = mac ∧ e.seen + s.fld fNET_SW_CTRL_AGE * s.corePerSec ≤ s.tim.cnt))

/-- Receive streams (R486 to R491, R497, R499, R500) on a unit without a partner: an enable that fails a check is REFUSED with its number,
one that passes waits for the boundary; SDP text that does not parse sets REFUSE 8; a packet that does not fit the descriptor counts as BAD,
one outside the window as LATE or EARLY, and any other fills the positions that are still empty and keeps its leg alive. Transmit streams
(R492 to R499) on a unit without a partner: an enable is REFUSED or waits for the boundary, and a disable waits; a packet whose last sample
has reached the egress is stamped with its media time and sent once on each plane that the unit sends. -/
def Obligations.Streams : Prop :=
  (∀ (s : State) (i : Nat), s.live = true → i < 1024 →
    (let x := s.rxS i
     (s.paired = false → ∃ t, exec (.streamEnable false i) s = .next t ∧ t.mem = s.mem ∧
       (s.flag fSTRM_RXs_EN i = true → t = s) ∧
       (s.flag fSTRM_RXs_EN i = false → s.rxCheck i ≠ 0 → t.fld fSTRM_RXs_STATUS_STATE i = 4 ∧
         t.fld fSTRM_RXs_STATUS_REFUSE i = s.rxCheck i ∧ t.fld fSTRM_RXs_EN i = 0 ∧ t.net = s.net) ∧
       (s.flag fSTRM_RXs_EN i = false → s.rxCheck i = 0 → t.fld fSTRM_RXs_EN i = 1 ∧ (t.rxS i) = { x with want := some true })) ∧
     (s.paired = false → ∃ t, exec (.streamDisable false i) s = .next t ∧ t.mem = s.mem ∧
       (s.flag fSTRM_RXs_EN i = false → t = s) ∧
       (s.flag fSTRM_RXs_EN i = true → t.fld fSTRM_RXs_EN i = 0 ∧ (t.rxS i) = { x with want := some false })) ∧
     (∀ text, ∃ t, exec (.sdpWrite i text) s = .next t ∧ t.mem = s.mem ∧
       (s.flag fSTRM_RXs_EN i = true → t = s) ∧
       (s.flag fSTRM_RXs_EN i = false → (sdpParse text).2 = [] → t.fld fSTRM_RXs_STATUS_REFUSE i = 8 ∧ t.net = s.net ∧ t.objs = s.objs ∧
         ∀ f ∈ Reg.STRM_RXs_W0.layout, t.fld f i = s.fld f i) ∧
       (∀ m, s.flag fSTRM_RXs_EN i = false → (sdpParse text).2 = [m] → sdpOk m = true → utf8Ok 0 text = true →
         t.fld fSTRM_RXs_FMT i = m.fmt.getD 1 % 4 ∧ t.fld fSTRM_RXs_PTIME i = m.ptime.getD 3 % 8 ∧
         t.fld fSTRM_RXs_CHANS i = m.chans.getD 1 % 128 ∧ t.fld fSTRM_RXs_PT i = m.pt.getD 96 % 128 ∧
         t.fld fSTRM_RXs_DST_A i = m.dst.getD 0 % 2 ^ 32 ∧ t.fld fSTRM_RXs_PORT_A i = m.port.getD 0 % 2 ^ 16 ∧
         t.fld fSTRM_RXs_PLANES i = 1)) ∧
     (∀ p : RtpPacket, p.plane < 2 → s.rxOn = [i] → p.dst = (if p.plane = 0 then s.fld fSTRM_RXs_DST_A i else s.fld fSTRM_RXs_DST_B i) →
       p.port = (if p.plane = 0 then s.fld fSTRM_RXs_PORT_A i else s.fld fSTRM_RXs_PORT_B i) →
       s.fld fSTRM_RXs_STATUS_STATE i = 2 ∨ s.fld fSTRM_RXs_STATUS_STATE i = 3 → s.flag fSTRM_RXs_CHANS i = true →
       s.flag fSTRM_RXs_PLANES i = true →
       (let srcF := if p.plane = 0 then s.fld fSTRM_RXs_SRC_A i else s.fld fSTRM_RXs_SRC_B i
        let ok := bit (s.fld fSTRM_RXs_PLANES i) p.plane && (decide (srcF = 0) || decide (srcF = p.src)) &&
          decide (p.pt = s.fld fSTRM_RXs_PT i) && decide (p.payload.length = s.rxBytes i)
        let u := s.nearest (unsx 32 ((p.stamp : Int) - s.fld fSTRM_RXs_MCLK_OFS i))
        let ch := s.fld fSTRM_RXs_CHANS i
        let w := fmtBytes (s.fld fSTRM_RXs_FMT i)
        let late := match x.read with | none => false | some r => decide (u < r)
        let early := match x.read with | none => false | some r => decide (r + s.rxWindow i < u + s.rxP i - 1)
        ∃ t, exec (.rtpPacketRx p) s = .next t ∧ t.mem = s.mem ∧ t.objs = s.objs ∧
          (ok = false → t.net = s.net ∧ t.fld fSTRM_RXs_COUNT_BAD i = min (s.fld fSTRM_RXs_COUNT_BAD i + 1) 65535) ∧
          (ok = true → t.fld (legFd p.plane) i ≠ 0 ∧ t.fld fSTRM_RXs_STATUS_STATE i = 3 ∧
            (if p.plane = 0 then (t.rxS i).lastA else (t.rxS i).lastB) = s.sampleIdx + 1) ∧
          (ok = true → late = true → (t.rxS i).buf = x.buf ∧ t.fld fSTRM_RXs_COUNT_LATE i = min (s.fld fSTRM_RXs_COUNT_LATE i + 1) 65535) ∧
          (ok = true → late = false → early = true → (t.rxS i).buf = x.buf ∧
            t.fld fSTRM_RXs_COUNT_EARLY i = min (s.fld fSTRM_RXs_COUNT_EARLY i + 1) 65535) ∧
          (ok = true → late = false → early = false → s.rxP i < 2 ^ 64 → ∀ k c, k < s.rxP i → c < ch →
            nget 0 (t.rxS i).buf (posKey c (u + k)) =
              (if x.buf.any (fun e => e.1 = posKey c (u + k)) then nget 0 x.buf (posKey c (u + k))
               else ofPayload (s.fld fSTRM_RXs_FMT i) (beWord ((p.payload.drop ((k * ch + c) * w)).take w)))))) ∧
     (∀ plane, plane < 2 → s.flag (legFd plane) i = true →
       (if plane = 0 then x.lastA else x.lastB) + 10 * s.rxP i ≤ s.sampleIdx + 1 →
       ∃ t, exec (.rxLegTimeout i plane) s = .next t ∧ t.mem = s.mem ∧ t.net = s.net ∧ t.fld (legFd plane) i = 0) ∧
     (s.fld fSTRM_RXs_STATUS_STATE i = 3 → max x.lastA x.lastB + s.fadeLen 100 ≤ s.sampleIdx + 1 →
       ∃ t, exec (.rxIdleTimeout i) s = .next t ∧ t.mem = s.mem ∧ t.net = s.net ∧ t.fld fSTRM_RXs_STATUS_STATE i = 2))) ∧
  (∀ (s : State) (i : Nat), s.live = true → i < 1024 →
    (let x := s.txS i
     let p := s.txP i
     (s.paired = false → ∃ t, exec (.streamEnable true i) s = .next t ∧ t.mem = s.mem ∧
       (s.flag fSTRM_TXs_EN i = true → t = s) ∧
       (s.flag fSTRM_TXs_EN i = false → s.txCheck i ≠ 0 → t.fld fSTRM_TXs_STATUS_STATE i = 4 ∧
         t.fld fSTRM_TXs_STATUS_REFUSE i = s.txCheck i ∧ t.fld fSTRM_TXs_EN i = 0 ∧ t.net = s.net) ∧
       (s.flag fSTRM_TXs_EN i = false → s.txCheck i = 0 → t.fld fSTRM_TXs_EN i = 1 ∧ (t.txS i) = { x with want := some true })) ∧
     (s.paired = false → ∃ t, exec (.streamDisable true i) s = .next t ∧ t.mem = s.mem ∧
       (s.flag fSTRM_TXs_EN i = false → t = s) ∧
       (s.flag fSTRM_TXs_EN i = true → t.fld fSTRM_TXs_EN i = 0 ∧ (t.txS i) = { x with want := some false })) ∧
     (s.fld fSTRM_TXs_STATUS_STATE i = 2 → x.stopAt = none → s.flag fSTRM_TXs_CHANS i = true → x.next + p + s.sys.blk + 3 ≤ s.sampleIdx →
       (let planes := [0, 1].filter (fun q => bit (s.fld fSTRM_TXs_PLANES i) q && decide (s.mediaAddr q ≠ 0) && !s.addrDead q && s.sendsPlane q x.next)
        ∃ t, exec (.txPacketClose i) s = .next t ∧ t.mem = s.mem ∧ t.objs = s.objs ∧ (t.txS i).next = x.next + p ∧
          (∀ e ∈ (t.txS i).buf, x.next + p ≤ e.1) ∧
          t.fld fSTRM_TXs_STATUS_PKTS i = (s.fld fSTRM_TXs_STATUS_PKTS i + planes.length) % 2 ^ 32 ∧
          t.net.out.map (fun k => (k.stream, k.plane)) = planes.map (fun q => (i, q)) ∧
          ∀ k ∈ t.net.out, k.seq = x.next / max 1 p % 2 ^ 16 ∧ k.stamp = unsx 32 ((x.next : Int) + s.mapOfs) ∧
            k.ssrc = s.fld fSTRM_TXs_SSRC i ∧ k.pt = s.fld fSTRM_TXs_PT i ∧ k.payload.length = s.txBytes i))))

/-- Discovery (R502, R503, R638 to R640): announcements of services and streams, announced streams heard, replaced, deleted and aged out,
and the roster: a peer heard by mDNS or answering a keep-alive is listed with the time, one not heard for ROSTER_AGE is removed or, an
amplifier, marked STALE, and a disagreement that has ended clears its flag. -/
def Obligations.Discovery : Prop :=
  ∀ s : State, s.live = true →
    (s.objNum 0x3300 1 0 = 1 → nget 0 s.net.addr 0 ≠ 0 ∨ nget 0 s.net.addr 1 ≠ 0 →
      ∃ t, exec .mdnsAnnounce s = .next t ∧ t = { s with net := { s.net with mdns := s.mdnsTxt } }) ∧
    (∀ i, s.objNum 0x3300 2 0 = 1 → s.flag fSTRM_TXs_EN i = true →
      (s.txS i).sapAt = 0 ∨ (s.txS i).sapAt + s.objNum 0x3300 3 0 * s.corePerSec ≤ s.tim.cnt + 1 →
      ∃ t, exec (.sapAnnounce i) s = .next t ∧ t.mem = s.mem ∧ t.regs = s.regs ∧ t.net.sapOut = [(i, false, s.txSdp i)] ∧
        (t.txS i).sapAt = s.tim.cnt + 1) ∧
    (∀ a : SapMsg, ∃ t, exec (.sapReceive a) s = .next t ∧ t.mem = s.mem ∧ t.regs = s.regs ∧
      (a.delete = true → ∀ e, e ∈ t.net.sap ↔ e ∈ s.net.sap ∧ ¬ (e.src = a.src ∧ e.hash = a.hash)) ∧
      (a.delete = false → (∀ e ∈ s.net.sap, ¬ (e.src = a.src ∧ e.hash = a.hash)) → s.net.sap.length < 1024 →
        t.net.sap = s.net.sap ++ [{ src := a.src, hash := a.hash, text := a.sdp, heard := s.tim.cnt, interval := 0 }]) ∧
      (a.delete = false → (∃ e ∈ s.net.sap, e.src = a.src ∧ e.hash = a.hash) → t.net.sap.length = s.net.sap.length ∧
        ∀ e ∈ t.net.sap, e.src = a.src → e.hash = a.hash → e.text = a.sdp ∧ e.heard = s.tim.cnt)) ∧
    (∀ src hash, ∃ t, exec (.sapAgeOut src hash) s = .next t ∧ t.mem = s.mem ∧ t.regs = s.regs ∧
      ∀ e, e ∈ t.net.sap ↔ e ∈ s.net.sap ∧ ¬ (e.src = src ∧ e.hash = hash ∧
        e.heard + (if e.interval = 0 then 3600 * s.corePerSec else 10 * e.interval) ≤ s.tim.cnt)) ∧
    (s.sys.fwRunning = true →
      (∀ (plane addr : Nat) (info : PeerInfo), plane < 2 → s.pop.roster.length < 256 → (∀ p ∈ s.pop.roster, ¬ (p.kind = 0 ∧ p.node = info.node)) →
        ∃ t, exec (.mdnsReceive plane addr info) s = .next t ∧ t.mem = s.mem ∧ t.pop.roster.length = s.pop.roster.length + 1 ∧
          ∃ p ∈ t.pop.roster, p.kind = 0 ∧ p.node = info.node ∧ p.heard = s.tim.cnt ∧ (if plane = 0 then p.addrA else p.addrB) = addr ∧
            recNum p.record 0 4 = info.node % 2 ^ 32 ∧ recNum p.record 12 8 = info.digest % 2 ^ 64) ∧
      (∀ (e : Nat) (r : List Byte), e < 16 → ampUsed (s.objBytes 0x1200 1 e) = true → r.length = 32 →
        (let node := recNum (s.objBytes 0x1200 1 e) 0 4
         (∃ p ∈ s.pop.roster, p.kind = 0 ∧ p.node = node ∧ (p.addrA ≠ 0 ∨ p.addrB ≠ 0)) →
         ∃ t, exec (.peerKeepalive e (some r)) s = .next t ∧ t.mem = s.mem ∧ t.pop.roster.length = s.pop.roster.length ∧
           ∀ p ∈ t.pop.roster, p.kind = 0 → p.node = node → p.record = r ∧ p.heard = s.tim.cnt ∧ bit p.flags 5 = true)) ∧
      (∀ kind node, ∃ t, exec (.rosterAgeOut kind node) s = .next t ∧ t.mem = s.mem ∧ t.regs = s.regs ∧
        (kind ≠ 2 → ∀ p, p ∈ t.pop.roster ↔ p ∈ s.pop.roster ∧ ¬ (p.kind = kind ∧ p.node = node ∧ s.objNum 0x1100 2 0 < s.peerAge p)) ∧
        (kind = 2 → t.pop.roster.length = s.pop.roster.length ∧
          ∀ p ∈ s.pop.roster, p.kind = 2 → p.node = node → s.objNum 0x1100 2 0 < s.peerAge p →
            ∃ q ∈ t.pop.roster, q = { p with flags := q.flags } ∧ bit q.flags 4 = true)) ∧
      (∀ kind node flag, flag < 4 → ∃ t, exec (.disagreementClear kind node flag) s = .next t ∧ t.mem = s.mem ∧ t.regs = s.regs ∧
        ∀ p ∈ s.pop.roster, ∃ q ∈ t.pop.roster, q = { p with flags := q.flags } ∧
          (p.kind = kind → p.node = node → s.disagrees p flag = false → bit q.flags flag = false) ∧
          ∀ k, k ≠ flag → bit q.flags k = bit p.flags k)) ∧
    (∀ e, exec (.peerKeepalive e none) s = .next s)

/-- The host SPI port (R71, R72, R635): the status byte, a message that waits for firmware or finds no place, one that an idle port serves
at once, the oldest response, image bytes in working RAM, and an image that fails its checks or starts. I²C supervision and the event routes
(R637, R652 to R654): a write with a wrong SEL, count or PEC is NACKed and does nothing, a write of a read-only register is acknowledged and
does nothing, one of SYS_RESET_CAUSE clears the flags written 1, and a read returns the register with its PEC; an overflow is reported with
event 5 and clears the count; the recorder's records go to their places. -/
def Obligations.HostPorts : Prop :=
  (∀ s : State, s.up = true → s.sys.engReset = false →
    (∃ t b, exec .spiStatus s = .next t ∧ t = { s with pop := { s.pop with spiReply := [b] } } ∧
      b.getLsbD 0 = !s.pop.spiOut.isEmpty ∧ b.getLsbD 1 = decide (s.pop.spiIn.length < 4) ∧ b.getLsbD 2 = s.bootLoad ∧
      b.getLsbD 3 = s.pop.sessions.any (fun x => x.spi)) ∧
    (∀ (len : Nat) (msg : List Byte), s.live = true →
      (1472 < len ∨ msg.length < len → exec (.spiSend len msg) s = .next s) ∧
      (len ≤ 1472 → len ≤ msg.length → s.sys.fwRunning = false → ∃ t, exec (.spiSend len msg) s = .next t ∧
        t = { s with pop := if s.pop.spiIn.length < 4 then { s.pop with spiIn := s.pop.spiIn ++ [msg.take len] }
                            else { s.pop with spiBusy := s.pop.spiBusy ++ [(msg.take len).take 24] } }) ∧
      (len ≤ 1472 → len ≤ msg.length → s.sys.fwRunning = true → s.pop.spiIn = [] → s.pop.spiBusy = [] → s.pop.spiOut = [] → s.pop.waits = [] →
        ∃ t, exec (.spiSend len msg) s = .next t ∧ t = s.popRx .spi (msg.take len))) ∧
    (s.pop.spiOut = [] → ∀ early, ∃ t, exec (.spiReceive early) s = .next t ∧ t = { s with pop := { s.pop with spiReply := [0, 0] } }) ∧
    (∀ m r, s.pop.spiOut = m :: r →
      (∃ t, exec (.spiReceive true) s = .next t ∧ t = { s with pop := { s.pop with spiReply := leBytes 2 m.length ++ m } }) ∧
      (s.sys.fwRunning = false → ∃ t, exec (.spiReceive false) s = .next t ∧
        t = { s with pop := { s.pop with spiReply := leBytes 2 m.length ++ m, spiOut := r } })) ∧
    (s.bootLoad = true → ∀ (off : Nat) (data : List Byte), off + data.length ≤ 0x100000 →
      ∃ t, exec (.spiImage off data) s = .next t ∧ t.regs = s.regs ∧ t.objs = s.objs ∧
        (∀ i, i < data.length → memGet t.mem (0x08000000 + off + i) = data.getD i 0) ∧
        (∀ a, a < 0x08000000 + off ∨ 0x08000000 + off + data.length ≤ a → memGet t.mem a = memGet s.mem a)) ∧
    (s.bootLoad = true → s.sys.fwRunning = false → ∀ (len : Nat) (f : FwSlot), len ≤ 0x100000 →
      ∃ t, exec (.spiImageDone len f) s = .next t ∧ (s.imageOk f = false → t = s) ∧
        (s.imageOk f = true → t.sys.fwRunning = true ∧ t.sys.image = f ∧
          ((∀ c ∈ s.flash.cfgs, c.valid = false) → t.sys.cfg = none ∧
            t.fld fSYS_BOOT_STATUS_SEC_VERSION = f.secVersion % 2 ^ fSYS_BOOT_STATUS_SEC_VERSION.width)))) ∧
  ((∀ (s : State) (sel : BitVec 8) (data : List Byte) (p : BitVec 8), s.up = true →
    (4 < sel.toNat ∨ data.length ≠ 4 ∨ p.toNat ≠ pec (0x78 :: sel :: data) → ∃ t, exec (.i2cWrite sel data p) s = .next t ∧
      t = { s with pop := { s.pop with lastI2c := [], i2cNack := true } }) ∧
    (data.length = 4 → p.toNat = pec (0x78 :: sel :: data) →
      (sel = 3 ∨ sel = 4 → ∃ t, exec (.i2cWrite sel data p) s = .next t ∧ t = { s with pop := { s.pop with lastI2c := [], i2cNack := false } }) ∧
      (sel = 2 → ∃ t, exec (.i2cWrite sel data p) s = .next t ∧ t.pop.i2cNack = false ∧ t.mem = s.mem ∧
        (let v := ofLeBytes data
         ∀ f ∈ Reg.SYS_RESET_CAUSE.layout, f.acc = .w1c → t.fld f = (s.fld f ^^^ (s.fld f &&& f.of v)) % 2 ^ f.width))) ∧
    (4 < sel.toNat → ∃ t, exec (.i2cRead sel) s = .next t ∧ t = { s with pop := { s.pop with lastI2c := [], i2cNack := true } }) ∧
    (∀ r, i2cReg sel.toNat = some r → ∃ t, exec (.i2cRead sel) s = .next t ∧ t.regs = s.regs ∧ t.mem = s.mem ∧ t.pop.i2cNack = false ∧
      (let d := leBytes 4 (if sel = 1 then 0 else s.regVal r 0 0)
       t.pop.lastI2c = d ++ [BitVec.ofNat 8 (pec ([0x78, sel, 0x79] ++ d))]))) ∧
  (∀ (s : State) (route : Nat), s.eventsOn = true → route < 3 → nget 0 s.evt.dropped route ≠ 0 → s.evtSpace route = true →
    nget 0 s.evt.ovfAt route = 0 ∨ nget 0 s.evt.ovfAt route - 1 + s.corePerSec ≤ s.tim.cnt →
    ∃ t, exec (.evtOverflow route) s = .next t ∧ t.mem = s.mem ∧ nget 0 t.evt.dropped route = 0 ∧
      nget 0 t.evt.ovfAt route = s.tim.cnt + 1 ∧
      t.fld fEVT_CFGe_COUNT 5 = min (s.fld fEVT_CFGe_COUNT 5 + 1) (2 ^ fEVT_CFGe_COUNT.width - 1)) ∧
  (∀ (s : State) (base cap : Nat) (r : EvRec), s.live = true → s.fld fDCIS_STATUS_STATE = 2 → s.recRegion = some (base, cap) → cap ≠ 0 →
    s.evt.recq = [r] → s.evt.sinceHdr < 1023 →
    ∃ t, exec .recorderWrite s = .next t ∧ t.regs = s.regs ∧ t.evt.recq = [] ∧
      (let a0 := base + 64 + 48 * (r.seq % cap)
       nget none t.evt.store (r.seq % cap) = some r ∧ (∀ i, i < 48 → memGet t.mem (a0 + i) = (recBytes r).getD i 0) ∧
       (∀ a, a < a0 ∨ a0 + 48 ≤ a → memGet t.mem a = memGet s.mem a))))

/-- New requests of a network session on a unit that runs alone (R336, R355, R617 to R624, R627): an empty body is MALFORMED at its end; a
READ of a readable scalar returns its type and value; a WRITE or STAGE whose checks fail changes nothing, and one whose checks pass stores,
queues or stages its value; an EXEC does the object's operation; SUBSCRIBE and an atomic BATCH are entered; a message with a wrong MAC only
counts. TOTAL of the READ is left open (log entry 60). -/
def Obligations.PopRequests : Prop :=
  ∀ (s : State) (x : Session) (a p req fl : Nat) (b : List Byte), PopReady s x req b → fl < 2 ^ 16 →
    (let src := PopFrom.net a p
     let u := (s.serving a p x req).2
     let o := objAt b
     let same (t : State) : Prop := t.regs = s.regs ∧ t.mem = s.mem ∧ t.pump = s.pump
     (b = [] → ∀ e ∈ [(Instr.popRead, 1), (.popWrite, 2), (.popStage, 3), (.popExec, 4), (.popSubscribe, 5), (.popBatch, 7)],
       ∃ t, exec (e.1 src (popReq e.2 x req fl b)) s = .next t ∧ Answers s t a p x req e.2 13 24 [] ∧ t.objs = s.objs ∧ t.scene = s.scene ∧
         same t) ∧
     (∀ r n, b.length = 16 → popNum b 8 2 = 1 → popNum b 10 1 = 0 → popNum b 11 1 = 0 → u.objRow o.idx o.sub = some r → r.acc ≠ .wo →
       r.acc ≠ .exe → r.rr ≤ x.role → o.aflags = 0 → r.len = 0 → u.objRead r o.idx o.sub o.elem = some (.num n) →
       (encVal r.ty (.num n)).length ≤ 1424 →
       ∃ t total, exec (.popRead src (popReq 1 x req fl b)) s = .next t ∧ t.objs = s.objs ∧ t.scene = s.scene ∧ same t ∧
         Answers s t a p x req 1 0 0 (leBytes 1 r.ty.code ++ [0] ++ leBytes 2 1 ++ leBytes 4 total ++ encVal r.ty (.num n))) ∧
     (∀ e, (u.putCheck x.role b 24 false = .error e →
         ∃ t, exec (.popWrite src (popReq 2 x req fl b)) s = .next t ∧ t.objs = s.objs ∧ t.scene = s.scene ∧ same t) ∧
       (u.putCheck x.role b 24 true = .error e →
         ∃ t, exec (.popStage src (popReq 3 x req fl b)) s = .next t ∧ t.objs = s.objs ∧ t.scene = s.scene ∧ same t)) ∧
     (∀ w k n, u.putCheck x.role b 24 false = .ok w → w.row.acc = .rw → w.row.src = .own → w.vals = [(k, .num n)] →
       ∃ t, exec (.popWrite src (popReq 2 x req fl b)) s = .next t ∧ Answers s t a p x req 2 0 0 [] ∧ same t ∧
         t.objs = (u.setObj w.at'.idx w.at'.sub k (.num n)).objs) ∧
     (∀ w k v, u.putCheck x.role b 24 false = .ok w → w.row.acc = .stg → w.vals = [(k, v)] →
       (let c : Change := { key := objKey w.at'.idx w.at'.sub k, val := v, time := w.time, law := w.law }
        ∃ t, exec (.popWrite src (popReq 2 x req fl b)) s = .next t ∧ t.objs = s.objs ∧ t.pop.sent = s.pop.sent ∧ same t ∧
          t.scene = { s.scene with writes := s.scene.writes.filter (fun y => y.key != c.key) ++ [c] } ∧
          t.pop.waits = s.pop.waits ++ [{ blk := s.blkIndex + 1, rseq := 0, dst := src, session := x.num, req := req
                                          msg := popMake 130 x.num req 0 0 0 [] (some x.key) }])) ∧
     (∀ w k v, u.putCheck x.role b 24 true = .ok w → w.vals = [(k, v)] → s.scene.press = none → s.scene.vat = [] → 0 < s.lc →
       (let c := objKey w.at'.idx w.at'.sub k
        ∃ t, exec (.popStage src (popReq 3 x req fl b)) s = .next t ∧ Answers s t a p x req 3 0 0 [] ∧ t.objs = s.objs ∧ same t ∧
          t.scene.vat = [(c, { val := v, time := w.time, law := w.law, session := x.num })])) ∧
     (∀ r v, 12 ≤ b.length → popNum b 9 3 = 0 → u.popObj x.role o 24 (fun r => r.acc = .exe) true = .ok r → exeArg r.ty b 24 = .ok v →
       (let q := u.exeDo o.idx o.sub v false
        ∃ t, exec (.popExec src (popReq 4 x req fl b)) s = .next t ∧ t.objs = q.2.objs ∧ t.regs = q.2.regs ∧ t.mem = q.2.mem ∧
          t.scene = q.2.scene ∧ t.tdm = q.2.tdm ∧ t.pump = q.2.pump ∧ t.sys = q.2.sys)) ∧
     (b.length = 16 → popNum b 8 1 = 1 → popNum b 9 1 = 0 → popNum b 15 1 = 0 → x.subs.length < 256 →
       u.pop.sessions.foldl (fun n y => n + y.subs.length) 0 < 4096 →
       ∃ t h y k, exec (.popSubscribe src (popReq 5 x req fl b)) s = .next t ∧ Answers s t a p x req 5 0 h [] ∧ t.objs = s.objs ∧
         t.scene = s.scene ∧ same t ∧ t.sess x.num = some y ∧ y.subs = x.subs ++ [k] ∧ k.handle = h ∧ 0 < h ∧ (∀ j ∈ x.subs, j.handle ≠ h) ∧
         k.kind = 1 ∧ k.firstEv = popNum b 12 1 ∧ k.lastEv = popNum b 13 1 ∧ k.minPrio = popNum b 14 1) ∧
     (∀ l, 4 ≤ b.length → batchSubs b.length 28 (b.drop 4) = .ok l → (∀ q ∈ l, q.2.sty = 2 ∨ q.2.sty = 3) → bit fl 1 = true →
       bit fl 0 = false → popNum b 2 2 = 0 → x.batch = none →
       ∃ t, exec (.popBatch src (popReq 7 x req fl b)) s = .next t ∧ t.objs = s.objs ∧ t.scene = s.scene ∧ same t ∧ t.pop.sent = s.pop.sent ∧
         t.pop.jobs = s.pop.jobs ++ [{ session := x.num, req := req, dst := src, subs := l.map (fun q => q.2) }]) ∧
     (∀ m, popLenOk false m = true → popNum m 1 1 = 1 → popNum m 4 8 = x.num →
       m.drop (24 + popNum m 2 2) ≠ mac16 x.key (m.take (24 + popNum m 2 2)) →
       exec (.popRead src m) s = .next (s.setSess { x with badMac := min (x.badMac + 1) (2 ^ 32 - 1) })))

/-- Sessions on a unit that runs alone (R623, R624, R626 to R629): OPEN for a provisioned role from an address that is not blocked starts a
handshake and sends CHALLENGE; a right proof opens the session with its key and sends ACCEPT, a wrong one ends the handshake; CLOSE, the
EXEC and the idle time end a session; the other times end a handshake or an open batch; NOTIFY_SEND sends the oldest item. -/
def Obligations.PopSessions : Prop :=
  ∀ s : State, s.live = true → s.sys.fwRunning = true → s.role = 0 →
    (∀ (a p role node req : Nat) (nonce key : List Byte), role < 4 → nonce.length = 16 → req < 2 ^ 32 →
      (nget {} s.pop.fails a).blocked ≤ s.tim.cnt → s.pop.shakes.length < 8 → (s.pop.sessions.filter (fun x => !x.spi)).length < 32 →
      s.roleKey role = some key →
      ∃ t k, exec (.popOpen (.net a p) (popMake 0x10 0 req 0 0 0 (leBytes 1 role ++ [0, 0, 0] ++ leBytes 4 node ++ nonce) none)) s = .next t ∧
        t.regs = s.regs ∧ t.mem = s.mem ∧ t.objs = s.objs ∧ t.pop.sessions = s.pop.sessions ∧ t.pop.shakes = s.pop.shakes ++ [k] ∧
        k.session = s.pop.high * 2 ^ 32 + s.pop.nextLow ∧ k.role = role ∧ k.addr = a ∧ k.nonceC = nonce ∧ k.nonceE.length = 16 ∧
        (let body := k.nonceE ++ leBytes 4 (s.objNum 0x1000 1 0) ++ [0, 0, 0, 0]
         t.pop.sent = s.pop.sent ++ [{ dst := .net a p, msg := popMake 0x11 k.session req 0 0 0 body none }])) ∧
    (∀ (a p req : Nat) (k : Handshake) (key : List Byte), k.session < 2 ^ 64 → req < 2 ^ 32 → s.roleKey k.role = some key →
      s.pop.shakes.find? (fun h => h.session = k.session && h.addr = a) = some k →
      (∀ m, popLenOk false m = true → popNum m 0 2 = 0x1201 → popNum m 4 8 = k.session →
        ∃ t, exec (.popProof (.net a p) m) s = .next t ∧ t.mem = s.mem ∧ t.objs = s.objs ∧
          t.pop.shakes = s.pop.shakes.filter (fun h => h.session != k.session) ∧
          (popBody m ≠ mac16 key (proofText 0x63 k) → t.pop.sessions = s.pop.sessions) ∧
          (popBody m = mac16 key (proofText 0x63 k) → t.pop.sessions = s.pop.sessions ++
            [{ num := k.session, role := k.role, addr := a, port := p, key := hmac256 key (proofText 0x6B k), opened := s.tim.cnt
               lastMsg := s.tim.cnt }]))) ∧
    (∀ (a p req fl : Nat) (x : Session), PopReady s x req [] → fl < 2 ^ 16 →
      ∃ t, exec (.popClose (.net a p) (popReq 0x14 x req fl [])) s = .next t ∧ t.mem = s.mem ∧ t.objs = s.objs ∧ t.scene = s.scene ∧
        Answers s t a p x req 0x14 0 0 [] ∧ t.pop.sessions = s.pop.sessions.filter (fun y => y.num != x.num)) ∧
    (∀ n, ∀ c ∈ [Instr.sessionCloseExec n, .sessionIdleTimeout n], ∃ t, exec c s = .next t ∧ t.mem = s.mem ∧ t.objs = s.objs ∧
      t.pop = { s.pop with sessions := s.pop.sessions.filter (fun y => y.num != n) }) ∧
    (∀ n, ∃ t, exec (.proofTimeout n) s = .next t ∧ t = { s with pop := { s.pop with shakes := s.pop.shakes.filter (fun k => k.session != n) } }) ∧
    (∀ x, s.sess x.num = some x → ∃ t, exec (.batchTimeout x.num) s = .next t ∧ t = s.setSess { x with batch := none }) ∧
    (∀ x h it rest, s.sess x.num = some x → x.spi = false → x.notify = (h, it) :: rest →
      (let n := (x.nseq + 1) % 2 ^ 32
       let flags := (if x.resync then 4 else 0) + (if x.lost then 8 else 0)
       let body := [1, 0, 0, 0] ++ leBytes 2 h ++ leBytes 2 it.length ++ it
       ∃ t, exec (.notifySend x.num) s = .next t ∧ t.regs = s.regs ∧ t.mem = s.mem ∧ t.objs = s.objs ∧
         t.sess x.num = some { x with notify := rest, nseq := n, lost := false, resync := false } ∧
         t.pop.sent = s.pop.sent ++ [{ dst := .net x.addr x.port, msg := popMake 6 x.num n flags 0 0 body (some x.key) }]))

/-- Heartbeat, CLAIM, the contest with its witness, and the Siphon's lanes (R534 to R538, R540, R542, R547 to R549, R552, R569): what each
event does to the line, the role and the lane that it names. -/
def Obligations.PairClaims : Prop :=
  ∀ s : State, PairOn s →
    (s.pair.hbRun = true →
      ∃ t, exec .hbToggle s = .next t ∧ t = { s with pair := { s.pair with hbTx := !s.pair.hbTx, hbAt := s.tim.cnt } }) ∧
    (∃ t, exec .hbRxEdge s = .next t ∧ t.mem = s.mem ∧ t.role = s.role ∧ t.fld fSIPH_STATUS_HB_OK = 1 ∧ t.pair.hbRx = s.tim.cnt + 1 ∧
      t.pair.tmo = false) ∧
    (s.siphUp = true → ∃ t, exec .hbFault s = .next t ∧ t.mem = s.mem ∧ t.role = s.role ∧ t.fld fSIPH_STATUS_HB_OK = 0 ∧
      t.fld fSIPH_STATUS_HB_FAULT = 1 ∧ t.claims = s.claims) ∧
    (∃ t, exec .partnerLost s = .next t ∧ t.mem = s.mem ∧ t.fld fSIPH_STATUS_HB_OK = 0 ∧ t.fld fSIPH_STATUS_PARTNER_SEEN = 0 ∧
      t.claims = s.claims ∧ t.pair.partner = 15 ∧ t.pair.witness = 15 ∧
      t.role = (if s.role = 1 ∨ s.role = 5 then 0
                else if s.role = 2 ∨ (s.role = 3 ∧ s.pair.gone = false) then (if s.claims = true then 0 else 4) else s.role)) ∧
    (s.claims = true → ∃ t, exec .claimHoldRelease s = .next t ∧ t.mem = s.mem ∧ t.claims = false ∧ t.pair.hbRun = false ∧
      t.role = s.role ∧ t.fld fSIPH_STATUS_CLAIM_LINE = if s.pair.partnerClaim = true then 0 else 1) ∧
    (∀ high w,
      (let may := s.claims = false ∧ s.pair.hbRun = true ∧ 7 ≤ s.sys.safeStep ∧ 0 < high ∧
         ((s.role = 3 ∧ s.pair.gone = true) ∨
          ((s.role = 0 ∨ s.role = 4) ∧ (s.fld fSIPH_STATUS_RANK = 0 ∨
            (s.corePerSec / 20000 ≤ high ∧ (w = true ∨ s.pair.witness = 1 ∨ s.pair.tmo = true)))))
       (may → ∃ t, exec (.claimTake high w) s = .next t ∧ t.mem = s.mem ∧ t.claims = true ∧ t.fld fSIPH_STATUS_CLAIM_LINE = 0 ∧ t.role = 0 ∧
         t.pair.fromA = s.blkIndex + 1) ∧
       (¬ may → exec (.claimTake high w) s = .next s))) ∧
    (s.role = 4 → s.claims = false →
      (∀ w, ∃ t, exec (.contestWaitEnd false w) s = .next t ∧ t.mem = s.mem ∧ t.claims = false ∧ t.role = 5 ∧ t.fld fSIPH_STATUS_CAUSE = 10) ∧
      (∀ w, s.fld fSIPH_STATUS_RANK = 1 → s.pair.witness = 15 → s.pair.tmo = false → s.pair.asked = false → s.objNum 0x8010 5 0 ≠ 0xFFFFFFFF →
        ∃ t, exec (.contestWaitEnd true w) s = .next t ∧ t.mem = s.mem ∧
          (w = false → t.role = 4 ∧ t.claims = false ∧ t.pair.asked = true ∧ t.pair.query = some s.pair.node) ∧
          (w = true → s.pair.hbRun = true → 7 ≤ s.sys.safeStep → t.claims = true ∧ t.role = 0)) ∧
      (s.pair.asked = true →
        (∃ t, exec (.witnessReply 0) s = .next t ∧ t.mem = s.mem ∧ t.claims = false ∧ t.role = 5 ∧ t.fld fSIPH_STATUS_CAUSE = 10) ∧
        (s.fld fSIPH_STATUS_CLAIM_LINE = 1 → s.pair.hbRun = true → 7 ≤ s.sys.safeStep →
          ∃ t, exec (.witnessReply 1) s = .next t ∧ t.mem = s.mem ∧ t.claims = true ∧ t.role = 0) ∧
        (∀ r, 2 ≤ r → ∃ t, exec (.witnessReply r) s = .next t ∧ t = { s with pair := { s.pair with witness := 2, query := none } }))) ∧
    (s.role = 0 ∨ s.role = 4 → s.fld fSIPH_STATUS_HB_OK = 0 →
      ∃ t, exec .contestTmo s = .next t ∧ t = { s with pair := { s.pair with tmo := true } }) ∧
    (s.live = true →
      (∀ n, ∃ t, exec (.witnessQuery n) s = .next t ∧ t.mem = s.mem ∧ t.regs = s.regs ∧
        ((∃ p ∈ s.pop.roster, p.node = n) → t = { s with pair := { s.pair with probe := some (n, s.tim.cnt) } }) ∧
        ((∀ p ∈ s.pop.roster, p.node ≠ n) → t.pair.probe = none ∧ t.pair.reply = 2)) ∧
      (∀ alive, s.pair.probe ≠ none → ∃ t, exec (.witnessProbeEnd alive) s = .next t ∧ t.mem = s.mem ∧ t.regs = s.regs ∧
        t.pair = { s.pair with probe := none, reply := if alive = true then 0 else 1 })) ∧
    (∀ lane, lane < 2 →
      (s.fld (laneUp lane) = 0 → (∀ r ∈ s.hlth.retired, ¬ (r.kind = 5 ∧ r.site = lane)) →
        ∃ t, exec (.siphLaneUp lane) s = .next t ∧ t.mem = s.mem ∧ t.role = s.role ∧ t.fld (laneUp lane) = 1) ∧
      (s.fld (laneUp lane) = 1 → ∃ t, exec (.siphLaneDown lane) s = .next t ∧ t.mem = s.mem ∧ t.claims = s.claims ∧ t.fld (laneUp lane) = 0 ∧
        t.fld (laneUp (1 - lane)) = s.fld (laneUp (1 - lane)) ∧
        (s.fld (laneUp (1 - lane)) = 1 → t.role = s.role ∧
          t.fld fSIPH_COUNT_REPLAYS = min (s.fld fSIPH_COUNT_REPLAYS + s.pair.replay.length) (2 ^ fSIPH_COUNT_REPLAYS.width - 1)) ∧
        (s.fld (laneUp (1 - lane)) = 0 → if s.role = 3 then t.role = 5 ∧ t.fld fSIPH_STATUS_CAUSE = 6 else t.role = s.role)) ∧
      (s.fld (laneUp lane) = 0 → s.fld (laneUp (1 - lane)) = 1 → s.isPermanent 5 lane = false →
        ∃ t r, exec (.siphLaneRetrainTimeout lane) s = .next t ∧ t.mem = s.mem ∧ t.role = s.role ∧ t.hlth.recDue = true ∧
          t.hlth.retired = s.hlth.retired ++ [r] ∧ r.kind = 5 ∧ r.site = lane ∧ t.fld fHLTH_SPARES_SIPH = s.fld fHLTH_SPARES_SIPH - 1))

/-- Siphon frames (R537, R538, R540, R550 to R552, R555, R558 to R560, R562): a bad CRC only counts, a frame ahead of its turn is held, one
behind it is dropped, GONE acts at once, and each kind of frame in its turn does what its clause says. LINK_DELAY rounds a half either way
(R16). -/
def Obligations.PairFrames : Prop :=
  ∀ (s : State) (h : FrameHdr),
    (PairOn s → h.lane < 2 → s.flag (laneUp h.lane) = true → h.crcOk = false →
      ∀ (n : Nat) (m : Marker) (x : Hello) (l : List LedgerRec) (w : List Nat) (b : List Byte) (d : Bool),
        ∀ c ∈ [Instr.gone h n, .marker h m, .statusFrame h, .nak h n, .hello h x, .ledger h l, .digest h n n n, .prep h n, .epochEnd h n n n,
               .epochAck h n n, .ingress h n d n w, .snap h n n b],
          ∃ t, exec c s = .next t ∧ t = s.incSat fSIPH_COUNT_CRC_ERR) ∧
    (PairOn s → h.lane < 2 → s.flag (laneUp h.lane) = true → h.crcOk = true → s.pair.anySeq = false → h.seq ≠ s.pair.rxSeq →
      (s.role = 3 → s.pair.gone = false) →
      ∃ t, exec (.statusFrame h) s = .next t ∧ t.mem = s.mem ∧ t.role = s.role ∧ t.pair.rxSeq = s.pair.rxSeq ∧
        t.fld fSIPH_STATUS_PARTNER_SEEN = 1 ∧
        (seqLe h.seq s.pair.rxSeq = true ∨ 64 ≤ s.pair.early.length → t.pair.early = s.pair.early) ∧
        (seqLe h.seq s.pair.rxSeq = false → s.pair.early.length < 64 →
          t.pair.early = s.pair.early ++ [(h, .status)] ∧ t.pair.gapAt ≠ 0)) ∧
    (PairOn s → h.lane < 2 → s.flag (laneUp h.lane) = true → h.crcOk = true → ∀ n,
      ∃ t, exec (.gone h n) s = .next t ∧ t.mem = s.mem ∧ t.claims = s.claims ∧ t.pair.gone = true ∧ t.pair.partner = 15 ∧
        t.fld fSIPH_STATUS_HB_OK = 0 ∧ t.fld fSIPH_STATUS_PARTNER_SEEN = 0 ∧
        t.role = if s.role = 1 ∨ s.role = 2 ∨ s.role = 5 then 0 else s.role) ∧
    (FrameReady s h →
      (let next (t : State) : Prop := t.pair.rxSeq = (h.seq + 1) % 2 ^ 32 ∧ t.fld fSIPH_STATUS_PARTNER_SEEN = 1 ∧ t.pair.frameAt = s.tim.cnt + 1
       (∃ t, exec (.statusFrame h) s = .next t ∧ next t ∧ t.mem = s.mem ∧ t.role = s.role ∧
         t.pair.replay = s.pair.replay.filter (fun e => !seqLe e.1 h.ack)) ∧
       (∀ m : Marker, m.turnaround ≤ m.roundTrip →
         ∃ t d, exec (.marker h m) s = .next t ∧ next t ∧ t.mem = s.mem ∧ t.pair.partner = m.role ∧ t.pair.partnerBlk = m.blk ∧
           t.ref.partnerQ = m.quality ∧ t.fld fSIPH_LINK_DELAY = min d 65535 ∧ 2 * d ≤ m.roundTrip - m.turnaround + 1 ∧
           m.roundTrip - m.turnaround ≤ 2 * d + 1 ∧
           (s.role = 0 → s.claims = true → bit h.flags 0 = true → s.fld fSIPH_STATUS_RANK = 1 →
             t.role = 5 ∧ t.fld fSIPH_STATUS_CAUSE = 10 ∧ t.pair.dropClaim = true) ∧
           (s.role = 0 → s.claims = true → bit h.flags 0 = false → m.role = 1 → t.role = 2) ∧
           (s.role = 2 → m.role = 1 ∨ m.role = 2 ∨ m.role = 3 → t.role = 2) ∧
           (s.role = 2 → m.role = 0 → s.pair.release = none → t.role = 0)) ∧
       (∀ n, (∃ e ∈ s.pair.replay, e.1 = n ∧ seqLe n h.ack = false) →
         (let again := (s.pair.replay.filter (fun e => !seqLe e.1 h.ack)).filter (fun e => seqLe n e.1)
          ∃ t, exec (.nak h n) s = .next t ∧ next t ∧ t.mem = s.mem ∧ t.role = s.role ∧ t.pair.txAt = s.tim.cnt ∧
            t.fld fSIPH_COUNT_REPLAYS = min (s.fld fSIPH_COUNT_REPLAYS + again.length) (2 ^ fSIPH_COUNT_REPLAYS.width - 1))) ∧
       (∀ x : Hello, s.pair.helloOut = true → s.role = 0 → s.claims = false →
         (let a := s.ownHello
          ∃ t, exec (.hello h x) s = .next t ∧ next t ∧ t.mem = s.mem ∧ t.pair.node = x.node ∧ t.pair.helloOut = false ∧
            (a.digest ≠ x.digest → t.role = 0 ∧ t.fld fSIPH_STATUS_REFUSED = 1 ∧ t.fld fSIPH_STATUS_REFUSE = 1) ∧
            (a.digest = x.digest → a.fwMajor = x.fwMajor → a.fwMinor = x.fwMinor → a.stepping = x.stepping → a.rates = x.rates →
              a.rank ≠ x.rank → a.dcisReady = true → x.dcisReady = true → t.role = 1 ∧ t.pair.copy = some {}))) ∧
       (∀ r : LedgerRec, s.following = true → (s.role = 3 → s.blkIndex < r.apply) →
         ∃ t, exec (.ledger h [r]) s = .next t ∧ next t ∧ t.mem = s.mem ∧
           (s.pair.anyRseq = true ∨ r.rseq = s.pair.rxRseq →
             t.role = s.role ∧ t.pair.inputs = s.pair.inputs ++ [r] ∧ t.pair.rxRseq = (r.rseq + 1) % 2 ^ 32) ∧
           (s.pair.anyRseq = false → r.rseq ≠ s.pair.rxRseq → t.role = 5 ∧ t.fld fSIPH_STATUS_CAUSE = 4 ∧ t.pair.inputs = s.pair.inputs)) ∧
       (∀ j out tdm, nsorted s.pair.theirs = true →
         ∃ t, exec (.digest h j out tdm) s = .next t ∧ next t ∧ t.mem = s.mem ∧ nget (0, 0) t.pair.theirs j = (out, tdm) ∧
           (s.role = 3 → (∃ e ∈ s.pair.mine, e.1 = j) →
             (let a := nget (0, 0) s.pair.mine j
              (a.1 ≠ out → t.role = 5 ∧ t.fld fSIPH_STATUS_CAUSE = 1) ∧
              (a.1 = out → a.2 ≠ tdm → t.role = 5 ∧ t.fld fSIPH_STATUS_CAUSE = 2) ∧ (a = (out, tdm) → t.role = 3)))) ∧
       (∀ p, s.scene.press = some p → s.role = 2 →
         ∃ t q, exec (.prep h s.scene.counter) s = .next t ∧ next t ∧ t.mem = s.mem ∧ t.role = 2 ∧ t.scene.press = some q ∧ q.partnerReady = true)))

/-- Joining, the state copy, digests and planned handover (R540, R546, R551 to R553, R559, R560, R562 to R565). -/
def Obligations.PairCopy : Prop :=
  ∀ s : State,
    (∀ (h : FrameHdr) (c : Copy), FrameReady s h → s.pair.copy = some c →
      (s.role = 1 →
        (∀ off data, ∃ t, exec (.snap h c.epoch off data) s = .next t ∧ t.mem = s.mem ∧ t.role = 1 ∧
          t.pair.copy = some { c with pieces := c.pieces ++ [(off, data)] }) ∧
        (∀ e dropped off words, ∃ t, exec (.ingress h e dropped off words) s = .next t ∧ t.mem = s.mem ∧ t.role = 1 ∧
          t.pair.copy = some { c with stored := c.stored ++
            [{ blk := h.blk, site := 62, edge := e, dropped := dropped, off := off, words := words }] }) ∧
        (∀ n crc, ¬ ((epochBytes c.pieces).length = n ∧ crc64Of (epochBytes c.pieces) = crc) →
          ∃ t, exec (.epochEnd h c.epoch n crc) s = .next t ∧ t.mem = s.mem ∧
            (c.fails < 2 → t.role = 1 ∧ t.pair.copy = some { c with pieces := [], fails := c.fails + 1 }) ∧
            (2 ≤ c.fails → t.role = 5 ∧ t.fld fSIPH_STATUS_CAUSE = 9 ∧ t.pair.copy = none)) ∧
        (let l := epochBytes c.pieces
         ∃ t q, exec (.epochEnd h c.epoch l.length (crc64Of l)) s = .next t ∧ t.role = 1 ∧ t.pair.copy = some q ∧ q.epoch = c.epoch + 1 ∧
           q.pieces = [] ∧ q.fails = 0 ∧ q.done = c.done + l.length ∧
           (q.replay = if s.fld fSIPH_SYNC_EPOCHS ≤ c.epoch + 1 then some c.k else none) ∧
           (s.siphUp = true → SentFrame s t (.epochAck c.epoch 0)))) ∧
      (s.role = 2 →
        (∃ t, exec (.epochAck h c.epoch 0) s = .next t ∧ t.mem = s.mem ∧ t.role = 2 ∧ t.pair.copy = some { c with epoch := c.epoch + 1, fails := 0 } ∧
          t.fld fSIPH_SYNC_EPOCH = (c.epoch + 1) % 2 ^ fSIPH_SYNC_EPOCH.width) ∧
        (∃ t, exec (.epochAck h c.epoch 1) s = .next t ∧ t.mem = s.mem ∧ t.role = 2 ∧ t.pair.copy = some { c with fails := c.fails + 1 }))) ∧
    (s.live = true →
      (s.role = 2 → s.pair.partner = 3 → ∃ t r, exec .switchOver s = .next t ∧ t.mem = s.mem ∧ t.role = 2 ∧
        t.pair.handover = some (s.blkIndex + 2) ∧ t.pair.inputs = s.pair.inputs ++ [r] ∧ r.apply = s.blkIndex + 2 ∧
        r.body = .handover (s.blkIndex + 2)) ∧
      (s.role ≠ 2 ∨ s.pair.partner ≠ 3 → ∃ t, exec .switchOver s = .next t ∧ t = s.put fSIPH_STATUS_REFUSED 1) ∧
      (s.role = 5 → s.siphUp = true →
        (∃ t, exec .rejoin s = .next t ∧ t.mem = s.mem ∧ t.regs = s.regs ∧ t.pair.helloOut = true ∧ SentFrame s t (.hello s.ownHello)) ∧
        (s.fld fSIPH_CTRL_AUTO_REJOIN = 1 → ∃ t, exec .rejoinWaitExpiry s = .next t ∧ t.mem = s.mem ∧ t.regs = s.regs ∧
          t.pair.helloOut = true ∧ SentFrame s t (.hello s.ownHello))) ∧
      (s.role = 2 → ∃ t r, exec .partnerDivergeRequest s = .next t ∧ t.mem = s.mem ∧ t.regs = s.regs ∧ t.pair.inputs = s.pair.inputs ++ [r] ∧
        r.apply = s.blkIndex + 2 ∧ r.body = .exec 0x8010 0x11 [1]) ∧
      (s.role = 2 ∨ s.role = 3 → ∀ j, ∃ t, exec (.digestSend j) s = .next t ∧ t.mem = s.mem ∧ (s.role = 2 → t.role = 2) ∧
        (s.siphUp = true → SentFrame s t (.digest j (s.outDigest j) (s.tdmDigest j)))) ∧
      (∀ c, s.role = 1 → s.pair.copy = some c →
        (c.begun = true → ∃ t, exec .syncTimeout s = .next t ∧ t.mem = s.mem ∧ t.role = 5 ∧ t.fld fSIPH_STATUS_CAUSE = 9 ∧ t.pair.copy = none) ∧
        (∀ k out tdm, c.replay = some k →
          ((∃ e ∈ s.pair.theirs, e.1 = k ∧ e.2 ≠ (out, tdm)) →
            ∃ t, exec (.replayBlockComplete out tdm) s = .next t ∧ t.mem = s.mem ∧ t.role = 5 ∧ t.fld fSIPH_STATUS_CAUSE = 9) ∧
          ((∀ e ∈ s.pair.theirs, e.1 = k → e.2 = (out, tdm)) →
            ∃ t q, exec (.replayBlockComplete out tdm) s = .next t ∧ t.pair.copy = some q ∧ q.replay = some (k + 1) ∧
              ∀ p, p ∈ q.stored ↔ p ∈ c.stored ∧ k < p.blk)))) ∧
    (s.pairLive = true → s.siphUp = true →
      (∃ t, exec .statusTimer s = .next t ∧ t.mem = s.mem ∧ t.regs = s.regs ∧ SentFrame s t .status) ∧
      (s.pair.gapAt ≠ 0 → ∃ t, exec .seqGapTimeout s = .next t ∧ t.mem = s.mem ∧ t.regs = s.regs ∧ SentFrame s t (.nak s.pair.rxSeq)))

/-- Retirement and Brine (R573, R576, R578, R580, R584 to R589, R591): errors are forgotten after ERR_WIN; a manual retirement makes its
resource permanent with cause 3; the record reaches the boot flash; a spare cluster takes the memories of the site that it replaces, or is
retired; a borrowed row comes back with its saved bytes; a pass counts its rows; a spare under test is powered, then zeroed and powered off;
a shadow run's difference counts as a mismatch. -/
def Obligations.Retirement : Prop :=
  ∀ s : State, s.live = true →
    (∃ t, exec .errWinExpiry s = .next t ∧ ∃ l, t = { s with hlth := { s.hlth with errs := l } } ∧
      ∀ e, e ∈ l ↔ e ∈ s.hlth.errs ∧ s.tim.cnt < e.at' + s.errWin) ∧
    (∀ kind site,
      (retireSite kind site = true → s.isPermanent kind site = false → ∃ t r, exec (.hlthRetire kind site) s = .next t ∧ t.mem = s.mem ∧
        t.role = s.role ∧ r ∈ t.hlth.due ++ t.hlth.retired ∧ r.kind = kind ∧ r.site = site ∧ r.cause = 3) ∧
      (retireSite kind site = false ∨ s.isPermanent kind site = true → exec (.hlthRetire kind site) s = .next s)) ∧
    (s.hlth.recDue = true →
      (∃ t, exec (.retirementRecordWrite true) s = .next t ∧
        t = { s with hlth := { s.hlth with recDue := false }, flash := { s.flash with retired := s.hlth.retired } }) ∧
      (∃ t, exec (.retirementRecordWrite false) s = .next t ∧ t.flash = s.flash ∧ t.hlth = { s.hlth with recDue := false } ∧ t.mem = s.mem)) ∧
    (∀ site c, s.hlth.cluCopy.find? (fun c => c.new = site && !c.ready) = some c →
      (Memory.wf s.mem = true → (∀ e ∈ s.memu.bad, e.2 = true → ¬ (cluBase c.old ≤ e.1 ∧ e.1 < cluBase c.old + 0x50000)) →
        ∃ t, exec (.spareClusterReady site true) s = .next t ∧ t.fld fSYS_RESET_CAUSE_CLU_HEALTH = 1 ∧
          (∀ o, o < 0x50000 → memGet t.mem (cluBase site + o) = memGet s.mem (cluBase c.old + o)) ∧
          (∀ a, a < cluBase site ∨ cluBase site + 0x50000 ≤ a → memGet t.mem a = memGet s.mem a) ∧
          (∀ x ∈ t.hlth.cluCopy, x.new = site → x.ready = true)) ∧
      (∃ t, exec (.spareClusterReady site false) s = .next t ∧ t.mem = s.mem ∧ t.isPermanent 2 site = true ∧
        (∀ x ∈ t.hlth.cluCopy, x.new ≠ site)))

/-- Brine (R584 to R589, R591) and the monitors (R593, R594): a borrowed row comes back with its saved bytes; a pass counts its rows; a
spare under test is powered, then zeroed and powered off; a shadow run's difference counts as a mismatch; a sample is stored with its
warning state. -/
def Obligations.Brine : Prop :=
  ∀ s : State, s.live = true →
    (∀ a m, brineMem a = some m → s.mayBorrow m a = true → ∃ t, exec (.brineBorrow a) s = .next t ∧ t = { s with hlth := { s.hlth with
      borrows := s.hlth.borrows ++ [{ memId := m, addr := a - a % rowBytes m, saved := memBytes s.mem (a - a % rowBytes m) (rowBytes m) }] } }) ∧
    (∀ m b, s.hlth.borrows.find? (fun b => b.memId = m) = some b →
      (let back (t : State) : Prop := (∀ i, i < b.saved.length → memGet t.mem (b.addr + i) = b.saved.getD i 0) ∧
         (∀ a, a < b.addr ∨ b.addr + b.saved.length ≤ a → memGet t.mem a = memGet s.mem a) ∧ ∀ x ∈ t.hlth.borrows, x.memId ≠ m
       (∃ t, exec (.brineBorrowEnd m true) s = .next t ∧ back t ∧ t.regs = s.regs) ∧
       (∃ t, exec (.brineBorrowEnd m false) s = .next t ∧ back t ∧
         t.fld fHLTH_BRINE_STATUS_MARCH_FAIL = min (s.fld fHLTH_BRINE_STATUS_MARCH_FAIL + 1) (2 ^ fHLTH_BRINE_STATUS_MARCH_FAIL.width - 1)) ∧
       (∃ t, exec (.brineYield m) s = .next t ∧ back t ∧
         t.fld fHLTH_BRINE_STATUS_YIELDS = min (s.fld fHLTH_BRINE_STATUS_YIELDS + 1) (2 ^ fHLTH_BRINE_STATUS_YIELDS.width - 1)))) ∧
    (s.fld fHLTH_CTRL_BRINE_EN = 1 →
      (∀ a m ecc, brineMem a = some m → ∃ t, exec (.brineScrub a ecc) s = .next t ∧ t.mem = s.mem ∧
        (s.hlth.passRow + 1 < passRows → t.hlth.passRow = s.hlth.passRow + 1 ∧
          t.fld fHLTH_BRINE_STATUS_PASS_PCT = (s.hlth.passRow + 1) * 100 / passRows) ∧
        (passRows ≤ s.hlth.passRow + 1 → t.hlth.passRow = 0 ∧
          t.fld fHLTH_BRINE_STATUS_PASSES = min (s.fld fHLTH_BRINE_STATUS_PASSES + 1) (2 ^ fHLTH_BRINE_STATUS_PASSES.width - 1))) ∧
      (∀ cluster site, s.hlth.spareTest = none → site ∈ (if cluster = true then s.freeClusters else s.freeBanks) →
        ∃ t, exec (.brineSpareTest cluster site) s = .next t ∧ t.mem = s.mem ∧ t.hlth.spareTest = some (cluster, site) ∧
          (cluster = true → t.siteClocked site = true))) ∧
    (∀ cluster site pass, s.hlth.spareTest = some (cluster, site) → (cluster = true → site < 36) →
      ∃ t, exec (.brineSpareTestEnd pass) s = .next t ∧ t.hlth.spareTest = none ∧
        (pass = false → t.isPermanent (if cluster = true then 2 else 4) site = true) ∧
        (cluster = true → t.siteClocked site = false) ∧
        ∀ a, memGet t.mem a = if cluster = true ∧ cluBase site ≤ a ∧ a < cluBase site + 0x50000 then 0 else memGet s.mem a) ∧
    (∀ site lane, s.pumpRuns site = true → s.fld fHLTH_CTRL_SHADOW_EN = 1 → lane < 8 → (s.laneOf site lane).isSome = true →
      (s.lane site lane).task.isSome = true → (s.lane site lane).eP = 0 → (s.lane site lane).logging = false → s.spareLane site = some 8 →
      (s.lane site 8).task = none → s.shadowDue site lane = true →
      ∃ t, exec (.brineShadow site lane) s = .next t ∧ t.mem = s.mem ∧ (t.lane site 8).shadow = some lane ∧
        (t.lane site 8).d = (s.lane site lane).d ∧ (t.lane site lane).logging = true ∧ (t.lane site lane).d = (s.lane site lane).d ∧
        t.fld fCLUn_LSTATm_STATE site 8 = 1) ∧
    (∀ site m, site < 36 → (s.lane site 8).shadow = some m → (s.lane site 8).ended = true →
      (let x := s.lane site m
       let same := sameStores (if x.logging = true then x.log else nget [] s.hlth.acLog site) (s.lane site 8).log &&
         decide (s.stickyFlags site m = s.stickyFlags site 8)
       ∃ t, exec (.brineShadowEnd site) s = .next t ∧ t.mem = s.mem ∧ (t.lane site 8).shadow = none ∧ t.fld fCLUn_LSTATm_STATE site 8 = 0 ∧
         t.fld fHLTH_BRINE_STATUS_MISMATCH = if same = true then s.fld fHLTH_BRINE_STATUS_MISMATCH else
           min (s.fld fHLTH_BRINE_STATUS_MISMATCH + 1) (2 ^ fHLTH_BRINE_STATUS_MISMATCH.width - 1))) ∧
    (∀ v o, ∃ t, exec (.monitorSample v o) s = .next t ∧ t.mem = s.mem ∧ ∀ k, k < 25 → k < v.length →
      nget 0 t.hlth.mon k = v.getD k 0 ∧ nget false t.hlth.monWarn k = monWarns k (v.getD k 0) (nget false s.hlth.monWarn k))

/-- Sounding (R597 to R601): a frame's admittance joins the line's values; states 0 to 2 are reported at once, another condition after the
stated number of results in a row; learning starts unless a return is missing and ends with a stored baseline; the nightly summary is kept
and its counters start again. A frame whose C_V is zero gives a free value (log entry 3). -/
def Obligations.Sounding : Prop :=
  ∀ s : State, s.live = true →
    (∀ f, f < 512 →
      (s.noReturn f = true → exec (.soundLearn f) s = .next s) ∧
      (s.noReturn f = false → ∃ t, exec (.soundLearn f) s = .next t ∧ t = s.setLine f { s.line f with learn := some [] }) ∧
      (s.sounding f = false → ∀ q c, exec (.soundFrameResult f q c) s = .next s) ∧
      (s.sounding f = true → ∀ q (c : Corr),
        (s.frameClean f q = false → exec (.soundFrameResult f q c) s = .next s) ∧
        (s.frameClean f q = true →
          (let x := s.line f
           let m := c.vRe * c.vRe + c.vIm * c.vIm
           ∃ t v, exec (.soundFrameResult f q c) s = .next t ∧ t.mem = s.mem ∧ t.objs = s.objs ∧
             (t.line f).vals = (v :: x.vals).take (max 1 (s.objNum 0x9110 3 0)) ∧ (t.line f).frame = q ∧
             (t.line f).learn = x.learn.map (fun l => v :: l) ∧
             (m ≠ 0 → v.yRe = (c.iRe * c.vRe + c.iIm * c.vIm) * 2 ^ 32 / m ∧ v.yIm = (c.iIm * c.vRe - c.iRe * c.vIm) * 2 ^ 32 / m) ∧
             (s.baseline f = none → (t.line f).state = 1) ∧
             (s.baseline f ≠ none → s.noReturn f = true → (t.line f).state = 2) ∧
             (∀ b, s.baseline f = some b → s.noReturn f = false →
               (let y := t.line f
                3 ≤ y.cond ∧ y.cond ≤ 8 ∧ y.run = (if x.cond = y.cond then x.run + 1 else 1) ∧
                y.state = (if s.objNum 0x9110 (if y.cond = 7 then 5 else 4) 0 ≤ y.run then y.cond else x.state) ∧
                (y.cond = 3 ↔ 100 * meanI y.vals (fun v => (v.v : Int)) * meanI y.vals (fun v => (v.v : Int)) <
                  (b.2.2.1 * b.2.2.1 + b.2.2.2 * b.2.2.2) * 2 ^ 32))))))) ∧
    (∃ t, exec (.soundLearn 0xFFFF) s = .next t ∧ t.mem = s.mem ∧ t.regs = s.regs ∧ t.objs = s.objs ∧
      ∀ f, f < 512 → t.line f = if s.sounding f = true ∧ s.noReturn f = false then { s.line f with learn := some [] } else s.line f) ∧
    (∀ f l, (s.line f).learn = some l → 64 ≤ l.length →
      (let m (g : SoundVal → Int) : List Byte := leBytes 4 (satBits 32 (meanI (l.take 64) g / 65536))
       let b := m (fun x => x.yRe) ++ m (fun x => x.yIm) ++ m (fun x => x.vRe) ++ m (fun x => x.vIm)
       ∃ t, exec (.soundLearnEnd f) s = .next t ∧ t.mem = s.mem ∧ (t.line f).learn = none ∧ t.objs = (s.setObj 0x9100 2 f (.bytes b)).objs ∧
         t.flash.jobs = s.flash.jobs ++ [.baseline f (ofLeBytes b)])) ∧
    (s.fld fTIM_MAP_STATUS_TIME_SET = 0 → exec .soundNightly s = .next s) ∧
    (s.fld fTIM_MAP_STATUS_TIME_SET = 1 → ∃ t, exec .soundNightly s = .next t ∧ t.mem = s.mem ∧ t.objs = s.objs ∧
      t.hlth.nightly = s.nightlyBytes ∧ ∀ f, t.line f = { s.line f with seen := false, dMin := 0, dMax := 0, phiMax := 0, faults := 0 })

/-- BLOCK_BOUNDARY (R56, R138, R140, R558, R564, R668): the counter reaches the boundary, C_SAMP plus whole blocks, and the next block
index, or that of lockstep where a joining unit is due to enter it, comes into force; on a unit that does not join no input that was due is
left waiting. During an Engine Reset only the time unit takes part. While time does not run there is no boundary. -/
def Obligations.BlockBoundary : Prop :=
  ∀ s : State, s.clocked = true →
    (s.tim.running = false → exec .blockBoundary s = .next s) ∧
    (s.tim.running = true →
      (let j := match s.tim.blkIdx with | some k => k + 1 | none => 0
       let c := max s.tim.cnt (s.tim.cSamp + j * s.blkLen)
       (s.sys.engReset = false → s.tim.restart = none →
         ∃ t, exec .blockBoundary s = .next t ∧ t.tim.cnt = c ∧ t.tim.blkIdx = some (s.lockstepDue.getD j) ∧ t.pending = s.pending ∧
           (s.role ≠ 1 → ∀ r ∈ t.pair.inputs, j < r.apply)) ∧
       (s.sys.engReset = true →
         ∃ t, exec .blockBoundary s = .next t ∧ t.tim.cnt = c ∧ t.tim.blkIdx = some (if s.tim.restart.isSome = true then 0 else j) ∧
           t.mem = s.mem ∧ t.pump = s.pump ∧ t.scene = s.scene ∧ t.objs = s.objs ∧
           (∀ b, s.tim.restart = some b → t.sys.rateClass = b.1 ∧ t.sys.blk = b.2))))
end

