-- ==== Sys2Proof/Laws/Maps.lean ====
section
/-! SUPPORT. The finite maps of the state stay sorted, and memory stays canonical, under every operation on them. -/

namespace Sys2Proof.Machine

theorem nabove_of {α : Type} {m : NMap α} {k : Nat} : nabove k m = true ↔ (∀ e ∈ m.head?, k < e.1) ∧ nsorted m = true := by
  cases m with
  | nil => simp [nabove, nsorted]
  | cons e r => cases e; simp [nabove, nsorted]

theorem nabove_mono {α : Type} {m : NMap α} {a b : Nat} (h : a ≤ b) (hm : nabove b m = true) : nabove a m = true := by
  cases m with
  | nil => rfl
  | cons e r => cases e; simp only [nabove, Bool.and_eq_true, decide_eq_true_eq] at *; exact ⟨by omega, hm.2⟩

theorem nput_above {α : Type} {m : NMap α} {a k : Nat} {v : α} (h : a < k) (hm : nabove a m = true) : nabove a (nput m k v) = true := by
  induction m generalizing a with
  | nil => simp [nput, nabove, h]
  | cons e r ih =>
    obtain ⟨b, w⟩ := e
    simp only [nabove, Bool.and_eq_true, decide_eq_true_eq] at hm
    unfold nput
    split
    · simp_all [nabove]
    · split
      · subst_vars; simp_all [nabove]
      · simp only [nabove, Bool.and_eq_true, decide_eq_true_eq]
        exact ⟨hm.1, ih (by omega) hm.2⟩

theorem nput_sorted {α : Type} {m : NMap α} (k : Nat) (v : α) (hm : nsorted m = true) : nsorted (nput m k v) = true := by
  cases m with
  | nil => rfl
  | cons e r =>
    obtain ⟨b, w⟩ := e
    simp only [nsorted] at hm
    unfold nput
    split
    · simp_all [nabove, nsorted]
    · split
      · subst_vars; simpa [nsorted] using hm
      · exact nput_above (by omega) hm

theorem nkeep_above {α : Type} {m : NMap α} (p : Nat → Bool) {a : Nat} (hm : nabove a m = true) : nabove a (nkeep p m) = true := by
  induction m generalizing a with
  | nil => rfl
  | cons e r ih =>
    obtain ⟨b, w⟩ := e
    simp only [nabove, Bool.and_eq_true, decide_eq_true_eq] at hm
    simp only [nkeep, List.filter_cons] at *
    split
    · simp only [nabove, Bool.and_eq_true, decide_eq_true_eq]; exact ⟨hm.1, ih hm.2⟩
    · exact nabove_mono (Nat.le_of_lt hm.1) (ih hm.2)

theorem nsorted_of_above {α : Type} {m : NMap α} {a : Nat} (h : nabove a m = true) : nsorted m = true := (nabove_of.mp h).2

theorem nkeep_sorted {α : Type} {m : NMap α} (p : Nat → Bool) (hm : nsorted m = true) : nsorted (nkeep p m) = true := by
  cases m with
  | nil => rfl
  | cons e r =>
    obtain ⟨b, w⟩ := e
    simp only [nsorted] at hm
    simp only [nkeep, List.filter_cons]
    split
    · exact nkeep_above p hm
    · exact nsorted_of_above (nkeep_above p hm)

theorem nerase_sorted {α : Type} {m : NMap α} (k : Nat) (hm : nsorted m = true) : nsorted (nerase m k) = true :=
  nkeep_sorted (fun a => a != k) hm

theorem nset_sorted {α : Type} [DecidableEq α] (d : α) {m : NMap α} (k : Nat) (v : α) (hm : nsorted m = true) : nsorted (nset d m k v) = true := by
  unfold nset
  split
  · exact nerase_sorted k hm
  · exact nput_sorted k v hm


theorem wf_parts {m : List Host.Cell} : Memory.wf m = true ↔ nsorted m = true ∧ ∀ c ∈ m, c.2 ≠ 0 := by
  simp [Memory.wf]

theorem mem_nput {α : Type} {m : NMap α} {k : Nat} {v : α} {e : Nat × α} (h : e ∈ nput m k v) : e = (k, v) ∨ e ∈ m := by
  induction m with
  | nil => simp [nput] at h; exact Or.inl h
  | cons a r ih =>
    obtain ⟨b, w⟩ := a
    unfold nput at h
    split at h
    · simpa only [List.mem_cons] using h
    · split at h
      · simp at h; rcases h with h | h <;> simp [h]
      · simp at h; rcases h with h | h
        · simp [h]
        · rcases ih h with h | h <;> simp [h]

theorem mem_nerase {α : Type} {m : NMap α} {k : Nat} {e : Nat × α} (h : e ∈ nerase m k) : e ∈ m := by
  simp [nerase] at h; exact h.1

theorem memSet_wf {m : List Host.Cell} (a : Nat) (v : Byte) (h : Memory.wf m = true) : Memory.wf (memSet m a v) = true := by
  rw [wf_parts] at *
  refine ⟨nset_sorted _ _ _ h.1, fun c hc => ?_⟩
  unfold memSet nset at hc
  split at hc
  · exact h.2 c (mem_nerase hc)
  · rcases mem_nput hc with rfl | hc
    · assumption
    · exact h.2 c hc

theorem memSetList_wf {m : List Host.Cell} (a : Nat) (l : List Byte) (h : Memory.wf m = true) : Memory.wf (memSetList m a l) = true := by
  induction l generalizing m a with
  | nil => exact h
  | cons b r ih => exact ih _ (memSet_wf _ _ h)

theorem nkeep_wf {m : List Host.Cell} (p : Nat → Bool) (h : Memory.wf m = true) : Memory.wf (nkeep p m) = true := by
  rw [wf_parts] at *
  refine ⟨nkeep_sorted _ h.1, fun c hc => h.2 c ?_⟩
  simp [nkeep] at hc
  exact hc.1

theorem memZero_wf {m : List Host.Cell} (a b : Nat) (h : Memory.wf m = true) : Memory.wf (memZero m a b) = true := nkeep_wf _ h

/-- Reading a map after keeping some keys. -/
theorem nget_nkeep {α : Type} (d : α) (m : NMap α) (p : Nat → Bool) (k : Nat) :
    nget d (nkeep p m) k = if p k then nget d m k else d := by
  induction m with
  | nil => simp [nkeep, nget]
  | cons e r ih =>
    obtain ⟨b, w⟩ := e
    simp only [nkeep, List.filter_cons] at *
    by_cases hb : p b = true
    · simp only [hb, if_true, nget]
      split
      · subst_vars; simp [hb]
      · exact ih
    · simp only [hb, nget]
      by_cases hk : k = b
      · subst hk; simp_all
      · simpa [hk] using ih

/-- Reading a map after an entry is put. -/
theorem nget_nput {α : Type} (d : α) (m : NMap α) (a : Nat) (v : α) (k : Nat) :
    nget d (nput m a v) k = if k = a then v else nget d m k := by
  induction m with
  | nil => simp [nput, nget]
  | cons e r ih =>
    obtain ⟨b, w⟩ := e
    unfold nput
    split
    · simp [nget]
    · split
      · subst_vars; simp only [nget]; split <;> simp_all
      · simp only [nget, ih]; split <;> split <;> simp_all

/-- Reading a map after a write: the one law of a map. -/
theorem nget_nset {α : Type} [DecidableEq α] (d : α) (m : NMap α) (a : Nat) (v : α) (k : Nat) :
    nget d (nset d m a v) k = if k = a then v else nget d m k := by
  unfold nset
  split
  · subst_vars
    have := nget_nkeep v m (fun b => b != a) k
    unfold nkeep at this
    unfold nerase
    rw [this]
    by_cases h : k = a <;> simp [h]
  · exact nget_nput d m a v k

/-- A write under default `d` seen under another default, at another key. -/
theorem nget_nset_ne {α : Type} [DecidableEq α] (d e : α) (m : NMap α) {a : Nat} (v : α) {k : Nat} (h : k ≠ a) :
    nget e (nset d m a v) k = nget e m k := by
  unfold nset
  split
  · have := nget_nkeep e m (fun b => b != a) k
    unfold nkeep at this
    unfold nerase
    rw [this]; simp [h]
  · rw [nget_nput]; simp [h]

theorem foldl_wf {α : Type} {l : List α} {f : List Host.Cell → α → List Host.Cell} {m : List Host.Cell} (h : Memory.wf m = true)
    (hf : ∀ m a, Memory.wf m = true → Memory.wf (f m a) = true) : Memory.wf (l.foldl f m) = true := by
  induction l generalizing m with
  | nil => exact h
  | cons a l ih => exact ih (hf _ _ h)

theorem foldl_sorted {α β : Type} {l : List α} {f : NMap β → α → NMap β} {m : NMap β} (h : nsorted m = true)
    (hf : ∀ m a, nsorted m = true → nsorted (f m a) = true) : nsorted (l.foldl f m) = true := by
  induction l generalizing m with
  | nil => exact h
  | cons a l ih => exact ih (hf _ _ h)

end Sys2Proof.Machine
end

