-- ==== Sys2Proof/Laws/Framed.lean ====
section
/-! SUPPORT. `Framed P s₀ s`: `s` has the queue of `s₀`, the canonical forms of `s₀` where `s₀` has them, and agrees with `s₀`
on every part whose bit is clear in the mask `P`: bit 0 memory, bits 1 to 19 the records of the state in `Part`'s order, bit
20 + b the register block b, bit 39 every register. Each operation f of the machine has one lemma f_framed in the files
Laws/Framed<Module>.lean, whose mask says all that f can change. -/

namespace Sys2Proof.Machine

open Sys2Proof

/-- Every part of mask `w` is in mask `P`. -/
def maskIn (w P : Nat) : Prop := w &&& P = w

theorem maskIn_trans {a b P : Nat} (h : maskIn b P) (e : a &&& b = a) : maskIn a P := by
  unfold maskIn at *
  rw [← e, Nat.and_assoc, h]

theorem bit_of {w P k : Nat} (h : maskIn w P) (e : w.testBit k = true) : P.testBit k = true := by
  unfold maskIn at h
  rw [← h, Nat.testBit_and, Bool.and_eq_true] at e
  exact e.2

theorem bit_no {w P k : Nat} {Q : Prop} (h : maskIn w P) (e : w.testBit k = true) (n : P.testBit k = false) : Q := by
  rw [bit_of h e] at n; exact Bool.noConfusion n

structure Framed (P : Nat) (s₀ s : State) : Prop where
  queue : s.pending = s₀.pending
  memWf : Memory.wf s₀.mem = true → Memory.wf s.mem = true
  regsSorted : nsorted s₀.regs = true → nsorted s.regs = true
  regs : P.testBit 39 = false → ∀ b, P.testBit (20 + b) = false → ∀ d k, keyBlock k = b → nget d s.regs k = nget d s₀.regs k
  mem : P.testBit 0 = false → ∀ a, memGet s.mem a = memGet s₀.mem a
  sys : P.testBit 1 = false → s.sys = s₀.sys
  flash : P.testBit 2 = false → s.flash = s₀.flash
  clk : P.testBit 3 = false → s.clk = s₀.clk
  ref : P.testBit 4 = false → s.ref = s₀.ref
  tim : P.testBit 5 = false → s.tim = s₀.tim
  pump : P.testBit 6 = false → s.pump = s₀.pump
  memu : P.testBit 7 = false → s.memu = s₀.memu
  fab : P.testBit 8 = false → s.fab = s₀.fab
  pair : P.testBit 9 = false → s.pair = s₀.pair
  route : P.testBit 10 = false → s.route = s₀.route
  scene : P.testBit 11 = false → s.scene = s₀.scene
  pop : P.testBit 12 = false → s.pop = s₀.pop
  objs : P.testBit 13 = false → s.objs = s₀.objs
  tdm : P.testBit 14 = false → s.tdm = s₀.tdm
  net : P.testBit 15 = false → s.net = s₀.net
  well : P.testBit 16 = false → s.well = s₀.well
  hlth : P.testBit 17 = false → s.hlth = s₀.hlth
  evt : P.testBit 18 = false → s.evt = s₀.evt
  free : P.testBit 19 = false → s.free = s₀.free

theorem Framed.refl (P : Nat) (s : State) : Framed P s s := by constructor <;> intros <;> first | rfl | assumption

/-- An update of records alone: each is unchanged or in the mask. -/
theorem Framed.mk_of {P : Nat} {s₀ s : State} {asys aflash aclk aref atim apump amemu afab apair aroute ascene apop aobjs atdm anet awell ahlth aevt afree} (h : Framed P s₀ s)
    (hsys : asys = s.sys ∨ P.testBit 1 = true)
    (hflash : aflash = s.flash ∨ P.testBit 2 = true)
    (hclk : aclk = s.clk ∨ P.testBit 3 = true)
    (href : aref = s.ref ∨ P.testBit 4 = true)
    (htim : atim = s.tim ∨ P.testBit 5 = true)
    (hpump : apump = s.pump ∨ P.testBit 6 = true)
    (hmemu : amemu = s.memu ∨ P.testBit 7 = true)
    (hfab : afab = s.fab ∨ P.testBit 8 = true)
    (hpair : apair = s.pair ∨ P.testBit 9 = true)
    (hroute : aroute = s.route ∨ P.testBit 10 = true)
    (hscene : ascene = s.scene ∨ P.testBit 11 = true)
    (hpop : apop = s.pop ∨ P.testBit 12 = true)
    (hobjs : aobjs = s.objs ∨ P.testBit 13 = true)
    (htdm : atdm = s.tdm ∨ P.testBit 14 = true)
    (hnet : anet = s.net ∨ P.testBit 15 = true)
    (hwell : awell = s.well ∨ P.testBit 16 = true)
    (hhlth : ahlth = s.hlth ∨ P.testBit 17 = true)
    (hevt : aevt = s.evt ∨ P.testBit 18 = true)
    (hfree : afree = s.free ∨ P.testBit 19 = true)
    : Framed P s₀ (State.mk s.regs s.mem asys aflash aclk aref atim apump amemu afab apair aroute ascene apop aobjs atdm anet awell ahlth aevt afree s.pending) :=
  ⟨h.queue, h.memWf, h.regsSorted, h.regs, h.mem,
   fun k => hsys.elim (fun e => e.trans (h.sys k)) (fun e => absurd (e.symm.trans k) Bool.noConfusion),
   fun k => hflash.elim (fun e => e.trans (h.flash k)) (fun e => absurd (e.symm.trans k) Bool.noConfusion),
   fun k => hclk.elim (fun e => e.trans (h.clk k)) (fun e => absurd (e.symm.trans k) Bool.noConfusion),
   fun k => href.elim (fun e => e.trans (h.ref k)) (fun e => absurd (e.symm.trans k) Bool.noConfusion),
   fun k => htim.elim (fun e => e.trans (h.tim k)) (fun e => absurd (e.symm.trans k) Bool.noConfusion),
   fun k => hpump.elim (fun e => e.trans (h.pump k)) (fun e => absurd (e.symm.trans k) Bool.noConfusion),
   fun k => hmemu.elim (fun e => e.trans (h.memu k)) (fun e => absurd (e.symm.trans k) Bool.noConfusion),
   fun k => hfab.elim (fun e => e.trans (h.fab k)) (fun e => absurd (e.symm.trans k) Bool.noConfusion),
   fun k => hpair.elim (fun e => e.trans (h.pair k)) (fun e => absurd (e.symm.trans k) Bool.noConfusion),
   fun k => hroute.elim (fun e => e.trans (h.route k)) (fun e => absurd (e.symm.trans k) Bool.noConfusion),
   fun k => hscene.elim (fun e => e.trans (h.scene k)) (fun e => absurd (e.symm.trans k) Bool.noConfusion),
   fun k => hpop.elim (fun e => e.trans (h.pop k)) (fun e => absurd (e.symm.trans k) Bool.noConfusion),
   fun k => hobjs.elim (fun e => e.trans (h.objs k)) (fun e => absurd (e.symm.trans k) Bool.noConfusion),
   fun k => htdm.elim (fun e => e.trans (h.tdm k)) (fun e => absurd (e.symm.trans k) Bool.noConfusion),
   fun k => hnet.elim (fun e => e.trans (h.net k)) (fun e => absurd (e.symm.trans k) Bool.noConfusion),
   fun k => hwell.elim (fun e => e.trans (h.well k)) (fun e => absurd (e.symm.trans k) Bool.noConfusion),
   fun k => hhlth.elim (fun e => e.trans (h.hlth k)) (fun e => absurd (e.symm.trans k) Bool.noConfusion),
   fun k => hevt.elim (fun e => e.trans (h.evt k)) (fun e => absurd (e.symm.trans k) Bool.noConfusion),
   fun k => hfree.elim (fun e => e.trans (h.free k)) (fun e => absurd (e.symm.trans k) Bool.noConfusion)⟩

/-- An update of the register map alone. -/
theorem Framed.ofRegs {P : Nat} {s₀ s : State} {m : NMap Nat} (h : Framed P s₀ s) (hP : P.testBit 39 = true)
    (hs : nsorted s.regs = true → nsorted m = true) : Framed P s₀ { s with regs := m } :=
  { h with regsSorted := fun c => hs (h.regsSorted c), regs := fun k => absurd (hP.symm.trans k) Bool.noConfusion }

/-- An update of memory alone. -/
theorem Framed.ofMem {P : Nat} {s₀ s : State} {m : List Host.Cell} (h : Framed P s₀ s) (hP : P.testBit 0 = true)
    (hw : Memory.wf s.mem = true → Memory.wf m = true) : Framed P s₀ { s with mem := m } :=
  { h with memWf := fun c => hw (h.memWf c), mem := fun k => absurd (hP.symm.trans k) Bool.noConfusion }

/-- A field written in a block of the mask. -/
theorem State.put_framed {P : Nat} {s₀ : State} (s : State) (f : Fd) (v i j : Nat) (hI : Framed P s₀ s)
    (hf : P.testBit (20 + f.blk) = true) : Framed P s₀ (s.put f v i j) :=
  { hI with
    regsSorted := fun c => nset_sorted _ _ _ (hI.regsSorted c)
    regs := fun k39 b kb d k hk => by
      have ne : k ≠ f.key i j := by
        intro e
        have hb : keyBlock (f.key i j) = f.blk := by unfold keyBlock keyId Fd.key Fd.blk; omega
        rw [e, hb] at hk
        rw [hk, kb] at hf
        exact Bool.noConfusion hf
      show nget d (nset _ s.regs (f.key i j) _) k = _
      rw [nget_nset_ne _ _ _ _ ne]
      exact hI.regs k39 b kb d k hk }

/-- A field written where every register is in the mask. -/
theorem State.put_any {P : Nat} {s₀ : State} (s : State) (f : Fd) (v i j : Nat) (hI : Framed P s₀ s) (hP : P.testBit 39 = true) :
    Framed P s₀ (s.put f v i j) :=
  hI.ofRegs hP fun c => nset_sorted _ _ _ c

/-- A state with everything in the mask. -/
theorem Framed.all {P : Nat} {s₀ s : State} (hP : maskIn (2 ^ 40 - 1) P) (queue : s.pending = s₀.pending)
    (memWf : Memory.wf s₀.mem = true → Memory.wf s.mem = true) (regsSorted : nsorted s₀.regs = true → nsorted s.regs = true) :
    Framed P s₀ s := by
  refine ⟨queue, memWf, regsSorted, fun k => ?_, fun k => ?_, fun k => ?_, fun k => ?_, fun k => ?_, fun k => ?_, fun k => ?_, fun k => ?_, fun k => ?_, fun k => ?_, fun k => ?_, fun k => ?_, fun k => ?_, fun k => ?_, fun k => ?_, fun k => ?_, fun k => ?_, fun k => ?_, fun k => ?_, fun k => ?_, fun k => ?_⟩ <;>
    exact absurd ((bit_of hP rfl).symm.trans k) Bool.noConfusion

/-- A next state that is framed; a fault or a refusal says nothing. -/
def FramedO (P : Nat) (s₀ : State) (o : Host.Outcome State Fault Refusal) : Prop :=
  match o with
  | .next t => Framed P s₀ t
  | .fault _ => True
  | .refused _ => True

theorem FramedO_next {P : Nat} {s₀ s : State} (h : Framed P s₀ s) : FramedO P s₀ (.next s) := h

theorem FramedO.next {P : Nat} {s₀ t : State} {o : Host.Outcome State Fault Refusal} (h : FramedO P s₀ o) (e : o = .next t) :
    Framed P s₀ t := by
  rw [e] at h; exact h

theorem Framed.canonical {P : Nat} {s₀ s : State} (h : Framed P s₀ s) (c : s₀.Canonical) : s.Canonical :=
  ⟨h.memWf c.1, h.regsSorted c.2⟩

/-- The bit of a part. -/
def Part.num : Part → Nat
  | .mem => 0
  | .sys => 1
  | .flash => 2
  | .clk => 3
  | .ref => 4
  | .tim => 5
  | .pump => 6
  | .memu => 7
  | .fab => 8
  | .pair => 9
  | .route => 10
  | .scene => 11
  | .pop => 12
  | .objs => 13
  | .tdm => 14
  | .net => 15
  | .well => 16
  | .hlth => 17
  | .evt => 18
  | .free => 19
  | .anyRegs => 39
  | .regs b => 20 + b

/-- The mask of a list of parts. -/
def maskOf (l : List Part) : Nat := l.foldl (fun m p => m ||| 2 ^ p.num) 0

/-- The state of a pair taken apart. -/
theorem of_snd {P : Nat} {s₀ : State} {α : Type} {x : α × State} {a : α} {s : State} (e : x = (a, s)) (h : Framed P s₀
    x.2) : Framed P s₀ s := by
  rw [e] at h; exact h
theorem of_fst {P : Nat} {s₀ : State} {α : Type} {x : State × α} {a : α} {s : State} (e : x = (s, a)) (h : Framed P s₀
    x.1) : Framed P s₀ s := by
  rw [e] at h; exact h

/-- A local state, or a local function on states, is dealt with once, where it is defined. -/
theorem letS {P : Nat} {s₀ : State} {x : State} {Q : Prop} (h : Framed P s₀ x) (k : Framed P s₀ x → Q) : Q := k h
theorem letF {P : Nat} {s₀ : State} {f : State → State} {Q : Prop} (h : ∀ s, Framed P s₀ s → Framed P s₀ (f s)) (k : (∀ s,
    Framed P s₀ s → Framed P s₀ (f s)) → Q) : Q := k h

theorem letF2 {P : Nat} {s₀ : State} {α : Type} {f : State → α → State} {Q : Prop} (h : ∀ s a, Framed P s₀ s → Framed P s₀
    (f s a)) (k : (∀ s a, Framed P s₀ s → Framed P s₀ (f s a)) → Q) : Q := k h
theorem letF3 {P : Nat} {s₀ : State} {α β : Type} {f : State → α → β → State} {Q : Prop} (h : ∀ s a b, Framed P s₀ s →
    Framed P s₀ (f s a b)) (k : (∀ s a b, Framed P s₀ s → Framed P s₀ (f s a b)) → Q) : Q := k h
theorem letFP {P : Nat} {s₀ : State} {γ : Type} {f : State → γ × State} {Q : Prop} (h : ∀ s, Framed P s₀ s → Framed P s₀
    (f s).2) (k : (∀ s, Framed P s₀ s → Framed P s₀ (f s).2) → Q) : Q := k h
theorem letFP2 {P : Nat} {s₀ : State} {α γ : Type} {f : State → α → γ × State} {Q : Prop} (h : ∀ s a, Framed P s₀ s →
    Framed P s₀ (f s a).2) (k : (∀ s a, Framed P s₀ s → Framed P s₀ (f s a).2) → Q) : Q := k h
theorem letFP3 {P : Nat} {s₀ : State} {α β γ : Type} {f : State → α → β → γ × State} {Q : Prop} (h : ∀ s a b, Framed P s₀
    s → Framed P s₀ (f s a b).2) (k : (∀ s a b, Framed P s₀ s → Framed P s₀ (f s a b).2) → Q) : Q := k h

theorem id_framed {P : Nat} {s₀ : State} {s : State} (h : Framed P s₀ s) : Framed P s₀ (id s) := h

theorem when_framed {P : Nat} {s₀ : State} {s : State} {c : Bool} {f : State → State} (h : Framed P s₀ s) (hf : Framed P
    s₀ (f s)) : Framed P s₀ (s.when c f) := by
  unfold State.when; split <;> assumption

theorem foldl_framed {P : Nat} {s₀ : State} {α : Type} {l : List α} {f : State → α → State} {s : State} (h : Framed P s₀ s)
    (hf : ∀ s a, Framed P s₀ s → Framed P s₀ (f s a)) : Framed P s₀ (l.foldl f s) := by
  induction l generalizing s with
  | nil => exact h
  | cons a l ih => exact ih (hf _ _ h)

theorem forL_framed {P : Nat} {s₀ : State} {α : Type} {l : List α} {f : α → State → State} {s : State} (h : Framed P s₀ s)
    (hf : ∀ a s, Framed P s₀ s → Framed P s₀ (f a s)) : Framed P s₀ (forL l f s) := foldl_framed h (fun s a => hf a s)

theorem forFrom_framed {P : Nat} {s₀ : State} {n k : Nat} {f : Nat → State → State} {s : State} (h : Framed P s₀ s)
    (hf : ∀ a s, Framed P s₀ s → Framed P s₀ (f a s)) : Framed P s₀ (forFrom n k f s) := by
  induction k generalizing n s with
  | zero => exact h
  | succ k ih => exact ih (hf _ _ h)

theorem forN_framed {P : Nat} {s₀ : State} {k : Nat} {f : Nat → State → State} {s : State} (h : Framed P s₀ s)
    (hf : ∀ a s, Framed P s₀ s → Framed P s₀ (f a s)) : Framed P s₀ (forN k f s) := forFrom_framed h hf


theorem foldl1_framed {P : Nat} {s₀ : State} {α β : Type} {l : List α} {f : State × β → α → State × β} {s : State × β} (h
    : Framed P s₀ s.1)
    (hf : ∀ s a, Framed P s₀ s.1 → Framed P s₀ (f s a).1) : Framed P s₀ (l.foldl f s).1 := by
  induction l generalizing s with
  | nil => exact h
  | cons a l ih => exact ih (hf _ _ h)

theorem forL1_framed {P : Nat} {s₀ : State} {α β : Type} {l : List α} {f : α → State × β → State × β} {s : State × β} (h :
    Framed P s₀ s.1)
    (hf : ∀ a s, Framed P s₀ s.1 → Framed P s₀ (f a s).1) : Framed P s₀ (forL l f s).1 := foldl1_framed h (fun s a => hf a s)

theorem forFrom1_framed {P : Nat} {s₀ : State} {β : Type} {n k : Nat} {f : Nat → State × β → State × β} {s : State × β} (h
    : Framed P s₀ s.1)
    (hf : ∀ a s, Framed P s₀ s.1 → Framed P s₀ (f a s).1) : Framed P s₀ (forFrom n k f s).1 := by
  induction k generalizing n s with
  | zero => exact h
  | succ k ih => exact ih (hf _ _ h)

theorem forN1_framed {P : Nat} {s₀ : State} {β : Type} {k : Nat} {f : Nat → State × β → State × β} {s : State × β} (h :
    Framed P s₀ s.1)
    (hf : ∀ a s, Framed P s₀ s.1 → Framed P s₀ (f a s).1) : Framed P s₀ (forN k f s).1 := forFrom1_framed h hf

theorem foldl2_framed {P : Nat} {s₀ : State} {α β : Type} {l : List α} {f : β × State → α → β × State} {s : β × State} (h
    : Framed P s₀ s.2)
    (hf : ∀ s a, Framed P s₀ s.2 → Framed P s₀ (f s a).2) : Framed P s₀ (l.foldl f s).2 := by
  induction l generalizing s with
  | nil => exact h
  | cons a l ih => exact ih (hf _ _ h)

theorem forL2_framed {P : Nat} {s₀ : State} {α β : Type} {l : List α} {f : α → β × State → β × State} {s : β × State} (h :
    Framed P s₀ s.2)
    (hf : ∀ a s, Framed P s₀ s.2 → Framed P s₀ (f a s).2) : Framed P s₀ (forL l f s).2 := foldl2_framed h (fun s a => hf a s)

theorem forFrom2_framed {P : Nat} {s₀ : State} {β : Type} {n k : Nat} {f : Nat → β × State → β × State} {s : β × State} (h
    : Framed P s₀ s.2)
    (hf : ∀ a s, Framed P s₀ s.2 → Framed P s₀ (f a s).2) : Framed P s₀ (forFrom n k f s).2 := by
  induction k generalizing n s with
  | zero => exact h
  | succ k ih => exact ih (hf _ _ h)

theorem forN2_framed {P : Nat} {s₀ : State} {β : Type} {k : Nat} {f : Nat → β × State → β × State} {s : β × State} (h :
    Framed P s₀ s.2)
    (hf : ∀ a s, Framed P s₀ s.2 → Framed P s₀ (f a s).2) : Framed P s₀ (forN k f s).2 := forFrom2_framed h hf

/-- A field written where every part is in the mask. -/
theorem State.put_all {P : Nat} {s₀ s : State} (f : Fd) (v i j : Nat) (hP : maskIn (2 ^ 40 - 1) P) (hI : Framed P s₀ s) :
    Framed P s₀ (s.put f v i j) :=
  Framed.all hP hI.queue hI.memWf fun c => nset_sorted _ _ _ (hI.regsSorted c)

end Sys2Proof.Machine
end

