-- ==== Sys2Proof/Laws/FramedOps.lean ====
section
/-! SUPPORT. What the operations and commands of Machine/Ops.lean can change, as masks of parts (Laws/Framed.lean): one lemma
for each. -/

namespace Sys2Proof.Machine

open Sys2Proof

theorem State.putI_framed {P : Nat} {s₀ : State} (s : State) (f : Fd) (v : Int) (i : Nat) (j : Nat) (hI : Framed P s₀ s)
    (hB0 : P.testBit (20 + f.blk) = true) : Framed P s₀ (State.putI s f v i j) := by
  unfold State.putI
  repeat' (first | with_reducible assumption | with_reducible apply State.put_framed | dsimp -zeta only)

theorem State.addSat_framed {P : Nat} {s₀ : State} (s : State) (f : Fd) (n : Nat) (i : Nat) (j : Nat) (hI : Framed P s₀ s)
    (hB0 : P.testBit (20 + f.blk) = true) : Framed P s₀ (State.addSat s f n i j) := by
  unfold State.addSat
  repeat' (first | with_reducible assumption | with_reducible apply State.put_framed | dsimp -zeta only)

theorem State.incSat_framed {P : Nat} {s₀ : State} (s : State) (f : Fd) (i : Nat) (j : Nat) (hI : Framed P s₀ s) (hB0 :
    P.testBit (20 + f.blk) = true) : Framed P s₀ (State.incSat s f i j) := by
  unfold State.incSat
  repeat' (first | with_reducible assumption | with_reducible apply State.addSat_framed | dsimp -zeta only)

theorem State.addWrap_framed {P : Nat} {s₀ : State} (s : State) (f : Fd) (n : Nat) (i : Nat) (j : Nat) (hI : Framed P s₀
    s) (hB0 : P.testBit (20 + f.blk) = true) : Framed P s₀ (State.addWrap s f n i j) := by
  unfold State.addWrap
  repeat' (first | with_reducible assumption | with_reducible apply State.put_framed | dsimp -zeta only)

theorem State.setWord_framed {P : Nat} {s₀ : State} (s : State) (r : Reg) (w : Nat) (i : Nat) (j : Nat) (hI : Framed P s₀
    s) (hP : maskIn 0x8000000000 P) : Framed P s₀ (State.setWord s r w i j) := by
  unfold State.setWord
  repeat' (first
    | with_reducible assumption | with_reducible refine foldl_framed ?_ (fun _ _ _ => ?_)
    | with_reducible apply State.put_any | exact bit_of hP rfl | dsimp -zeta only)

theorem State.resetFields_framed {P : Nat} {s₀ : State} (s : State) (p : Nat → Bool) (hI : Framed P s₀ s) (hP : maskIn
    0x8000000000 P) : Framed P s₀ (State.resetFields s p) := by
  exact hI.ofRegs (bit_of hP rfl) fun c => nkeep_sorted (fun k => !p k) c

theorem State.takeFree_framed {P : Nat} {s₀ : State} (s : State) (w : Nat) (hI : Framed P s₀ s) (hP : maskIn 0x80000 P) :
    Framed P s₀ (State.takeFree s w).2 := by
  unfold State.takeFree
  repeat' (first
    | with_reducible exact Or.inl rfl | exact Or.inr (bit_of hP rfl) | with_reducible assumption | dsimp -zeta only
    | with_reducible apply Framed.mk_of)

theorem State.setDom_framed {P : Nat} {s₀ : State} (s : State) (d : Nat) (x : Dom) (hI : Framed P s₀ s) (hP : maskIn 0x20
    P) : Framed P s₀ (State.setDom s d x) := by
  unfold State.setDom
  repeat' (first
    | with_reducible exact Or.inl rfl | exact Or.inr (bit_of hP rfl) | with_reducible assumption | dsimp -zeta only
    | with_reducible apply Framed.mk_of)

theorem State.dropRec_framed {P : Nat} {s₀ : State} (s : State) (r : Nat) (hI : Framed P s₀ s) (hP : maskIn 0x840000 P) :
    Framed P s₀ (State.dropRec s r) := by
  unfold State.dropRec
  repeat' (first
    | with_reducible exact Or.inl rfl | exact Or.inr (bit_of hP rfl)
    | ((try lift_lets -underBinder); intro x; refine letS (P := P) (s₀ := s₀) (x := x) ?_ (fun _ => ?_); unfold x; rotate_left; clear_value x)
    | ((try lift_lets -underBinder); intro x; clear_value x) | with_reducible assumption
    | with_reducible apply State.incSat_framed | exact bit_of hP rfl | dsimp -zeta only | with_reducible apply Framed.mk_of)

theorem State.formRec_framed {P : Nat} {s₀ : State} (s : State) (e : Nat) (cont : Bool) (args : List Byte) (hI : Framed P
    s₀ s) (hP : maskIn 0x840000 P) : Framed P s₀ (State.formRec s e cont args) := by
  unfold State.formRec
  repeat' (first
    | with_reducible exact Or.inl rfl | exact Or.inr (bit_of hP rfl)
    | ((try lift_lets -underBinder); intro x; refine letS (P := P) (s₀ := s₀) (x := x) ?_ (fun _ => ?_); unfold x; rotate_left; clear_value x)
    | ((try lift_lets -underBinder); intro x; clear_value x) | with_reducible assumption | split
    | with_reducible apply State.dropRec_framed | exact maskIn_trans hP rfl | dsimp -zeta only
    | with_reducible apply Framed.mk_of)

theorem State.countEvent_framed {P : Nat} {s₀ : State} (s : State) (e : Nat) (hI : Framed P s₀ s) (hP : maskIn 0x800000 P)
    : Framed P s₀ (State.countEvent s e) := by
  unfold State.countEvent
  repeat' (first

    | ((try lift_lets -underBinder); intro x; refine letS (P := P) (s₀ := s₀) (x := x) ?_ (fun _ => ?_); unfold x; rotate_left; clear_value x)
    | ((try lift_lets -underBinder); intro x; clear_value x) | with_reducible assumption
    | with_reducible apply State.put_framed | with_reducible apply State.incSat_framed | exact bit_of hP rfl
    | dsimp -zeta only)

theorem State.raise_framed {P : Nat} {s₀ : State} (s : State) (e : Nat) (args : List EvArg) (hI : Framed P s₀ s) (hP :
    maskIn 0x840000 P) : Framed P s₀ (State.raise s e args) := by
  unfold State.raise
  repeat' (first

    | ((try lift_lets -underBinder); intro x; refine letS (P := P) (s₀ := s₀) (x := x) ?_ (fun _ => ?_); unfold x; rotate_left; clear_value x)
    | ((try lift_lets -underBinder); intro x; clear_value x) | with_reducible assumption | split
    | with_reducible apply State.formRec_framed | with_reducible apply State.countEvent_framed | exact maskIn_trans hP rfl
    | dsimp -zeta only)

theorem State.raiseLong_framed {P : Nat} {s₀ : State} (s : State) (e : Nat) (args : List EvArg) (hI : Framed P s₀ s) (hP :
    maskIn 0x840000 P) : Framed P s₀ (State.raiseLong s e args) := by
  unfold State.raiseLong
  repeat' (first

    | ((try lift_lets -underBinder); intro x; refine letS (P := P) (s₀ := s₀) (x := x) ?_ (fun _ => ?_); unfold x; rotate_left; clear_value x)
    | ((try lift_lets -underBinder); intro x; clear_value x) | with_reducible assumption | split
    | with_reducible refine forN_framed ?_ (fun _ _ _ => ?_) | with_reducible apply State.formRec_framed
    | with_reducible apply State.countEvent_framed | exact maskIn_trans hP rfl | dsimp -zeta only)

theorem State.setSess_framed {P : Nat} {s₀ : State} (s : State) (x : Session) (hI : Framed P s₀ s) (hP : maskIn 0x1000 P)
    : Framed P s₀ (State.setSess s x) := by
  unfold State.setSess
  repeat' (first
    | with_reducible exact Or.inl rfl | exact Or.inr (bit_of hP rfl) | with_reducible assumption | split | dsimp -zeta only
    | with_reducible apply Framed.mk_of)

theorem State.pushNote_framed {P : Nat} {s₀ : State} (s : State) (num handle : Nat) (item : List Byte) (hI : Framed P s₀
    s) (hP : maskIn 0x841000 P) : Framed P s₀ (State.pushNote s num handle item) := by
  unfold State.pushNote
  repeat' (first
    | with_reducible exact Or.inl rfl | exact Or.inr (bit_of hP rfl)
    | ((try lift_lets -underBinder); intro x; refine letS (P := P) (s₀ := s₀) (x := x) ?_ (fun _ => ?_); unfold x; rotate_left; clear_value x)
    | ((try lift_lets -underBinder); intro x; clear_value x) | with_reducible assumption | split
    | with_reducible apply State.raise_framed | with_reducible apply State.setSess_framed | exact maskIn_trans hP rfl
    | dsimp -zeta only | with_reducible apply Framed.mk_of)

theorem State.noteRec_framed {P : Nat} {s₀ : State} (s : State) (r : EvRec) (hI : Framed P s₀ s) (hP : maskIn 0x841000 P)
    : Framed P s₀ (State.noteRec s r) := by
  unfold State.noteRec
  repeat' (first

    | ((try lift_lets -underBinder); intro x; refine letS (P := P) (s₀ := s₀) (x := x) ?_ (fun _ => ?_); unfold x; rotate_left; clear_value x)
    | ((try lift_lets -underBinder); intro x; clear_value x) | with_reducible assumption
    | with_reducible refine forL_framed ?_ (fun _ _ _ => ?_) | with_reducible apply State.pushNote_framed
    | exact maskIn_trans hP rfl | dsimp -zeta only)

theorem State.drainOne_framed {P : Nat} {s₀ : State} (s : State) (hI : Framed P s₀ s) (hP : maskIn 0x841000 P) : Framed P
    s₀ (State.drainOne s) := by
  unfold State.drainOne
  repeat' (first
    | with_reducible exact Or.inl rfl | exact Or.inr (bit_of hP rfl)
    | ((try lift_lets -underBinder); intro x; refine letS (P := P) (s₀ := s₀) (x := x) ?_ (fun _ => ?_); unfold x; rotate_left; clear_value x)
    | ((try lift_lets -underBinder); intro x; clear_value x) | with_reducible assumption | split
    | with_reducible apply State.dropRec_framed | with_reducible apply State.noteRec_framed | exact maskIn_trans hP rfl
    | dsimp -zeta only | with_reducible apply Framed.mk_of)

theorem State.drain_framed {P : Nat} {s₀ : State} (s : State) (n : Nat) (hI : Framed P s₀ s) (hP : maskIn 0x841000 P) :
    Framed P s₀ (State.drain s n) := by
  unfold State.drain
  repeat' (first
    | with_reducible assumption | with_reducible refine forN_framed ?_ (fun _ _ _ => ?_)
    | with_reducible apply State.drainOne_framed | exact maskIn_trans hP rfl | dsimp -zeta only)

end Sys2Proof.Machine
end

