-- ==== Sys2Proof/Laws/FramedMemory.lean ====
section
/-! SUPPORT. What the operations and commands of Machine/Memory.lean can change, as masks of parts (Laws/Framed.lean): one lemma
for each. -/

namespace Sys2Proof.Machine

open Sys2Proof

theorem State.wroteMem_framed {P : Nat} {s₀ : State} (s : State) (a n : Nat) (hI : Framed P s₀ s) (hP : maskIn 0x80 P) :
    Framed P s₀ (State.wroteMem s a n) := by
  unfold State.wroteMem
  repeat' (first
    | with_reducible exact Or.inl rfl | exact Or.inr (bit_of hP rfl)
    | ((try lift_lets -underBinder); intro x; refine letS (P := P) (s₀ := s₀) (x := x) ?_ (fun _ => ?_); unfold x; rotate_left; clear_value x)
    | ((try lift_lets -underBinder); intro x; clear_value x) | with_reducible assumption | dsimp -zeta only
    | with_reducible apply Framed.mk_of)

theorem State.wrMem_framed {P : Nat} {s₀ : State} (s : State) (a n v : Nat) (hI : Framed P s₀ s) (hP : maskIn 0x81 P) :
    Framed P s₀ (State.wrMem s a n v) := by
  exact State.wroteMem_framed _ _ _ (hI.ofMem (bit_of hP rfl) fun c => memSetList_wf _ _ c) (maskIn_trans hP rfl)

theorem State.zeroMem_framed {P : Nat} {s₀ : State} (s : State) (a b : Nat) (hI : Framed P s₀ s) (hP : maskIn 0x81 P) :
    Framed P s₀ (State.zeroMem s a b) := by
  have h1 : Framed P s₀ _ := hI.ofMem (m := memZero s.mem a b) (bit_of hP rfl) fun c => memZero_wf a b c
  exact { h1 with memu := bit_no hP rfl }

theorem State.wrXY_framed {P : Nat} {s₀ : State} (s : State) (n : Nat) (y : Bool) (k : Nat) (v : Word32) (hI : Framed P s₀
    s) (hP : maskIn 0x81 P) : Framed P s₀ (State.wrXY s n y k v) := by
  unfold State.wrXY
  repeat' (first
    | with_reducible assumption | with_reducible apply State.wrMem_framed | exact maskIn_trans hP rfl | dsimp -zeta only)

theorem State.copyWords_framed {P : Nat} {s₀ : State} (s : State) (src dst k : Nat) (hI : Framed P s₀ s) (hP : maskIn 0x81
    P) : Framed P s₀ (State.copyWords s src dst k) := by
  unfold State.copyWords
  repeat' (first
    | with_reducible assumption | with_reducible refine forN_framed ?_ (fun _ _ _ => ?_)
    | with_reducible apply State.wrMem_framed | exact maskIn_trans hP rfl | dsimp -zeta only)

theorem State.zeroCluster_framed {P : Nat} {s₀ : State} (s : State) (n : Nat) (hI : Framed P s₀ s) (hP : maskIn 0x81 P) :
    Framed P s₀ (State.zeroCluster s n) := by
  unfold State.zeroCluster
  repeat' (first
    | with_reducible assumption | with_reducible apply State.zeroMem_framed | exact maskIn_trans hP rfl | dsimp -zeta only)

theorem State.endSpareTest_framed {P : Nat} {s₀ : State} (s : State) (cluster : Bool) (site : Nat) (hI : Framed P s₀ s)
    (hP : maskIn 0x20000 P) : Framed P s₀ (State.endSpareTest s cluster site) := by
  unfold State.endSpareTest
  repeat' (first
    | with_reducible exact Or.inl rfl | exact Or.inr (bit_of hP rfl) | with_reducible assumption | split | dsimp -zeta only
    | with_reducible apply Framed.mk_of)

theorem State.setClocked_framed {P : Nat} {s₀ : State} (s : State) (n : Nat) (v : Bool) (hI : Framed P s₀ s) (hP : maskIn
    0x200000 P) : Framed P s₀ (State.setClocked s n v) := by
  unfold State.setClocked
  repeat' (first | with_reducible assumption | with_reducible apply State.put_framed | exact bit_of hP rfl | dsimp -zeta only)

theorem State.startBankCopy_framed {P : Nat} {s₀ : State} (s : State) (site : Nat) (hI : Framed P s₀ s) (hP : maskIn
    0x20000 P) : Framed P s₀ (State.startBankCopy s site) := by
  unfold State.startBankCopy
  repeat' (first
    | with_reducible exact Or.inl rfl | exact Or.inr (bit_of hP rfl)
    | ((try lift_lets -underBinder); intro x; refine letS (P := P) (s₀ := s₀) (x := x) ?_ (fun _ => ?_); unfold x; rotate_left; clear_value x)
    | ((try lift_lets -underBinder); intro x; clear_value x) | with_reducible assumption | split
    | with_reducible apply State.endSpareTest_framed | exact maskIn_trans hP rfl | dsimp -zeta only
    | with_reducible apply Framed.mk_of)

theorem State.startClusterCopy_framed {P : Nat} {s₀ : State} (s : State) (site : Nat) (hI : Framed P s₀ s) (hP : maskIn
    0x220000 P) : Framed P s₀ (State.startClusterCopy s site) := by
  unfold State.startClusterCopy
  repeat' (first
    | with_reducible exact Or.inl rfl | exact Or.inr (bit_of hP rfl)
    | ((try lift_lets -underBinder); intro x; refine letS (P := P) (s₀ := s₀) (x := x) ?_ (fun _ => ?_); unfold x; rotate_left; clear_value x)
    | ((try lift_lets -underBinder); intro x; clear_value x) | with_reducible assumption | split
    | with_reducible apply State.endSpareTest_framed | with_reducible apply State.setClocked_framed
    | exact maskIn_trans hP rfl | dsimp -zeta only | with_reducible apply Framed.mk_of)

theorem State.endShadow_framed {P : Nat} {s₀ : State} (s : State) (site : Nat) (hI : Framed P s₀ s) (hP : maskIn 0x40 P) :
    Framed P s₀ (State.endShadow s site) := by
  unfold State.endShadow
  repeat' (first
    | with_reducible exact Or.inl rfl | exact Or.inr (bit_of hP rfl)
    | ((try lift_lets -underBinder); intro x; refine letS (P := P) (s₀ := s₀) (x := x) ?_ (fun _ => ?_); unfold x; rotate_left; clear_value x)
    | ((try lift_lets -underBinder); intro x; clear_value x) | with_reducible assumption | split | dsimp -zeta only
    | with_reducible apply Framed.mk_of)

theorem State.setWear_framed {P : Nat} {s₀ : State} (s : State) (hI : Framed P s₀ s) (hP : maskIn 0x4000000 P) : Framed P
    s₀ (State.setWear s) := by
  unfold State.setWear
  repeat' (first

    | ((try lift_lets -underBinder); intro x; refine letS (P := P) (s₀ := s₀) (x := x) ?_ (fun _ => ?_); unfold x; rotate_left; clear_value x)
    | ((try lift_lets -underBinder); intro x; clear_value x) | with_reducible assumption
    | with_reducible refine foldl_framed ?_ (fun _ _ _ => ?_) | with_reducible apply State.put_framed | exact bit_of hP rfl
    | dsimp -zeta only)

theorem State.useSpare_framed {P : Nat} {s₀ : State} (s : State) (f : Fd) (kind : Nat) (hI : Framed P s₀ s) (hP : maskIn
    0x4840000 P) (hB0 : P.testBit (20 + f.blk) = true) : Framed P s₀ (State.useSpare s f kind) := by
  unfold State.useSpare
  repeat' (first

    | ((try lift_lets -underBinder); intro x; refine letS (P := P) (s₀ := s₀) (x := x) ?_ (fun _ => ?_); unfold x; rotate_left; clear_value x)
    | ((try lift_lets -underBinder); intro x; clear_value x) | with_reducible assumption | split
    | with_reducible apply State.put_framed | with_reducible apply State.raise_framed
    | with_reducible apply State.setWear_framed | exact maskIn_trans hP rfl | exact bit_of hP rfl | dsimp -zeta only)

theorem State.permanent_framed {P : Nat} {s₀ : State} (s : State) (kind site cause : Nat) (hI : Framed P s₀ s) (hP :
    maskIn 0x4a60040 P) : Framed P s₀ (State.permanent s kind site cause) := by
  unfold State.permanent
  repeat' (first
    | with_reducible exact Or.inl rfl | exact Or.inr (bit_of hP rfl)
    | ((try lift_lets -underBinder); intro x; refine letS (P := P) (s₀ := s₀) (x := x) ?_ (fun _ => ?_); unfold x; rotate_left; clear_value x)
    | ((try lift_lets -underBinder); intro x; refine letF (P := P) (s₀ := s₀) (f := x) (fun _ _ => ?_) (fun hf => ?_); unfold x; rotate_left; clear_value x)
    | ((try lift_lets -underBinder); intro x; clear_value x) | with_reducible assumption | split
    | with_reducible apply State.put_framed | with_reducible apply State.raise_framed
    | with_reducible apply State.startBankCopy_framed | with_reducible apply State.startClusterCopy_framed
    | with_reducible apply State.endShadow_framed | with_reducible apply State.retired_framed | with_reducible apply hf
    | exact maskIn_trans hP rfl | exact bit_of hP rfl | dsimp -zeta only | with_reducible apply Framed.mk_of)

theorem State.healthError_framed {P : Nat} {s₀ : State} (s : State) (kind site cause : Nat) (hI : Framed P s₀ s) (hP :
    maskIn 0x4a60040 P) : Framed P s₀ (State.healthError s kind site cause) := by
  unfold State.healthError
  repeat' (first
    | with_reducible exact Or.inl rfl | exact Or.inr (bit_of hP rfl)
    | ((try lift_lets -underBinder); intro x; refine letS (P := P) (s₀ := s₀) (x := x) ?_ (fun _ => ?_); unfold x; rotate_left; clear_value x)
    | ((try lift_lets -underBinder); intro x; clear_value x) | with_reducible assumption | split
    | with_reducible apply State.raise_framed | with_reducible apply State.permanent_framed | exact maskIn_trans hP rfl
    | dsimp -zeta only | with_reducible apply Framed.mk_of)

theorem State.healthStuck_framed {P : Nat} {s₀ : State} (s : State) (kind site : Nat) (hI : Framed P s₀ s) (hP : maskIn
    0x4a60040 P) : Framed P s₀ (State.healthStuck s kind site) := by
  unfold State.healthStuck
  repeat' (first
    | with_reducible assumption | with_reducible apply State.permanent_framed | exact maskIn_trans hP rfl | dsimp -zeta only)

theorem State.corrEvent_framed {P : Nat} {s₀ : State} (s : State) (mem : Nat) (args : List EvArg) (hI : Framed P s₀ s) (hP
    : maskIn 0x840080 P) : Framed P s₀ (State.corrEvent s mem args) := by
  unfold State.corrEvent
  repeat' (first
    | with_reducible exact Or.inl rfl | exact Or.inr (bit_of hP rfl)
    | ((try lift_lets -underBinder); intro x; refine letS (P := P) (s₀ := s₀) (x := x) ?_ (fun _ => ?_); unfold x; rotate_left; clear_value x)
    | ((try lift_lets -underBinder); intro x; clear_value x) | with_reducible assumption | split
    | with_reducible apply State.raise_framed | exact maskIn_trans hP rfl | dsimp -zeta only
    | with_reducible apply Framed.mk_of)

theorem State.planWriteBack_framed {P : Nat} {s₀ : State} (s : State) (a : Nat) (hI : Framed P s₀ s) (hP : maskIn 0x80 P)
    : Framed P s₀ (State.planWriteBack s a) := by
  unfold State.planWriteBack
  repeat' (first
    | with_reducible exact Or.inl rfl | exact Or.inr (bit_of hP rfl) | with_reducible assumption | split | dsimp -zeta only
    | with_reducible apply Framed.mk_of)

theorem State.cluCorrected_framed {P : Nat} {s₀ : State} (s : State) (n mem a : Nat) (hI : Framed P s₀ s) (hP : maskIn
    0x400840080 P) : Framed P s₀ (State.cluCorrected s n mem a) := by
  unfold State.cluCorrected
  repeat' (first

    | ((try lift_lets -underBinder); intro x; refine letS (P := P) (s₀ := s₀) (x := x) ?_ (fun _ => ?_); unfold x; rotate_left; clear_value x)
    | ((try lift_lets -underBinder); intro x; clear_value x) | with_reducible assumption | split
    | with_reducible apply State.incSat_framed | with_reducible apply State.corrEvent_framed
    | with_reducible apply State.planWriteBack_framed | exact maskIn_trans hP rfl | exact bit_of hP rfl | dsimp -zeta only)

theorem State.cluUncorrected_framed {P : Nat} {s₀ : State} (s : State) (n mem a : Nat) (hI : Framed P s₀ s) (hP : maskIn
    0x404a600c0 P) : Framed P s₀ (State.cluUncorrected s n mem a) := by
  unfold State.cluUncorrected
  repeat' (first
    | with_reducible exact Or.inl rfl | exact Or.inr (bit_of hP rfl)
    | ((try lift_lets -underBinder); intro x; refine letS (P := P) (s₀ := s₀) (x := x) ?_ (fun _ => ?_); unfold x; rotate_left; clear_value x)
    | ((try lift_lets -underBinder); intro x; clear_value x) | with_reducible assumption
    | with_reducible apply State.put_framed | with_reducible apply State.incSat_framed
    | with_reducible apply State.raise_framed | with_reducible apply State.healthError_framed | exact maskIn_trans hP rfl
    | exact bit_of hP rfl | dsimp -zeta only | with_reducible apply Framed.mk_of)

theorem State.cisCorrected_framed {P : Nat} {s₀ : State} (s : State) (x : Nat) (hI : Framed P s₀ s) (hP : maskIn
    0x100840080 P) : Framed P s₀ (State.cisCorrected s x) := by
  unfold State.cisCorrected
  repeat' (first

    | ((try lift_lets -underBinder); intro x; refine letS (P := P) (s₀ := s₀) (x := x) ?_ (fun _ => ?_); unfold x; rotate_left; clear_value x)
    | ((try lift_lets -underBinder); intro x; clear_value x) | with_reducible assumption
    | with_reducible apply State.incSat_framed | with_reducible apply State.corrEvent_framed
    | with_reducible apply State.planWriteBack_framed | exact maskIn_trans hP rfl | exact bit_of hP rfl | dsimp -zeta only)

theorem State.cisUncorrected_framed {P : Nat} {s₀ : State} (s : State) (x : Nat) (hI : Framed P s₀ s) (hP : maskIn
    0x104a600c0 P) : Framed P s₀ (State.cisUncorrected s x) := by
  unfold State.cisUncorrected
  repeat' (first
    | with_reducible exact Or.inl rfl | exact Or.inr (bit_of hP rfl)
    | ((try lift_lets -underBinder); intro x; refine letS (P := P) (s₀ := s₀) (x := x) ?_ (fun _ => ?_); unfold x; rotate_left; clear_value x)
    | ((try lift_lets -underBinder); intro x; clear_value x) | with_reducible assumption | split
    | with_reducible apply State.incSat_framed | with_reducible apply State.raise_framed
    | with_reducible apply State.healthError_framed | exact maskIn_trans hP rfl | exact bit_of hP rfl | dsimp -zeta only
    | with_reducible apply Framed.mk_of)

theorem State.eccRead_framed {P : Nat} {s₀ : State} (s : State) (a : Nat) (e : Ecc) (hI : Framed P s₀ s) (hP : maskIn
    0x504a600c0 P) : Framed P s₀ (State.eccRead s a e) := by
  unfold State.eccRead
  repeat' (first
    | with_reducible exact Or.inl rfl | exact Or.inr (bit_of hP rfl)
    | ((try lift_lets -underBinder); intro x; refine letS (P := P) (s₀ := s₀) (x := x) ?_ (fun _ => ?_); unfold x; rotate_left; clear_value x)
    | ((try lift_lets -underBinder); intro x; clear_value x) | with_reducible assumption | split
    | with_reducible apply State.raise_framed | with_reducible apply State.planWriteBack_framed
    | with_reducible apply State.cluCorrected_framed | with_reducible apply State.cluUncorrected_framed
    | with_reducible apply State.cisCorrected_framed | with_reducible apply State.cisUncorrected_framed
    | exact maskIn_trans hP rfl | dsimp -zeta only | with_reducible apply Framed.mk_of)

theorem State.touchBank_framed {P : Nat} {s₀ : State} (s : State) (k : Nat) (hI : Framed P s₀ s) (hP : maskIn 0x100000088
    P) : Framed P s₀ (State.touchBank s k) := by
  unfold State.touchBank
  repeat' (first
    | with_reducible exact Or.inl rfl | exact Or.inr (bit_of hP rfl)
    | ((try lift_lets -underBinder); intro x; refine letS (P := P) (s₀ := s₀) (x := x) ?_ (fun _ => ?_); unfold x; rotate_left; clear_value x)
    | ((try lift_lets -underBinder); intro x; clear_value x) | with_reducible assumption | split
    | with_reducible apply State.put_framed | with_reducible apply State.incSat_framed | exact bit_of hP rfl
    | dsimp -zeta only | with_reducible apply Framed.mk_of)

end Sys2Proof.Machine
end

