-- ==== Sys2Proof/Laws/FramedLaneOps.lean ====
section
/-! SUPPORT. What the operations and commands of Machine/LaneOps.lean can change, as masks of parts (Laws/Framed.lean): one lemma
for each. -/

namespace Sys2Proof.Machine

open Sys2Proof

theorem stickyFd_blk (flag : Nat) : (stickyFd flag).blk = 14 := by
  unfold stickyFd; repeat' split
  all_goals rfl

theorem State.setLane_framed {P : Nat} {s₀ : State} (s : State) (n m : Nat) (x : Lane) (hI : Framed P s₀ s) (hP : maskIn
    0x40 P) : Framed P s₀ (State.setLane s n m x) := by
  unfold State.setLane
  repeat' (first
    | with_reducible exact Or.inl rfl | exact Or.inr (bit_of hP rfl) | with_reducible assumption | dsimp -zeta only
    | with_reducible apply Framed.mk_of)

theorem State.setAcc_framed {P : Nat} {s₀ : State} (s : State) (n m k : Nat) (a : LAcc) (hI : Framed P s₀ s) (hP : maskIn
    0x400000040 P) : Framed P s₀ (State.setAcc s n m k a) := by
  unfold State.setAcc
  repeat' (first
    | with_reducible exact Or.inl rfl | exact Or.inr (bit_of hP rfl)
    | ((try lift_lets -underBinder); intro x; refine letS (P := P) (s₀ := s₀) (x := x) ?_ (fun _ => ?_); unfold x; rotate_left; clear_value x)
    | ((try lift_lets -underBinder); intro x; clear_value x) | with_reducible assumption
    | with_reducible apply State.put_framed | with_reducible apply State.setLane_framed | exact maskIn_trans hP rfl
    | exact bit_of hP rfl | dsimp -zeta only | with_reducible apply Framed.mk_of)

theorem State.onLane_framed {P : Nat} {s₀ : State} (s : State) (n m : Nat) (f : Lane → Lane) (hI : Framed P s₀ s) (hP :
    maskIn 0x40 P) : Framed P s₀ (State.onLane s n m f) := by
  unfold State.onLane
  repeat' (first
    | with_reducible assumption | with_reducible apply State.setLane_framed | exact maskIn_trans hP rfl | dsimp -zeta only)

theorem State.setSticky_framed {P : Nat} {s₀ : State} (s : State) (n m flag k : Nat) (quiet : Bool) (hI : Framed P s₀ s)
    (hP : maskIn 0x400840000 P) : Framed P s₀ (State.setSticky s n m flag k quiet) := by
  unfold State.setSticky
  repeat' (first

    | ((try lift_lets -underBinder); intro x; refine letS (P := P) (s₀ := s₀) (x := x) ?_ (fun _ => ?_); unfold x; rotate_left; clear_value x)
    | ((try lift_lets -underBinder); intro x; clear_value x) | with_reducible assumption | split
    | with_reducible apply State.put_framed | with_reducible apply State.raise_framed | exact maskIn_trans hP rfl
    | exact bit_of hP rfl | (rw [stickyFd_blk]; exact bit_of hP rfl) | dsimp -zeta only)

theorem State.doStore_framed {P : Nat} {s₀ : State} (s : State) (n m : Nat) (start : Nat) (t : StoreW) (hI : Framed P s₀
    s) (hP : maskIn 0xc1 P) : Framed P s₀ (State.doStore s n m start t) := by
  unfold State.doStore
  repeat' (first
    | with_reducible exact Or.inl rfl | exact Or.inr (bit_of hP rfl)
    | ((try lift_lets -underBinder); intro x; refine letS (P := P) (s₀ := s₀) (x := x) ?_ (fun _ => ?_); unfold x; rotate_left; clear_value x)
    | ((try lift_lets -underBinder); intro x; clear_value x) | with_reducible assumption | split
    | with_reducible apply State.wrXY_framed | exact maskIn_trans hP rfl | dsimp -zeta only
    | with_reducible apply Framed.mk_of)

theorem State.flushStores_framed {P : Nat} {s₀ : State} (s : State) (n m t : Nat) (hI : Framed P s₀ s) (hP : maskIn 0xc1
    P) : Framed P s₀ (State.flushStores s n m t) := by
  unfold State.flushStores
  repeat' (first
    | with_reducible exact Or.inl rfl | exact Or.inr (bit_of hP rfl)
    | ((try lift_lets -underBinder); intro x; refine letS (P := P) (s₀ := s₀) (x := x) ?_ (fun _ => ?_); unfold x; rotate_left; clear_value x)
    | ((try lift_lets -underBinder); intro x; clear_value x) | with_reducible assumption | split
    | with_reducible refine forL_framed ?_ (fun _ _ _ => ?_) | with_reducible apply State.setLane_framed
    | with_reducible apply State.doStore_framed | exact maskIn_trans hP rfl | dsimp -zeta only
    | with_reducible apply Framed.mk_of)

theorem State.issueStore_framed {P : Nat} {s₀ : State} (s : State) (n m : Nat) (y : Bool) (addr : Nat) (v : Word32) (hI :
    Framed P s₀ s) (hP : maskIn 0x40 P) : Framed P s₀ (State.issueStore s n m y addr v) := by
  unfold State.issueStore
  repeat' (first
    | with_reducible exact Or.inl rfl | exact Or.inr (bit_of hP rfl)
    | ((try lift_lets -underBinder); intro x; refine letS (P := P) (s₀ := s₀) (x := x) ?_ (fun _ => ?_); unfold x; rotate_left; clear_value x)
    | ((try lift_lets -underBinder); intro x; clear_value x) | with_reducible assumption | split
    | with_reducible apply State.onLane_framed | exact maskIn_trans hP rfl | dsimp -zeta only
    | with_reducible apply Framed.mk_of)

theorem State.endSlot_framed {P : Nat} {s₀ : State} (s : State) (n m : Nat) (eob : Bool) (hI : Framed P s₀ s) (hP : maskIn
    0x400000040 P) : Framed P s₀ (State.endSlot s n m eob) := by
  unfold State.endSlot
  repeat' (first

    | ((try lift_lets -underBinder); intro x; refine letS (P := P) (s₀ := s₀) (x := x) ?_ (fun _ => ?_); unfold x; rotate_left; clear_value x)
    | ((try lift_lets -underBinder); intro x; clear_value x) | with_reducible assumption | split
    | with_reducible refine forL_framed ?_ (fun _ _ _ => ?_) | with_reducible apply State.put_framed
    | with_reducible apply State.setAcc_framed | with_reducible apply State.onLane_framed | exact maskIn_trans hP rfl
    | exact bit_of hP rfl | dsimp -zeta only)

end Sys2Proof.Machine
end

