-- ==== Sys2Proof/Laws/FramedPump.lean ====
section
/-! SUPPORT. What the operations and commands of Machine/Pump.lean can change, as masks of parts (Laws/Framed.lean): one lemma
for each. -/

namespace Sys2Proof.Machine

open Sys2Proof

theorem missFd_blk (reason : Nat) : (missFd reason).blk = 15 := by
  unfold missFd; repeat' split
  all_goals rfl

theorem State.setRt_framed {P : Nat} {s₀ : State} (s : State) (n t : Nat) (x : TaskRt) (hI : Framed P s₀ s) (hP : maskIn
    0x40 P) : Framed P s₀ (State.setRt s n t x) := by
  unfold State.setRt
  repeat' (first
    | with_reducible exact Or.inl rfl | exact Or.inr (bit_of hP rfl) | with_reducible assumption | dsimp -zeta only
    | with_reducible apply Framed.mk_of)

theorem State.setPumpSt_framed {P : Nat} {s₀ : State} (s : State) (n : Nat) (x : PumpSt) (hI : Framed P s₀ s) (hP : maskIn
    0x800000040 P) : Framed P s₀ (State.setPumpSt s n x) := by
  unfold State.setPumpSt
  repeat' (first
    | with_reducible exact Or.inl rfl | exact Or.inr (bit_of hP rfl)
    | ((try lift_lets -underBinder); intro x; refine letS (P := P) (s₀ := s₀) (x := x) ?_ (fun _ => ?_); unfold x; rotate_left; clear_value x)
    | ((try lift_lets -underBinder); intro x; clear_value x) | with_reducible assumption
    | with_reducible apply State.put_framed | exact bit_of hP rfl | dsimp -zeta only | with_reducible apply Framed.mk_of)

theorem State.setTState_framed {P : Nat} {s₀ : State} (s : State) (n t st : Nat) (hI : Framed P s₀ s) (hP : maskIn
    0x1800000000 P) : Framed P s₀ (State.setTState s n t st) := by
  unfold State.setTState
  repeat' (first

    | ((try lift_lets -underBinder); intro x; refine letS (P := P) (s₀ := s₀) (x := x) ?_ (fun _ => ?_); unfold x; rotate_left; clear_value x)
    | ((try lift_lets -underBinder); intro x; clear_value x) | with_reducible assumption | split
    | with_reducible apply State.put_framed | exact bit_of hP rfl | dsimp -zeta only)

theorem State.setPend_framed {P : Nat} {s₀ : State} (s : State) (n b sl v : Nat) (hI : Framed P s₀ s) (hP : maskIn
    0x1000000000 P) : Framed P s₀ (State.setPend s n b sl v) := by
  unfold State.setPend
  repeat' (first | with_reducible assumption | with_reducible apply State.put_framed | exact bit_of hP rfl | dsimp -zeta only)

theorem State.release_framed {P : Nat} {s₀ : State} (s : State) (n b sl : Nat) (hI : Framed P s₀ s) (hP : maskIn
    0x1000000040 P) : Framed P s₀ (State.release s n b sl) := by
  unfold State.release
  repeat' (first
    | with_reducible exact Or.inl rfl | exact Or.inr (bit_of hP rfl)
    | ((try lift_lets -underBinder); intro x; refine letS (P := P) (s₀ := s₀) (x := x) ?_ (fun _ => ?_); unfold x; rotate_left; clear_value x)
    | ((try lift_lets -underBinder); intro x; clear_value x) | with_reducible assumption | split
    | with_reducible apply State.setPend_framed | exact maskIn_trans hP rfl | dsimp -zeta only
    | with_reducible apply Framed.mk_of)

theorem State.flagPost_framed {P : Nat} {s₀ : State} (s : State) (n t bitNo blk src b : Nat) (hI : Framed P s₀ s) (hP :
    maskIn 0x1000000040 P) : Framed P s₀ (State.flagPost s n t bitNo blk src b) := by
  unfold State.flagPost
  repeat' (first

    | ((try lift_lets -underBinder); intro x; refine letS (P := P) (s₀ := s₀) (x := x) ?_ (fun _ => ?_); unfold x; rotate_left; clear_value x)
    | ((try lift_lets -underBinder); intro x; clear_value x) | with_reducible assumption | split
    | with_reducible apply State.put_framed | with_reducible apply State.release_framed | exact maskIn_trans hP rfl
    | exact bit_of hP rfl | dsimp -zeta only)

theorem State.egressPost_framed {P : Nat} {s₀ : State} (s : State) (c e blk : Nat) (hI : Framed P s₀ s) (hP : maskIn 0x40
    P) : Framed P s₀ (State.egressPost s c e blk) := by
  unfold State.egressPost
  repeat' (first
    | with_reducible exact Or.inl rfl | exact Or.inr (bit_of hP rfl)
    | ((try lift_lets -underBinder); intro x; refine letS (P := P) (s₀ := s₀) (x := x) ?_ (fun _ => ?_); unfold x; rotate_left; clear_value x)
    | ((try lift_lets -underBinder); intro x; clear_value x) | with_reducible assumption | dsimp -zeta only
    | with_reducible apply Framed.mk_of)

theorem State.deliver_framed {P : Nat} {s₀ : State} (s : State) (src : Nat) (p : PostItem) (hI : Framed P s₀ s) (hP :
    maskIn 0x1800000040 P) : Framed P s₀ (State.deliver s src p) := by
  unfold State.deliver
  repeat' (first
    | with_reducible exact Or.inl rfl | exact Or.inr (bit_of hP rfl)
    | ((try lift_lets -underBinder); intro x; refine letS (P := P) (s₀ := s₀) (x := x) ?_ (fun _ => ?_); unfold x; rotate_left; clear_value x)
    | ((try lift_lets -underBinder); intro x; clear_value x) | with_reducible assumption | split
    | with_reducible apply State.setPumpSt_framed | with_reducible apply State.setPend_framed
    | with_reducible apply State.flagPost_framed | with_reducible apply State.egressPost_framed | exact maskIn_trans hP rfl
    | dsimp -zeta only | with_reducible apply Framed.mk_of)

theorem State.outPend_framed {P : Nat} {s₀ : State} (s : State) (n b blk : Nat) (hI : Framed P s₀ s) (hP : maskIn
    0x1000000000 P) : Framed P s₀ (State.outPend s n b blk) := by
  unfold State.outPend
  repeat' (first
    | with_reducible assumption | split | with_reducible apply State.setPend_framed | exact maskIn_trans hP rfl
    | dsimp -zeta only)

theorem State.releaseInputs_framed {P : Nat} {s₀ : State} (s : State) (n t j : Nat) (hI : Framed P s₀ s) (hP : maskIn
    0x1000000040 P) : Framed P s₀ (State.releaseInputs s n t j) := by
  unfold State.releaseInputs
  repeat' (first
    | with_reducible assumption | split | with_reducible refine forL_framed ?_ (fun _ _ _ => ?_)
    | with_reducible apply State.release_framed | exact maskIn_trans hP rfl | dsimp -zeta only)

theorem State.releaseArrived_framed {P : Nat} {s₀ : State} (s : State) (n t j : Nat) (hI : Framed P s₀ s) (hP : maskIn
    0x1000000040 P) : Framed P s₀ (State.releaseArrived s n t j) := by
  unfold State.releaseArrived
  repeat' (first
    | with_reducible assumption | split | with_reducible refine forL_framed ?_ (fun _ _ _ => ?_)
    | with_reducible apply State.release_framed | exact maskIn_trans hP rfl | dsimp -zeta only)

theorem State.enqueue_framed {P : Nat} {s₀ : State} (s : State) (n t : Nat) (hI : Framed P s₀ s) (hP : maskIn 0x1800000040
    P) : Framed P s₀ (State.enqueue s n t) := by
  unfold State.enqueue
  repeat' (first
    | with_reducible exact Or.inl rfl | exact Or.inr (bit_of hP rfl)
    | ((try lift_lets -underBinder); intro x; refine letS (P := P) (s₀ := s₀) (x := x) ?_ (fun _ => ?_); unfold x; rotate_left; clear_value x)
    | ((try lift_lets -underBinder); intro x; clear_value x) | with_reducible assumption | split
    | with_reducible apply State.setPumpSt_framed | exact maskIn_trans hP rfl | dsimp -zeta only
    | with_reducible apply Framed.mk_of)

theorem State.refillQueues_framed {P : Nat} {s₀ : State} (s : State) (n : Nat) (hI : Framed P s₀ s) (hP : maskIn
    0x1800000040 P) : Framed P s₀ (State.refillQueues s n) := by
  unfold State.refillQueues
  repeat' (first
    | with_reducible exact Or.inl rfl | exact Or.inr (bit_of hP rfl)
    | ((try lift_lets -underBinder); intro x; refine letS (P := P) (s₀ := s₀) (x := x) ?_ (fun _ => ?_); unfold x; rotate_left; clear_value x)
    | ((try lift_lets -underBinder); intro x; refine letS (P := P) (s₀ := s₀) (x := x.2) ?_ (fun _ => ?_); unfold x; rotate_left; clear_value x)
    | ((try lift_lets -underBinder); intro x; refine letS (P := P) (s₀ := s₀) (x := x.1) ?_ (fun _ => ?_); unfold x; rotate_left; clear_value x)
    | ((try lift_lets -underBinder); intro x; clear_value x) | with_reducible assumption | split
    | with_reducible refine foldl_framed ?_ (fun _ _ _ => ?_) | with_reducible refine foldl1_framed ?_ (fun _ _ _ => ?_)
    | with_reducible refine foldl2_framed ?_ (fun _ _ _ => ?_) | with_reducible apply State.setPumpSt_framed
    | exact maskIn_trans hP rfl | dsimp -zeta only | with_reducible apply Framed.mk_of)

theorem State.dequeue_framed {P : Nat} {s₀ : State} (s : State) (n t : Nat) (hI : Framed P s₀ s) (hP : maskIn 0x1800000040
    P) : Framed P s₀ (State.dequeue s n t) := by
  unfold State.dequeue
  repeat' (first
    | with_reducible exact Or.inl rfl | exact Or.inr (bit_of hP rfl)
    | ((try lift_lets -underBinder); intro x; refine letS (P := P) (s₀ := s₀) (x := x) ?_ (fun _ => ?_); unfold x; rotate_left; clear_value x)
    | ((try lift_lets -underBinder); intro x; clear_value x) | with_reducible assumption
    | with_reducible apply State.setPumpSt_framed | with_reducible apply State.refillQueues_framed
    | exact maskIn_trans hP rfl | dsimp -zeta only | with_reducible apply Framed.mk_of)

theorem State.enqueueHead_framed {P : Nat} {s₀ : State} (s : State) (n t : Nat) (hI : Framed P s₀ s) (hP : maskIn
    0x1800000040 P) : Framed P s₀ (State.enqueueHead s n t) := by
  unfold State.enqueueHead
  repeat' (first
    | with_reducible exact Or.inl rfl | exact Or.inr (bit_of hP rfl)
    | ((try lift_lets -underBinder); intro x; refine letS (P := P) (s₀ := s₀) (x := x) ?_ (fun _ => ?_); unfold x; rotate_left; clear_value x)
    | ((try lift_lets -underBinder); intro x; clear_value x) | with_reducible assumption
    | with_reducible apply State.setPumpSt_framed | exact maskIn_trans hP rfl | dsimp -zeta only
    | with_reducible apply Framed.mk_of)

theorem State.dispatchOn_framed {P : Nat} {s₀ : State} (s : State) (n t m : Nat) (hI : Framed P s₀ s) (hP : maskIn
    0x1c00000048 P) : Framed P s₀ (State.dispatchOn s n t m) := by
  unfold State.dispatchOn
  repeat' (first
    | with_reducible exact Or.inl rfl | exact Or.inr (bit_of hP rfl)
    | ((try lift_lets -underBinder); intro x; refine letS (P := P) (s₀ := s₀) (x := x) ?_ (fun _ => ?_); unfold x; rotate_left; clear_value x)
    | ((try lift_lets -underBinder); intro x; clear_value x) | with_reducible assumption
    | with_reducible apply State.put_framed | with_reducible apply State.incSat_framed
    | with_reducible apply State.setLane_framed | with_reducible apply State.setRt_framed
    | with_reducible apply State.setTState_framed | with_reducible apply State.dequeue_framed | exact maskIn_trans hP rfl
    | exact bit_of hP rfl | dsimp -zeta only | with_reducible apply Framed.mk_of)

theorem State.freeLane_framed {P : Nat} {s₀ : State} (s : State) (n m st : Nat) (hI : Framed P s₀ s) (hP : maskIn
    0x400000040 P) : Framed P s₀ (State.freeLane s n m st) := by
  unfold State.freeLane
  repeat' (first
    | with_reducible assumption | with_reducible apply State.put_framed | with_reducible apply State.setLane_framed
    | exact maskIn_trans hP rfl | exact bit_of hP rfl | dsimp -zeta only)

theorem State.substitute_framed {P : Nat} {s₀ : State} (s : State) (n t b sl : Nat) (zero : Bool) (hI : Framed P s₀ s) (hP
    : maskIn 0x1000000081 P) : Framed P s₀ (State.substitute s n t b sl zero) := by
  unfold State.substitute
  repeat' (first

    | ((try lift_lets -underBinder); intro x; refine letS (P := P) (s₀ := s₀) (x := x) ?_ (fun _ => ?_); unfold x; rotate_left; clear_value x)
    | ((try lift_lets -underBinder); intro x; clear_value x) | with_reducible assumption | split
    | with_reducible refine forN_framed ?_ (fun _ _ _ => ?_) | with_reducible apply State.wrMem_framed
    | exact maskIn_trans hP rfl | dsimp -zeta only)

theorem State.queuePosts_framed {P : Nat} {s₀ : State} (s : State) (n : Nat) (l : List PostItem) (hI : Framed P s₀ s) (hP
    : maskIn 0x800000040 P) : Framed P s₀ (State.queuePosts s n l) := by
  unfold State.queuePosts
  repeat' (first
    | with_reducible exact Or.inl rfl | exact Or.inr (bit_of hP rfl)
    | ((try lift_lets -underBinder); intro x; refine letS (P := P) (s₀ := s₀) (x := x) ?_ (fun _ => ?_); unfold x; rotate_left; clear_value x)
    | ((try lift_lets -underBinder); intro x; clear_value x) | with_reducible assumption | split
    | with_reducible apply State.setPumpSt_framed | exact maskIn_trans hP rfl | dsimp -zeta only
    | with_reducible apply Framed.mk_of)

theorem State.standIn_framed {P : Nat} {s₀ : State} (s : State) (n t j : Nat) (zero : Bool) (hI : Framed P s₀ s) (hP :
    maskIn 0x18000000c1 P) : Framed P s₀ (State.standIn s n t j zero) := by
  unfold State.standIn
  repeat' (first

    | ((try lift_lets -underBinder); intro x; refine letS (P := P) (s₀ := s₀) (x := x) ?_ (fun _ => ?_); unfold x; rotate_left; clear_value x)
    | ((try lift_lets -underBinder); intro x; clear_value x) | with_reducible assumption | split
    | with_reducible refine forL_framed ?_ (fun _ _ _ => ?_) | with_reducible apply State.outPend_framed
    | with_reducible apply State.substitute_framed | with_reducible apply State.queuePosts_framed | exact maskIn_trans hP rfl
    | dsimp -zeta only)

theorem State.clearFlags_framed {P : Nat} {s₀ : State} (s : State) (n t : Nat) (hI : Framed P s₀ s) (hP : maskIn
    0x1000000000 P) : Framed P s₀ (State.clearFlags s n t) := by
  unfold State.clearFlags
  repeat' (first | with_reducible assumption | with_reducible apply State.put_framed | exact bit_of hP rfl | dsimp -zeta only)

theorem State.missTask_framed {P : Nat} {s₀ : State} (s : State) (n t j reason st : Nat) (hI : Framed P s₀ s) (hP : maskIn
    0x1c008400c1 P) : Framed P s₀ (State.missTask s n t j reason st) := by
  unfold State.missTask
  repeat' (first
    | with_reducible exact Or.inl rfl | exact Or.inr (bit_of hP rfl)
    | ((try lift_lets -underBinder); intro x; refine letS (P := P) (s₀ := s₀) (x := x) ?_ (fun _ => ?_); unfold x; rotate_left; clear_value x)
    | ((try lift_lets -underBinder); intro x; clear_value x) | with_reducible assumption | split
    | with_reducible apply State.put_framed | with_reducible apply State.incSat_framed
    | with_reducible apply State.raise_framed | with_reducible apply State.setRt_framed
    | with_reducible apply State.setTState_framed | with_reducible apply State.releaseInputs_framed | with_reducible apply State.releaseArrived_framed
    | with_reducible apply State.dequeue_framed | with_reducible apply State.freeLane_framed
    | with_reducible apply State.standIn_framed | with_reducible apply State.clearFlags_framed | exact maskIn_trans hP rfl
    | exact bit_of hP rfl | (rw [missFd_blk]; exact bit_of hP rfl) | dsimp -zeta only | with_reducible apply Framed.mk_of)

theorem State.copyRetain_framed {P : Nat} {s₀ : State} (s : State) (n t : Nat) (save : Bool) (hI : Framed P s₀ s) (hP :
    maskIn 0x1000000081 P) : Framed P s₀ (State.copyRetain s n t save) := by
  unfold State.copyRetain
  repeat' (first

    | ((try lift_lets -underBinder); intro x; refine letS (P := P) (s₀ := s₀) (x := x) ?_ (fun _ => ?_); unfold x; rotate_left; clear_value x)
    | ((try lift_lets -underBinder); intro x; clear_value x) | with_reducible assumption | split
    | with_reducible refine forL_framed ?_ (fun _ _ _ => ?_) | with_reducible refine forN_framed ?_ (fun _ _ _ => ?_)
    | with_reducible apply State.wrMem_framed | exact maskIn_trans hP rfl | dsimp -zeta only)

theorem State.stopLane_framed {P : Nat} {s₀ : State} (s : State) (n m cause : Nat) (hI : Framed P s₀ s) (hP : maskIn
    0x4000800c1 P) : Framed P s₀ (State.stopLane s n m cause) := by
  unfold State.stopLane
  repeat' (first
    | with_reducible exact Or.inl rfl | exact Or.inr (bit_of hP rfl)
    | ((try lift_lets -underBinder); intro x; refine letS (P := P) (s₀ := s₀) (x := x) ?_ (fun _ => ?_); unfold x; rotate_left; clear_value x)
    | ((try lift_lets -underBinder); intro x; refine letS (P := P) (s₀ := s₀) (x := x.2) ?_ (fun _ => ?_); unfold x; rotate_left; clear_value x)
    | ((try lift_lets -underBinder); intro x; refine letS (P := P) (s₀ := s₀) (x := x.1) ?_ (fun _ => ?_); unfold x; rotate_left; clear_value x)
    | ((try lift_lets -underBinder); intro x; clear_value x) | with_reducible assumption | split
    | with_reducible refine forL_framed ?_ (fun _ _ _ => ?_) | with_reducible refine forL1_framed ?_ (fun _ _ _ => ?_)
    | with_reducible refine forL2_framed ?_ (fun _ _ _ => ?_) | with_reducible apply State.put_framed
    | with_reducible apply State.takeFree_framed | with_reducible apply State.endShadow_framed
    | with_reducible apply State.doStore_framed | with_reducible apply State.flushStores_framed
    | with_reducible apply State.freeLane_framed | exact maskIn_trans hP rfl | exact bit_of hP rfl | dsimp -zeta only
    | with_reducible apply Framed.mk_of)

theorem State.taskError_framed {P : Nat} {s₀ : State} (s : State) (n t m : Nat) (mayRetry : Bool) (hI : Framed P s₀ s) (hP
    : maskIn 0x1c008400c1 P) : Framed P s₀ (State.taskError s n t m mayRetry) := by
  unfold State.taskError
  repeat' (first
    | with_reducible exact Or.inl rfl | exact Or.inr (bit_of hP rfl)
    | ((try lift_lets -underBinder); intro x; refine letS (P := P) (s₀ := s₀) (x := x) ?_ (fun _ => ?_); unfold x; rotate_left; clear_value x)
    | ((try lift_lets -underBinder); intro x; clear_value x) | with_reducible assumption | split
    | with_reducible apply State.setRt_framed | with_reducible apply State.missTask_framed | exact maskIn_trans hP rfl
    | dsimp -zeta only | with_reducible apply Framed.mk_of)

theorem State.residueError_framed {P : Nat} {s₀ : State} (s : State) (n m : Nat) (injected : Bool) (hI : Framed P s₀ s)
    (hP : maskIn 0x1c04ae00c1 P) : Framed P s₀ (State.residueError s n m injected) := by
  unfold State.residueError
  repeat' (first
    | with_reducible exact Or.inl rfl | exact Or.inr (bit_of hP rfl)
    | ((try lift_lets -underBinder); intro x; refine letS (P := P) (s₀ := s₀) (x := x) ?_ (fun _ => ?_); unfold x; rotate_left; clear_value x)
    | ((try lift_lets -underBinder); intro x; clear_value x) | with_reducible assumption | split
    | with_reducible apply State.put_framed | with_reducible apply State.incSat_framed
    | with_reducible apply State.raise_framed | with_reducible apply State.healthError_framed
    | with_reducible apply State.stopLane_framed | with_reducible apply State.taskError_framed | exact maskIn_trans hP rfl
    | exact bit_of hP rfl | dsimp -zeta only | with_reducible apply Framed.mk_of)

theorem State.laneIllegal_framed {P : Nat} {s₀ : State} (s : State) (n m cause : Nat) (hI : Framed P s₀ s) (hP : maskIn
    0x1c008c00c1 P) : Framed P s₀ (State.laneIllegal s n m cause) := by
  unfold State.laneIllegal
  repeat' (first

    | ((try lift_lets -underBinder); intro x; refine letS (P := P) (s₀ := s₀) (x := x) ?_ (fun _ => ?_); unfold x; rotate_left; clear_value x)
    | ((try lift_lets -underBinder); intro x; clear_value x) | with_reducible assumption | split
    | with_reducible apply State.put_framed | with_reducible apply State.raise_framed
    | with_reducible apply State.missTask_framed | with_reducible apply State.stopLane_framed | exact maskIn_trans hP rfl
    | exact bit_of hP rfl | dsimp -zeta only)

theorem State.laneEcc_framed {P : Nat} {s₀ : State} (s : State) (n m a : Nat) (fetch : Bool) (hI : Framed P s₀ s) (hP :
    maskIn 0x1d04ae00c1 P) : Framed P s₀ (State.laneEcc s n m a fetch) := by
  unfold State.laneEcc
  repeat' (first
    | with_reducible exact Or.inl rfl | exact Or.inr (bit_of hP rfl)
    | ((try lift_lets -underBinder); intro x; refine letS (P := P) (s₀ := s₀) (x := x) ?_ (fun _ => ?_); unfold x; rotate_left; clear_value x)
    | ((try lift_lets -underBinder); intro x; clear_value x) | with_reducible assumption | split
    | with_reducible apply State.eccRead_framed | with_reducible apply State.stopLane_framed
    | with_reducible apply State.taskError_framed | exact maskIn_trans hP rfl | dsimp -zeta only
    | with_reducible apply Framed.mk_of)

end Sys2Proof.Machine
end

