-- ==== Sys2Proof/Laws/FramedTasks.lean ====
section
/-! SUPPORT. What the operations and commands of Machine/Tasks.lean can change, as masks of parts (Laws/Framed.lean): one lemma
for each. -/

namespace Sys2Proof.Machine

open Sys2Proof

theorem execTaskReady_framed {P : Nat} {s₀ : State} (site slot : Nat) (s : State) (hI : Framed P s₀ s) (hP : maskIn
    0x18000000c1 P) : FramedO P s₀ (execTaskReady site slot s) := by
  unfold execTaskReady
  repeat' (first
    | with_reducible exact Or.inl rfl | exact Or.inr (bit_of hP rfl) | refine fun (s : State) (hs : Framed P s₀ s) => ?_
    | refine fun (_ : _) (s : State) (hs : Framed P s₀ s) => ?_
    | refine fun (_ : _) (_ : _) (s : State) (hs : Framed P s₀ s) => ?_
    | ((try lift_lets -underBinder); intro x; refine letS (P := P) (s₀ := s₀) (x := x) ?_ (fun _ => ?_); unfold x; rotate_left; clear_value x)
    | ((try lift_lets -underBinder); intro x; clear_value x) | with_reducible assumption | with_reducible apply id_framed
    | split | with_reducible apply when_framed | with_reducible apply FramedO_next | with_reducible apply State.incSat_framed
    | with_reducible apply State.setRt_framed | with_reducible apply State.setTState_framed
    | with_reducible apply State.releaseInputs_framed | with_reducible apply State.enqueue_framed
    | with_reducible apply State.standIn_framed | with_reducible apply State.clearFlags_framed | exact maskIn_trans hP rfl
    | exact bit_of hP rfl | dsimp -zeta only | with_reducible apply Framed.mk_of)

theorem execTaskDispatch_framed {P : Nat} {s₀ : State} (site : Nat) (ecc : Ecc) (s : State) (hI : Framed P s₀ s) (hP :
    maskIn 0x1d04ae00c9 P) : FramedO P s₀ (execTaskDispatch site ecc s) := by
  unfold execTaskDispatch
  repeat' (first
    | with_reducible exact Or.inl rfl | exact Or.inr (bit_of hP rfl) | refine fun (s : State) (hs : Framed P s₀ s) => ?_
    | refine fun (_ : _) (s : State) (hs : Framed P s₀ s) => ?_
    | refine fun (_ : _) (_ : _) (s : State) (hs : Framed P s₀ s) => ?_
    | ((try lift_lets -underBinder); intro x; refine letS (P := P) (s₀ := s₀) (x := x) ?_ (fun _ => ?_); unfold x; rotate_left; clear_value x)
    | ((try lift_lets -underBinder); intro x; clear_value x) | with_reducible assumption | with_reducible apply id_framed
    | split | with_reducible apply when_framed | with_reducible apply FramedO_next | with_reducible apply State.incSat_framed
    | with_reducible apply State.eccRead_framed | with_reducible apply State.dispatchOn_framed
    | with_reducible apply State.laneEcc_framed | exact maskIn_trans hP rfl | exact bit_of hP rfl | dsimp -zeta only
    | with_reducible apply Framed.mk_of)

theorem State.keepShadowLog_framed {P : Nat} {s₀ : State} (s : State) (n m : Nat) (hI : Framed P s₀ s) (hP : maskIn
    0x20000 P) : Framed P s₀ (State.keepShadowLog s n m) := by
  unfold State.keepShadowLog
  repeat' (first
    | with_reducible exact Or.inl rfl | exact Or.inr (bit_of hP rfl) | with_reducible assumption | split | dsimp -zeta only
    | with_reducible apply Framed.mk_of)

theorem State.finishTask_framed {P : Nat} {s₀ : State} (s : State) (n t : Nat) (hI : Framed P s₀ s) (hP : maskIn
    0x1c00020040 P) : Framed P s₀ (State.finishTask s n t) := by
  unfold State.finishTask
  repeat' (first
    | with_reducible exact Or.inl rfl | exact Or.inr (bit_of hP rfl)
    | ((try lift_lets -underBinder); intro x; refine letS (P := P) (s₀ := s₀) (x := x) ?_ (fun _ => ?_); unfold x; rotate_left; clear_value x)
    | ((try lift_lets -underBinder); intro x; clear_value x) | with_reducible assumption | split
    | with_reducible apply State.setRt_framed | with_reducible apply State.setTState_framed
    | with_reducible apply State.freeLane_framed | with_reducible apply State.keepShadowLog_framed
    | exact maskIn_trans hP rfl | dsimp -zeta only | with_reducible apply Framed.mk_of)

theorem execTaskComplete_framed {P : Nat} {s₀ : State} (site slot : Nat) (s : State) (hI : Framed P s₀ s) (hP : maskIn
    0x1c000200c1 P) : FramedO P s₀ (execTaskComplete site slot s) := by
  unfold execTaskComplete
  repeat' (first
    | with_reducible exact Or.inl rfl | exact Or.inr (bit_of hP rfl) | refine fun (s : State) (hs : Framed P s₀ s) => ?_
    | refine fun (_ : _) (s : State) (hs : Framed P s₀ s) => ?_
    | refine fun (_ : _) (_ : _) (s : State) (hs : Framed P s₀ s) => ?_
    | ((try lift_lets -underBinder); intro x; refine letS (P := P) (s₀ := s₀) (x := x) ?_ (fun _ => ?_); unfold x; rotate_left; clear_value x)
    | ((try lift_lets -underBinder); intro x; clear_value x) | with_reducible assumption | with_reducible apply id_framed
    | split | with_reducible apply when_framed | with_reducible refine forL_framed ?_ (fun _ _ _ => ?_)
    | with_reducible apply FramedO_next | with_reducible apply State.put_framed | with_reducible apply State.incSat_framed
    | with_reducible apply State.flushStores_framed | with_reducible apply State.setRt_framed
    | with_reducible apply State.setTState_framed | with_reducible apply State.outPend_framed
    | with_reducible apply State.releaseInputs_framed | with_reducible apply State.queuePosts_framed
    | with_reducible apply State.finishTask_framed | exact maskIn_trans hP rfl | exact bit_of hP rfl | dsimp -zeta only
    | with_reducible apply Framed.mk_of)

theorem execHeldRelease_framed {P : Nat} {s₀ : State} (site slot : Nat) (s : State) (hI : Framed P s₀ s) (hP : maskIn
    0x1c00020040 P) : FramedO P s₀ (execHeldRelease site slot s) := by
  unfold execHeldRelease
  repeat' (first
    | refine fun (s : State) (hs : Framed P s₀ s) => ?_ | refine fun (_ : _) (s : State) (hs : Framed P s₀ s) => ?_
    | refine fun (_ : _) (_ : _) (s : State) (hs : Framed P s₀ s) => ?_ | with_reducible assumption
    | with_reducible apply id_framed | with_reducible apply when_framed | with_reducible apply FramedO_next
    | with_reducible apply State.queuePosts_framed | with_reducible apply State.finishTask_framed | exact maskIn_trans hP rfl
    | dsimp -zeta only)

theorem execRetainCopyEnd_framed {P : Nat} {s₀ : State} (site slot : Nat) (s : State) (hI : Framed P s₀ s) (hP : maskIn
    0x10000000c1 P) : FramedO P s₀ (execRetainCopyEnd site slot s) := by
  unfold execRetainCopyEnd
  repeat' (first
    | with_reducible exact Or.inl rfl | exact Or.inr (bit_of hP rfl) | refine fun (s : State) (hs : Framed P s₀ s) => ?_
    | refine fun (_ : _) (s : State) (hs : Framed P s₀ s) => ?_
    | refine fun (_ : _) (_ : _) (s : State) (hs : Framed P s₀ s) => ?_
    | ((try lift_lets -underBinder); intro x; refine letS (P := P) (s₀ := s₀) (x := x) ?_ (fun _ => ?_); unfold x; rotate_left; clear_value x)
    | ((try lift_lets -underBinder); intro x; clear_value x) | with_reducible assumption | with_reducible apply id_framed
    | with_reducible apply when_framed | with_reducible apply FramedO_next | with_reducible apply State.setRt_framed
    | with_reducible apply State.copyRetain_framed | exact maskIn_trans hP rfl | dsimp -zeta only
    | with_reducible apply Framed.mk_of)

theorem State.xferWords_framed {P : Nat} {s₀ : State} (s : State) (n b sl : Nat) (toCis : Bool) (hI : Framed P s₀ s) (hP :
    maskIn 0x1100000089 P) : Framed P s₀ (State.xferWords s n b sl toCis) := by
  unfold State.xferWords
  repeat' (first

    | ((try lift_lets -underBinder); intro x; refine letS (P := P) (s₀ := s₀) (x := x) ?_ (fun _ => ?_); unfold x; rotate_left; clear_value x)
    | ((try lift_lets -underBinder); intro x; clear_value x) | with_reducible assumption | split
    | with_reducible refine forN_framed ?_ (fun _ _ _ => ?_) | with_reducible apply State.wrMem_framed
    | with_reducible apply State.touchBank_framed | exact maskIn_trans hP rfl | dsimp -zeta only)

theorem execFetchComplete_framed {P : Nat} {s₀ : State} (site : Nat) (ecc : Ecc) (s : State) (hI : Framed P s₀ s) (hP :
    maskIn 0x1d04a600c9 P) : FramedO P s₀ (execFetchComplete site ecc s) := by
  unfold execFetchComplete
  repeat' (first
    | with_reducible exact Or.inl rfl | exact Or.inr (bit_of hP rfl) | refine fun (s : State) (hs : Framed P s₀ s) => ?_
    | refine fun (_ : _) (s : State) (hs : Framed P s₀ s) => ?_
    | refine fun (_ : _) (_ : _) (s : State) (hs : Framed P s₀ s) => ?_
    | ((try lift_lets -underBinder); intro x; refine letS (P := P) (s₀ := s₀) (x := x) ?_ (fun _ => ?_); unfold x; rotate_left; clear_value x)
    | ((try lift_lets -underBinder); intro x; clear_value x) | with_reducible assumption | with_reducible apply id_framed
    | split | with_reducible apply when_framed | with_reducible refine forL_framed ?_ (fun _ _ _ => ?_)
    | with_reducible apply FramedO_next | with_reducible apply State.eccRead_framed
    | with_reducible apply State.setPumpSt_framed | with_reducible apply State.setPend_framed
    | with_reducible apply State.deliver_framed | with_reducible apply State.xferWords_framed | exact maskIn_trans hP rfl
    | dsimp -zeta only | with_reducible apply Framed.mk_of)

theorem execCreditReturn_framed {P : Nat} {s₀ : State} (site buf slot : Nat) (s : State) (hI : Framed P s₀ s) (hP : maskIn
    0x1000000040 P) : FramedO P s₀ (execCreditReturn site buf slot s) := by
  unfold execCreditReturn
  repeat' (first
    | with_reducible exact Or.inl rfl | exact Or.inr (bit_of hP rfl) | refine fun (s : State) (hs : Framed P s₀ s) => ?_
    | refine fun (_ : _) (s : State) (hs : Framed P s₀ s) => ?_
    | refine fun (_ : _) (_ : _) (s : State) (hs : Framed P s₀ s) => ?_
    | ((try lift_lets -underBinder); intro x; refine letS (P := P) (s₀ := s₀) (x := x) ?_ (fun _ => ?_); unfold x; rotate_left; clear_value x)
    | ((try lift_lets -underBinder); intro x; clear_value x) | with_reducible assumption | with_reducible apply id_framed
    | with_reducible apply when_framed | with_reducible apply FramedO_next | with_reducible apply State.setPend_framed
    | exact maskIn_trans hP rfl | dsimp -zeta only | with_reducible apply Framed.mk_of)

theorem State.deadlineOf_framed {P : Nat} {s₀ : State} (s : State) (site slot : Nat) (hI : Framed P s₀ s) (hP : maskIn
    0x1c008400c1 P) : Framed P s₀ (State.deadlineOf s site slot) := by
  unfold State.deadlineOf
  repeat' (first
    | with_reducible exact Or.inl rfl | exact Or.inr (bit_of hP rfl) | refine fun (s : State) (hs : Framed P s₀ s) => ?_
    | refine fun (_ : _) (s : State) (hs : Framed P s₀ s) => ?_
    | refine fun (_ : _) (_ : _) (s : State) (hs : Framed P s₀ s) => ?_
    | ((try lift_lets -underBinder); intro x; refine letS (P := P) (s₀ := s₀) (x := x) ?_ (fun _ => ?_); unfold x; rotate_left; clear_value x)
    | ((try lift_lets -underBinder); intro x; clear_value x) | with_reducible assumption | with_reducible apply id_framed
    | split | with_reducible apply when_framed | with_reducible apply State.setRt_framed
    | with_reducible apply State.setTState_framed | with_reducible apply State.releaseInputs_framed
    | with_reducible apply State.freeLane_framed | with_reducible apply State.standIn_framed
    | with_reducible apply State.clearFlags_framed | with_reducible apply State.missTask_framed | exact maskIn_trans hP rfl
    | dsimp -zeta only | with_reducible apply Framed.mk_of)

theorem execTaskDeadline_framed {P : Nat} {s₀ : State} (site slot : Nat) (s : State) (hI : Framed P s₀ s) (hP : maskIn
    0x1c008400c1 P) : FramedO P s₀ (execTaskDeadline site slot s) := by
  unfold execTaskDeadline
  repeat' (first
    | refine fun (s : State) (hs : Framed P s₀ s) => ?_ | refine fun (_ : _) (s : State) (hs : Framed P s₀ s) => ?_
    | refine fun (_ : _) (_ : _) (s : State) (hs : Framed P s₀ s) => ?_ | with_reducible assumption
    | with_reducible apply id_framed | with_reducible apply when_framed | with_reducible apply FramedO_next
    | with_reducible apply State.deadlineOf_framed | exact maskIn_trans hP rfl | dsimp -zeta only)

theorem execTaskRetry_framed {P : Nat} {s₀ : State} (site slot : Nat) (s : State) (hI : Framed P s₀ s) (hP : maskIn
    0x1c008400c9 P) : FramedO P s₀ (execTaskRetry site slot s) := by
  unfold execTaskRetry
  repeat' (first
    | with_reducible exact Or.inl rfl | exact Or.inr (bit_of hP rfl) | refine fun (s : State) (hs : Framed P s₀ s) => ?_
    | refine fun (_ : _) (s : State) (hs : Framed P s₀ s) => ?_
    | refine fun (_ : _) (_ : _) (s : State) (hs : Framed P s₀ s) => ?_
    | ((try lift_lets -underBinder); intro x; refine letS (P := P) (s₀ := s₀) (x := x) ?_ (fun _ => ?_); unfold x; rotate_left; clear_value x)
    | ((try lift_lets -underBinder); intro x; clear_value x) | with_reducible assumption | with_reducible apply id_framed
    | split | with_reducible apply when_framed | with_reducible apply FramedO_next | with_reducible apply State.incSat_framed
    | with_reducible apply State.raise_framed | with_reducible apply State.setTState_framed
    | with_reducible apply State.enqueueHead_framed | with_reducible apply State.dispatchOn_framed
    | with_reducible apply State.copyRetain_framed | exact maskIn_trans hP rfl | exact bit_of hP rfl | dsimp -zeta only
    | with_reducible apply Framed.mk_of)

theorem State.cmdErr_framed {P : Nat} {s₀ : State} (s : State) (n : Nat) (hI : Framed P s₀ s) (hP : maskIn 0x800000000 P)
    : Framed P s₀ (State.cmdErr s n) := by
  unfold State.cmdErr
  repeat' (first | with_reducible assumption | with_reducible apply State.put_framed | exact bit_of hP rfl | dsimp -zeta only)

theorem State.pumpLoad_framed {P : Nat} {s₀ : State} (s : State) (n t : Nat) (hI : Framed P s₀ s) (hP : maskIn
    0x1800000040 P) : Framed P s₀ (State.pumpLoad s n t) := by
  unfold State.pumpLoad
  repeat' (first

    | ((try lift_lets -underBinder); intro x; refine letS (P := P) (s₀ := s₀) (x := x) ?_ (fun _ => ?_); unfold x; rotate_left; clear_value x)
    | ((try lift_lets -underBinder); intro x; clear_value x) | with_reducible assumption | split
    | with_reducible apply State.put_framed | with_reducible apply State.setRt_framed
    | with_reducible apply State.setTState_framed | with_reducible apply State.cmdErr_framed | exact maskIn_trans hP rfl
    | exact bit_of hP rfl | dsimp -zeta only)

theorem State.pumpArm_framed {P : Nat} {s₀ : State} (s : State) (n t : Nat) (hI : Framed P s₀ s) (hP : maskIn 0x800000040
    P) : Framed P s₀ (State.pumpArm s n t) := by
  unfold State.pumpArm
  repeat' (first
    | with_reducible exact Or.inl rfl | exact Or.inr (bit_of hP rfl)
    | ((try lift_lets -underBinder); intro x; refine letS (P := P) (s₀ := s₀) (x := x) ?_ (fun _ => ?_); unfold x; rotate_left; clear_value x)
    | ((try lift_lets -underBinder); intro x; clear_value x) | with_reducible assumption | split
    | with_reducible apply State.setRt_framed | with_reducible apply State.cmdErr_framed | exact maskIn_trans hP rfl
    | dsimp -zeta only | with_reducible apply Framed.mk_of)

theorem State.cancelTask_framed {P : Nat} {s₀ : State} (s : State) (n t : Nat) (hI : Framed P s₀ s) (hP : maskIn
    0x1800000040 P) : Framed P s₀ (State.cancelTask s n t) := by
  unfold State.cancelTask
  repeat' (first
    | with_reducible exact Or.inl rfl | exact Or.inr (bit_of hP rfl)
    | ((try lift_lets -underBinder); intro x; refine letS (P := P) (s₀ := s₀) (x := x) ?_ (fun _ => ?_); unfold x; rotate_left; clear_value x)
    | ((try lift_lets -underBinder); intro x; clear_value x) | with_reducible assumption | split
    | with_reducible apply State.setRt_framed | with_reducible apply State.setTState_framed
    | with_reducible apply State.releaseArrived_framed | with_reducible apply State.releaseInputs_framed
    | with_reducible apply State.put_framed | exact bit_of hP rfl
    | with_reducible apply State.dequeue_framed | with_reducible apply State.clearFlags_framed | exact maskIn_trans hP rfl
    | dsimp -zeta only | with_reducible apply Framed.mk_of)

theorem State.pumpCancel_framed {P : Nat} {s₀ : State} (s : State) (n t : Nat) (hI : Framed P s₀ s) (hP : maskIn
    0x1800000040 P) : Framed P s₀ (State.pumpCancel s n t) := by
  unfold State.pumpCancel
  repeat' (first
    | with_reducible assumption | split | with_reducible apply State.cmdErr_framed
    | with_reducible apply State.cancelTask_framed | exact maskIn_trans hP rfl | dsimp -zeta only)

theorem State.pumpUnload_framed {P : Nat} {s₀ : State} (s : State) (n t : Nat) (hI : Framed P s₀ s) (hP : maskIn
    0x1800000040 P) : Framed P s₀ (State.pumpUnload s n t) := by
  unfold State.pumpUnload
  repeat' (first

    | ((try lift_lets -underBinder); intro x; refine letS (P := P) (s₀ := s₀) (x := x) ?_ (fun _ => ?_); unfold x; rotate_left; clear_value x)
    | ((try lift_lets -underBinder); intro x; clear_value x) | with_reducible assumption | split
    | with_reducible apply State.setRt_framed | with_reducible apply State.setTState_framed
    | with_reducible apply State.cmdErr_framed | exact maskIn_trans hP rfl | dsimp -zeta only)

theorem State.pumpFlag_framed {P : Nat} {s₀ : State} (s : State) (n t b : Nat) (hI : Framed P s₀ s) (hP : maskIn
    0x1800000000 P) : Framed P s₀ (State.pumpFlag s n t b) := by
  unfold State.pumpFlag
  repeat' (first
    | with_reducible assumption | split | with_reducible apply State.put_framed | with_reducible apply State.cmdErr_framed
    | exact maskIn_trans hP rfl | exact bit_of hP rfl | dsimp -zeta only)

theorem State.pumpCmd_framed {P : Nat} {s₀ : State} (s : State) (op n t b : Nat) (hI : Framed P s₀ s) (hP : maskIn
    0x1800000040 P) : Framed P s₀ (State.pumpCmd s op n t b) := by
  unfold State.pumpCmd
  repeat' (first
    | with_reducible assumption | split | with_reducible apply State.pumpLoad_framed
    | with_reducible apply State.pumpArm_framed | with_reducible apply State.pumpCancel_framed
    | with_reducible apply State.pumpUnload_framed | with_reducible apply State.pumpFlag_framed | exact maskIn_trans hP rfl
    | dsimp -zeta only)

theorem State.sendFrame_framed {P : Nat} {s₀ : State} (s : State) (b : FrameBody) (hI : Framed P s₀ s) (hP : maskIn 0x200
    P) : Framed P s₀ (State.sendFrame s b) := by
  unfold State.sendFrame
  repeat' (first
    | with_reducible exact Or.inl rfl | exact Or.inr (bit_of hP rfl) | refine fun (s : State) (hs : Framed P s₀ s) => ?_
    | refine fun (_ : _) (s : State) (hs : Framed P s₀ s) => ?_
    | refine fun (_ : _) (_ : _) (s : State) (hs : Framed P s₀ s) => ?_
    | ((try lift_lets -underBinder); intro x; refine letS (P := P) (s₀ := s₀) (x := x) ?_ (fun _ => ?_); unfold x; rotate_left; clear_value x)
    | ((try lift_lets -underBinder); intro x; clear_value x) | with_reducible assumption | with_reducible apply id_framed
    | with_reducible apply when_framed | dsimp -zeta only | with_reducible apply Framed.mk_of)

theorem State.stamp_framed {P : Nat} {s₀ : State} (s : State) (apply : Nat) (b : LedgerBody) (hI : Framed P s₀ s) (hP :
    maskIn 0x200 P) : Framed P s₀ (State.stamp s apply b) := by
  unfold State.stamp
  repeat' (first
    | with_reducible exact Or.inl rfl | exact Or.inr (bit_of hP rfl)
    | ((try lift_lets -underBinder); intro x; refine letS (P := P) (s₀ := s₀) (x := x) ?_ (fun _ => ?_); unfold x; rotate_left; clear_value x)
    | ((try lift_lets -underBinder); intro x; clear_value x) | with_reducible assumption | split
    | with_reducible apply State.sendFrame_framed | exact maskIn_trans hP rfl | dsimp -zeta only
    | with_reducible apply Framed.mk_of)

theorem State.submit_framed {P : Nat} {s₀ : State} (s : State) (b : LedgerBody) (hI : Framed P s₀ s) (hP : maskIn 0x200 P)
    : Framed P s₀ (State.submit s b) := by
  unfold State.submit
  repeat' (first
    | with_reducible assumption | split | with_reducible apply State.stamp_framed | exact maskIn_trans hP rfl
    | dsimp -zeta only)

theorem State.hostPump_framed {P : Nat} {s₀ : State} (s : State) (op n t b : Nat) (hI : Framed P s₀ s) (hP : maskIn
    0x1800000240 P) : Framed P s₀ (State.hostPump s op n t b) := by
  unfold State.hostPump
  repeat' (first
    | refine fun (s : State) (hs : Framed P s₀ s) => ?_ | refine fun (_ : _) (s : State) (hs : Framed P s₀ s) => ?_
    | refine fun (_ : _) (_ : _) (s : State) (hs : Framed P s₀ s) => ?_ | with_reducible assumption
    | with_reducible apply id_framed | split | with_reducible apply when_framed | with_reducible apply State.pumpCmd_framed
    | with_reducible apply State.submit_framed | exact maskIn_trans hP rfl | dsimp -zeta only)

theorem execPumpLoad_framed {P : Nat} {s₀ : State} (site slot : Nat) (s : State) (hI : Framed P s₀ s) (hP : maskIn
    0x1800000240 P) : FramedO P s₀ (execPumpLoad site slot s) := by
  unfold execPumpLoad
  repeat' (first
    | with_reducible assumption | with_reducible apply FramedO_next | with_reducible apply State.hostPump_framed
    | exact maskIn_trans hP rfl | dsimp -zeta only)

theorem execPumpArm_framed {P : Nat} {s₀ : State} (site slot : Nat) (s : State) (hI : Framed P s₀ s) (hP : maskIn
    0x1800000240 P) : FramedO P s₀ (execPumpArm site slot s) := by
  unfold execPumpArm
  repeat' (first
    | with_reducible assumption | with_reducible apply FramedO_next | with_reducible apply State.hostPump_framed
    | exact maskIn_trans hP rfl | dsimp -zeta only)

theorem execPumpCancel_framed {P : Nat} {s₀ : State} (site slot : Nat) (s : State) (hI : Framed P s₀ s) (hP : maskIn
    0x1800000240 P) : FramedO P s₀ (execPumpCancel site slot s) := by
  unfold execPumpCancel
  repeat' (first
    | with_reducible assumption | with_reducible apply FramedO_next | with_reducible apply State.hostPump_framed
    | exact maskIn_trans hP rfl | dsimp -zeta only)

theorem execPumpUnload_framed {P : Nat} {s₀ : State} (site slot : Nat) (s : State) (hI : Framed P s₀ s) (hP : maskIn
    0x1800000240 P) : FramedO P s₀ (execPumpUnload site slot s) := by
  unfold execPumpUnload
  repeat' (first
    | with_reducible assumption | with_reducible apply FramedO_next | with_reducible apply State.hostPump_framed
    | exact maskIn_trans hP rfl | dsimp -zeta only)

theorem execPumpFlag_framed {P : Nat} {s₀ : State} (site slot : Nat) (flag : BitVec 5) (s : State) (hI : Framed P s₀ s)
    (hP : maskIn 0x1800000240 P) : FramedO P s₀ (execPumpFlag site slot flag s) := by
  unfold execPumpFlag
  repeat' (first
    | with_reducible assumption | with_reducible apply FramedO_next | with_reducible apply State.hostPump_framed
    | exact maskIn_trans hP rfl | dsimp -zeta only)

theorem execPumpTimer_framed {P : Nat} {s₀ : State} (site k : Nat) (s : State) (hI : Framed P s₀ s) (hP : maskIn
    0x1800000000 P) : FramedO P s₀ (execPumpTimer site k s) := by
  unfold execPumpTimer
  repeat' (first
    | refine fun (s : State) (hs : Framed P s₀ s) => ?_ | refine fun (_ : _) (s : State) (hs : Framed P s₀ s) => ?_
    | refine fun (_ : _) (_ : _) (s : State) (hs : Framed P s₀ s) => ?_
    | ((try lift_lets -underBinder); intro x; refine letS (P := P) (s₀ := s₀) (x := x) ?_ (fun _ => ?_); unfold x; rotate_left; clear_value x)
    | ((try lift_lets -underBinder); intro x; clear_value x) | with_reducible assumption | with_reducible apply id_framed
    | with_reducible apply when_framed | with_reducible apply FramedO_next | with_reducible apply State.put_framed
    | exact bit_of hP rfl | dsimp -zeta only)

theorem State.tickSite_framed {P : Nat} {s₀ : State} (s : State) (n : Nat) (hI : Framed P s₀ s) (hP : maskIn 0x1800000000
    P) : Framed P s₀ (State.tickSite s n) := by
  unfold State.tickSite
  repeat' (first

    | ((try lift_lets -underBinder); intro x; refine letS (P := P) (s₀ := s₀) (x := x) ?_ (fun _ => ?_); unfold x; rotate_left; clear_value x)
    | ((try lift_lets -underBinder); intro x; clear_value x) | with_reducible assumption | split
    | with_reducible refine forN_framed ?_ (fun _ _ _ => ?_) | with_reducible apply State.put_framed | exact bit_of hP rfl
    | dsimp -zeta only)

theorem State.applyArm_framed {P : Nat} {s₀ : State} (s : State) (n t : Nat) (hI : Framed P s₀ s) (hP : maskIn
    0x1800000040 P) : Framed P s₀ (State.applyArm s n t) := by
  unfold State.applyArm
  repeat' (first
    | with_reducible exact Or.inl rfl | exact Or.inr (bit_of hP rfl)
    | ((try lift_lets -underBinder); intro x; refine letS (P := P) (s₀ := s₀) (x := x) ?_ (fun _ => ?_); unfold x; rotate_left; clear_value x)
    | ((try lift_lets -underBinder); intro x; clear_value x) | with_reducible assumption | split
    | with_reducible apply State.put_framed | with_reducible apply State.setRt_framed
    | with_reducible apply State.setTState_framed | exact maskIn_trans hP rfl | exact bit_of hP rfl | dsimp -zeta only
    | with_reducible apply Framed.mk_of)

theorem State.writeTaskWord_framed {P : Nat} {s₀ : State} (s : State) (n t w v : Nat) (hI : Framed P s₀ s) (hP : maskIn
    0x8000000000 P) : Framed P s₀ (State.writeTaskWord s n t w v) := by
  unfold State.writeTaskWord
  repeat' (first

    | ((try lift_lets -underBinder); intro x; refine letS (P := P) (s₀ := s₀) (x := x) ?_ (fun _ => ?_); unfold x; rotate_left; clear_value x)
    | ((try lift_lets -underBinder); intro x; clear_value x) | with_reducible assumption | split
    | with_reducible refine forL_framed ?_ (fun _ _ _ => ?_) | with_reducible apply State.put_any | exact bit_of hP rfl
    | dsimp -zeta only)

end Sys2Proof.Machine
end

