-- ==== Sys2Proof/Laws/FramedCistern.lean ====
section
/-! SUPPORT. What the operations and commands of Machine/Cistern.lean can change, as masks of parts (Laws/Framed.lean): one lemma
for each. -/

namespace Sys2Proof.Machine

open Sys2Proof

theorem State.fabError_framed {P : Nat} {s₀ : State} (s : State) (master cause addr : Nat) (hI : Framed P s₀ s) (hP :
    maskIn 0xc40100 P) : Framed P s₀ (State.fabError s master cause addr) := by
  unfold State.fabError
  repeat' (first
    | with_reducible exact Or.inl rfl | exact Or.inr (bit_of hP rfl)
    | ((try lift_lets -underBinder); intro x; refine letS (P := P) (s₀ := s₀) (x := x) ?_ (fun _ => ?_); unfold x; rotate_left; clear_value x)
    | ((try lift_lets -underBinder); intro x; clear_value x) | with_reducible assumption | split
    | with_reducible apply State.put_framed | with_reducible apply State.raise_framed | exact maskIn_trans hP rfl
    | exact bit_of hP rfl | dsimp -zeta only | with_reducible apply Framed.mk_of)

theorem State.cisRmw_framed {P : Nat} {s₀ : State} (s : State) (master off : Nat) (lanes : Nat) (ownerWriting : Bool) (ecc
    : Ecc) (f : Nat → Nat) (hI : Framed P s₀ s) (hP : maskIn 0x504e601c9 P) : Framed P s₀ (State.cisRmw s master off lanes
    ownerWriting ecc f) := by
  unfold State.cisRmw
  repeat' (first
    | with_reducible exact Or.inl rfl | exact Or.inr (bit_of hP rfl)
    | ((try lift_lets -underBinder); intro x; refine letS (P := P) (s₀ := s₀) (x := x) ?_ (fun _ => ?_); unfold x; rotate_left; clear_value x)
    | ((try lift_lets -underBinder); intro x; clear_value x) | with_reducible assumption | split
    | with_reducible apply State.incSat_framed | with_reducible apply State.wrMem_framed
    | with_reducible apply State.eccRead_framed | with_reducible apply State.touchBank_framed
    | with_reducible apply State.fabError_framed | exact maskIn_trans hP rfl | exact bit_of hP rfl | dsimp -zeta only
    | with_reducible apply Framed.mk_of)

theorem execCisternBitSet_framed {P : Nat} {s₀ : State} (master : Nat) (off : Nat) (lanes : BitVec 8) (data : BitVec 64)
    (ownerWriting : Bool) (ecc : Ecc) (s : State) (hI : Framed P s₀ s) (hP : maskIn 0x504e601c9 P) : FramedO P s₀
    (execCisternBitSet master off lanes data ownerWriting ecc s) := by
  unfold execCisternBitSet
  repeat' (first
    | refine fun (s : State) (hs : Framed P s₀ s) => ?_ | refine fun (_ : _) (s : State) (hs : Framed P s₀ s) => ?_
    | refine fun (_ : _) (_ : _) (s : State) (hs : Framed P s₀ s) => ?_ | with_reducible assumption
    | with_reducible apply id_framed | split | with_reducible apply when_framed | with_reducible apply FramedO_next
    | with_reducible apply State.fabError_framed | with_reducible apply State.cisRmw_framed | exact maskIn_trans hP rfl
    | dsimp -zeta only)

theorem execCisternBitClear_framed {P : Nat} {s₀ : State} (master : Nat) (off : Nat) (lanes : BitVec 8) (data : BitVec 64)
    (ownerWriting : Bool) (ecc : Ecc) (s : State) (hI : Framed P s₀ s) (hP : maskIn 0x504e601c9 P) : FramedO P s₀
    (execCisternBitClear master off lanes data ownerWriting ecc s) := by
  unfold execCisternBitClear
  repeat' (first
    | refine fun (s : State) (hs : Framed P s₀ s) => ?_ | refine fun (_ : _) (s : State) (hs : Framed P s₀ s) => ?_
    | refine fun (_ : _) (_ : _) (s : State) (hs : Framed P s₀ s) => ?_ | with_reducible assumption
    | with_reducible apply id_framed | split | with_reducible apply when_framed | with_reducible apply FramedO_next
    | with_reducible apply State.fabError_framed | with_reducible apply State.cisRmw_framed | exact maskIn_trans hP rfl
    | dsimp -zeta only)

theorem State.handoverDone_framed {P : Nat} {s₀ : State} (s : State) (k : Nat) (hI : Framed P s₀ s) (hP : maskIn
    0x100840080 P) : Framed P s₀ (State.handoverDone s k) := by
  unfold State.handoverDone
  repeat' (first
    | with_reducible exact Or.inl rfl | exact Or.inr (bit_of hP rfl)
    | ((try lift_lets -underBinder); intro x; refine letS (P := P) (s₀ := s₀) (x := x) ?_ (fun _ => ?_); unfold x; rotate_left; clear_value x)
    | ((try lift_lets -underBinder); intro x; clear_value x) | with_reducible assumption
    | with_reducible apply State.put_framed | with_reducible apply State.raise_framed | exact maskIn_trans hP rfl
    | exact bit_of hP rfl | dsimp -zeta only | with_reducible apply Framed.mk_of)

theorem State.handoverReq_framed {P : Nat} {s₀ : State} (s : State) (master k new : Nat) (hI : Framed P s₀ s) (hP : maskIn
    0x100840080 P) : Framed P s₀ (State.handoverReq s master k new) := by
  unfold State.handoverReq
  repeat' (first
    | with_reducible exact Or.inl rfl | exact Or.inr (bit_of hP rfl)
    | ((try lift_lets -underBinder); intro x; refine letS (P := P) (s₀ := s₀) (x := x) ?_ (fun _ => ?_); unfold x; rotate_left; clear_value x)
    | ((try lift_lets -underBinder); intro x; clear_value x) | with_reducible assumption | split
    | with_reducible apply State.put_framed | with_reducible apply State.handoverDone_framed | exact maskIn_trans hP rfl
    | exact bit_of hP rfl | dsimp -zeta only | with_reducible apply Framed.mk_of)

theorem execBankHandoverReq_framed {P : Nat} {s₀ : State} (master bank newOwner : Nat) (s : State) (hI : Framed P s₀ s)
    (hP : maskIn 0x100840080 P) : FramedO P s₀ (execBankHandoverReq master bank newOwner s) := by
  unfold execBankHandoverReq
  repeat' (first
    | refine fun (s : State) (hs : Framed P s₀ s) => ?_ | refine fun (_ : _) (s : State) (hs : Framed P s₀ s) => ?_
    | refine fun (_ : _) (_ : _) (s : State) (hs : Framed P s₀ s) => ?_ | with_reducible assumption
    | with_reducible apply id_framed | with_reducible apply when_framed | with_reducible apply FramedO_next
    | with_reducible apply State.handoverReq_framed | exact maskIn_trans hP rfl | dsimp -zeta only)

theorem execBankHandover_framed {P : Nat} {s₀ : State} (bank : Nat) (s : State) (hI : Framed P s₀ s) (hP : maskIn
    0x100840080 P) : FramedO P s₀ (execBankHandover bank s) := by
  unfold execBankHandover
  repeat' (first
    | refine fun (s : State) (hs : Framed P s₀ s) => ?_ | refine fun (_ : _) (s : State) (hs : Framed P s₀ s) => ?_
    | refine fun (_ : _) (_ : _) (s : State) (hs : Framed P s₀ s) => ?_ | with_reducible assumption
    | with_reducible apply id_framed | with_reducible apply when_framed | with_reducible apply FramedO_next
    | with_reducible apply State.handoverDone_framed | exact maskIn_trans hP rfl | dsimp -zeta only)

theorem execBankRetentionEnter_framed {P : Nat} {s₀ : State} (bank : Nat) (s : State) (hI : Framed P s₀ s) (hP : maskIn
    0x100000000 P) : FramedO P s₀ (execBankRetentionEnter bank s) := by
  unfold execBankRetentionEnter
  repeat' (first
    | refine fun (s : State) (hs : Framed P s₀ s) => ?_ | refine fun (_ : _) (s : State) (hs : Framed P s₀ s) => ?_
    | refine fun (_ : _) (_ : _) (s : State) (hs : Framed P s₀ s) => ?_ | with_reducible assumption
    | with_reducible apply id_framed | with_reducible apply when_framed | with_reducible apply FramedO_next
    | with_reducible apply State.put_framed | exact bit_of hP rfl | dsimp -zeta only)

theorem execBankWake_framed {P : Nat} {s₀ : State} (bank : Nat) (s : State) (hI : Framed P s₀ s) (hP : maskIn 0x100000088
    P) : FramedO P s₀ (execBankWake bank s) := by
  unfold execBankWake
  repeat' (first
    | refine fun (s : State) (hs : Framed P s₀ s) => ?_ | refine fun (_ : _) (s : State) (hs : Framed P s₀ s) => ?_
    | refine fun (_ : _) (_ : _) (s : State) (hs : Framed P s₀ s) => ?_ | with_reducible assumption
    | with_reducible apply id_framed | with_reducible apply when_framed | with_reducible apply FramedO_next
    | with_reducible apply State.touchBank_framed | exact maskIn_trans hP rfl | dsimp -zeta only)

theorem execEccWriteBack_framed {P : Nat} {s₀ : State} (addr : Nat) (s : State) (hI : Framed P s₀ s) (hP : maskIn 0x80 P)
    : FramedO P s₀ (execEccWriteBack addr s) := by
  unfold execEccWriteBack
  repeat' (first
    | with_reducible exact Or.inl rfl | exact Or.inr (bit_of hP rfl) | refine fun (s : State) (hs : Framed P s₀ s) => ?_
    | refine fun (_ : _) (s : State) (hs : Framed P s₀ s) => ?_
    | refine fun (_ : _) (_ : _) (s : State) (hs : Framed P s₀ s) => ?_ | with_reducible assumption
    | with_reducible apply id_framed | with_reducible apply when_framed | with_reducible apply FramedO_next
    | dsimp -zeta only | with_reducible apply Framed.mk_of)

theorem execProgramLineRestore_framed {P : Nat} {s₀ : State} (site line : Nat) (ecc : Ecc) (s : State) (hI : Framed P s₀
    s) (hP : maskIn 0x200840081 P) : FramedO P s₀ (execProgramLineRestore site line ecc s) := by
  unfold execProgramLineRestore
  repeat' (first
    | refine fun (s : State) (hs : Framed P s₀ s) => ?_ | refine fun (_ : _) (s : State) (hs : Framed P s₀ s) => ?_
    | refine fun (_ : _) (_ : _) (s : State) (hs : Framed P s₀ s) => ?_
    | ((try lift_lets -underBinder); intro x; refine letS (P := P) (s₀ := s₀) (x := x) ?_ (fun _ => ?_); unfold x; rotate_left; clear_value x)
    | ((try lift_lets -underBinder); intro x; clear_value x) | with_reducible assumption | with_reducible apply id_framed
    | split | with_reducible apply when_framed | with_reducible refine forN_framed ?_ (fun _ _ _ => ?_)
    | with_reducible apply FramedO_next | with_reducible apply State.raise_framed | with_reducible apply State.wrMem_framed
    | exact maskIn_trans hP rfl | dsimp -zeta only)

theorem execSpareRowCopy_framed {P : Nat} {s₀ : State} (bankSite row : Nat) (ecc : Ecc) (s : State) (hI : Framed P s₀ s)
    (hP : maskIn 0x20080 P) : FramedO P s₀ (execSpareRowCopy bankSite row ecc s) := by
  unfold execSpareRowCopy
  repeat' (first
    | with_reducible exact Or.inl rfl | exact Or.inr (bit_of hP rfl) | refine fun (s : State) (hs : Framed P s₀ s) => ?_
    | refine fun (_ : _) (s : State) (hs : Framed P s₀ s) => ?_
    | refine fun (_ : _) (_ : _) (s : State) (hs : Framed P s₀ s) => ?_
    | ((try lift_lets -underBinder); intro x; refine letS (P := P) (s₀ := s₀) (x := x) ?_ (fun _ => ?_); unfold x; rotate_left; clear_value x)
    | ((try lift_lets -underBinder); intro x; clear_value x) | with_reducible assumption | with_reducible apply id_framed
    | split | with_reducible apply when_framed | with_reducible apply FramedO_next | dsimp -zeta only
    | with_reducible apply Framed.mk_of)

theorem execSpareBankCopyEnd_framed {P : Nat} {s₀ : State} (bank : Nat) (s : State) (hI : Framed P s₀ s) (hP : maskIn
    0x100020000 P) : FramedO P s₀ (execSpareBankCopyEnd bank s) := by
  unfold execSpareBankCopyEnd
  repeat' (first
    | with_reducible exact Or.inl rfl | exact Or.inr (bit_of hP rfl) | refine fun (s : State) (hs : Framed P s₀ s) => ?_
    | refine fun (_ : _) (s : State) (hs : Framed P s₀ s) => ?_
    | refine fun (_ : _) (_ : _) (s : State) (hs : Framed P s₀ s) => ?_
    | ((try lift_lets -underBinder); intro x; refine letS (P := P) (s₀ := s₀) (x := x) ?_ (fun _ => ?_); unfold x; rotate_left; clear_value x)
    | ((try lift_lets -underBinder); intro x; clear_value x) | with_reducible assumption | with_reducible apply id_framed
    | split | with_reducible apply when_framed | with_reducible apply FramedO_next | dsimp -zeta only
    | with_reducible apply Framed.mk_of)

theorem State.setRecOk_framed {P : Nat} {s₀ : State} (s : State) (hI : Framed P s₀ s) (hP : maskIn 0x800000 P) : Framed P
    s₀ (State.setRecOk s) := by
  unfold State.setRecOk
  repeat' (first
    | with_reducible assumption | split | with_reducible apply State.put_framed | exact bit_of hP rfl | dsimp -zeta only)

theorem State.recorderLost_framed {P : Nat} {s₀ : State} (s : State) (hI : Framed P s₀ s) (hP : maskIn 0x840000 P) :
    Framed P s₀ (State.recorderLost s) := by
  unfold State.recorderLost
  repeat' (first
    | with_reducible exact Or.inl rfl | exact Or.inr (bit_of hP rfl) | with_reducible assumption
    | with_reducible apply State.raise_framed | exact maskIn_trans hP rfl | dsimp -zeta only
    | with_reducible apply Framed.mk_of)

theorem State.dcisFail_framed {P : Nat} {s₀ : State} (s : State) (ch0 ch1 : Bool) (hI : Framed P s₀ s) (hP : maskIn
    0x200840081 P) : Framed P s₀ (State.dcisFail s ch0 ch1) := by
  unfold State.dcisFail
  repeat' (first
    | with_reducible exact Or.inl rfl | exact Or.inr (bit_of hP rfl)
    | ((try lift_lets -underBinder); intro x; refine letS (P := P) (s₀ := s₀) (x := x) ?_ (fun _ => ?_); unfold x; rotate_left; clear_value x)
    | ((try lift_lets -underBinder); intro x; clear_value x) | with_reducible assumption | split
    | with_reducible refine forN_framed ?_ (fun _ _ _ => ?_) | with_reducible apply State.put_framed
    | with_reducible apply State.raise_framed | with_reducible apply State.zeroMem_framed
    | with_reducible apply State.setRecOk_framed | with_reducible apply State.recorderLost_framed | exact maskIn_trans hP rfl
    | exact bit_of hP rfl | dsimp -zeta only | with_reducible apply Framed.mk_of)

theorem execDcisTrainingEnd_framed {P : Nat} {s₀ : State} (ok0 ok1 : Bool) (s : State) (hI : Framed P s₀ s) (hP : maskIn
    0x200840081 P) : FramedO P s₀ (execDcisTrainingEnd ok0 ok1 s) := by
  unfold execDcisTrainingEnd
  repeat' (first
    | refine fun (s : State) (hs : Framed P s₀ s) => ?_ | refine fun (_ : _) (s : State) (hs : Framed P s₀ s) => ?_
    | refine fun (_ : _) (_ : _) (s : State) (hs : Framed P s₀ s) => ?_
    | ((try lift_lets -underBinder); intro x; refine letS (P := P) (s₀ := s₀) (x := x) ?_ (fun _ => ?_); unfold x; rotate_left; clear_value x)
    | ((try lift_lets -underBinder); intro x; clear_value x) | with_reducible assumption | with_reducible apply id_framed
    | split | with_reducible apply when_framed | with_reducible apply FramedO_next | with_reducible apply State.put_framed
    | with_reducible apply State.dcisFail_framed | exact maskIn_trans hP rfl | exact bit_of hP rfl | dsimp -zeta only)

theorem execDcisSelfRefreshExit_framed {P : Nat} {s₀ : State} (s : State) (hI : Framed P s₀ s) (hP : maskIn 0x200000000 P)
    : FramedO P s₀ (execDcisSelfRefreshExit s) := by
  unfold execDcisSelfRefreshExit
  repeat' (first
    | refine fun (s : State) (hs : Framed P s₀ s) => ?_ | refine fun (_ : _) (s : State) (hs : Framed P s₀ s) => ?_
    | refine fun (_ : _) (_ : _) (s : State) (hs : Framed P s₀ s) => ?_ | with_reducible assumption
    | with_reducible apply id_framed | with_reducible apply when_framed | with_reducible apply FramedO_next
    | with_reducible apply State.put_framed | exact bit_of hP rfl | dsimp -zeta only)

theorem execDcisZeroingEnd_framed {P : Nat} {s₀ : State} (s : State) (hI : Framed P s₀ s) (hP : maskIn 0x200800081 P) :
    FramedO P s₀ (execDcisZeroingEnd s) := by
  unfold execDcisZeroingEnd
  apply FramedO_next
  apply when_framed hI
  apply State.setRecOk_framed _ _ (maskIn_trans hP rfl)
  apply State.put_framed _ _ _ _ _ _ (bit_of hP rfl)
  refine { hI with memWf := fun c => ?_, mem := bit_no hP rfl, memu := bit_no hP rfl }
  dsimp only
  exact nkeep_wf _ (hI.memWf c)

theorem State.moveDone_framed {P : Nat} {s₀ : State} (s : State) (i blk : Nat) (hI : Framed P s₀ s) (hP : maskIn 0x80 P) :
    Framed P s₀ (State.moveDone s i blk) := by
  unfold State.moveDone
  repeat' (first
    | with_reducible exact Or.inl rfl | exact Or.inr (bit_of hP rfl) | with_reducible assumption | dsimp -zeta only
    | with_reducible apply Framed.mk_of)

theorem State.advancePos_framed {P : Nat} {s₀ : State} (s : State) (i : Nat) (hI : Framed P s₀ s) (hP : maskIn 0x200000000
    P) : Framed P s₀ (State.advancePos s i) := by
  unfold State.advancePos
  repeat' (first | with_reducible assumption | with_reducible apply State.put_framed | exact bit_of hP rfl | dsimp -zeta only)

theorem execDcisWriteMove_framed {P : Nat} {s₀ : State} (stream : Nat) (s : State) (hI : Framed P s₀ s) (hP : maskIn
    0x200000081 P) : FramedO P s₀ (execDcisWriteMove stream s) := by
  unfold execDcisWriteMove
  repeat' (first
    | with_reducible exact Or.inl rfl | exact Or.inr (bit_of hP rfl) | refine fun (s : State) (hs : Framed P s₀ s) => ?_
    | refine fun (_ : _) (s : State) (hs : Framed P s₀ s) => ?_
    | refine fun (_ : _) (_ : _) (s : State) (hs : Framed P s₀ s) => ?_
    | ((try lift_lets -underBinder); intro x; refine letS (P := P) (s₀ := s₀) (x := x) ?_ (fun _ => ?_); unfold x; rotate_left; clear_value x)
    | ((try lift_lets -underBinder); intro x; clear_value x) | with_reducible assumption | with_reducible apply id_framed
    | split | with_reducible apply when_framed | with_reducible refine forN_framed ?_ (fun _ _ _ => ?_)
    | with_reducible apply FramedO_next | with_reducible apply State.wrMem_framed
    | with_reducible apply State.moveDone_framed | with_reducible apply State.advancePos_framed | exact maskIn_trans hP rfl
    | dsimp -zeta only | with_reducible apply Framed.mk_of)

theorem execDcisReadMove_framed {P : Nat} {s₀ : State} (stream : Nat) (badWords : List Nat) (s : State) (hI : Framed P s₀
    s) (hP : maskIn 0x200840081 P) : FramedO P s₀ (execDcisReadMove stream badWords s) := by
  unfold execDcisReadMove
  repeat' (first
    | with_reducible exact Or.inl rfl | exact Or.inr (bit_of hP rfl) | refine fun (s : State) (hs : Framed P s₀ s) => ?_
    | refine fun (_ : _) (s : State) (hs : Framed P s₀ s) => ?_
    | refine fun (_ : _) (_ : _) (s : State) (hs : Framed P s₀ s) => ?_
    | ((try lift_lets -underBinder); intro x; refine letS (P := P) (s₀ := s₀) (x := x) ?_ (fun _ => ?_); unfold x; rotate_left; clear_value x)
    | ((try lift_lets -underBinder); intro x; clear_value x) | with_reducible assumption | with_reducible apply id_framed
    | split | with_reducible apply when_framed | with_reducible refine forN_framed ?_ (fun _ _ _ => ?_)
    | with_reducible apply FramedO_next | with_reducible apply State.raise_framed | with_reducible apply State.wrMem_framed
    | with_reducible apply State.moveDone_framed | exact maskIn_trans hP rfl | dsimp -zeta only
    | with_reducible apply Framed.mk_of)

theorem State.lateMove_framed {P : Nat} {s₀ : State} (s : State) (i j : Nat) (hI : Framed P s₀ s) (hP : maskIn 0x200840081
    P) : Framed P s₀ (State.lateMove s i j) := by
  unfold State.lateMove
  repeat' (first

    | ((try lift_lets -underBinder); intro x; refine letS (P := P) (s₀ := s₀) (x := x) ?_ (fun _ => ?_); unfold x; rotate_left; clear_value x)
    | ((try lift_lets -underBinder); intro x; clear_value x) | with_reducible assumption | split
    | with_reducible refine forN_framed ?_ (fun _ _ _ => ?_) | with_reducible apply State.incSat_framed
    | with_reducible apply State.raise_framed | with_reducible apply State.wrMem_framed
    | with_reducible apply State.moveDone_framed | with_reducible apply State.advancePos_framed | exact maskIn_trans hP rfl
    | exact bit_of hP rfl | dsimp -zeta only)

theorem execDcisLate_framed {P : Nat} {s₀ : State} (stream : Nat) (s : State) (hI : Framed P s₀ s) (hP : maskIn
    0x200840081 P) : FramedO P s₀ (execDcisLate stream s) := by
  unfold execDcisLate
  repeat' (first
    | with_reducible exact Or.inl rfl | exact Or.inr (bit_of hP rfl) | refine fun (s : State) (hs : Framed P s₀ s) => ?_
    | refine fun (_ : _) (s : State) (hs : Framed P s₀ s) => ?_
    | refine fun (_ : _) (_ : _) (s : State) (hs : Framed P s₀ s) => ?_ | with_reducible assumption
    | with_reducible apply id_framed | split | with_reducible apply when_framed | with_reducible apply FramedO_next
    | with_reducible apply State.lateMove_framed | exact maskIn_trans hP rfl | dsimp -zeta only
    | with_reducible apply Framed.mk_of)

theorem execDcisFailed_framed {P : Nat} {s₀ : State} (channel : Nat) (s : State) (hI : Framed P s₀ s) (hP : maskIn
    0x200840081 P) : FramedO P s₀ (execDcisFailed channel s) := by
  unfold execDcisFailed
  repeat' (first
    | refine fun (s : State) (hs : Framed P s₀ s) => ?_ | refine fun (_ : _) (s : State) (hs : Framed P s₀ s) => ?_
    | refine fun (_ : _) (_ : _) (s : State) (hs : Framed P s₀ s) => ?_ | with_reducible assumption
    | with_reducible apply id_framed | with_reducible apply when_framed | with_reducible apply FramedO_next
    | with_reducible apply State.dcisFail_framed | exact maskIn_trans hP rfl | dsimp -zeta only)

theorem State.boundaryMoves_framed {P : Nat} {s₀ : State} (s : State) (j : Nat) (hI : Framed P s₀ s) (hP : maskIn
    0x200840081 P) : Framed P s₀ (State.boundaryMoves s j) := by
  unfold State.boundaryMoves
  repeat' (first
    | with_reducible exact Or.inl rfl | exact Or.inr (bit_of hP rfl)
    | ((try lift_lets -underBinder); intro x; refine letS (P := P) (s₀ := s₀) (x := x) ?_ (fun _ => ?_); unfold x; rotate_left; clear_value x)
    | ((try lift_lets -underBinder); intro x; clear_value x) | with_reducible assumption | split
    | with_reducible refine forL_framed ?_ (fun _ _ _ => ?_) | with_reducible apply State.lateMove_framed
    | exact maskIn_trans hP rfl | dsimp -zeta only | with_reducible apply Framed.mk_of)

theorem execTaskDescriptorWrite_framed {P : Nat} {s₀ : State} (master site slot word : Nat) (value : BitVec 64) (s :
    State) (hI : Framed P s₀ s) (hP : maskIn 0x8000c40100 P) : FramedO P s₀ (execTaskDescriptorWrite master site slot word
    value s) := by
  unfold execTaskDescriptorWrite
  repeat' (first
    | refine fun (s : State) (hs : Framed P s₀ s) => ?_ | refine fun (_ : _) (s : State) (hs : Framed P s₀ s) => ?_
    | refine fun (_ : _) (_ : _) (s : State) (hs : Framed P s₀ s) => ?_
    | ((try lift_lets -underBinder); intro x; refine letS (P := P) (s₀ := s₀) (x := x) ?_ (fun _ => ?_); unfold x; rotate_left; clear_value x)
    | ((try lift_lets -underBinder); intro x; clear_value x) | with_reducible assumption | with_reducible apply id_framed
    | split | with_reducible apply when_framed | with_reducible apply FramedO_next
    | with_reducible apply State.writeTaskWord_framed | with_reducible apply State.fabError_framed
    | exact maskIn_trans hP rfl | dsimp -zeta only)

end Sys2Proof.Machine
end

