-- ==== Sys2Proof/Laws/FramedObjects.lean ====
section
/-! SUPPORT. What the operations and commands of Machine/Objects.lean can change, as masks of parts (Laws/Framed.lean): one lemma
for each. -/

namespace Sys2Proof.Machine

open Sys2Proof

theorem State.setObj_framed {P : Nat} {s₀ : State} (s : State) (idx sub elem : Nat) (v : PVal) (hI : Framed P s₀ s) (hP :
    maskIn 0x2000 P) : Framed P s₀ (State.setObj s idx sub elem v) := by
  unfold State.setObj
  repeat' (first
    | with_reducible exact Or.inl rfl | exact Or.inr (bit_of hP rfl) | with_reducible assumption | split | dsimp -zeta only
    | with_reducible apply Framed.mk_of)

theorem State.takeDigest_framed {P : Nat} {s₀ : State} (s : State) (hI : Framed P s₀ s) (hP : maskIn 0x1000 P) : Framed P
    s₀ (State.takeDigest s) := by
  unfold State.takeDigest
  repeat' (first
    | with_reducible exact Or.inl rfl | exact Or.inr (bit_of hP rfl) | with_reducible assumption | dsimp -zeta only
    | with_reducible apply Framed.mk_of)

end Sys2Proof.Machine
end

