-- ==== Sys2Proof/Laws/FramedReference.lean ====
section
/-! SUPPORT. What the operations and commands of Machine/Reference.lean can change, as masks of parts (Laws/Framed.lean): one lemma
for each. -/

namespace Sys2Proof.Machine

open Sys2Proof

theorem State.setCand_framed {P : Nat} {s₀ : State} (s : State) (n : Nat) (c : Cand) (hI : Framed P s₀ s) (hP : maskIn
    0x10 P) : Framed P s₀ (State.setCand s n c) := by
  unfold State.setCand
  repeat' (first
    | with_reducible exact Or.inl rfl | exact Or.inr (bit_of hP rfl) | with_reducible assumption | dsimp -zeta only
    | with_reducible apply Framed.mk_of)

theorem State.setRpllWord_framed {P : Nat} {s₀ : State} (s : State) (w : Nat) (hI : Framed P s₀ s) (hP : maskIn 0x2000000
    P) : Framed P s₀ (State.setRpllWord s w) := by
  unfold State.setRpllWord
  repeat' (first | with_reducible assumption | with_reducible apply State.put_framed | exact bit_of hP rfl | dsimp -zeta only)

theorem State.selectRef_framed {P : Nat} {s₀ : State} (s : State) (hI : Framed P s₀ s) (hP : maskIn 0x2840000 P) : Framed
    P s₀ (State.selectRef s).2 := by
  unfold State.selectRef
  repeat' (first
    | with_reducible exact Or.inl rfl | exact Or.inr (bit_of hP rfl)
    | ((try lift_lets -underBinder); intro x; refine letS (P := P) (s₀ := s₀) (x := x) ?_ (fun _ => ?_); unfold x; rotate_left; clear_value x)
    | ((try lift_lets -underBinder); intro x; refine letS (P := P) (s₀ := s₀) (x := x.2) ?_ (fun _ => ?_); unfold x; rotate_left; clear_value x)
    | ((try lift_lets -underBinder); intro x; refine letS (P := P) (s₀ := s₀) (x := x.1) ?_ (fun _ => ?_); unfold x; rotate_left; clear_value x)
    | ((try lift_lets -underBinder); intro x; clear_value x) | with_reducible assumption | split
    | with_reducible refine foldl_framed ?_ (fun _ _ _ => ?_) | with_reducible refine foldl1_framed ?_ (fun _ _ _ => ?_)
    | with_reducible refine foldl2_framed ?_ (fun _ _ _ => ?_) | with_reducible apply State.put_framed
    | with_reducible apply State.raise_framed | exact maskIn_trans hP rfl | exact bit_of hP rfl
    | with_reducible refine of_snd (by with_reducible assumption) ?_
    | with_reducible refine of_fst (by with_reducible assumption) ?_ | dsimp -zeta only | with_reducible apply Framed.mk_of)

theorem State.refRefresh_framed {P : Nat} {s₀ : State} (s : State) (hI : Framed P s₀ s) (hP : maskIn 0x2080000 P) : Framed
    P s₀ (State.refRefresh s) := by
  unfold State.refRefresh
  repeat' (first
    | with_reducible exact Or.inl rfl | exact Or.inr (bit_of hP rfl)
    | ((try lift_lets -underBinder); intro x; refine letS (P := P) (s₀ := s₀) (x := x) ?_ (fun _ => ?_); unfold x; rotate_left; clear_value x)
    | ((try lift_lets -underBinder); intro x; clear_value x) | with_reducible assumption | split
    | with_reducible refine forN_framed ?_ (fun _ _ _ => ?_) | with_reducible apply State.put_framed | exact bit_of hP rfl
    | dsimp -zeta only | with_reducible apply Framed.mk_of)

theorem State.evalSelect_framed {P : Nat} {s₀ : State} (s : State) (hI : Framed P s₀ s) (hP : maskIn 0x28c0010 P) : Framed
    P s₀ (State.evalSelect s) := by
  unfold State.evalSelect
  repeat' (first
    | with_reducible exact Or.inl rfl | exact Or.inr (bit_of hP rfl)
    | ((try lift_lets -underBinder); intro x; refine letS (P := P) (s₀ := s₀) (x := x) ?_ (fun _ => ?_); unfold x; rotate_left; clear_value x)
    | ((try lift_lets -underBinder); intro x; refine letS (P := P) (s₀ := s₀) (x := x.2) ?_ (fun _ => ?_); unfold x; rotate_left; clear_value x)
    | ((try lift_lets -underBinder); intro x; refine letS (P := P) (s₀ := s₀) (x := x.1) ?_ (fun _ => ?_); unfold x; rotate_left; clear_value x)
    | ((try lift_lets -underBinder); intro x; clear_value x) | with_reducible assumption | split
    | with_reducible apply State.selectRef_framed | with_reducible apply State.refRefresh_framed | exact maskIn_trans hP rfl
    | with_reducible refine of_snd (by with_reducible assumption) ?_
    | with_reducible refine of_fst (by with_reducible assumption) ?_ | dsimp -zeta only | with_reducible apply Framed.mk_of)

theorem State.moveCand_framed {P : Nat} {s₀ : State} (s : State) (n t : Nat) (hI : Framed P s₀ s) (hP : maskIn 0x28c0010
    P) : Framed P s₀ (State.moveCand s n t) := by
  unfold State.moveCand
  repeat' (first
    | with_reducible exact Or.inl rfl | exact Or.inr (bit_of hP rfl)
    | ((try lift_lets -underBinder); intro x; refine letS (P := P) (s₀ := s₀) (x := x) ?_ (fun _ => ?_); unfold x; rotate_left; clear_value x)
    | ((try lift_lets -underBinder); intro x; clear_value x) | with_reducible assumption | split
    | with_reducible apply State.put_framed | with_reducible apply State.raise_framed
    | with_reducible apply State.setCand_framed | exact maskIn_trans hP rfl | exact bit_of hP rfl | dsimp -zeta only
    | with_reducible apply Framed.mk_of)

theorem State.qualify_framed {P : Nat} {s₀ : State} (s : State) (n : Nat) (second : Bool) (hI : Framed P s₀ s) (hP :
    maskIn 0x28c0010 P) : Framed P s₀ (State.qualify s n second) := by
  unfold State.qualify
  repeat' (first
    | with_reducible exact Or.inl rfl | exact Or.inr (bit_of hP rfl)
    | ((try lift_lets -underBinder); intro x; refine letS (P := P) (s₀ := s₀) (x := x) ?_ (fun _ => ?_); unfold x; rotate_left; clear_value x)
    | ((try lift_lets -underBinder); intro x; clear_value x) | with_reducible assumption | split
    | with_reducible apply State.put_framed | with_reducible apply State.setCand_framed
    | with_reducible apply State.moveCand_framed | exact maskIn_trans hP rfl | exact bit_of hP rfl | dsimp -zeta only
    | with_reducible apply Framed.mk_of)

theorem State.window1_framed {P : Nat} {s₀ : State} (s : State) (cal : Int) (n : Nat) (raw : Int) (hI : Framed P s₀ s) (hP
    : maskIn 0x28c0010 P) : Framed P s₀ (State.window1 s cal n raw) := by
  unfold State.window1
  repeat' (first
    | with_reducible exact Or.inl rfl | exact Or.inr (bit_of hP rfl)
    | ((try lift_lets -underBinder); intro x; refine letS (P := P) (s₀ := s₀) (x := x) ?_ (fun _ => ?_); unfold x; rotate_left; clear_value x)
    | ((try lift_lets -underBinder); intro x; clear_value x) | with_reducible assumption | split
    | with_reducible apply State.put_framed | with_reducible apply State.putI_framed
    | with_reducible apply State.setCand_framed | with_reducible apply State.qualify_framed | exact maskIn_trans hP rfl
    | exact bit_of hP rfl | dsimp -zeta only | with_reducible apply Framed.mk_of)

theorem State.flags64_framed {P : Nat} {s₀ : State} (s : State) (n : Nat) (hI : Framed P s₀ s) (hP : maskIn 0x2000010 P) :
    Framed P s₀ (State.flags64 s n) := by
  unfold State.flags64
  repeat' (first
    | with_reducible exact Or.inl rfl | exact Or.inr (bit_of hP rfl)
    | ((try lift_lets -underBinder); intro x; refine letS (P := P) (s₀ := s₀) (x := x) ?_ (fun _ => ?_); unfold x; rotate_left; clear_value x)
    | ((try lift_lets -underBinder); intro x; clear_value x) | with_reducible assumption | split
    | with_reducible apply State.put_framed | with_reducible apply State.setCand_framed | exact maskIn_trans hP rfl
    | exact bit_of hP rfl | dsimp -zeta only | with_reducible apply Framed.mk_of)

theorem execRefWindow1s_framed {P : Nat} {s₀ : State} (raw : List Int) (s : State) (hI : Framed P s₀ s) (hP : maskIn
    0x28c0010 P) : FramedO P s₀ (execRefWindow1s raw s) := by
  unfold execRefWindow1s
  repeat' (first
    | with_reducible exact Or.inl rfl | exact Or.inr (bit_of hP rfl) | refine fun (s : State) (hs : Framed P s₀ s) => ?_
    | refine fun (_ : _) (s : State) (hs : Framed P s₀ s) => ?_
    | refine fun (_ : _) (_ : _) (s : State) (hs : Framed P s₀ s) => ?_
    | ((try lift_lets -underBinder); intro x; refine letS (P := P) (s₀ := s₀) (x := x) ?_ (fun _ => ?_); unfold x; rotate_left; clear_value x)
    | ((try lift_lets -underBinder); intro x; clear_value x) | with_reducible assumption | with_reducible apply id_framed
    | with_reducible apply when_framed | with_reducible refine forN_framed ?_ (fun _ _ _ => ?_)
    | with_reducible apply FramedO_next | with_reducible apply State.refRefresh_framed
    | with_reducible apply State.evalSelect_framed | with_reducible apply State.window1_framed | exact maskIn_trans hP rfl
    | dsimp -zeta only | with_reducible apply Framed.mk_of)

theorem execRefWindow64s_framed {P : Nat} {s₀ : State} (raw : List Int) (s : State) (hI : Framed P s₀ s) (hP : maskIn
    0x28c0010 P) : FramedO P s₀ (execRefWindow64s raw s) := by
  unfold execRefWindow64s
  repeat' (first
    | with_reducible exact Or.inl rfl | exact Or.inr (bit_of hP rfl) | refine fun (s : State) (hs : Framed P s₀ s) => ?_
    | refine fun (_ : _) (s : State) (hs : Framed P s₀ s) => ?_
    | refine fun (_ : _) (_ : _) (s : State) (hs : Framed P s₀ s) => ?_
    | ((try lift_lets -underBinder); intro x; refine letS (P := P) (s₀ := s₀) (x := x) ?_ (fun _ => ?_); unfold x; rotate_left; clear_value x)
    | ((try lift_lets -underBinder); intro x; clear_value x) | with_reducible assumption | with_reducible apply id_framed
    | split | with_reducible apply when_framed | with_reducible refine forN_framed ?_ (fun _ _ _ => ?_)
    | with_reducible apply FramedO_next | with_reducible apply State.put_framed | with_reducible apply State.putI_framed
    | with_reducible apply State.raise_framed | with_reducible apply State.setCand_framed
    | with_reducible apply State.refRefresh_framed | with_reducible apply State.qualify_framed
    | with_reducible apply State.flags64_framed | exact maskIn_trans hP rfl | exact bit_of hP rfl | dsimp -zeta only
    | with_reducible apply Framed.mk_of)

theorem State.refLoss_framed {P : Nat} {s₀ : State} (s : State) (n : Nat) (hI : Framed P s₀ s) (hP : maskIn 0x28c0010 P) :
    Framed P s₀ (State.refLoss s n) := by
  unfold State.refLoss
  repeat' (first
    | with_reducible assumption | with_reducible apply State.put_framed | with_reducible apply State.moveCand_framed
    | exact maskIn_trans hP rfl | exact bit_of hP rfl | dsimp -zeta only)

theorem execRefLossOfSignal_framed {P : Nat} {s₀ : State} (cand : Nat) (s : State) (hI : Framed P s₀ s) (hP : maskIn
    0x28c0010 P) : FramedO P s₀ (execRefLossOfSignal cand s) := by
  unfold execRefLossOfSignal
  repeat' (first
    | refine fun (s : State) (hs : Framed P s₀ s) => ?_ | refine fun (_ : _) (s : State) (hs : Framed P s₀ s) => ?_
    | refine fun (_ : _) (_ : _) (s : State) (hs : Framed P s₀ s) => ?_ | with_reducible assumption
    | with_reducible apply id_framed | with_reducible apply when_framed | with_reducible apply FramedO_next
    | with_reducible apply State.evalSelect_framed | with_reducible apply State.refLoss_framed | exact maskIn_trans hP rfl
    | dsimp -zeta only)

theorem execRefSignalPresent_framed {P : Nat} {s₀ : State} (cand : Nat) (s : State) (hI : Framed P s₀ s) (hP : maskIn
    0x28c0010 P) : FramedO P s₀ (execRefSignalPresent cand s) := by
  unfold execRefSignalPresent
  repeat' (first
    | refine fun (s : State) (hs : Framed P s₀ s) => ?_ | refine fun (_ : _) (s : State) (hs : Framed P s₀ s) => ?_
    | refine fun (_ : _) (_ : _) (s : State) (hs : Framed P s₀ s) => ?_ | with_reducible assumption
    | with_reducible apply id_framed | split | with_reducible apply when_framed | with_reducible apply FramedO_next
    | with_reducible apply State.moveCand_framed | exact maskIn_trans hP rfl | dsimp -zeta only)

theorem execWtrExpiry_framed {P : Nat} {s₀ : State} (cand : Nat) (s : State) (hI : Framed P s₀ s) (hP : maskIn 0x28c0010
    P) : FramedO P s₀ (execWtrExpiry cand s) := by
  unfold execWtrExpiry
  repeat' (first
    | refine fun (s : State) (hs : Framed P s₀ s) => ?_ | refine fun (_ : _) (s : State) (hs : Framed P s₀ s) => ?_
    | refine fun (_ : _) (_ : _) (s : State) (hs : Framed P s₀ s) => ?_ | with_reducible assumption
    | with_reducible apply id_framed | with_reducible apply when_framed | with_reducible apply FramedO_next
    | with_reducible apply State.evalSelect_framed | with_reducible apply State.moveCand_framed | exact maskIn_trans hP rfl
    | dsimp -zeta only)

theorem execRefSelect_framed {P : Nat} {s₀ : State} (s : State) (hI : Framed P s₀ s) (hP : maskIn 0x28c0010 P) : FramedO P
    s₀ (execRefSelect s) := by
  unfold execRefSelect
  repeat' (first
    | refine fun (s : State) (hs : Framed P s₀ s) => ?_ | refine fun (_ : _) (s : State) (hs : Framed P s₀ s) => ?_
    | refine fun (_ : _) (_ : _) (s : State) (hs : Framed P s₀ s) => ?_ | with_reducible assumption
    | with_reducible apply id_framed | with_reducible apply when_framed | with_reducible apply FramedO_next
    | with_reducible apply State.evalSelect_framed | exact maskIn_trans hP rfl | dsimp -zeta only)

theorem State.refSwitch_framed {P : Nat} {s₀ : State} (s : State) (new : Nat) (phaseErr : Int) (hI : Framed P s₀ s) (hP :
    maskIn 0x28c0010 P) : Framed P s₀ (State.refSwitch s new phaseErr) := by
  unfold State.refSwitch
  repeat' (first
    | with_reducible exact Or.inl rfl | exact Or.inr (bit_of hP rfl)
    | ((try lift_lets -underBinder); intro x; refine letS (P := P) (s₀ := s₀) (x := x) ?_ (fun _ => ?_); unfold x; rotate_left; clear_value x)
    | ((try lift_lets -underBinder); intro x; clear_value x) | with_reducible assumption | split
    | with_reducible refine forN_framed ?_ (fun _ _ _ => ?_) | with_reducible apply State.put_framed
    | with_reducible apply State.raise_framed | exact maskIn_trans hP rfl | exact bit_of hP rfl | dsimp -zeta only
    | with_reducible apply Framed.mk_of)

theorem execRefSwitch_framed {P : Nat} {s₀ : State} (phaseErr : Int) (s : State) (hI : Framed P s₀ s) (hP : maskIn
    0x28c0010 P) : FramedO P s₀ (execRefSwitch phaseErr s) := by
  unfold execRefSwitch
  repeat' (first
    | with_reducible exact Or.inl rfl | exact Or.inr (bit_of hP rfl) | refine fun (s : State) (hs : Framed P s₀ s) => ?_
    | refine fun (_ : _) (s : State) (hs : Framed P s₀ s) => ?_
    | refine fun (_ : _) (_ : _) (s : State) (hs : Framed P s₀ s) => ?_ | with_reducible assumption
    | with_reducible apply id_framed | split | with_reducible apply when_framed | with_reducible apply FramedO_next
    | with_reducible apply State.refRefresh_framed | with_reducible apply State.refSwitch_framed | exact maskIn_trans hP rfl
    | dsimp -zeta only | with_reducible apply Framed.mk_of)

theorem execPassThroughEnd_framed {P : Nat} {s₀ : State} (phaseErr : Int) (s : State) (hI : Framed P s₀ s) (hP : maskIn
    0x2000000 P) : FramedO P s₀ (execPassThroughEnd phaseErr s) := by
  unfold execPassThroughEnd
  repeat' (first
    | refine fun (s : State) (hs : Framed P s₀ s) => ?_ | refine fun (_ : _) (s : State) (hs : Framed P s₀ s) => ?_
    | refine fun (_ : _) (_ : _) (s : State) (hs : Framed P s₀ s) => ?_ | with_reducible assumption
    | with_reducible apply id_framed | with_reducible apply when_framed | with_reducible apply FramedO_next
    | with_reducible apply State.put_framed | exact bit_of hP rfl | dsimp -zeta only)

theorem execHoldHistoryEntry_framed {P : Nat} {s₀ : State} (word : BitVec 48) (steady : Bool) (s : State) (hI : Framed P
    s₀ s) (hP : maskIn 0x2080010 P) : FramedO P s₀ (execHoldHistoryEntry word steady s) := by
  unfold execHoldHistoryEntry
  repeat' (first
    | with_reducible exact Or.inl rfl | exact Or.inr (bit_of hP rfl) | refine fun (s : State) (hs : Framed P s₀ s) => ?_
    | refine fun (_ : _) (s : State) (hs : Framed P s₀ s) => ?_
    | refine fun (_ : _) (_ : _) (s : State) (hs : Framed P s₀ s) => ?_
    | ((try lift_lets -underBinder); intro x; refine letS (P := P) (s₀ := s₀) (x := x) ?_ (fun _ => ?_); unfold x; rotate_left; clear_value x)
    | ((try lift_lets -underBinder); intro x; clear_value x) | with_reducible assumption | with_reducible apply id_framed
    | split | with_reducible apply when_framed | with_reducible apply FramedO_next | with_reducible apply State.incSat_framed
    | with_reducible apply State.refRefresh_framed | exact maskIn_trans hP rfl | exact bit_of hP rfl | dsimp -zeta only
    | with_reducible apply Framed.mk_of)

theorem State.setPulse_framed {P : Nat} {s₀ : State} (s : State) (n : Nat) (p : Pulse) (hI : Framed P s₀ s) (hP : maskIn
    0x10 P) : Framed P s₀ (State.setPulse s n p) := by
  unfold State.setPulse
  repeat' (first
    | with_reducible exact Or.inl rfl | exact Or.inr (bit_of hP rfl) | with_reducible assumption | dsimp -zeta only
    | with_reducible apply Framed.mk_of)

theorem execPulseEmit_framed {P : Nat} {s₀ : State} (out : Nat) (instant : Int) (lost : Bool) (s : State) (hI : Framed P
    s₀ s) (hP : maskIn 0x2000010 P) : FramedO P s₀ (execPulseEmit out instant lost s) := by
  unfold execPulseEmit
  repeat' (first
    | refine fun (s : State) (hs : Framed P s₀ s) => ?_ | refine fun (_ : _) (s : State) (hs : Framed P s₀ s) => ?_
    | refine fun (_ : _) (_ : _) (s : State) (hs : Framed P s₀ s) => ?_
    | ((try lift_lets -underBinder); intro x; refine letS (P := P) (s₀ := s₀) (x := x) ?_ (fun _ => ?_); unfold x; rotate_left; clear_value x)
    | ((try lift_lets -underBinder); intro x; clear_value x) | with_reducible assumption | with_reducible apply id_framed
    | split | with_reducible apply when_framed | with_reducible apply FramedO_next | with_reducible apply State.put_framed
    | with_reducible apply State.setPulse_framed | exact maskIn_trans hP rfl | exact bit_of hP rfl | dsimp -zeta only)

theorem execPulseRealign_framed {P : Nat} {s₀ : State} (out : Nat) (instant : Int) (s : State) (hI : Framed P s₀ s) (hP :
    maskIn 0x2000010 P) : FramedO P s₀ (execPulseRealign out instant s) := by
  unfold execPulseRealign
  repeat' (first
    | refine fun (s : State) (hs : Framed P s₀ s) => ?_ | refine fun (_ : _) (s : State) (hs : Framed P s₀ s) => ?_
    | refine fun (_ : _) (_ : _) (s : State) (hs : Framed P s₀ s) => ?_
    | ((try lift_lets -underBinder); intro x; refine letS (P := P) (s₀ := s₀) (x := x) ?_ (fun _ => ?_); unfold x; rotate_left; clear_value x)
    | ((try lift_lets -underBinder); intro x; clear_value x) | with_reducible assumption | with_reducible apply id_framed
    | with_reducible apply when_framed | with_reducible apply FramedO_next | with_reducible apply State.put_framed
    | with_reducible apply State.setPulse_framed | exact maskIn_trans hP rfl | exact bit_of hP rfl | dsimp -zeta only)

end Sys2Proof.Machine
end

