-- ==== Sys2Proof/Laws/FramedTime.lean ====
section
/-! SUPPORT. What the operations and commands of Machine/Time.lean can change, as masks of parts (Laws/Framed.lean): one lemma
for each. -/

namespace Sys2Proof.Machine

open Sys2Proof

theorem State.setRateSV_framed {P : Nat} {s₀ : State} (s : State) (d : Nat) (sv : Int) (hI : Framed P s₀ s) (hP : maskIn
    0x1000020 P) : Framed P s₀ (State.setRateSV s d sv) := by
  unfold State.setRateSV
  repeat' (first
    | with_reducible exact Or.inl rfl | exact Or.inr (bit_of hP rfl)
    | ((try lift_lets -underBinder); intro x; refine letS (P := P) (s₀ := s₀) (x := x) ?_ (fun _ => ?_); unfold x; rotate_left; clear_value x)
    | ((try lift_lets -underBinder); intro x; clear_value x) | with_reducible assumption | split
    | with_reducible apply State.put_framed | with_reducible apply State.setDom_framed | exact maskIn_trans hP rfl
    | exact bit_of hP rfl | dsimp -zeta only | with_reducible apply Framed.mk_of)

theorem State.stepDom_framed {P : Nat} {s₀ : State} (s : State) (d : Nat) (j : Int) (hI : Framed P s₀ s) (hP : maskIn 0x20
    P) : Framed P s₀ (State.stepDom s d j) := by
  unfold State.stepDom
  repeat' (first
    | with_reducible exact Or.inl rfl | exact Or.inr (bit_of hP rfl)
    | ((try lift_lets -underBinder); intro x; refine letS (P := P) (s₀ := s₀) (x := x) ?_ (fun _ => ?_); unfold x; rotate_left; clear_value x)
    | ((try lift_lets -underBinder); intro x; clear_value x) | with_reducible assumption
    | with_reducible apply State.setDom_framed | exact maskIn_trans hP rfl | dsimp -zeta only
    | with_reducible apply Framed.mk_of)

theorem State.moveDom_framed {P : Nat} {s₀ : State} (s : State) (d t : Nat) (f : Dom → Dom) (hI : Framed P s₀ s) (hP :
    maskIn 0x1840020 P) : Framed P s₀ (State.moveDom s d t f) := by
  unfold State.moveDom
  repeat' (first

    | ((try lift_lets -underBinder); intro x; refine letS (P := P) (s₀ := s₀) (x := x) ?_ (fun _ => ?_); unfold x; rotate_left; clear_value x)
    | ((try lift_lets -underBinder); intro x; clear_value x) | with_reducible assumption | split
    | with_reducible apply State.put_framed | with_reducible apply State.setDom_framed
    | with_reducible apply State.raise_framed | exact maskIn_trans hP rfl | exact bit_of hP rfl | dsimp -zeta only)

theorem State.steerE_framed {P : Nat} {s₀ : State} (s : State) (hI : Framed P s₀ s) (hP : maskIn 0x1080020 P) : Framed P
    s₀ (State.steerE s) := by
  unfold State.steerE
  repeat' (first
    | with_reducible exact Or.inl rfl | exact Or.inr (bit_of hP rfl)
    | ((try lift_lets -underBinder); intro x; refine letS (P := P) (s₀ := s₀) (x := x) ?_ (fun _ => ?_); unfold x; rotate_left; clear_value x)
    | ((try lift_lets -underBinder); intro x; clear_value x) | with_reducible assumption | split | dsimp -zeta only
    | with_reducible apply Framed.mk_of)

theorem State.timRefresh_framed {P : Nat} {s₀ : State} (s : State) (hI : Framed P s₀ s) (hP : maskIn 0x1000000 P) : Framed
    P s₀ (State.timRefresh s) := by
  unfold State.timRefresh
  repeat' (first
    | with_reducible assumption | split | with_reducible apply State.putI_framed | exact bit_of hP rfl | dsimp -zeta only)

theorem State.mapScales_framed {P : Nat} {s₀ : State} (s : State) (f : Scale → Scale) (t : Tim → Tim) (hI : Framed P s₀ s)
    (hP : maskIn 0x20 P) : Framed P s₀ (State.mapScales s f t) := by
  unfold State.mapScales
  repeat' (first
    | with_reducible exact Or.inl rfl | exact Or.inr (bit_of hP rfl)
    | ((try lift_lets -underBinder); intro x; refine letS (P := P) (s₀ := s₀) (x := x) ?_ (fun _ => ?_); unfold x; rotate_left; clear_value x)
    | ((try lift_lets -underBinder); intro x; clear_value x) | with_reducible assumption
    | with_reducible refine forN_framed ?_ (fun _ _ _ => ?_) | with_reducible apply State.setDom_framed
    | exact maskIn_trans hP rfl | dsimp -zeta only | with_reducible apply Framed.mk_of)

theorem execRpllWordUpdate_framed {P : Nat} {s₀ : State} (intPart : BitVec 8) (frac : BitVec 40) (s : State) (hI : Framed
    P s₀ s) (hP : maskIn 0x2080020 P) : FramedO P s₀ (execRpllWordUpdate intPart frac s) := by
  unfold execRpllWordUpdate
  repeat' (first
    | with_reducible exact Or.inl rfl | exact Or.inr (bit_of hP rfl) | refine fun (s : State) (hs : Framed P s₀ s) => ?_
    | refine fun (_ : _) (s : State) (hs : Framed P s₀ s) => ?_
    | refine fun (_ : _) (_ : _) (s : State) (hs : Framed P s₀ s) => ?_
    | ((try lift_lets -underBinder); intro x; refine letS (P := P) (s₀ := s₀) (x := x) ?_ (fun _ => ?_); unfold x; rotate_left; clear_value x)
    | ((try lift_lets -underBinder); intro x; clear_value x) | with_reducible assumption | with_reducible apply id_framed
    | split | with_reducible apply when_framed | with_reducible apply FramedO_next
    | with_reducible apply State.setRpllWord_framed | with_reducible apply State.mapScales_framed | exact maskIn_trans hP rfl
    | dsimp -zeta only | with_reducible apply Framed.mk_of)

theorem State.domDisable_framed {P : Nat} {s₀ : State} (s : State) (d : Nat) (hI : Framed P s₀ s) (hP : maskIn 0x1840020
    P) : Framed P s₀ (State.domDisable s d) := by
  unfold State.domDisable
  repeat' (first

    | ((try lift_lets -underBinder); intro x; refine letS (P := P) (s₀ := s₀) (x := x) ?_ (fun _ => ?_); unfold x; rotate_left; clear_value x)
    | ((try lift_lets -underBinder); intro x; clear_value x) | with_reducible assumption
    | with_reducible apply State.put_framed | with_reducible apply State.moveDom_framed | exact maskIn_trans hP rfl
    | exact bit_of hP rfl | dsimp -zeta only)

theorem State.domEnable_framed {P : Nat} {s₀ : State} (s : State) (d : Nat) (hI : Framed P s₀ s) (hP : maskIn 0x1840020 P)
    : Framed P s₀ (State.domEnable s d) := by
  unfold State.domEnable
  repeat' (first
    | with_reducible assumption | with_reducible apply id_framed | with_reducible apply State.moveDom_framed
    | exact maskIn_trans hP rfl | dsimp -zeta only)

theorem execPtpAnnounce_framed {P : Nat} {s₀ : State} (dom port : Nat) (a : Announce) (s : State) (hI : Framed P s₀ s) (hP
    : maskIn 0x38c0030 P) : FramedO P s₀ (execPtpAnnounce dom port a s) := by
  unfold execPtpAnnounce
  repeat' (first
    | with_reducible exact Or.inl rfl | exact Or.inr (bit_of hP rfl) | refine fun (s : State) (hs : Framed P s₀ s) => ?_
    | refine fun (_ : _) (s : State) (hs : Framed P s₀ s) => ?_
    | refine fun (_ : _) (_ : _) (s : State) (hs : Framed P s₀ s) => ?_
    | ((try lift_lets -underBinder); intro x; refine letS (P := P) (s₀ := s₀) (x := x) ?_ (fun _ => ?_); unfold x; rotate_left; clear_value x)
    | ((try lift_lets -underBinder); intro x; clear_value x) | with_reducible assumption | with_reducible apply id_framed
    | split | with_reducible apply when_framed | with_reducible apply FramedO_next | with_reducible apply State.put_framed
    | with_reducible apply State.setDom_framed | with_reducible apply State.raise_framed
    | with_reducible apply State.evalSelect_framed | with_reducible apply State.moveDom_framed | exact maskIn_trans hP rfl
    | exact bit_of hP rfl | dsimp -zeta only | with_reducible apply Framed.mk_of)

theorem State.setPtpPort_framed {P : Nat} {s₀ : State} (s : State) (d p : Nat) (x : PtpPort) (hI : Framed P s₀ s) (hP :
    maskIn 0x20 P) : Framed P s₀ (State.setPtpPort s d p x) := by
  unfold State.setPtpPort
  repeat' (first
    | with_reducible exact Or.inl rfl | exact Or.inr (bit_of hP rfl) | with_reducible assumption
    | with_reducible apply State.setDom_framed | exact maskIn_trans hP rfl | dsimp -zeta only
    | with_reducible apply Framed.mk_of)

theorem State.takeCorr_framed {P : Nat} {s₀ : State} (s : State) (d p : Nat) (hI : Framed P s₀ s) (hP : maskIn 0x1000020
    P) : Framed P s₀ (State.takeCorr s d p) := by
  unfold State.takeCorr
  repeat' (first
    | with_reducible exact Or.inl rfl | exact Or.inr (bit_of hP rfl)
    | ((try lift_lets -underBinder); intro x; refine letS (P := P) (s₀ := s₀) (x := x) ?_ (fun _ => ?_); unfold x; rotate_left; clear_value x)
    | ((try lift_lets -underBinder); intro x; clear_value x) | with_reducible assumption | split
    | with_reducible apply State.setPtpPort_framed | exact maskIn_trans hP rfl | dsimp -zeta only
    | with_reducible apply Framed.mk_of)

theorem State.jumpCheck_framed {P : Nat} {s₀ : State} (s : State) (d : Nat) (e : Int) (hI : Framed P s₀ s) (hP : maskIn
    0x1840020 P) : Framed P s₀ (State.jumpCheck s d e).1 := by
  unfold State.jumpCheck
  repeat' (first
    | with_reducible exact Or.inl rfl | exact Or.inr (bit_of hP rfl)
    | ((try lift_lets -underBinder); intro x; refine letS (P := P) (s₀ := s₀) (x := x) ?_ (fun _ => ?_); unfold x; rotate_left; clear_value x)
    | ((try lift_lets -underBinder); intro x; refine letS (P := P) (s₀ := s₀) (x := x.2) ?_ (fun _ => ?_); unfold x; rotate_left; clear_value x)
    | ((try lift_lets -underBinder); intro x; refine letS (P := P) (s₀ := s₀) (x := x.1) ?_ (fun _ => ?_); unfold x; rotate_left; clear_value x)
    | ((try lift_lets -underBinder); intro x; refine letF2 (P := P) (s₀ := s₀) (f := x) (fun _ _ _ => ?_) (fun hf => ?_); unfold x; rotate_left; clear_value x)
    | ((try lift_lets -underBinder); intro x; clear_value x) | with_reducible assumption | split
    | with_reducible apply State.putI_framed | with_reducible apply State.addSat_framed
    | with_reducible apply State.setDom_framed | with_reducible apply State.raise_framed
    | with_reducible apply State.moveDom_framed | with_reducible apply hf | exact maskIn_trans hP rfl | exact bit_of hP rfl
    | with_reducible refine of_snd (by with_reducible assumption) ?_
    | with_reducible refine of_fst (by with_reducible assumption) ?_ | dsimp -zeta only | with_reducible apply Framed.mk_of)

theorem State.updateDomState_framed {P : Nat} {s₀ : State} (s : State) (d : Nat) (e : Int) (hI : Framed P s₀ s) (hP :
    maskIn 0x1840020 P) : Framed P s₀ (State.updateDomState s d e) := by
  unfold State.updateDomState
  repeat' (first
    | with_reducible exact Or.inl rfl | exact Or.inr (bit_of hP rfl)
    | ((try lift_lets -underBinder); intro x; refine letS (P := P) (s₀ := s₀) (x := x) ?_ (fun _ => ?_); unfold x; rotate_left; clear_value x)
    | ((try lift_lets -underBinder); intro x; clear_value x) | with_reducible assumption | split
    | with_reducible apply State.put_framed | with_reducible apply State.setDom_framed
    | with_reducible apply State.moveDom_framed | exact maskIn_trans hP rfl | exact bit_of hP rfl | dsimp -zeta only
    | with_reducible apply Framed.mk_of)

theorem State.servo_framed {P : Nat} {s₀ : State} (s : State) (d : Nat) (logInt : Int) (e : Int) (hI : Framed P s₀ s) (hP
    : maskIn 0x1080020 P) : Framed P s₀ (State.servo s d logInt e) := by
  unfold State.servo
  repeat' (first
    | with_reducible exact Or.inl rfl | exact Or.inr (bit_of hP rfl)
    | ((try lift_lets -underBinder); intro x; refine letS (P := P) (s₀ := s₀) (x := x) ?_ (fun _ => ?_); unfold x; rotate_left; clear_value x)
    | ((try lift_lets -underBinder); intro x; clear_value x) | with_reducible assumption | split
    | with_reducible apply State.setDom_framed | with_reducible apply State.setRateSV_framed | exact maskIn_trans hP rfl
    | dsimp -zeta only | with_reducible apply Framed.mk_of)

theorem State.classify_framed {P : Nat} {s₀ : State} (s : State) (d p : Nat) (hI : Framed P s₀ s) (hP : maskIn 0x18c0020
    P) : Framed P s₀ (State.classify s d p) := by
  unfold State.classify
  repeat' (first
    | with_reducible exact Or.inl rfl | exact Or.inr (bit_of hP rfl)
    | ((try lift_lets -underBinder); intro x; refine letS (P := P) (s₀ := s₀) (x := x) ?_ (fun _ => ?_); unfold x; rotate_left; clear_value x)
    | ((try lift_lets -underBinder); intro x; clear_value x) | with_reducible assumption | split
    | with_reducible apply State.put_framed | with_reducible apply State.putI_framed
    | with_reducible apply State.raise_framed | with_reducible apply State.setPtpPort_framed | exact maskIn_trans hP rfl
    | exact bit_of hP rfl | dsimp -zeta only | with_reducible apply Framed.mk_of)

theorem State.noteOffset_framed {P : Nat} {s₀ : State} (s : State) (d p : Nat) (e : Int) (hI : Framed P s₀ s) (hP : maskIn
    0x18c0020 P) : Framed P s₀ (State.noteOffset s d p e) := by
  unfold State.noteOffset
  repeat' (first
    | with_reducible exact Or.inl rfl | exact Or.inr (bit_of hP rfl)
    | ((try lift_lets -underBinder); intro x; refine letS (P := P) (s₀ := s₀) (x := x) ?_ (fun _ => ?_); unfold x; rotate_left; clear_value x)
    | ((try lift_lets -underBinder); intro x; clear_value x) | with_reducible assumption | split
    | with_reducible apply State.putI_framed | with_reducible apply State.setDom_framed
    | with_reducible apply State.setPtpPort_framed | with_reducible apply State.classify_framed | exact maskIn_trans hP rfl
    | exact bit_of hP rfl | dsimp -zeta only | with_reducible apply Framed.mk_of)

theorem execPtpSync_framed {P : Nat} {s₀ : State} (dom port : Nat) (logInt t1 corr : Int) (rc2 : Nat) (s : State) (hI :
    Framed P s₀ s) (hP : maskIn 0x18c0020 P) : FramedO P s₀ (execPtpSync dom port logInt t1 corr rc2 s) := by
  unfold execPtpSync
  repeat' (first
    | with_reducible exact Or.inl rfl | exact Or.inr (bit_of hP rfl) | refine fun (s : State) (hs : Framed P s₀ s) => ?_
    | refine fun (_ : _) (s : State) (hs : Framed P s₀ s) => ?_
    | refine fun (_ : _) (_ : _) (s : State) (hs : Framed P s₀ s) => ?_
    | ((try lift_lets -underBinder); intro x; refine letS (P := P) (s₀ := s₀) (x := x) ?_ (fun _ => ?_); unfold x; rotate_left; clear_value x)
    | ((try lift_lets -underBinder); intro x; refine letS (P := P) (s₀ := s₀) (x := x.2) ?_ (fun _ => ?_); unfold x; rotate_left; clear_value x)
    | ((try lift_lets -underBinder); intro x; refine letS (P := P) (s₀ := s₀) (x := x.1) ?_ (fun _ => ?_); unfold x; rotate_left; clear_value x)
    | ((try lift_lets -underBinder); intro x; clear_value x) | with_reducible assumption | with_reducible apply id_framed
    | split | with_reducible apply when_framed | with_reducible apply FramedO_next | with_reducible apply State.setDom_framed
    | with_reducible apply State.stepDom_framed | with_reducible apply State.steerE_framed
    | with_reducible apply State.timRefresh_framed | with_reducible apply State.setPtpPort_framed
    | with_reducible apply State.takeCorr_framed | with_reducible apply State.jumpCheck_framed
    | with_reducible apply State.updateDomState_framed | with_reducible apply State.servo_framed
    | with_reducible apply State.noteOffset_framed | exact maskIn_trans hP rfl
    | with_reducible refine of_snd (by with_reducible assumption) ?_
    | with_reducible refine of_fst (by with_reducible assumption) ?_ | dsimp -zeta only | with_reducible apply Framed.mk_of)

theorem State.putMpd_framed {P : Nat} {s₀ : State} (s : State) (d p : Nat) (v : Int) (hI : Framed P s₀ s) (hP : maskIn
    0x1000020 P) : Framed P s₀ (State.putMpd s d p v) := by
  unfold State.putMpd
  repeat' (first
    | with_reducible exact Or.inl rfl | exact Or.inr (bit_of hP rfl)
    | ((try lift_lets -underBinder); intro x; refine letS (P := P) (s₀ := s₀) (x := x) ?_ (fun _ => ?_); unfold x; rotate_left; clear_value x)
    | ((try lift_lets -underBinder); intro x; clear_value x) | with_reducible assumption
    | with_reducible apply State.putI_framed | with_reducible apply State.setPtpPort_framed | exact maskIn_trans hP rfl
    | exact bit_of hP rfl | dsimp -zeta only | with_reducible apply Framed.mk_of)

theorem State.delayValue_framed {P : Nat} {s₀ : State} (s : State) (dom port : Nat) (d : Int) (hI : Framed P s₀ s) (hP :
    maskIn 0x18c0020 P) : Framed P s₀ (State.delayValue s dom port d) := by
  unfold State.delayValue
  repeat' (first
    | with_reducible exact Or.inl rfl | exact Or.inr (bit_of hP rfl)
    | ((try lift_lets -underBinder); intro x; refine letS (P := P) (s₀ := s₀) (x := x) ?_ (fun _ => ?_); unfold x; rotate_left; clear_value x)
    | ((try lift_lets -underBinder); intro x; clear_value x) | with_reducible assumption | split
    | with_reducible refine foldl_framed ?_ (fun _ _ _ => ?_) | with_reducible apply State.setPtpPort_framed
    | with_reducible apply State.classify_framed | with_reducible apply State.putMpd_framed | exact maskIn_trans hP rfl
    | dsimp -zeta only | with_reducible apply Framed.mk_of)

theorem State.delayAnswer_framed {P : Nat} {s₀ : State} (s : State) (dom port : Nat) (twice : Int) (hI : Framed P s₀ s)
    (hP : maskIn 0x18c0020 P) : Framed P s₀ (State.delayAnswer s dom port twice) := by
  unfold State.delayAnswer
  repeat' (first
    | with_reducible exact Or.inl rfl | exact Or.inr (bit_of hP rfl)
    | ((try lift_lets -underBinder); intro x; refine letS (P := P) (s₀ := s₀) (x := x) ?_ (fun _ => ?_); unfold x; rotate_left; clear_value x)
    | ((try lift_lets -underBinder); intro x; clear_value x) | with_reducible assumption
    | with_reducible apply State.setDom_framed | with_reducible apply State.delayValue_framed | exact maskIn_trans hP rfl
    | dsimp -zeta only | with_reducible apply Framed.mk_of)

theorem execPtpDelayResp_framed {P : Nat} {s₀ : State} (dom port : Nat) (t4 corr : Int) (s : State) (hI : Framed P s₀ s)
    (hP : maskIn 0x18c0020 P) : FramedO P s₀ (execPtpDelayResp dom port t4 corr s) := by
  unfold execPtpDelayResp
  repeat' (first
    | with_reducible exact Or.inl rfl | exact Or.inr (bit_of hP rfl) | refine fun (s : State) (hs : Framed P s₀ s) => ?_
    | refine fun (_ : _) (s : State) (hs : Framed P s₀ s) => ?_
    | refine fun (_ : _) (_ : _) (s : State) (hs : Framed P s₀ s) => ?_
    | ((try lift_lets -underBinder); intro x; refine letS (P := P) (s₀ := s₀) (x := x) ?_ (fun _ => ?_); unfold x; rotate_left; clear_value x)
    | ((try lift_lets -underBinder); intro x; clear_value x) | with_reducible assumption | with_reducible apply id_framed
    | split | with_reducible apply when_framed | with_reducible apply FramedO_next
    | with_reducible apply State.delayAnswer_framed | exact maskIn_trans hP rfl | dsimp -zeta only
    | with_reducible apply Framed.mk_of)

theorem execDelayReqSend_framed {P : Nat} {s₀ : State} (dom rc3 : Nat) (s : State) (hI : Framed P s₀ s) (hP : maskIn 0x20
    P) : FramedO P s₀ (execDelayReqSend dom rc3 s) := by
  unfold execDelayReqSend
  repeat' (first
    | with_reducible exact Or.inl rfl | exact Or.inr (bit_of hP rfl) | refine fun (s : State) (hs : Framed P s₀ s) => ?_
    | refine fun (_ : _) (s : State) (hs : Framed P s₀ s) => ?_
    | refine fun (_ : _) (_ : _) (s : State) (hs : Framed P s₀ s) => ?_ | with_reducible assumption
    | with_reducible apply id_framed | with_reducible apply when_framed | with_reducible apply FramedO_next
    | with_reducible apply State.setDom_framed | exact maskIn_trans hP rfl | dsimp -zeta only
    | with_reducible apply Framed.mk_of)

theorem State.domHold_framed {P : Nat} {s₀ : State} (s : State) (d : Nat) (hI : Framed P s₀ s) (hP : maskIn 0x1840020 P) :
    Framed P s₀ (State.domHold s d) := by
  unfold State.domHold
  repeat' (first
    | with_reducible exact Or.inl rfl | exact Or.inr (bit_of hP rfl) | with_reducible assumption
    | with_reducible apply State.moveDom_framed | exact maskIn_trans hP rfl | dsimp -zeta only
    | with_reducible apply Framed.mk_of)

theorem execAnnounceReceiptTimeout_framed {P : Nat} {s₀ : State} (dom : Nat) (s : State) (hI : Framed P s₀ s) (hP : maskIn
    0x1840020 P) : FramedO P s₀ (execAnnounceReceiptTimeout dom s) := by
  unfold execAnnounceReceiptTimeout
  repeat' (first
    | with_reducible exact Or.inl rfl | exact Or.inr (bit_of hP rfl) | refine fun (s : State) (hs : Framed P s₀ s) => ?_
    | refine fun (_ : _) (s : State) (hs : Framed P s₀ s) => ?_
    | refine fun (_ : _) (_ : _) (s : State) (hs : Framed P s₀ s) => ?_
    | ((try lift_lets -underBinder); intro x; refine letS (P := P) (s₀ := s₀) (x := x) ?_ (fun _ => ?_); unfold x; rotate_left; clear_value x)
    | ((try lift_lets -underBinder); intro x; clear_value x) | with_reducible assumption | with_reducible apply id_framed
    | with_reducible apply when_framed | with_reducible apply FramedO_next | with_reducible apply State.setDom_framed
    | with_reducible apply State.domHold_framed | exact maskIn_trans hP rfl | dsimp -zeta only
    | with_reducible apply Framed.mk_of)

theorem execSyncLoss_framed {P : Nat} {s₀ : State} (dom : Nat) (s : State) (hI : Framed P s₀ s) (hP : maskIn 0x1840020 P)
    : FramedO P s₀ (execSyncLoss dom s) := by
  unfold execSyncLoss
  repeat' (first
    | refine fun (s : State) (hs : Framed P s₀ s) => ?_ | refine fun (_ : _) (s : State) (hs : Framed P s₀ s) => ?_
    | refine fun (_ : _) (_ : _) (s : State) (hs : Framed P s₀ s) => ?_ | with_reducible assumption
    | with_reducible apply id_framed | with_reducible apply when_framed | with_reducible apply FramedO_next
    | with_reducible apply State.domHold_framed | exact maskIn_trans hP rfl | dsimp -zeta only)

theorem execTimeJumpResolved_framed {P : Nat} {s₀ : State} (dom : Nat) (s : State) (hI : Framed P s₀ s) (hP : maskIn
    0x1840020 P) : FramedO P s₀ (execTimeJumpResolved dom s) := by
  unfold execTimeJumpResolved
  repeat' (first
    | with_reducible exact Or.inl rfl | exact Or.inr (bit_of hP rfl) | refine fun (s : State) (hs : Framed P s₀ s) => ?_
    | refine fun (_ : _) (s : State) (hs : Framed P s₀ s) => ?_
    | refine fun (_ : _) (_ : _) (s : State) (hs : Framed P s₀ s) => ?_
    | ((try lift_lets -underBinder); intro x; refine letS (P := P) (s₀ := s₀) (x := x) ?_ (fun _ => ?_); unfold x; rotate_left; clear_value x)
    | ((try lift_lets -underBinder); intro x; clear_value x) | with_reducible assumption | with_reducible apply id_framed
    | split | with_reducible apply when_framed | with_reducible apply FramedO_next | with_reducible apply State.put_framed
    | with_reducible apply State.raise_framed | with_reducible apply State.moveDom_framed | exact maskIn_trans hP rfl
    | exact bit_of hP rfl | dsimp -zeta only | with_reducible apply Framed.mk_of)

theorem execReacqHoldExpiry_framed {P : Nat} {s₀ : State} (dom : Nat) (s : State) (hI : Framed P s₀ s) (hP : maskIn
    0x1840020 P) : FramedO P s₀ (execReacqHoldExpiry dom s) := by
  unfold execReacqHoldExpiry
  repeat' (first
    | with_reducible exact Or.inl rfl | exact Or.inr (bit_of hP rfl) | refine fun (s : State) (hs : Framed P s₀ s) => ?_
    | refine fun (_ : _) (s : State) (hs : Framed P s₀ s) => ?_
    | refine fun (_ : _) (_ : _) (s : State) (hs : Framed P s₀ s) => ?_
    | ((try lift_lets -underBinder); intro x; refine letS (P := P) (s₀ := s₀) (x := x) ?_ (fun _ => ?_); unfold x; rotate_left; clear_value x)
    | ((try lift_lets -underBinder); intro x; clear_value x) | with_reducible assumption | with_reducible apply id_framed
    | with_reducible apply when_framed | with_reducible apply FramedO_next | with_reducible apply State.stepDom_framed
    | with_reducible apply State.moveDom_framed | exact maskIn_trans hP rfl | dsimp -zeta only
    | with_reducible apply Framed.mk_of)

theorem execCatchupEnd_framed {P : Nat} {s₀ : State} (s : State) (hI : Framed P s₀ s) (hP : maskIn 0x1080020 P) : FramedO
    P s₀ (execCatchupEnd s) := by
  unfold execCatchupEnd
  repeat' (first
    | with_reducible exact Or.inl rfl | exact Or.inr (bit_of hP rfl) | refine fun (s : State) (hs : Framed P s₀ s) => ?_
    | refine fun (_ : _) (s : State) (hs : Framed P s₀ s) => ?_
    | refine fun (_ : _) (_ : _) (s : State) (hs : Framed P s₀ s) => ?_
    | ((try lift_lets -underBinder); intro x; refine letS (P := P) (s₀ := s₀) (x := x) ?_ (fun _ => ?_); unfold x; rotate_left; clear_value x)
    | ((try lift_lets -underBinder); intro x; clear_value x) | with_reducible assumption | with_reducible apply id_framed
    | with_reducible apply when_framed | with_reducible apply FramedO_next | with_reducible apply State.put_framed
    | with_reducible apply State.steerE_framed | exact maskIn_trans hP rfl | exact bit_of hP rfl | dsimp -zeta only
    | with_reducible apply Framed.mk_of)

theorem State.anchor_framed {P : Nat} {s₀ : State} (s : State) (ofs : Int) (hI : Framed P s₀ s) (hP : maskIn 0x1000000 P)
    : Framed P s₀ (State.anchor s ofs) := by
  unfold State.anchor
  repeat' (first
    | with_reducible assumption | with_reducible apply State.put_framed | with_reducible apply State.incSat_framed
    | exact bit_of hP rfl | dsimp -zeta only)

theorem State.anchorAct_framed {P : Nat} {s₀ : State} (s : State) (dm e : Int) (ev : Nat) (hI : Framed P s₀ s) (hP :
    maskIn 0x18c0020 P) : Framed P s₀ (State.anchorAct s dm e ev) := by
  unfold State.anchorAct
  repeat' (first
    | with_reducible exact Or.inl rfl | exact Or.inr (bit_of hP rfl)
    | ((try lift_lets -underBinder); intro x; refine letS (P := P) (s₀ := s₀) (x := x) ?_ (fun _ => ?_); unfold x; rotate_left; clear_value x)
    | ((try lift_lets -underBinder); intro x; refine letF (P := P) (s₀ := s₀) (f := x) (fun _ _ => ?_) (fun hf => ?_); unfold x; rotate_left; clear_value x)
    | ((try lift_lets -underBinder); intro x; clear_value x) | with_reducible assumption | split
    | with_reducible apply State.put_framed | with_reducible apply State.raise_framed
    | with_reducible apply State.steerE_framed | with_reducible apply State.anchor_framed | with_reducible apply hf
    | exact maskIn_trans hP rfl | exact bit_of hP rfl | dsimp -zeta only | with_reducible apply Framed.mk_of)

theorem State.anchorDue_framed {P : Nat} {s₀ : State} (s : State) (dm j : Int) (kind : Nat) (hI : Framed P s₀ s) (hP :
    maskIn 0x18c0020 P) : Framed P s₀ (State.anchorDue s dm j kind) := by
  unfold State.anchorDue
  repeat' (first
    | with_reducible exact Or.inl rfl | exact Or.inr (bit_of hP rfl)
    | ((try lift_lets -underBinder); intro x; refine letS (P := P) (s₀ := s₀) (x := x) ?_ (fun _ => ?_); unfold x; rotate_left; clear_value x)
    | ((try lift_lets -underBinder); intro x; clear_value x) | with_reducible assumption | split
    | with_reducible apply State.anchorAct_framed | exact maskIn_trans hP rfl | dsimp -zeta only
    | with_reducible apply Framed.mk_of)

theorem State.firstAnchor_framed {P : Nat} {s₀ : State} (s : State) (hI : Framed P s₀ s) (hP : maskIn 0x18c0020 P) :
    Framed P s₀ (State.firstAnchor s) := by
  unfold State.firstAnchor
  repeat' (first
    | with_reducible assumption | with_reducible apply State.anchorDue_framed | exact maskIn_trans hP rfl | dsimp -zeta only)

theorem State.nameSrc_framed {P : Nat} {s₀ : State} (s : State) (hI : Framed P s₀ s) (hP : maskIn 0x1000020 P) : Framed P
    s₀ (State.nameSrc s) := by
  unfold State.nameSrc
  repeat' (first
    | with_reducible exact Or.inl rfl | exact Or.inr (bit_of hP rfl)
    | ((try lift_lets -underBinder); intro x; refine letS (P := P) (s₀ := s₀) (x := x) ?_ (fun _ => ?_); unfold x; rotate_left; clear_value x)
    | ((try lift_lets -underBinder); intro x; clear_value x) | with_reducible assumption | split
    | with_reducible apply State.put_framed | exact bit_of hP rfl | dsimp -zeta only | with_reducible apply Framed.mk_of)

theorem State.srcStep_framed {P : Nat} {s₀ : State} (s : State) (hI : Framed P s₀ s) (hP : maskIn 0x18c0020 P) : Framed P
    s₀ (State.srcStep s) := by
  unfold State.srcStep
  repeat' (first
    | with_reducible exact Or.inl rfl | exact Or.inr (bit_of hP rfl)
    | ((try lift_lets -underBinder); intro x; refine letS (P := P) (s₀ := s₀) (x := x) ?_ (fun _ => ?_); unfold x; rotate_left; clear_value x)
    | ((try lift_lets -underBinder); intro x; clear_value x) | with_reducible assumption | split
    | with_reducible apply State.put_framed | with_reducible apply State.anchorDue_framed
    | with_reducible apply State.nameSrc_framed | exact maskIn_trans hP rfl | exact bit_of hP rfl | dsimp -zeta only
    | with_reducible apply Framed.mk_of)

theorem State.jumpStep_framed {P : Nat} {s₀ : State} (s : State) (d : Nat) (hI : Framed P s₀ s) (hP : maskIn 0x18c0020 P)
    : Framed P s₀ (State.jumpStep s d) := by
  unfold State.jumpStep
  repeat' (first
    | with_reducible exact Or.inl rfl | exact Or.inr (bit_of hP rfl)
    | ((try lift_lets -underBinder); intro x; refine letS (P := P) (s₀ := s₀) (x := x) ?_ (fun _ => ?_); unfold x; rotate_left; clear_value x)
    | ((try lift_lets -underBinder); intro x; clear_value x) | with_reducible assumption | split
    | with_reducible apply State.setDom_framed | with_reducible apply State.stepDom_framed
    | with_reducible apply State.anchorDue_framed | exact maskIn_trans hP rfl | dsimp -zeta only
    | with_reducible apply Framed.mk_of)

theorem State.restartStep_framed {P : Nat} {s₀ : State} (s : State) (hI : Framed P s₀ s) (hP : maskIn 0x1840022 P) :
    Framed P s₀ (State.restartStep s) := by
  unfold State.restartStep
  repeat' (first
    | with_reducible exact Or.inl rfl | exact Or.inr (bit_of hP rfl)
    | ((try lift_lets -underBinder); intro x; refine letS (P := P) (s₀ := s₀) (x := x) ?_ (fun _ => ?_); unfold x; rotate_left; clear_value x)
    | ((try lift_lets -underBinder); intro x; clear_value x) | with_reducible assumption | split
    | with_reducible apply State.put_framed | with_reducible apply State.raise_framed
    | with_reducible apply State.anchor_framed | exact maskIn_trans hP rfl | exact bit_of hP rfl | dsimp -zeta only
    | with_reducible apply Framed.mk_of)

theorem State.phaseStep_framed {P : Nat} {s₀ : State} (s : State) (hI : Framed P s₀ s) (hP : maskIn 0x1080000 P) : Framed
    P s₀ (State.phaseStep s) := by
  unfold State.phaseStep
  repeat' (first
    | with_reducible exact Or.inl rfl | exact Or.inr (bit_of hP rfl)
    | ((try lift_lets -underBinder); intro x; refine letS (P := P) (s₀ := s₀) (x := x) ?_ (fun _ => ?_); unfold x; rotate_left; clear_value x)
    | ((try lift_lets -underBinder); intro x; clear_value x) | with_reducible assumption | split
    | with_reducible apply State.putI_framed | exact bit_of hP rfl | dsimp -zeta only | with_reducible apply Framed.mk_of)

theorem State.reAnchorStep_framed {P : Nat} {s₀ : State} (s : State) (hI : Framed P s₀ s) (hP : maskIn 0x18c0022 P) :
    Framed P s₀ (State.reAnchorStep s) := by
  unfold State.reAnchorStep
  repeat' (first
    | with_reducible exact Or.inl rfl | exact Or.inr (bit_of hP rfl)
    | ((try lift_lets -underBinder); intro x; refine letS (P := P) (s₀ := s₀) (x := x) ?_ (fun _ => ?_); unfold x; rotate_left; clear_value x)
    | ((try lift_lets -underBinder); intro x; clear_value x) | with_reducible assumption | split
    | with_reducible apply State.put_framed | with_reducible apply State.steerE_framed
    | with_reducible apply State.timRefresh_framed | with_reducible apply State.anchorAct_framed
    | with_reducible apply State.firstAnchor_framed | with_reducible apply State.srcStep_framed
    | with_reducible apply State.jumpStep_framed | with_reducible apply State.restartStep_framed
    | with_reducible apply State.phaseStep_framed | exact maskIn_trans hP rfl | exact bit_of hP rfl | dsimp -zeta only
    | with_reducible apply Framed.mk_of)

theorem State.snapScale_framed {P : Nat} {s₀ : State} (s : State) (sec ns : Fd) (t : Int) (hI : Framed P s₀ s) (hB0 :
    P.testBit (20 + sec.blk) = true) (hB1 : P.testBit (20 + ns.blk) = true) : Framed P s₀ (State.snapScale s sec ns t) := by
  unfold State.snapScale
  repeat' (first

    | ((try lift_lets -underBinder); intro x; refine letS (P := P) (s₀ := s₀) (x := x) ?_ (fun _ => ?_); unfold x; rotate_left; clear_value x)
    | ((try lift_lets -underBinder); intro x; clear_value x) | with_reducible assumption
    | with_reducible apply State.put_framed | dsimp -zeta only)

theorem State.takeSnapshot_framed {P : Nat} {s₀ : State} (s : State) (hI : Framed P s₀ s) (hP : maskIn 0x1000000 P) :
    Framed P s₀ (State.takeSnapshot s) := by
  unfold State.takeSnapshot
  repeat' (first

    | ((try lift_lets -underBinder); intro x; refine letS (P := P) (s₀ := s₀) (x := x) ?_ (fun _ => ?_); unfold x; rotate_left; clear_value x)
    | ((try lift_lets -underBinder); intro x; clear_value x) | with_reducible assumption
    | with_reducible apply State.put_framed | with_reducible apply State.snapScale_framed | exact bit_of hP rfl
    | dsimp -zeta only)

theorem execTake_framed {P : Nat} {s₀ : State} (s : State) (hI : Framed P s₀ s) (hP : maskIn 0x1000000 P) : FramedO P s₀
    (execTake s) := by
  unfold execTake
  repeat' (first
    | refine fun (s : State) (hs : Framed P s₀ s) => ?_ | refine fun (_ : _) (s : State) (hs : Framed P s₀ s) => ?_
    | refine fun (_ : _) (_ : _) (s : State) (hs : Framed P s₀ s) => ?_ | with_reducible assumption
    | with_reducible apply id_framed | with_reducible apply when_framed | with_reducible apply FramedO_next
    | with_reducible apply State.takeSnapshot_framed | exact maskIn_trans hP rfl | dsimp -zeta only)

theorem State.latchCount_framed {P : Nat} {s₀ : State} (s : State) (hI : Framed P s₀ s) (hP : maskIn 0x1000000 P) : Framed
    P s₀ (State.latchCount s) := by
  unfold State.latchCount
  repeat' (first | with_reducible assumption | with_reducible apply State.put_framed | exact bit_of hP rfl | dsimp -zeta only)

theorem execTimCountLoRead_framed {P : Nat} {s₀ : State} (s : State) (hI : Framed P s₀ s) (hP : maskIn 0x1000000 P) :
    FramedO P s₀ (execTimCountLoRead s) := by
  unfold execTimCountLoRead
  repeat' (first
    | refine fun (s : State) (hs : Framed P s₀ s) => ?_ | refine fun (_ : _) (s : State) (hs : Framed P s₀ s) => ?_
    | refine fun (_ : _) (_ : _) (s : State) (hs : Framed P s₀ s) => ?_ | with_reducible assumption
    | with_reducible apply id_framed | with_reducible apply when_framed | with_reducible apply FramedO_next
    | with_reducible apply State.latchCount_framed | exact maskIn_trans hP rfl | dsimp -zeta only)

theorem State.corrWrite_framed {P : Nat} {s₀ : State} (s : State) (p : Nat) (corr : Nat) (hI : Framed P s₀ s) (hP : maskIn
    0x1000020 P) : Framed P s₀ (State.corrWrite s p corr) := by
  unfold State.corrWrite
  repeat' (first
    | with_reducible exact Or.inl rfl | exact Or.inr (bit_of hP rfl)
    | ((try lift_lets -underBinder); intro x; refine letS (P := P) (s₀ := s₀) (x := x) ?_ (fun _ => ?_); unfold x; rotate_left; clear_value x)
    | ((try lift_lets -underBinder); intro x; clear_value x) | with_reducible assumption | split
    | with_reducible refine forN_framed ?_ (fun _ _ _ => ?_) | with_reducible apply State.put_framed
    | with_reducible apply State.setPtpPort_framed | exact maskIn_trans hP rfl | exact bit_of hP rfl | dsimp -zeta only
    | with_reducible apply Framed.mk_of)

theorem execCorrWrite_framed {P : Nat} {s₀ : State} (port : Nat) (corr : Int) (s : State) (hI : Framed P s₀ s) (hP :
    maskIn 0x1000020 P) : FramedO P s₀ (execCorrWrite port corr s) := by
  unfold execCorrWrite
  repeat' (first
    | refine fun (s : State) (hs : Framed P s₀ s) => ?_ | refine fun (_ : _) (s : State) (hs : Framed P s₀ s) => ?_
    | refine fun (_ : _) (_ : _) (s : State) (hs : Framed P s₀ s) => ?_ | with_reducible assumption
    | with_reducible apply id_framed | with_reducible apply when_framed | with_reducible apply FramedO_next
    | with_reducible apply State.corrWrite_framed | exact maskIn_trans hP rfl | dsimp -zeta only)

theorem execTcForward_framed {P : Nat} {s₀ : State} (f : TcFrame) (s : State) (hI : Framed P s₀ s) (hP : maskIn 0x1080020
    P) : FramedO P s₀ (execTcForward f s) := by
  unfold execTcForward
  repeat' (first
    | with_reducible exact Or.inl rfl | exact Or.inr (bit_of hP rfl) | refine fun (s : State) (hs : Framed P s₀ s) => ?_
    | refine fun (_ : _) (s : State) (hs : Framed P s₀ s) => ?_
    | refine fun (_ : _) (_ : _) (s : State) (hs : Framed P s₀ s) => ?_
    | ((try lift_lets -underBinder); intro x; refine letS (P := P) (s₀ := s₀) (x := x) ?_ (fun _ => ?_); unfold x; rotate_left; clear_value x)
    | ((try lift_lets -underBinder); intro x; refine letF2 (P := P) (s₀ := s₀) (f := x) (fun _ _ _ => ?_) (fun hf => ?_); unfold x; rotate_left; clear_value x)
    | ((try lift_lets -underBinder); intro x; clear_value x) | with_reducible assumption | with_reducible apply id_framed
    | split | with_reducible apply when_framed | with_reducible apply FramedO_next | with_reducible apply State.put_framed
    | with_reducible apply hf | exact bit_of hP rfl | dsimp -zeta only | with_reducible apply Framed.mk_of)

theorem execTcFollowUpLate_framed {P : Nat} {s₀ : State} (seq : Nat) (s : State) (hI : Framed P s₀ s) (hP : maskIn
    0x1000020 P) : FramedO P s₀ (execTcFollowUpLate seq s) := by
  unfold execTcFollowUpLate
  repeat' (first
    | with_reducible exact Or.inl rfl | exact Or.inr (bit_of hP rfl) | refine fun (s : State) (hs : Framed P s₀ s) => ?_
    | refine fun (_ : _) (s : State) (hs : Framed P s₀ s) => ?_
    | refine fun (_ : _) (_ : _) (s : State) (hs : Framed P s₀ s) => ?_
    | ((try lift_lets -underBinder); intro x; refine letS (P := P) (s₀ := s₀) (x := x) ?_ (fun _ => ?_); unfold x; rotate_left; clear_value x)
    | ((try lift_lets -underBinder); intro x; clear_value x) | with_reducible assumption | with_reducible apply id_framed
    | split | with_reducible apply when_framed | with_reducible apply FramedO_next | with_reducible apply State.put_framed
    | exact bit_of hP rfl | dsimp -zeta only | with_reducible apply Framed.mk_of)

end Sys2Proof.Machine
end

