-- ==== Sys2Proof/Laws/FramedScene.lean ====
section
/-! SUPPORT. What the operations and commands of Machine/Scene.lean can change, as masks of parts (Laws/Framed.lean): one lemma
for each. -/

namespace Sys2Proof.Machine

open Sys2Proof

theorem State.setGain_framed {P : Nat} {s₀ : State} (s : State) (gk : Nat) (w : GainWord) (hI : Framed P s₀ s) (hP :
    maskIn 0x800 P) : Framed P s₀ (State.setGain s gk w) := by
  unfold State.setGain
  repeat' (first
    | with_reducible exact Or.inl rfl | exact Or.inr (bit_of hP rfl) | with_reducible assumption | dsimp -zeta only
    | with_reducible apply Framed.mk_of)

theorem State.startGlide_framed {P : Nat} {s₀ : State} (s : State) (gk : Nat) (w : GainWord) (t : Int) (law len : Nat) (hI
    : Framed P s₀ s) (hP : maskIn 0x840800 P) : Framed P s₀ (State.startGlide s gk w t law len) := by
  unfold State.startGlide
  repeat' (first
    | with_reducible exact Or.inl rfl | exact Or.inr (bit_of hP rfl)
    | ((try lift_lets -underBinder); intro x; refine letS (P := P) (s₀ := s₀) (x := x) ?_ (fun _ => ?_); unfold x; rotate_left; clear_value x)
    | ((try lift_lets -underBinder); intro x; clear_value x) | with_reducible assumption | split
    | with_reducible apply State.raise_framed | with_reducible apply State.setGain_framed | exact maskIn_trans hP rfl
    | dsimp -zeta only | with_reducible apply Framed.mk_of)

theorem State.gainBlock_framed {P : Nat} {s₀ : State} (s : State) (hI : Framed P s₀ s) (hP : maskIn 0x800 P) : Framed P s₀
    (State.gainBlock s) := by
  unfold State.gainBlock
  repeat' (first

    | ((try lift_lets -underBinder); intro x; refine letS (P := P) (s₀ := s₀) (x := x) ?_ (fun _ => ?_); unfold x; rotate_left; clear_value x)
    | ((try lift_lets -underBinder); intro x; clear_value x) | with_reducible assumption
    | with_reducible refine forL_framed ?_ (fun _ _ _ => ?_) | with_reducible apply State.setGain_framed
    | exact maskIn_trans hP rfl | dsimp -zeta only)

theorem State.tagBoundary_framed {P : Nat} {s₀ : State} (s : State) (j : Nat) (hI : Framed P s₀ s) (hP : maskIn 0x800 P) :
    Framed P s₀ (State.tagBoundary s j) := by
  unfold State.tagBoundary
  repeat' (first
    | with_reducible exact Or.inl rfl | exact Or.inr (bit_of hP rfl)
    | ((try lift_lets -underBinder); intro x; refine letS (P := P) (s₀ := s₀) (x := x) ?_ (fun _ => ?_); unfold x; rotate_left; clear_value x)
    | ((try lift_lets -underBinder); intro x; clear_value x) | with_reducible assumption | dsimp -zeta only
    | with_reducible apply Framed.mk_of)

theorem State.retryGlides_framed {P : Nat} {s₀ : State} (s : State) (hI : Framed P s₀ s) (hP : maskIn 0x840800 P) : Framed
    P s₀ (State.retryGlides s) := by
  unfold State.retryGlides
  repeat' (first
    | with_reducible exact Or.inl rfl | exact Or.inr (bit_of hP rfl)
    | ((try lift_lets -underBinder); intro x; refine letS (P := P) (s₀ := s₀) (x := x) ?_ (fun _ => ?_); unfold x; rotate_left; clear_value x)
    | ((try lift_lets -underBinder); intro x; clear_value x) | with_reducible assumption | split
    | with_reducible refine forL_framed ?_ (fun _ _ _ => ?_) | with_reducible apply State.startGlide_framed
    | exact maskIn_trans hP rfl | dsimp -zeta only | with_reducible apply Framed.mk_of)

theorem State.changeGain_framed {P : Nat} {s₀ : State} (s : State) (old : GainWord) (gk time law : Nat) (hI : Framed P s₀
    s) (hP : maskIn 0x840800 P) : Framed P s₀ (State.changeGain s old gk time law) := by
  unfold State.changeGain
  repeat' (first
    | with_reducible exact Or.inl rfl | exact Or.inr (bit_of hP rfl)
    | ((try lift_lets -underBinder); intro x; refine letS (P := P) (s₀ := s₀) (x := x) ?_ (fun _ => ?_); unfold x; rotate_left; clear_value x)
    | ((try lift_lets -underBinder); intro x; clear_value x) | with_reducible assumption | split
    | with_reducible apply State.setGain_framed | with_reducible apply State.startGlide_framed | exact maskIn_trans hP rfl
    | dsimp -zeta only | with_reducible apply Framed.mk_of)

theorem State.changeFilter_framed {P : Nat} {s₀ : State} (s : State) (c : Change) (hI : Framed P s₀ s) (hP : maskIn 0x800
    P) : Framed P s₀ (State.changeFilter s c) := by
  unfold State.changeFilter
  repeat' (first
    | with_reducible exact Or.inl rfl | exact Or.inr (bit_of hP rfl)
    | ((try lift_lets -underBinder); intro x; refine letS (P := P) (s₀ := s₀) (x := x) ?_ (fun _ => ?_); unfold x; rotate_left; clear_value x)
    | ((try lift_lets -underBinder); intro x; clear_value x) | with_reducible assumption | split | dsimp -zeta only
    | with_reducible apply Framed.mk_of)

theorem State.releaseStages_framed {P : Nat} {s₀ : State} (s : State) (hI : Framed P s₀ s) (hP : maskIn 0x800 P) : Framed
    P s₀ (State.releaseStages s) := by
  unfold State.releaseStages
  repeat' (first
    | with_reducible exact Or.inl rfl | exact Or.inr (bit_of hP rfl)
    | ((try lift_lets -underBinder); intro x; refine letS (P := P) (s₀ := s₀) (x := x) ?_ (fun _ => ?_); unfold x; rotate_left; clear_value x)
    | ((try lift_lets -underBinder); intro x; clear_value x) | with_reducible assumption | split
    | with_reducible refine forL_framed ?_ (fun _ _ _ => ?_) | with_reducible refine foldl_framed ?_ (fun _ _ _ => ?_)
    | dsimp -zeta only | with_reducible apply Framed.mk_of)

theorem execFilterCrossfadeEnd_framed {P : Nat} {s₀ : State} (idx stage elem : Nat) (s : State) (hI : Framed P s₀ s) (hP :
    maskIn 0x800 P) : FramedO P s₀ (execFilterCrossfadeEnd idx stage elem s) := by
  unfold execFilterCrossfadeEnd
  repeat' (first
    | with_reducible exact Or.inl rfl | exact Or.inr (bit_of hP rfl) | refine fun (s : State) (hs : Framed P s₀ s) => ?_
    | refine fun (_ : _) (s : State) (hs : Framed P s₀ s) => ?_
    | refine fun (_ : _) (_ : _) (s : State) (hs : Framed P s₀ s) => ?_
    | ((try lift_lets -underBinder); intro x; refine letS (P := P) (s₀ := s₀) (x := x) ?_ (fun _ => ?_); unfold x; rotate_left; clear_value x)
    | ((try lift_lets -underBinder); intro x; clear_value x) | with_reducible assumption | with_reducible apply id_framed
    | with_reducible apply when_framed | with_reducible apply FramedO_next | dsimp -zeta only
    | with_reducible apply Framed.mk_of)

theorem State.setDelay_framed {P : Nat} {s₀ : State} (s : State) (k : Nat) (d : DelayMove) (hI : Framed P s₀ s) (hP :
    maskIn 0x800 P) : Framed P s₀ (State.setDelay s k d) := by
  unfold State.setDelay
  repeat' (first
    | with_reducible exact Or.inl rfl | exact Or.inr (bit_of hP rfl)
    | ((try lift_lets -underBinder); intro x; refine letS (P := P) (s₀ := s₀) (x := x) ?_ (fun _ => ?_); unfold x; rotate_left; clear_value x)
    | ((try lift_lets -underBinder); intro x; clear_value x) | with_reducible assumption | dsimp -zeta only
    | with_reducible apply Framed.mk_of)

theorem State.changeDelay_framed {P : Nat} {s₀ : State} (s : State) (old : DelayMove) (c : Change) (hI : Framed P s₀ s)
    (hP : maskIn 0x800 P) : Framed P s₀ (State.changeDelay s old c) := by
  unfold State.changeDelay
  repeat' (first
    | with_reducible exact Or.inl rfl | exact Or.inr (bit_of hP rfl)
    | ((try lift_lets -underBinder); intro x; refine letS (P := P) (s₀ := s₀) (x := x) ?_ (fun _ => ?_); unfold x; rotate_left; clear_value x)
    | ((try lift_lets -underBinder); intro x; clear_value x) | with_reducible assumption | split
    | with_reducible apply State.setDelay_framed | exact maskIn_trans hP rfl | dsimp -zeta only
    | with_reducible apply Framed.mk_of)

theorem State.releaseDelays_framed {P : Nat} {s₀ : State} (s : State) (hI : Framed P s₀ s) (hP : maskIn 0x800 P) : Framed
    P s₀ (State.releaseDelays s) := by
  unfold State.releaseDelays
  repeat' (first
    | with_reducible exact Or.inl rfl | exact Or.inr (bit_of hP rfl)
    | ((try lift_lets -underBinder); intro x; refine letS (P := P) (s₀ := s₀) (x := x) ?_ (fun _ => ?_); unfold x; rotate_left; clear_value x)
    | ((try lift_lets -underBinder); intro x; clear_value x) | with_reducible assumption | split
    | with_reducible refine forL_framed ?_ (fun _ _ _ => ?_) | with_reducible apply State.changeDelay_framed
    | exact maskIn_trans hP rfl | dsimp -zeta only | with_reducible apply Framed.mk_of)

theorem execDelayCrossfadeEnd_framed {P : Nat} {s₀ : State} (idx sub elem : Nat) (s : State) (hI : Framed P s₀ s) (hP :
    maskIn 0x800 P) : FramedO P s₀ (execDelayCrossfadeEnd idx sub elem s) := by
  unfold execDelayCrossfadeEnd
  repeat' (first
    | refine fun (s : State) (hs : Framed P s₀ s) => ?_ | refine fun (_ : _) (s : State) (hs : Framed P s₀ s) => ?_
    | refine fun (_ : _) (_ : _) (s : State) (hs : Framed P s₀ s) => ?_
    | ((try lift_lets -underBinder); intro x; refine letS (P := P) (s₀ := s₀) (x := x) ?_ (fun _ => ?_); unfold x; rotate_left; clear_value x)
    | ((try lift_lets -underBinder); intro x; clear_value x) | with_reducible assumption | with_reducible apply id_framed
    | with_reducible apply when_framed | with_reducible apply FramedO_next | with_reducible apply State.setDelay_framed
    | exact maskIn_trans hP rfl | dsimp -zeta only)

theorem execDelaySlewEnd_framed {P : Nat} {s₀ : State} (idx sub elem : Nat) (s : State) (hI : Framed P s₀ s) (hP : maskIn
    0x800 P) : FramedO P s₀ (execDelaySlewEnd idx sub elem s) := by
  unfold execDelaySlewEnd
  repeat' (first
    | refine fun (s : State) (hs : Framed P s₀ s) => ?_ | refine fun (_ : _) (s : State) (hs : Framed P s₀ s) => ?_
    | refine fun (_ : _) (_ : _) (s : State) (hs : Framed P s₀ s) => ?_
    | ((try lift_lets -underBinder); intro x; refine letS (P := P) (s₀ := s₀) (x := x) ?_ (fun _ => ?_); unfold x; rotate_left; clear_value x)
    | ((try lift_lets -underBinder); intro x; clear_value x) | with_reducible assumption | with_reducible apply id_framed
    | with_reducible apply when_framed | with_reducible apply FramedO_next | with_reducible apply State.setDelay_framed
    | exact maskIn_trans hP rfl | dsimp -zeta only)

theorem State.commitVal_framed {P : Nat} {s₀ : State} (s : State) (k : Nat) (v : PVal) (hI : Framed P s₀ s) (hP : maskIn
    0x10002000 P) : Framed P s₀ (State.commitVal s k v) := by
  unfold State.commitVal
  repeat' (first
    | with_reducible exact Or.inl rfl | exact Or.inr (bit_of hP rfl) | with_reducible assumption | split
    | with_reducible apply State.put_framed | with_reducible apply State.setObj_framed | exact maskIn_trans hP rfl
    | exact bit_of hP rfl | dsimp -zeta only | with_reducible apply Framed.mk_of)

theorem State.applyChange_framed {P : Nat} {s₀ : State} (s : State) (c : Change) (hI : Framed P s₀ s) (hP : maskIn
    0x10842c00 P) : Framed P s₀ (State.applyChange s c) := by
  unfold State.applyChange
  repeat' (first
    | with_reducible exact Or.inl rfl | exact Or.inr (bit_of hP rfl)
    | ((try lift_lets -underBinder); intro x; refine letS (P := P) (s₀ := s₀) (x := x) ?_ (fun _ => ?_); unfold x; rotate_left; clear_value x)
    | ((try lift_lets -underBinder); intro x; clear_value x) | with_reducible assumption | split
    | with_reducible apply State.setGain_framed | with_reducible apply State.changeGain_framed
    | with_reducible apply State.changeFilter_framed | with_reducible apply State.changeDelay_framed
    | with_reducible apply State.commitVal_framed | exact maskIn_trans hP rfl | dsimp -zeta only
    | with_reducible apply Framed.mk_of)

theorem State.queueWrite_framed {P : Nat} {s₀ : State} (s : State) (c : Change) (hI : Framed P s₀ s) (hP : maskIn 0x800 P)
    : Framed P s₀ (State.queueWrite s c) := by
  unfold State.queueWrite
  repeat' (first
    | with_reducible exact Or.inl rfl | exact Or.inr (bit_of hP rfl) | with_reducible assumption | dsimp -zeta only
    | with_reducible apply Framed.mk_of)

theorem State.applyWrites_framed {P : Nat} {s₀ : State} (s : State) (hI : Framed P s₀ s) (hP : maskIn 0x10842c00 P) :
    Framed P s₀ (State.applyWrites s) := by
  unfold State.applyWrites
  repeat' (first
    | with_reducible exact Or.inl rfl | exact Or.inr (bit_of hP rfl)
    | ((try lift_lets -underBinder); intro x; refine letS (P := P) (s₀ := s₀) (x := x) ?_ (fun _ => ?_); unfold x; rotate_left; clear_value x)
    | ((try lift_lets -underBinder); intro x; refine letS (P := P) (s₀ := s₀) (x := x.2) ?_ (fun _ => ?_); unfold x; rotate_left; clear_value x)
    | ((try lift_lets -underBinder); intro x; refine letS (P := P) (s₀ := s₀) (x := x.1) ?_ (fun _ => ?_); unfold x; rotate_left; clear_value x)
    | ((try lift_lets -underBinder); intro x; clear_value x) | with_reducible assumption | split
    | with_reducible refine forL_framed ?_ (fun _ _ _ => ?_) | with_reducible refine forL1_framed ?_ (fun _ _ _ => ?_)
    | with_reducible refine forL2_framed ?_ (fun _ _ _ => ?_) | with_reducible apply State.applyChange_framed
    | exact maskIn_trans hP rfl | dsimp -zeta only | with_reducible apply Framed.mk_of)

theorem State.stageOne_framed {P : Nat} {s₀ : State} (s : State) (k : Nat) (e : VatEnt) (hI : Framed P s₀ s) (hP : maskIn
    0x800 P) : Framed P s₀ (State.stageOne s k e).2 := by
  unfold State.stageOne
  repeat' (first
    | with_reducible exact Or.inl rfl | exact Or.inr (bit_of hP rfl)
    | ((try lift_lets -underBinder); intro x; refine letS (P := P) (s₀ := s₀) (x := x) ?_ (fun _ => ?_); unfold x; rotate_left; clear_value x)
    | ((try lift_lets -underBinder); intro x; refine letS (P := P) (s₀ := s₀) (x := x.2) ?_ (fun _ => ?_); unfold x; rotate_left; clear_value x)
    | ((try lift_lets -underBinder); intro x; refine letS (P := P) (s₀ := s₀) (x := x.1) ?_ (fun _ => ?_); unfold x; rotate_left; clear_value x)
    | ((try lift_lets -underBinder); intro x; clear_value x) | with_reducible assumption | split | dsimp -zeta only
    | with_reducible apply Framed.mk_of)

theorem State.emptyVat_framed {P : Nat} {s₀ : State} (s : State) (hI : Framed P s₀ s) (hP : maskIn 0x800 P) : Framed P s₀
    (State.emptyVat s) := by
  unfold State.emptyVat
  repeat' (first
    | with_reducible exact Or.inl rfl | exact Or.inr (bit_of hP rfl) | with_reducible assumption | dsimp -zeta only
    | with_reducible apply Framed.mk_of)

theorem State.answer_framed {P : Nat} {s₀ : State} (s : State) (status detail result : Nat) (hI : Framed P s₀ s) (hP :
    maskIn 0x1000 P) : Framed P s₀ (State.answer s status detail result) := by
  unfold State.answer
  repeat' (first
    | with_reducible exact Or.inl rfl | exact Or.inr (bit_of hP rfl) | with_reducible assumption | dsimp -zeta only
    | with_reducible apply Framed.mk_of)

theorem State.pressExec_framed {P : Nat} {s₀ : State} (s : State) (kind : Nat) (arg : List Byte) (hI : Framed P s₀ s) (hP
    : maskIn 0x841800 P) : Framed P s₀ (State.pressExec s kind arg) := by
  unfold State.pressExec
  repeat' (first
    | with_reducible exact Or.inl rfl | exact Or.inr (bit_of hP rfl)
    | ((try lift_lets -underBinder); intro x; refine letS (P := P) (s₀ := s₀) (x := x) ?_ (fun _ => ?_); unfold x; rotate_left; clear_value x)
    | ((try lift_lets -underBinder); intro x; clear_value x) | with_reducible assumption | split
    | with_reducible apply State.raise_framed | with_reducible apply State.answer_framed | exact maskIn_trans hP rfl
    | dsimp -zeta only | with_reducible apply Framed.mk_of)

theorem State.pressRecord_framed {P : Nat} {s₀ : State} (s : State) (blk : Nat) (media : Int) (entries status kind : Nat)
    (hI : Framed P s₀ s) (hP : maskIn 0x800 P) : Framed P s₀ (State.pressRecord s blk media entries status kind) := by
  unfold State.pressRecord
  repeat' (first
    | with_reducible exact Or.inl rfl | exact Or.inr (bit_of hP rfl) | with_reducible assumption | dsimp -zeta only
    | with_reducible apply Framed.mk_of)

theorem State.pressCancel_framed {P : Nat} {s₀ : State} (s : State) (hI : Framed P s₀ s) (hP : maskIn 0x840800 P) : Framed
    P s₀ (State.pressCancel s) := by
  unfold State.pressCancel
  repeat' (first
    | with_reducible exact Or.inl rfl | exact Or.inr (bit_of hP rfl)
    | ((try lift_lets -underBinder); intro x; refine letS (P := P) (s₀ := s₀) (x := x) ?_ (fun _ => ?_); unfold x; rotate_left; clear_value x)
    | ((try lift_lets -underBinder); intro x; clear_value x) | with_reducible assumption | split
    | with_reducible apply State.raise_framed | with_reducible apply State.pressRecord_framed | exact maskIn_trans hP rfl
    | dsimp -zeta only | with_reducible apply Framed.mk_of)

theorem State.vatClear_framed {P : Nat} {s₀ : State} (s : State) (hI : Framed P s₀ s) (hP : maskIn 0x1800 P) : Framed P s₀
    (State.vatClear s) := by
  unfold State.vatClear
  repeat' (first
    | with_reducible assumption | split | with_reducible apply State.emptyVat_framed
    | with_reducible apply State.answer_framed | exact maskIn_trans hP rfl | dsimp -zeta only)

theorem State.sceneExec_framed {P : Nat} {s₀ : State} (s : State) (sub : Nat) (arg : List Byte) (hI : Framed P s₀ s) (hP :
    maskIn 0x841a00 P) : Framed P s₀ (State.sceneExec s sub arg) := by
  unfold State.sceneExec
  repeat' (first
    | with_reducible assumption | split | with_reducible apply State.submit_framed | with_reducible apply State.answer_framed
    | with_reducible apply State.pressExec_framed | with_reducible apply State.pressCancel_framed
    | with_reducible apply State.vatClear_framed | exact maskIn_trans hP rfl | dsimp -zeta only)

theorem execPress_framed {P : Nat} {s₀ : State} (arg : List Byte) (s : State) (hI : Framed P s₀ s) (hP : maskIn 0x841a00
    P) : FramedO P s₀ (execPress arg s) := by
  unfold execPress
  repeat' (first
    | refine fun (s : State) (hs : Framed P s₀ s) => ?_ | refine fun (_ : _) (s : State) (hs : Framed P s₀ s) => ?_
    | refine fun (_ : _) (_ : _) (s : State) (hs : Framed P s₀ s) => ?_ | with_reducible assumption
    | with_reducible apply id_framed | with_reducible apply when_framed | with_reducible apply FramedO_next
    | with_reducible apply State.sceneExec_framed | exact maskIn_trans hP rfl | dsimp -zeta only)

theorem execSceneReassert_framed {P : Nat} {s₀ : State} (arg : List Byte) (s : State) (hI : Framed P s₀ s) (hP : maskIn
    0x841a00 P) : FramedO P s₀ (execSceneReassert arg s) := by
  unfold execSceneReassert
  repeat' (first
    | refine fun (s : State) (hs : Framed P s₀ s) => ?_ | refine fun (_ : _) (s : State) (hs : Framed P s₀ s) => ?_
    | refine fun (_ : _) (_ : _) (s : State) (hs : Framed P s₀ s) => ?_ | with_reducible assumption
    | with_reducible apply id_framed | with_reducible apply when_framed | with_reducible apply FramedO_next
    | with_reducible apply State.sceneExec_framed | exact maskIn_trans hP rfl | dsimp -zeta only)

theorem execPressCancel_framed {P : Nat} {s₀ : State} (s : State) (hI : Framed P s₀ s) (hP : maskIn 0x841a00 P) : FramedO
    P s₀ (execPressCancel s) := by
  unfold execPressCancel
  repeat' (first
    | refine fun (s : State) (hs : Framed P s₀ s) => ?_ | refine fun (_ : _) (s : State) (hs : Framed P s₀ s) => ?_
    | refine fun (_ : _) (_ : _) (s : State) (hs : Framed P s₀ s) => ?_ | with_reducible assumption
    | with_reducible apply id_framed | with_reducible apply when_framed | with_reducible apply FramedO_next
    | with_reducible apply State.sceneExec_framed | exact maskIn_trans hP rfl | dsimp -zeta only)

theorem execVatClear_framed {P : Nat} {s₀ : State} (s : State) (hI : Framed P s₀ s) (hP : maskIn 0x841a00 P) : FramedO P
    s₀ (execVatClear s) := by
  unfold execVatClear
  repeat' (first
    | refine fun (s : State) (hs : Framed P s₀ s) => ?_ | refine fun (_ : _) (s : State) (hs : Framed P s₀ s) => ?_
    | refine fun (_ : _) (_ : _) (s : State) (hs : Framed P s₀ s) => ?_ | with_reducible assumption
    | with_reducible apply id_framed | with_reducible apply when_framed | with_reducible apply FramedO_next
    | with_reducible apply State.sceneExec_framed | exact maskIn_trans hP rfl | dsimp -zeta only)

theorem State.stampPress_framed {P : Nat} {s₀ : State} (s : State) (hI : Framed P s₀ s) (hP : maskIn 0xa00 P) : Framed P
    s₀ (State.stampPress s) := by
  unfold State.stampPress
  repeat' (first
    | with_reducible exact Or.inl rfl | exact Or.inr (bit_of hP rfl)
    | ((try lift_lets -underBinder); intro x; refine letS (P := P) (s₀ := s₀) (x := x) ?_ (fun _ => ?_); unfold x; rotate_left; clear_value x)
    | ((try lift_lets -underBinder); intro x; clear_value x) | with_reducible assumption | split
    | with_reducible apply State.stamp_framed | exact maskIn_trans hP rfl | dsimp -zeta only
    | with_reducible apply Framed.mk_of)

theorem State.pressReady_framed {P : Nat} {s₀ : State} (s : State) (q : PressReq) (hI : Framed P s₀ s) (hP : maskIn 0xa00
    P) : Framed P s₀ (State.pressReady s q) := by
  unfold State.pressReady
  repeat' (first
    | with_reducible exact Or.inl rfl | exact Or.inr (bit_of hP rfl)
    | ((try lift_lets -underBinder); intro x; refine letS (P := P) (s₀ := s₀) (x := x) ?_ (fun _ => ?_); unfold x; rotate_left; clear_value x)
    | ((try lift_lets -underBinder); intro x; clear_value x) | with_reducible assumption | split
    | with_reducible apply State.sendFrame_framed | with_reducible apply State.stampPress_framed | exact maskIn_trans hP rfl
    | dsimp -zeta only | with_reducible apply Framed.mk_of)

theorem execPressPrepared_framed {P : Nat} {s₀ : State} (s : State) (hI : Framed P s₀ s) (hP : maskIn 0xa00 P) : FramedO P
    s₀ (execPressPrepared s) := by
  unfold execPressPrepared
  repeat' (first
    | with_reducible exact Or.inl rfl | exact Or.inr (bit_of hP rfl) | refine fun (s : State) (hs : Framed P s₀ s) => ?_
    | refine fun (_ : _) (s : State) (hs : Framed P s₀ s) => ?_
    | refine fun (_ : _) (_ : _) (s : State) (hs : Framed P s₀ s) => ?_
    | ((try lift_lets -underBinder); intro x; refine letS (P := P) (s₀ := s₀) (x := x) ?_ (fun _ => ?_); unfold x; rotate_left; clear_value x)
    | ((try lift_lets -underBinder); intro x; refine letF (P := P) (s₀ := s₀) (f := x) (fun _ _ => ?_) (fun hf => ?_); unfold x; rotate_left; clear_value x)
    | ((try lift_lets -underBinder); intro x; clear_value x) | with_reducible assumption | with_reducible apply id_framed
    | split | with_reducible apply when_framed | with_reducible apply FramedO_next
    | with_reducible apply State.pressReady_framed | with_reducible apply hf | exact maskIn_trans hP rfl | dsimp -zeta only
    | with_reducible apply Framed.mk_of)

theorem State.retarget_framed {P : Nat} {s₀ : State} (s : State) (hI : Framed P s₀ s) (hP : maskIn 0x800 P) : Framed P s₀
    (State.retarget s) := by
  unfold State.retarget
  repeat' (first
    | with_reducible exact Or.inl rfl | exact Or.inr (bit_of hP rfl) | with_reducible assumption | split | dsimp -zeta only
    | with_reducible apply Framed.mk_of)

theorem State.reachRun_framed {P : Nat} {s₀ : State} (s : State) (hI : Framed P s₀ s) (hP : maskIn 0x200000 P) : Framed P
    s₀ (State.reachRun s) := by
  unfold State.reachRun
  repeat' (first
    | with_reducible assumption | split | with_reducible apply State.put_framed | exact bit_of hP rfl | dsimp -zeta only)

theorem State.autoDone_framed {P : Nat} {s₀ : State} (s : State) (kind : Nat) (hI : Framed P s₀ s) (hP : maskIn 0xa40002
    P) : Framed P s₀ (State.autoDone s kind) := by
  unfold State.autoDone
  repeat' (first
    | with_reducible exact Or.inl rfl | exact Or.inr (bit_of hP rfl)
    | ((try lift_lets -underBinder); intro x; refine letS (P := P) (s₀ := s₀) (x := x) ?_ (fun _ => ?_); unfold x; rotate_left; clear_value x)
    | ((try lift_lets -underBinder); intro x; clear_value x) | with_reducible assumption | split
    | with_reducible apply State.put_framed | with_reducible apply State.raise_framed
    | with_reducible apply State.reachRun_framed | exact maskIn_trans hP rfl | exact bit_of hP rfl | dsimp -zeta only
    | with_reducible apply Framed.mk_of)

theorem State.pressDone_framed {P : Nat} {s₀ : State} (s : State) (p : PressReq) (j entries : Nat) (late : Bool) (hI :
    Framed P s₀ s) (hP : maskIn 0xa40802 P) : Framed P s₀ (State.pressDone s p j entries late) := by
  unfold State.pressDone
  repeat' (first
    | with_reducible exact Or.inl rfl | exact Or.inr (bit_of hP rfl)
    | ((try lift_lets -underBinder); intro x; refine letS (P := P) (s₀ := s₀) (x := x) ?_ (fun _ => ?_); unfold x; rotate_left; clear_value x)
    | ((try lift_lets -underBinder); intro x; clear_value x) | with_reducible assumption | split
    | with_reducible apply State.raise_framed | with_reducible apply State.emptyVat_framed
    | with_reducible apply State.pressRecord_framed | with_reducible apply State.autoDone_framed | exact maskIn_trans hP rfl
    | dsimp -zeta only | with_reducible apply Framed.mk_of)

theorem State.pressAt_framed {P : Nat} {s₀ : State} (s : State) (p : PressReq) (j : Nat) (hI : Framed P s₀ s) (hP : maskIn
    0x10a42c02 P) : Framed P s₀ (State.pressAt s p j).1 := by
  unfold State.pressAt
  repeat' (first
    | with_reducible exact Or.inl rfl | exact Or.inr (bit_of hP rfl)
    | ((try lift_lets -underBinder); intro x; refine letS (P := P) (s₀ := s₀) (x := x) ?_ (fun _ => ?_); unfold x; rotate_left; clear_value x)
    | ((try lift_lets -underBinder); intro x; refine letS (P := P) (s₀ := s₀) (x := x.2) ?_ (fun _ => ?_); unfold x; rotate_left; clear_value x)
    | ((try lift_lets -underBinder); intro x; refine letS (P := P) (s₀ := s₀) (x := x.1) ?_ (fun _ => ?_); unfold x; rotate_left; clear_value x)
    | ((try lift_lets -underBinder); intro x; refine letF (P := P) (s₀ := s₀) (f := x) (fun _ _ => ?_) (fun hf => ?_); unfold x; rotate_left; clear_value x)
    | ((try lift_lets -underBinder); intro x; clear_value x) | with_reducible assumption | split
    | with_reducible refine forL_framed ?_ (fun _ _ _ => ?_) | with_reducible refine forL1_framed ?_ (fun _ _ _ => ?_)
    | with_reducible refine forL2_framed ?_ (fun _ _ _ => ?_) | with_reducible apply State.raise_framed
    | with_reducible apply State.applyChange_framed | with_reducible apply State.pressRecord_framed
    | with_reducible apply State.pressDone_framed | with_reducible apply hf | exact maskIn_trans hP rfl
    | with_reducible refine of_snd (by with_reducible assumption) ?_
    | with_reducible refine of_fst (by with_reducible assumption) ?_ | dsimp -zeta only | with_reducible apply Framed.mk_of)

theorem State.pressStep_framed {P : Nat} {s₀ : State} (s : State) (j : Nat) (hI : Framed P s₀ s) (hP : maskIn 0x10a42c02
    P) : Framed P s₀ (State.pressStep s j).1 := by
  unfold State.pressStep
  repeat' (first
    | with_reducible exact Or.inl rfl | exact Or.inr (bit_of hP rfl)
    | ((try lift_lets -underBinder); intro x; refine letS (P := P) (s₀ := s₀) (x := x) ?_ (fun _ => ?_); unfold x; rotate_left; clear_value x)
    | ((try lift_lets -underBinder); intro x; refine letS (P := P) (s₀ := s₀) (x := x.2) ?_ (fun _ => ?_); unfold x; rotate_left; clear_value x)
    | ((try lift_lets -underBinder); intro x; refine letS (P := P) (s₀ := s₀) (x := x.1) ?_ (fun _ => ?_); unfold x; rotate_left; clear_value x)
    | ((try lift_lets -underBinder); intro x; clear_value x) | with_reducible assumption | split
    | with_reducible apply State.pressAt_framed | exact maskIn_trans hP rfl
    | with_reducible refine of_snd (by with_reducible assumption) ?_
    | with_reducible refine of_fst (by with_reducible assumption) ?_ | dsimp -zeta only | with_reducible apply Framed.mk_of)

theorem State.startAuto_framed {P : Nat} {s₀ : State} (s : State) (kind : Nat) (l : List Change) (hI : Framed P s₀ s) (hP
    : maskIn 0x800 P) : Framed P s₀ (State.startAuto s kind l) := by
  unfold State.startAuto
  repeat' (first
    | with_reducible exact Or.inl rfl | exact Or.inr (bit_of hP rfl)
    | ((try lift_lets -underBinder); intro x; refine letS (P := P) (s₀ := s₀) (x := x) ?_ (fun _ => ?_); unfold x; rotate_left; clear_value x)
    | ((try lift_lets -underBinder); intro x; clear_value x) | with_reducible assumption | dsimp -zeta only
    | with_reducible apply Framed.mk_of)

theorem State.restCluster_framed {P : Nat} {s₀ : State} (s : State) (c : Nat) (hI : Framed P s₀ s) (hP : maskIn 0x800 P) :
    Framed P s₀ (State.restCluster s c) := by
  unfold State.restCluster
  repeat' (first
    | with_reducible exact Or.inl rfl | exact Or.inr (bit_of hP rfl) | with_reducible assumption | dsimp -zeta only
    | with_reducible apply Framed.mk_of)

end Sys2Proof.Machine
end

