-- ==== Sys2Proof/Laws/FramedRoute.lean ====
section
/-! SUPPORT. What the operations and commands of Machine/Route.lean can change, as masks of parts (Laws/Framed.lean): one lemma
for each. -/

namespace Sys2Proof.Machine

open Sys2Proof

theorem State.setInForce_framed {P : Nat} {s₀ : State} (s : State) (sink e : Nat) (hI : Framed P s₀ s) (hP : maskIn 0x400
    P) : Framed P s₀ (State.setInForce s sink e) := by
  unfold State.setInForce
  repeat' (first
    | with_reducible exact Or.inl rfl | exact Or.inr (bit_of hP rfl)
    | ((try lift_lets -underBinder); intro x; refine letS (P := P) (s₀ := s₀) (x := x) ?_ (fun _ => ?_); unfold x; rotate_left; clear_value x)
    | ((try lift_lets -underBinder); intro x; clear_value x) | with_reducible assumption | split | dsimp -zeta only
    | with_reducible apply Framed.mk_of)

theorem State.takeRoute_framed {P : Nat} {s₀ : State} (s : State) (sink new : Nat) (safe : Bool) (hI : Framed P s₀ s) (hP
    : maskIn 0x400 P) : Framed P s₀ (State.takeRoute s sink new safe) := by
  unfold State.takeRoute
  repeat' (first
    | with_reducible exact Or.inl rfl | exact Or.inr (bit_of hP rfl)
    | ((try lift_lets -underBinder); intro x; refine letS (P := P) (s₀ := s₀) (x := x) ?_ (fun _ => ?_); unfold x; rotate_left; clear_value x)
    | ((try lift_lets -underBinder); intro x; clear_value x) | with_reducible assumption | split
    | with_reducible apply State.setInForce_framed | exact maskIn_trans hP rfl | dsimp -zeta only
    | with_reducible apply Framed.mk_of)

theorem State.commitRoute_framed {P : Nat} {s₀ : State} (s : State) (sink : Nat) (safe : Bool) (hI : Framed P s₀ s) (hP :
    maskIn 0x400 P) : Framed P s₀ (State.commitRoute s sink safe) := by
  unfold State.commitRoute
  repeat' (first
    | with_reducible exact Or.inl rfl | exact Or.inr (bit_of hP rfl)
    | ((try lift_lets -underBinder); intro x; refine letS (P := P) (s₀ := s₀) (x := x) ?_ (fun _ => ?_); unfold x; rotate_left; clear_value x)
    | ((try lift_lets -underBinder); intro x; clear_value x) | with_reducible assumption | split
    | with_reducible apply State.setInForce_framed | with_reducible apply State.takeRoute_framed | exact maskIn_trans hP rfl
    | dsimp -zeta only | with_reducible apply Framed.mk_of)

theorem State.releaseRoutes_framed {P : Nat} {s₀ : State} (s : State) (hI : Framed P s₀ s) (hP : maskIn 0x400 P) : Framed
    P s₀ (State.releaseRoutes s) := by
  unfold State.releaseRoutes
  repeat' (first
    | with_reducible exact Or.inl rfl | exact Or.inr (bit_of hP rfl)
    | ((try lift_lets -underBinder); intro x; refine letS (P := P) (s₀ := s₀) (x := x) ?_ (fun _ => ?_); unfold x; rotate_left; clear_value x)
    | ((try lift_lets -underBinder); intro x; clear_value x) | with_reducible assumption
    | with_reducible refine forL_framed ?_ (fun _ _ _ => ?_) | with_reducible apply State.takeRoute_framed
    | exact maskIn_trans hP rfl | dsimp -zeta only | with_reducible apply Framed.mk_of)

theorem execRouteCrossfadeEnd_framed {P : Nat} {s₀ : State} (sink : Nat) (s : State) (hI : Framed P s₀ s) (hP : maskIn
    0x400 P) : FramedO P s₀ (execRouteCrossfadeEnd sink s) := by
  unfold execRouteCrossfadeEnd
  repeat' (first
    | with_reducible exact Or.inl rfl | exact Or.inr (bit_of hP rfl) | refine fun (s : State) (hs : Framed P s₀ s) => ?_
    | refine fun (_ : _) (s : State) (hs : Framed P s₀ s) => ?_
    | refine fun (_ : _) (_ : _) (s : State) (hs : Framed P s₀ s) => ?_ | with_reducible assumption
    | with_reducible apply id_framed | split | with_reducible apply when_framed | with_reducible apply FramedO_next
    | dsimp -zeta only | with_reducible apply Framed.mk_of)

theorem State.putSrc_framed {P : Nat} {s₀ : State} (s : State) (n : Nat) (b : SrcBlk) (hI : Framed P s₀ s) (hP : maskIn
    0x400 P) : Framed P s₀ (State.putSrc s n b) := by
  unfold State.putSrc
  repeat' (first
    | with_reducible exact Or.inl rfl | exact Or.inr (bit_of hP rfl) | with_reducible assumption | dsimp -zeta only
    | with_reducible apply Framed.mk_of)

theorem State.formBlock_framed {P : Nat} {s₀ : State} (s : State) (j : Nat) (hI : Framed P s₀ s) (hP : maskIn 0x400 P) :
    Framed P s₀ (State.formBlock s j) := by
  unfold State.formBlock
  repeat' (first
    | with_reducible exact Or.inl rfl | exact Or.inr (bit_of hP rfl)
    | ((try lift_lets -underBinder); intro x; refine letS (P := P) (s₀ := s₀) (x := x) ?_ (fun _ => ?_); unfold x; rotate_left; clear_value x)
    | ((try lift_lets -underBinder); intro x; clear_value x) | with_reducible assumption | split
    | with_reducible refine forL_framed ?_ (fun _ _ _ => ?_) | dsimp -zeta only | with_reducible apply Framed.mk_of)

theorem State.setDet_framed {P : Nat} {s₀ : State} (s : State) (kind num : Nat) (d : Det) (hI : Framed P s₀ s) (hP :
    maskIn 0x400 P) : Framed P s₀ (State.setDet s kind num d) := by
  unfold State.setDet
  repeat' (first
    | with_reducible exact Or.inl rfl | exact Or.inr (bit_of hP rfl) | with_reducible assumption | dsimp -zeta only
    | with_reducible apply Framed.mk_of)

theorem State.detEvent_framed {P : Nat} {s₀ : State} (s : State) (kind num j e : Nat) (hI : Framed P s₀ s) (hP : maskIn
    0x840000 P) : Framed P s₀ (State.detEvent s kind num j e) := by
  unfold State.detEvent
  repeat' (first
    | with_reducible assumption | split | with_reducible apply State.raise_framed | exact maskIn_trans hP rfl
    | dsimp -zeta only)

theorem State.detMove_framed {P : Nat} {s₀ : State} (s : State) (j kind num : Nat) (hI : Framed P s₀ s) (hP : maskIn
    0x840400 P) : Framed P s₀ (State.detMove s j kind num) := by
  unfold State.detMove
  repeat' (first
    | with_reducible exact Or.inl rfl | exact Or.inr (bit_of hP rfl)
    | ((try lift_lets -underBinder); intro x; refine letS (P := P) (s₀ := s₀) (x := x) ?_ (fun _ => ?_); unfold x; rotate_left; clear_value x)
    | ((try lift_lets -underBinder); intro x; clear_value x) | with_reducible assumption | split
    | with_reducible apply State.setDet_framed | with_reducible apply State.detEvent_framed | exact maskIn_trans hP rfl
    | dsimp -zeta only | with_reducible apply Framed.mk_of)

theorem State.setQuiesce_framed {P : Nat} {s₀ : State} (s : State) (hI : Framed P s₀ s) (hP : maskIn 0x1c008c00c1 P) :
    Framed P s₀ (State.setQuiesce s) := by
  unfold State.setQuiesce
  repeat' (first
    | refine fun (s : State) (hs : Framed P s₀ s) => ?_ | refine fun (_ : _) (s : State) (hs : Framed P s₀ s) => ?_
    | refine fun (_ : _) (_ : _) (s : State) (hs : Framed P s₀ s) => ?_
    | ((try lift_lets -underBinder); intro x; refine letS (P := P) (s₀ := s₀) (x := x) ?_ (fun _ => ?_); unfold x; rotate_left; clear_value x)
    | ((try lift_lets -underBinder); intro x; clear_value x) | with_reducible assumption | with_reducible apply id_framed
    | split | with_reducible refine forL_framed ?_ (fun _ _ _ => ?_) | with_reducible apply State.put_framed
    | with_reducible apply State.slot_framed | exact maskIn_trans hP rfl | exact bit_of hP rfl | dsimp -zeta only)

theorem State.detStep_framed {P : Nat} {s₀ : State} (s : State) (j : Nat) (hI : Framed P s₀ s) (hP : maskIn 0x1c008c04c1
    P) : Framed P s₀ (State.detStep s j) := by
  unfold State.detStep
  repeat' (first

    | ((try lift_lets -underBinder); intro x; refine letS (P := P) (s₀ := s₀) (x := x) ?_ (fun _ => ?_); unfold x; rotate_left; clear_value x)
    | ((try lift_lets -underBinder); intro x; clear_value x) | with_reducible assumption
    | with_reducible refine forL_framed ?_ (fun _ _ _ => ?_) | with_reducible apply State.detMove_framed
    | with_reducible apply State.setQuiesce_framed | exact maskIn_trans hP rfl | dsimp -zeta only)

theorem State.wakeWells_framed {P : Nat} {s₀ : State} (s : State) (src m : Nat) (hI : Framed P s₀ s) (hP : maskIn
    0x18010000 P) : Framed P s₀ (State.wakeWells s src m) := by
  unfold State.wakeWells
  repeat' (first
    | with_reducible exact Or.inl rfl | exact Or.inr (bit_of hP rfl)
    | ((try lift_lets -underBinder); intro x; refine letS (P := P) (s₀ := s₀) (x := x) ?_ (fun _ => ?_); unfold x; rotate_left; clear_value x)
    | ((try lift_lets -underBinder); intro x; clear_value x) | with_reducible assumption | split
    | with_reducible refine forN_framed ?_ (fun _ _ _ => ?_) | with_reducible apply State.put_framed | exact bit_of hP rfl
    | dsimp -zeta only | with_reducible apply Framed.mk_of)

theorem State.carry_framed {P : Nat} {s₀ : State} (s : State) (blk : Nat) (l : List SrcBlock) (hI : Framed P s₀ s) (hP :
    maskIn 0x18010400 P) : Framed P s₀ (State.carry s blk l) := by
  unfold State.carry
  repeat' (first
    | with_reducible exact Or.inl rfl | exact Or.inr (bit_of hP rfl)
    | ((try lift_lets -underBinder); intro x; refine letS (P := P) (s₀ := s₀) (x := x) ?_ (fun _ => ?_); unfold x; rotate_left; clear_value x)
    | ((try lift_lets -underBinder); intro x; clear_value x) | with_reducible assumption | split
    | with_reducible refine forL_framed ?_ (fun _ _ _ => ?_) | with_reducible apply State.putSrc_framed
    | with_reducible apply State.wakeWells_framed | exact maskIn_trans hP rfl | dsimp -zeta only
    | with_reducible apply Framed.mk_of)

theorem execPostDeliver_framed {P : Nat} {s₀ : State} (site : Nat) (carries : List SrcBlock) (s : State) (hI : Framed P s₀
    s) (hP : maskIn 0x1c188d04c1 P) : FramedO P s₀ (execPostDeliver site carries s) := by
  unfold execPostDeliver
  repeat' (first
    | with_reducible exact Or.inl rfl | exact Or.inr (bit_of hP rfl) | refine fun (s : State) (hs : Framed P s₀ s) => ?_
    | refine fun (_ : _) (s : State) (hs : Framed P s₀ s) => ?_
    | refine fun (_ : _) (_ : _) (s : State) (hs : Framed P s₀ s) => ?_
    | ((try lift_lets -underBinder); intro x; refine letS (P := P) (s₀ := s₀) (x := x) ?_ (fun _ => ?_); unfold x; rotate_left; clear_value x)
    | ((try lift_lets -underBinder); intro x; clear_value x) | with_reducible assumption | with_reducible apply id_framed
    | split | with_reducible apply when_framed | with_reducible apply FramedO_next
    | with_reducible apply State.setPumpSt_framed | with_reducible apply State.deliver_framed
    | with_reducible apply State.carry_framed | with_reducible apply State.slot_framed | exact maskIn_trans hP rfl
    | dsimp -zeta only | with_reducible apply Framed.mk_of)

theorem execWriteBackComplete_framed {P : Nat} {s₀ : State} (site : Nat) (carries : List SrcBlock) (s : State) (hI :
    Framed P s₀ s) (hP : maskIn 0x1d188d04c9 P) : FramedO P s₀ (execWriteBackComplete site carries s) := by
  unfold execWriteBackComplete
  repeat' (first
    | with_reducible exact Or.inl rfl | exact Or.inr (bit_of hP rfl) | refine fun (s : State) (hs : Framed P s₀ s) => ?_
    | refine fun (_ : _) (s : State) (hs : Framed P s₀ s) => ?_
    | refine fun (_ : _) (_ : _) (s : State) (hs : Framed P s₀ s) => ?_
    | ((try lift_lets -underBinder); intro x; refine letS (P := P) (s₀ := s₀) (x := x) ?_ (fun _ => ?_); unfold x; rotate_left; clear_value x)
    | ((try lift_lets -underBinder); intro x; clear_value x) | with_reducible assumption | with_reducible apply id_framed
    | split | with_reducible apply when_framed | with_reducible refine forL_framed ?_ (fun _ _ _ => ?_)
    | with_reducible apply FramedO_next | with_reducible apply State.setPumpSt_framed
    | with_reducible apply State.deliver_framed | with_reducible apply State.xferWords_framed
    | with_reducible apply State.carry_framed | with_reducible apply State.slot_framed | exact maskIn_trans hP rfl
    | dsimp -zeta only | with_reducible apply Framed.mk_of)

end Sys2Proof.Machine
end

