-- ==== Sys2Proof/Laws/FramedTdm.lean ====
section
/-! SUPPORT. What the operations and commands of Machine/Tdm.lean can change, as masks of parts (Laws/Framed.lean): one lemma
for each. -/

namespace Sys2Proof.Machine

open Sys2Proof

theorem State.ingressDropped_framed {P : Nat} {s₀ : State} (s : State) (site e j : Nat) (hI : Framed P s₀ s) (hP : maskIn
    0x800840000 P) : Framed P s₀ (State.ingressDropped s site e j) := by
  unfold State.ingressDropped
  repeat' (first

    | ((try lift_lets -underBinder); intro x; refine letS (P := P) (s₀ := s₀) (x := x) ?_ (fun _ => ?_); unfold x; rotate_left; clear_value x)
    | ((try lift_lets -underBinder); intro x; clear_value x) | with_reducible assumption | split
    | with_reducible refine forL_framed ?_ (fun _ _ _ => ?_) | with_reducible apply State.incSat_framed
    | with_reducible apply State.raise_framed | exact maskIn_trans hP rfl | exact bit_of hP rfl | dsimp -zeta only)

theorem State.ingressWords_framed {P : Nat} {s₀ : State} (s : State) (site e j off : Nat) (words : List Nat) (hI : Framed
    P s₀ s) (hP : maskIn 0x1100000089 P) : Framed P s₀ (State.ingressWords s site e j off words) := by
  unfold State.ingressWords
  repeat' (first

    | ((try lift_lets -underBinder); intro x; refine letS (P := P) (s₀ := s₀) (x := x) ?_ (fun _ => ?_); unfold x; rotate_left; clear_value x)
    | ((try lift_lets -underBinder); intro x; clear_value x) | with_reducible assumption
    | with_reducible refine forN_framed ?_ (fun _ _ _ => ?_) | with_reducible apply State.wrMem_framed
    | with_reducible apply State.touchBank_framed | exact maskIn_trans hP rfl | dsimp -zeta only)

theorem State.ingressWhole_framed {P : Nat} {s₀ : State} (s : State) (site e j : Nat) (hI : Framed P s₀ s) (hP : maskIn
    0x1800000040 P) : Framed P s₀ (State.ingressWhole s site e j) := by
  unfold State.ingressWhole
  repeat' (first
    | with_reducible assumption | with_reducible refine forL_framed ?_ (fun _ _ _ => ?_)
    | with_reducible apply State.setPend_framed | with_reducible apply State.deliver_framed | exact maskIn_trans hP rfl
    | dsimp -zeta only)

theorem State.sendIngress_framed {P : Nat} {s₀ : State} (s : State) (e off k : Nat) (words : List Nat) (hI : Framed P s₀
    s) (hP : maskIn 0x200 P) : Framed P s₀ (State.sendIngress s e off k words) := by
  induction k generalizing s e off words with
  | zero =>
    unfold State.sendIngress
    repeat' (first
      | with_reducible exact Or.inl rfl | exact Or.inr (bit_of hP rfl) | with_reducible assumption | split
      | with_reducible apply State.sendFrame_framed | exact maskIn_trans hP rfl | dsimp -zeta only
      | with_reducible apply Framed.mk_of)
  | succ k0 ih =>
    unfold State.sendIngress
    repeat' (first
      | with_reducible exact Or.inl rfl | exact Or.inr (bit_of hP rfl) | with_reducible assumption | split
      | with_reducible apply State.sendFrame_framed | exact maskIn_trans hP rfl | with_reducible apply ih | dsimp -zeta only
      | with_reducible apply Framed.mk_of)

theorem State.ingressPost_framed {P : Nat} {s₀ : State} (s : State) (site e j : Nat) (words : List Int) (hI : Framed P s₀
    s) (hP : maskIn 0x19008402c9 P) : Framed P s₀ (State.ingressPost s site e j words) := by
  unfold State.ingressPost
  repeat' (first
    | with_reducible exact Or.inl rfl | exact Or.inr (bit_of hP rfl)
    | ((try lift_lets -underBinder); intro x; refine letS (P := P) (s₀ := s₀) (x := x) ?_ (fun _ => ?_); unfold x; rotate_left; clear_value x)
    | ((try lift_lets -underBinder); intro x; clear_value x) | with_reducible assumption | split
    | with_reducible apply State.sendFrame_framed | with_reducible apply State.ingressDropped_framed
    | with_reducible apply State.ingressWords_framed | with_reducible apply State.ingressWhole_framed
    | with_reducible apply State.sendIngress_framed | exact maskIn_trans hP rfl | dsimp -zeta only
    | with_reducible apply Framed.mk_of)

theorem State.egressCredit_framed {P : Nat} {s₀ : State} (s : State) (site e j : Nat) (hI : Framed P s₀ s) (hP : maskIn
    0x1000000040 P) : Framed P s₀ (State.egressCredit s site e j) := by
  unfold State.egressCredit
  repeat' (first
    | with_reducible exact Or.inl rfl | exact Or.inr (bit_of hP rfl)
    | ((try lift_lets -underBinder); intro x; refine letS (P := P) (s₀ := s₀) (x := x) ?_ (fun _ => ?_); unfold x; rotate_left; clear_value x)
    | ((try lift_lets -underBinder); intro x; refine letS (P := P) (s₀ := s₀) (x := x.2) ?_ (fun _ => ?_); unfold x; rotate_left; clear_value x)
    | ((try lift_lets -underBinder); intro x; refine letS (P := P) (s₀ := s₀) (x := x.1) ?_ (fun _ => ?_); unfold x; rotate_left; clear_value x)
    | ((try lift_lets -underBinder); intro x; clear_value x) | with_reducible assumption | split | dsimp -zeta only
    | with_reducible apply Framed.mk_of)

theorem State.setTdm_framed {P : Nat} {s₀ : State} (s : State) (n : Nat) (x : TdmPort) (hI : Framed P s₀ s) (hP : maskIn
    0x4000 P) : Framed P s₀ (State.setTdm s n x) := by
  unfold State.setTdm
  repeat' (first
    | with_reducible exact Or.inl rfl | exact Or.inr (bit_of hP rfl) | with_reducible assumption | dsimp -zeta only
    | with_reducible apply Framed.mk_of)

theorem State.tdmRun_framed {P : Nat} {s₀ : State} (s : State) (n : Nat) (hI : Framed P s₀ s) (hP : maskIn 0x20840000 P) :
    Framed P s₀ (State.tdmRun s n) := by
  unfold State.tdmRun
  repeat' (first
    | with_reducible assumption | with_reducible apply State.put_framed | with_reducible apply State.raise_framed
    | exact maskIn_trans hP rfl | exact bit_of hP rfl | dsimp -zeta only)

theorem State.tdmHalt_framed {P : Nat} {s₀ : State} (s : State) (n : Nat) (ev : Bool) (hI : Framed P s₀ s) (hP : maskIn
    0x20844000 P) : Framed P s₀ (State.tdmHalt s n ev) := by
  unfold State.tdmHalt
  repeat' (first

    | ((try lift_lets -underBinder); intro x; refine letS (P := P) (s₀ := s₀) (x := x) ?_ (fun _ => ?_); unfold x; rotate_left; clear_value x)
    | ((try lift_lets -underBinder); intro x; clear_value x) | with_reducible assumption | split
    | with_reducible apply State.put_framed | with_reducible apply State.raise_framed
    | with_reducible apply State.setTdm_framed | exact maskIn_trans hP rfl | exact bit_of hP rfl | dsimp -zeta only)

theorem State.tdmMaskWrite_framed {P : Nat} {s₀ : State} (s : State) (n : Nat) (out : Bool) (mask : Nat) (hI : Framed P s₀
    s) (hP : maskIn 0x20004000 P) : Framed P s₀ (State.tdmMaskWrite s n out mask) := by
  unfold State.tdmMaskWrite
  repeat' (first
    | with_reducible exact Or.inl rfl | exact Or.inr (bit_of hP rfl)
    | ((try lift_lets -underBinder); intro x; refine letS (P := P) (s₀ := s₀) (x := x) ?_ (fun _ => ?_); unfold x; rotate_left; clear_value x)
    | ((try lift_lets -underBinder); intro x; clear_value x) | with_reducible assumption | split
    | with_reducible apply State.put_framed | with_reducible apply State.setTdm_framed | exact maskIn_trans hP rfl
    | exact bit_of hP rfl | dsimp -zeta only | with_reducible apply Framed.mk_of)

theorem State.tdmApplyMasks_framed {P : Nat} {s₀ : State} (s : State) (n smp : Nat) (hI : Framed P s₀ s) (hP : maskIn
    0x20844000 P) : Framed P s₀ (State.tdmApplyMasks s n smp) := by
  unfold State.tdmApplyMasks
  repeat' (first
    | with_reducible exact Or.inl rfl | exact Or.inr (bit_of hP rfl)
    | ((try lift_lets -underBinder); intro x; refine letS (P := P) (s₀ := s₀) (x := x) ?_ (fun _ => ?_); unfold x; rotate_left; clear_value x)
    | ((try lift_lets -underBinder); intro x; clear_value x) | with_reducible assumption | split
    | with_reducible apply State.put_framed | with_reducible apply State.raise_framed
    | with_reducible apply State.setTdm_framed | exact maskIn_trans hP rfl | exact bit_of hP rfl | dsimp -zeta only
    | with_reducible apply Framed.mk_of)

theorem execTdmMaskWrite_framed {P : Nat} {s₀ : State} (port : Nat) (out : Bool) (mask : BitVec 32) (s : State) (hI :
    Framed P s₀ s) (hP : maskIn 0xffffffffff P) : FramedO P s₀ (execTdmMaskWrite port out mask s) := by
  unfold execTdmMaskWrite
  repeat' (first
    | refine fun (s : State) (hs : Framed P s₀ s) => ?_ | refine fun (_ : _) (s : State) (hs : Framed P s₀ s) => ?_
    | refine fun (_ : _) (_ : _) (s : State) (hs : Framed P s₀ s) => ?_ | with_reducible assumption
    | with_reducible apply id_framed | split | with_reducible apply when_framed | with_reducible apply FramedO_next
    | with_reducible apply State.submit_framed | with_reducible apply State.tdmMaskWrite_framed
    | with_reducible apply State.regWrite_framed | exact maskIn_trans hP rfl | dsimp -zeta only)

theorem State.tdmCfgWrite_framed {P : Nat} {s₀ : State} (s : State) (n v : Nat) (hI : Framed P s₀ s) (hP : maskIn
    0x8020000000 P) : Framed P s₀ (State.tdmCfgWrite s n v) := by
  unfold State.tdmCfgWrite
  repeat' (first
    | with_reducible assumption | split | with_reducible apply State.put_framed | with_reducible apply State.setWord_framed
    | exact maskIn_trans hP rfl | exact bit_of hP rfl | dsimp -zeta only)

theorem execTdmCfgWrite_framed {P : Nat} {s₀ : State} (port : Nat) (value : BitVec 64) (s : State) (hI : Framed P s₀ s)
    (hP : maskIn 0xffffffffff P) : FramedO P s₀ (execTdmCfgWrite port value s) := by
  unfold execTdmCfgWrite
  repeat' (first
    | refine fun (s : State) (hs : Framed P s₀ s) => ?_ | refine fun (_ : _) (s : State) (hs : Framed P s₀ s) => ?_
    | refine fun (_ : _) (_ : _) (s : State) (hs : Framed P s₀ s) => ?_ | with_reducible assumption
    | with_reducible apply id_framed | split | with_reducible apply when_framed | with_reducible apply FramedO_next
    | with_reducible apply State.submit_framed | with_reducible apply State.tdmCfgWrite_framed
    | with_reducible apply State.regWrite_framed | exact maskIn_trans hP rfl | dsimp -zeta only)

theorem State.tdmStart_framed {P : Nat} {s₀ : State} (s : State) (w : Nat) (pair : Bool) (hI : Framed P s₀ s) (hP : maskIn
    0x20004000 P) : Framed P s₀ (State.tdmStart s w pair) := by
  unfold State.tdmStart
  repeat' (first
    | with_reducible exact Or.inl rfl | exact Or.inr (bit_of hP rfl)
    | ((try lift_lets -underBinder); intro x; refine letS (P := P) (s₀ := s₀) (x := x) ?_ (fun _ => ?_); unfold x; rotate_left; clear_value x)
    | ((try lift_lets -underBinder); intro x; clear_value x) | with_reducible assumption | split
    | with_reducible refine forN_framed ?_ (fun _ _ _ => ?_) | with_reducible apply State.put_framed
    | with_reducible apply State.setTdm_framed | exact maskIn_trans hP rfl | exact bit_of hP rfl | dsimp -zeta only
    | with_reducible apply Framed.mk_of)

theorem execTdmStart_framed {P : Nat} {s₀ : State} (word : BitVec 64) (s : State) (hI : Framed P s₀ s) (hP : maskIn
    0xffffffffff P) : FramedO P s₀ (execTdmStart word s) := by
  unfold execTdmStart
  repeat' (first
    | refine fun (s : State) (hs : Framed P s₀ s) => ?_ | refine fun (_ : _) (s : State) (hs : Framed P s₀ s) => ?_
    | refine fun (_ : _) (_ : _) (s : State) (hs : Framed P s₀ s) => ?_ | with_reducible assumption
    | with_reducible apply id_framed | split | with_reducible apply when_framed | with_reducible apply FramedO_next
    | with_reducible apply State.submit_framed | with_reducible apply State.tdmStart_framed
    | with_reducible apply State.regWrite_framed | exact maskIn_trans hP rfl | dsimp -zeta only)

theorem State.tdmBegin_framed {P : Nat} {s₀ : State} (s : State) (n : Nat) (hI : Framed P s₀ s) (hP : maskIn 0x20844000 P)
    : Framed P s₀ (State.tdmBegin s n) := by
  unfold State.tdmBegin
  repeat' (first
    | with_reducible exact Or.inl rfl | exact Or.inr (bit_of hP rfl)
    | ((try lift_lets -underBinder); intro x; refine letS (P := P) (s₀ := s₀) (x := x) ?_ (fun _ => ?_); unfold x; rotate_left; clear_value x)
    | ((try lift_lets -underBinder); intro x; clear_value x) | with_reducible assumption | split
    | with_reducible apply State.put_framed | with_reducible apply State.setTdm_framed
    | with_reducible apply State.tdmRun_framed | exact maskIn_trans hP rfl | exact bit_of hP rfl | dsimp -zeta only
    | with_reducible apply Framed.mk_of)

theorem execTdmStartTrigger_framed {P : Nat} {s₀ : State} (trig : Nat) (s : State) (hI : Framed P s₀ s) (hP : maskIn
    0x20844000 P) : FramedO P s₀ (execTdmStartTrigger trig s) := by
  unfold execTdmStartTrigger
  repeat' (first
    | refine fun (s : State) (hs : Framed P s₀ s) => ?_ | refine fun (_ : _) (s : State) (hs : Framed P s₀ s) => ?_
    | refine fun (_ : _) (_ : _) (s : State) (hs : Framed P s₀ s) => ?_
    | ((try lift_lets -underBinder); intro x; refine letS (P := P) (s₀ := s₀) (x := x) ?_ (fun _ => ?_); unfold x; rotate_left; clear_value x)
    | ((try lift_lets -underBinder); intro x; clear_value x) | with_reducible assumption | with_reducible apply id_framed
    | split | with_reducible apply when_framed | with_reducible refine forN_framed ?_ (fun _ _ _ => ?_)
    | with_reducible apply FramedO_next | with_reducible apply State.tdmBegin_framed | exact maskIn_trans hP rfl
    | dsimp -zeta only)

theorem State.tdmStop_framed {P : Nat} {s₀ : State} (s : State) (w : Nat) (hI : Framed P s₀ s) (hP : maskIn 0x20004000 P)
    : Framed P s₀ (State.tdmStop s w) := by
  unfold State.tdmStop
  repeat' (first
    | with_reducible exact Or.inl rfl | exact Or.inr (bit_of hP rfl) | with_reducible assumption | split
    | with_reducible refine forN_framed ?_ (fun _ _ _ => ?_) | with_reducible apply State.put_framed
    | with_reducible apply State.setTdm_framed | exact maskIn_trans hP rfl | exact bit_of hP rfl | dsimp -zeta only
    | with_reducible apply Framed.mk_of)

theorem execTdmStop_framed {P : Nat} {s₀ : State} (word : BitVec 32) (s : State) (hI : Framed P s₀ s) (hP : maskIn
    0xffffffffff P) : FramedO P s₀ (execTdmStop word s) := by
  unfold execTdmStop
  repeat' (first
    | refine fun (s : State) (hs : Framed P s₀ s) => ?_ | refine fun (_ : _) (s : State) (hs : Framed P s₀ s) => ?_
    | refine fun (_ : _) (_ : _) (s : State) (hs : Framed P s₀ s) => ?_ | with_reducible assumption
    | with_reducible apply id_framed | split | with_reducible apply when_framed | with_reducible apply FramedO_next
    | with_reducible apply State.submit_framed | with_reducible apply State.tdmStop_framed
    | with_reducible apply State.regWrite_framed | exact maskIn_trans hP rfl | dsimp -zeta only)

theorem State.tdmStopStep_framed {P : Nat} {s₀ : State} (s : State) (hI : Framed P s₀ s) (hP : maskIn 0x20844000 P) :
    Framed P s₀ (State.tdmStopStep s) := by
  unfold State.tdmStopStep
  repeat' (first
    | with_reducible exact Or.inl rfl | exact Or.inr (bit_of hP rfl)
    | ((try lift_lets -underBinder); intro x; refine letS (P := P) (s₀ := s₀) (x := x) ?_ (fun _ => ?_); unfold x; rotate_left; clear_value x)
    | ((try lift_lets -underBinder); intro x; clear_value x) | with_reducible assumption | split
    | with_reducible refine forN_framed ?_ (fun _ _ _ => ?_) | with_reducible apply State.put_framed
    | with_reducible apply State.setTdm_framed | with_reducible apply State.tdmHalt_framed | exact maskIn_trans hP rfl
    | exact bit_of hP rfl | dsimp -zeta only | with_reducible apply Framed.mk_of)

theorem execTdmLeadInEnd_framed {P : Nat} {s₀ : State} (port : Nat) (s : State) (hI : Framed P s₀ s) (hP : maskIn
    0x20840000 P) : FramedO P s₀ (execTdmLeadInEnd port s) := by
  unfold execTdmLeadInEnd
  repeat' (first
    | refine fun (s : State) (hs : Framed P s₀ s) => ?_ | refine fun (_ : _) (s : State) (hs : Framed P s₀ s) => ?_
    | refine fun (_ : _) (_ : _) (s : State) (hs : Framed P s₀ s) => ?_ | with_reducible assumption
    | with_reducible apply id_framed | with_reducible apply when_framed | with_reducible apply FramedO_next
    | with_reducible apply State.tdmRun_framed | exact maskIn_trans hP rfl | dsimp -zeta only)

theorem execTdmLeadOutEnd_framed {P : Nat} {s₀ : State} (port : Nat) (s : State) (hI : Framed P s₀ s) (hP : maskIn
    0x20844000 P) : FramedO P s₀ (execTdmLeadOutEnd port s) := by
  unfold execTdmLeadOutEnd
  repeat' (first
    | refine fun (s : State) (hs : Framed P s₀ s) => ?_ | refine fun (_ : _) (s : State) (hs : Framed P s₀ s) => ?_
    | refine fun (_ : _) (_ : _) (s : State) (hs : Framed P s₀ s) => ?_ | with_reducible assumption
    | with_reducible apply id_framed | with_reducible apply when_framed | with_reducible apply FramedO_next
    | with_reducible apply State.tdmHalt_framed | exact maskIn_trans hP rfl | dsimp -zeta only)

theorem State.tdmLost_framed {P : Nat} {s₀ : State} (s : State) (n : Nat) (hI : Framed P s₀ s) (hP : maskIn 0x20844000 P)
    : Framed P s₀ (State.tdmLost s n) := by
  unfold State.tdmLost
  repeat' (first
    | with_reducible exact Or.inl rfl | exact Or.inr (bit_of hP rfl)
    | ((try lift_lets -underBinder); intro x; refine letS (P := P) (s₀ := s₀) (x := x) ?_ (fun _ => ?_); unfold x; rotate_left; clear_value x)
    | ((try lift_lets -underBinder); intro x; clear_value x) | with_reducible assumption | split
    | with_reducible apply State.put_framed | with_reducible apply State.incSat_framed
    | with_reducible apply State.raise_framed | with_reducible apply State.setTdm_framed
    | with_reducible apply State.tdmHalt_framed | exact maskIn_trans hP rfl | exact bit_of hP rfl | dsimp -zeta only
    | with_reducible apply Framed.mk_of)

theorem execTdmLockLost_framed {P : Nat} {s₀ : State} (port : Nat) (s : State) (hI : Framed P s₀ s) (hP : maskIn
    0x20844000 P) : FramedO P s₀ (execTdmLockLost port s) := by
  unfold execTdmLockLost
  repeat' (first
    | refine fun (s : State) (hs : Framed P s₀ s) => ?_ | refine fun (_ : _) (s : State) (hs : Framed P s₀ s) => ?_
    | refine fun (_ : _) (_ : _) (s : State) (hs : Framed P s₀ s) => ?_ | with_reducible assumption
    | with_reducible apply id_framed | with_reducible apply when_framed | with_reducible apply FramedO_next
    | with_reducible apply State.tdmLost_framed | exact maskIn_trans hP rfl | dsimp -zeta only)

theorem State.tdmAssign_framed {P : Nat} {s₀ : State} (s : State) (n root : Nat) (hI : Framed P s₀ s) (hP : maskIn
    0x20844000 P) : Framed P s₀ (State.tdmAssign s n root) := by
  unfold State.tdmAssign
  repeat' (first
    | with_reducible exact Or.inl rfl | exact Or.inr (bit_of hP rfl)
    | ((try lift_lets -underBinder); intro x; refine letS (P := P) (s₀ := s₀) (x := x) ?_ (fun _ => ?_); unfold x; rotate_left; clear_value x)
    | ((try lift_lets -underBinder); intro x; refine letF2 (P := P) (s₀ := s₀) (f := x) (fun _ _ _ => ?_) (fun hf => ?_); unfold x; rotate_left; clear_value x)
    | ((try lift_lets -underBinder); intro x; clear_value x) | with_reducible assumption | split
    | with_reducible apply State.putI_framed | with_reducible apply State.incSat_framed
    | with_reducible apply State.raise_framed | with_reducible apply State.setTdm_framed | with_reducible apply hf
    | exact maskIn_trans hP rfl | exact bit_of hP rfl | dsimp -zeta only | with_reducible apply Framed.mk_of)

theorem State.tdmLock_framed {P : Nat} {s₀ : State} (s : State) (n m root : Nat) (hI : Framed P s₀ s) (hP : maskIn
    0x20844000 P) : Framed P s₀ (State.tdmLock s n m root) := by
  unfold State.tdmLock
  repeat' (first
    | with_reducible exact Or.inl rfl | exact Or.inr (bit_of hP rfl)
    | ((try lift_lets -underBinder); intro x; refine letS (P := P) (s₀ := s₀) (x := x) ?_ (fun _ => ?_); unfold x; rotate_left; clear_value x)
    | ((try lift_lets -underBinder); intro x; clear_value x) | with_reducible assumption | split
    | with_reducible apply State.put_framed | with_reducible apply State.setTdm_framed
    | with_reducible apply State.tdmRun_framed | exact maskIn_trans hP rfl | exact bit_of hP rfl | dsimp -zeta only
    | with_reducible apply Framed.mk_of)

theorem execTdmFsyncEdge_framed {P : Nat} {s₀ : State} (port m root : Nat) (s : State) (hI : Framed P s₀ s) (hP : maskIn
    0x20844000 P) : FramedO P s₀ (execTdmFsyncEdge port m root s) := by
  unfold execTdmFsyncEdge
  repeat' (first
    | with_reducible exact Or.inl rfl | exact Or.inr (bit_of hP rfl) | refine fun (s : State) (hs : Framed P s₀ s) => ?_
    | refine fun (_ : _) (s : State) (hs : Framed P s₀ s) => ?_
    | refine fun (_ : _) (_ : _) (s : State) (hs : Framed P s₀ s) => ?_
    | ((try lift_lets -underBinder); intro x; refine letS (P := P) (s₀ := s₀) (x := x) ?_ (fun _ => ?_); unfold x; rotate_left; clear_value x)
    | ((try lift_lets -underBinder); intro x; clear_value x) | with_reducible assumption | with_reducible apply id_framed
    | split | with_reducible apply when_framed | with_reducible apply FramedO_next | with_reducible apply State.setTdm_framed
    | with_reducible apply State.tdmLost_framed | with_reducible apply State.tdmAssign_framed
    | with_reducible apply State.tdmLock_framed | exact maskIn_trans hP rfl | dsimp -zeta only
    | with_reducible apply Framed.mk_of)

theorem State.collectAt_framed {P : Nat} {s₀ : State} (s : State) (n i : Nat) (v : Int) (hI : Framed P s₀ s) (hP : maskIn
    0x400 P) : Framed P s₀ (State.collectAt s n i v) := by
  unfold State.collectAt
  repeat' (first
    | with_reducible exact Or.inl rfl | exact Or.inr (bit_of hP rfl) | with_reducible assumption | dsimp -zeta only
    | with_reducible apply Framed.mk_of)

theorem State.tdmCollect_framed {P : Nat} {s₀ : State} (s : State) (n i : Nat) (ws : NMap Int) (hI : Framed P s₀ s) (hP :
    maskIn 0x4400 P) : Framed P s₀ (State.tdmCollect s n i ws) := by
  unfold State.tdmCollect
  repeat' (first
    | with_reducible exact Or.inl rfl | exact Or.inr (bit_of hP rfl)
    | ((try lift_lets -underBinder); intro x; refine letS (P := P) (s₀ := s₀) (x := x) ?_ (fun _ => ?_); unfold x; rotate_left; clear_value x)
    | ((try lift_lets -underBinder); intro x; clear_value x) | with_reducible assumption
    | with_reducible refine forL_framed ?_ (fun _ _ _ => ?_) | with_reducible apply State.setTdm_framed
    | with_reducible apply State.collectAt_framed | exact maskIn_trans hP rfl | dsimp -zeta only
    | with_reducible apply Framed.mk_of)

theorem State.tdmSend_framed {P : Nat} {s₀ : State} (s : State) (n smp : Nat) (hI : Framed P s₀ s) (hP : maskIn
    0x1020004040 P) : Framed P s₀ (State.tdmSend s n smp) := by
  unfold State.tdmSend
  repeat' (first
    | with_reducible exact Or.inl rfl | exact Or.inr (bit_of hP rfl)
    | ((try lift_lets -underBinder); intro x; refine letS (P := P) (s₀ := s₀) (x := x) ?_ (fun _ => ?_); unfold x; rotate_left; clear_value x)
    | ((try lift_lets -underBinder); intro x; clear_value x) | with_reducible assumption | split
    | with_reducible apply State.put_framed | with_reducible apply State.egressCredit_framed
    | with_reducible apply State.setTdm_framed | exact maskIn_trans hP rfl | exact bit_of hP rfl | dsimp -zeta only
    | with_reducible apply Framed.mk_of)

theorem State.tdmDoFrame_framed {P : Nat} {s₀ : State} (s : State) (n smp : Nat) (ws : List (BitVec 32)) (hI : Framed P s₀
    s) (hP : maskIn 0x1020844440 P) : Framed P s₀ (State.tdmDoFrame s n smp ws) := by
  unfold State.tdmDoFrame
  repeat' (first
    | with_reducible exact Or.inl rfl | exact Or.inr (bit_of hP rfl)
    | ((try lift_lets -underBinder); intro x; refine letS (P := P) (s₀ := s₀) (x := x) ?_ (fun _ => ?_); unfold x; rotate_left; clear_value x)
    | ((try lift_lets -underBinder); intro x; clear_value x) | with_reducible assumption | split
    | with_reducible apply State.setTdm_framed | with_reducible apply State.tdmApplyMasks_framed
    | with_reducible apply State.tdmCollect_framed | with_reducible apply State.tdmSend_framed | exact maskIn_trans hP rfl
    | dsimp -zeta only | with_reducible apply Framed.mk_of)

theorem execTdmFrame_framed {P : Nat} {s₀ : State} (port : Nat) (words : List (BitVec 32)) (s : State) (hI : Framed P s₀
    s) (hP : maskIn 0x1020844440 P) : FramedO P s₀ (execTdmFrame port words s) := by
  unfold execTdmFrame
  repeat' (first
    | with_reducible exact Or.inl rfl | exact Or.inr (bit_of hP rfl) | refine fun (s : State) (hs : Framed P s₀ s) => ?_
    | refine fun (_ : _) (s : State) (hs : Framed P s₀ s) => ?_
    | refine fun (_ : _) (_ : _) (s : State) (hs : Framed P s₀ s) => ?_
    | ((try lift_lets -underBinder); intro x; refine letS (P := P) (s₀ := s₀) (x := x) ?_ (fun _ => ?_); unfold x; rotate_left; clear_value x)
    | ((try lift_lets -underBinder); intro x; clear_value x) | with_reducible assumption | with_reducible apply id_framed
    | split | with_reducible apply when_framed | with_reducible apply FramedO_next | with_reducible apply State.setTdm_framed
    | with_reducible apply State.tdmCollect_framed | with_reducible apply State.tdmDoFrame_framed | exact maskIn_trans hP rfl
    | dsimp -zeta only | with_reducible apply Framed.mk_of)

theorem State.tdmIngress_framed {P : Nat} {s₀ : State} (s : State) (j : Nat) (hI : Framed P s₀ s) (hP : maskIn
    0x19208446c9 P) : Framed P s₀ (State.tdmIngress s j) := by
  unfold State.tdmIngress
  repeat' (first
    | with_reducible exact Or.inl rfl | exact Or.inr (bit_of hP rfl)
    | ((try lift_lets -underBinder); intro x; refine letS (P := P) (s₀ := s₀) (x := x) ?_ (fun _ => ?_); unfold x; rotate_left; clear_value x)
    | ((try lift_lets -underBinder); intro x; clear_value x) | with_reducible assumption
    | with_reducible refine forL_framed ?_ (fun _ _ _ => ?_) | with_reducible refine forN_framed ?_ (fun _ _ _ => ?_)
    | with_reducible apply State.putSrc_framed | with_reducible apply State.ingressPost_framed
    | with_reducible apply State.setTdm_framed | exact maskIn_trans hP rfl | dsimp -zeta only
    | with_reducible apply Framed.mk_of)

theorem State.tdmDirect_framed {P : Nat} {s₀ : State} (s : State) (sink pos : Nat) (v : Int) (hI : Framed P s₀ s) (hP :
    maskIn 0x20004400 P) : Framed P s₀ (State.tdmDirect s sink pos v) := by
  unfold State.tdmDirect
  repeat' (first
    | with_reducible exact Or.inl rfl | exact Or.inr (bit_of hP rfl)
    | ((try lift_lets -underBinder); intro x; refine letS (P := P) (s₀ := s₀) (x := x) ?_ (fun _ => ?_); unfold x; rotate_left; clear_value x)
    | ((try lift_lets -underBinder); intro x; clear_value x) | with_reducible assumption | split
    | with_reducible apply State.setTdm_framed | exact maskIn_trans hP rfl | dsimp -zeta only
    | with_reducible apply Framed.mk_of)

end Sys2Proof.Machine
end

