-- ==== Sys2Proof/Laws/FramedWellhead.lean ====
section
/-! SUPPORT. What the operations and commands of Machine/Wellhead.lean can change, as masks of parts (Laws/Framed.lean): one lemma
for each. -/

namespace Sys2Proof.Machine

open Sys2Proof

theorem State.setWell_framed {P : Nat} {s₀ : State} (s : State) (m : Nat) (x : WellCh) (hI : Framed P s₀ s) (hP : maskIn
    0x10010000 P) : Framed P s₀ (State.setWell s m x) := by
  unfold State.setWell
  repeat' (first
    | with_reducible exact Or.inl rfl | exact Or.inr (bit_of hP rfl)
    | ((try lift_lets -underBinder); intro x; refine letS (P := P) (s₀ := s₀) (x := x) ?_ (fun _ => ?_); unfold x; rotate_left; clear_value x)
    | ((try lift_lets -underBinder); intro x; clear_value x) | with_reducible assumption
    | with_reducible apply State.put_framed | exact bit_of hP rfl | dsimp -zeta only | with_reducible apply Framed.mk_of)

theorem State.wellClaim_framed {P : Nat} {s₀ : State} (s : State) (hI : Framed P s₀ s) (hP : maskIn 0x10000000 P) : Framed
    P s₀ (State.wellClaim s) := by
  unfold State.wellClaim
  repeat' (first
    | with_reducible assumption | with_reducible refine forN_framed ?_ (fun _ _ _ => ?_)
    | with_reducible apply State.put_framed | exact bit_of hP rfl | dsimp -zeta only)

theorem State.wellCode_framed {P : Nat} {s₀ : State} (s : State) (m : Nat) (c : Int) (hI : Framed P s₀ s) (hP : maskIn
    0x10010000 P) : Framed P s₀ (State.wellCode s m c) := by
  unfold State.wellCode
  repeat' (first
    | with_reducible exact Or.inl rfl | exact Or.inr (bit_of hP rfl)
    | ((try lift_lets -underBinder); intro x; refine letS (P := P) (s₀ := s₀) (x := x) ?_ (fun _ => ?_); unfold x; rotate_left; clear_value x)
    | ((try lift_lets -underBinder); intro x; clear_value x) | with_reducible assumption | split
    | with_reducible apply State.setWell_framed | exact maskIn_trans hP rfl | dsimp -zeta only
    | with_reducible apply Framed.mk_of)

theorem State.wellSample_framed {P : Nat} {s₀ : State} (s : State) (m : Nat) (v : Int) (hI : Framed P s₀ s) (hP : maskIn
    0x10010000 P) : Framed P s₀ (State.wellSample s m v) := by
  unfold State.wellSample
  repeat' (first
    | with_reducible assumption | with_reducible apply State.wellCode_framed | exact maskIn_trans hP rfl | dsimp -zeta only)

theorem State.clearSafe_framed {P : Nat} {s₀ : State} (s : State) (m cause : Nat) (hI : Framed P s₀ s) (hP : maskIn
    0x10850000 P) : Framed P s₀ (State.clearSafe s m cause) := by
  unfold State.clearSafe
  repeat' (first
    | with_reducible exact Or.inl rfl | exact Or.inr (bit_of hP rfl)
    | ((try lift_lets -underBinder); intro x; refine letS (P := P) (s₀ := s₀) (x := x) ?_ (fun _ => ?_); unfold x; rotate_left; clear_value x)
    | ((try lift_lets -underBinder); intro x; clear_value x) | with_reducible assumption
    | with_reducible apply State.put_framed | with_reducible apply State.raise_framed
    | with_reducible apply State.setWell_framed | exact maskIn_trans hP rfl | exact bit_of hP rfl | dsimp -zeta only
    | with_reducible apply Framed.mk_of)

theorem State.setSafe_framed {P : Nat} {s₀ : State} (s : State) (m cause : Nat) (hI : Framed P s₀ s) (hP : maskIn
    0x10850000 P) : Framed P s₀ (State.setSafe s m cause) := by
  unfold State.setSafe
  repeat' (first
    | with_reducible exact Or.inl rfl | exact Or.inr (bit_of hP rfl)
    | ((try lift_lets -underBinder); intro x; refine letS (P := P) (s₀ := s₀) (x := x) ?_ (fun _ => ?_); unfold x; rotate_left; clear_value x)
    | ((try lift_lets -underBinder); intro x; clear_value x) | with_reducible assumption
    | with_reducible apply State.put_framed | with_reducible apply State.raise_framed
    | with_reducible apply State.setWell_framed | exact maskIn_trans hP rfl | exact bit_of hP rfl | dsimp -zeta only
    | with_reducible apply Framed.mk_of)

theorem State.routeStep_framed {P : Nat} {s₀ : State} (s : State) (hI : Framed P s₀ s) (hP : maskIn 0x10850400 P) : Framed
    P s₀ (State.routeStep s) := by
  unfold State.routeStep
  repeat' (first
    | with_reducible exact Or.inl rfl | exact Or.inr (bit_of hP rfl)
    | ((try lift_lets -underBinder); intro x; refine letS (P := P) (s₀ := s₀) (x := x) ?_ (fun _ => ?_); unfold x; rotate_left; clear_value x)
    | ((try lift_lets -underBinder); intro x; clear_value x) | with_reducible assumption | split
    | with_reducible refine forL_framed ?_ (fun _ _ _ => ?_) | with_reducible apply State.commitRoute_framed
    | with_reducible apply State.releaseRoutes_framed | with_reducible apply State.clearSafe_framed
    | exact maskIn_trans hP rfl | dsimp -zeta only | with_reducible apply Framed.mk_of)

theorem State.wellOffStep_framed {P : Nat} {s₀ : State} (s : State) (hI : Framed P s₀ s) (hP : maskIn 0x10010000 P) :
    Framed P s₀ (State.wellOffStep s) := by
  unfold State.wellOffStep
  repeat' (first
    | with_reducible exact Or.inl rfl | exact Or.inr (bit_of hP rfl)
    | ((try lift_lets -underBinder); intro x; refine letS (P := P) (s₀ := s₀) (x := x) ?_ (fun _ => ?_); unfold x; rotate_left; clear_value x)
    | ((try lift_lets -underBinder); intro x; clear_value x) | with_reducible assumption | split
    | with_reducible refine forN_framed ?_ (fun _ _ _ => ?_) | with_reducible apply State.setWell_framed
    | exact maskIn_trans hP rfl | dsimp -zeta only | with_reducible apply Framed.mk_of)

theorem State.wellOnTime_framed {P : Nat} {s₀ : State} (s : State) (j : Nat) (hI : Framed P s₀ s) (hP : maskIn 0x10010000
    P) : Framed P s₀ (State.wellOnTime s j) := by
  unfold State.wellOnTime
  repeat' (first
    | with_reducible exact Or.inl rfl | exact Or.inr (bit_of hP rfl)
    | ((try lift_lets -underBinder); intro x; refine letS (P := P) (s₀ := s₀) (x := x) ?_ (fun _ => ?_); unfold x; rotate_left; clear_value x)
    | ((try lift_lets -underBinder); intro x; clear_value x) | with_reducible assumption | split
    | with_reducible refine forN_framed ?_ (fun _ _ _ => ?_) | with_reducible apply State.setWell_framed
    | exact maskIn_trans hP rfl | dsimp -zeta only | with_reducible apply Framed.mk_of)

theorem execWellFallbackReturn_framed {P : Nat} {s₀ : State} (channel : Nat) (s : State) (hI : Framed P s₀ s) (hP : maskIn
    0x10850000 P) : FramedO P s₀ (execWellFallbackReturn channel s) := by
  unfold execWellFallbackReturn
  repeat' (first
    | refine fun (s : State) (hs : Framed P s₀ s) => ?_ | refine fun (_ : _) (s : State) (hs : Framed P s₀ s) => ?_
    | refine fun (_ : _) (_ : _) (s : State) (hs : Framed P s₀ s) => ?_ | with_reducible assumption
    | with_reducible apply id_framed | with_reducible apply when_framed | with_reducible apply FramedO_next
    | with_reducible apply State.clearSafe_framed | exact maskIn_trans hP rfl | dsimp -zeta only)

theorem State.setGen_framed {P : Nat} {s₀ : State} (s : State) (g : Nat) (x : Gen) (hI : Framed P s₀ s) (hP : maskIn
    0x10000 P) : Framed P s₀ (State.setGen s g x) := by
  unfold State.setGen
  repeat' (first
    | with_reducible exact Or.inl rfl | exact Or.inr (bit_of hP rfl) | with_reducible assumption | dsimp -zeta only
    | with_reducible apply Framed.mk_of)

theorem State.genTick_framed {P : Nat} {s₀ : State} (s : State) (g : Nat) (hI : Framed P s₀ s) (hP : maskIn 0x10010400 P)
    : Framed P s₀ (State.genTick s g) := by
  unfold State.genTick
  repeat' (first
    | with_reducible exact Or.inl rfl | exact Or.inr (bit_of hP rfl)
    | ((try lift_lets -underBinder); intro x; refine letS (P := P) (s₀ := s₀) (x := x) ?_ (fun _ => ?_); unfold x; rotate_left; clear_value x)
    | ((try lift_lets -underBinder); intro x; clear_value x) | with_reducible assumption | split
    | with_reducible apply State.collectAt_framed | with_reducible apply State.setGen_framed | exact maskIn_trans hP rfl
    | dsimp -zeta only | with_reducible apply Framed.mk_of)

theorem State.genStart_framed {P : Nat} {s₀ : State} (s : State) (g k : Nat) (hI : Framed P s₀ s) (hP : maskIn 0x10010000
    P) : Framed P s₀ (State.genStart s g k) := by
  unfold State.genStart
  repeat' (first
    | with_reducible exact Or.inl rfl | exact Or.inr (bit_of hP rfl)
    | ((try lift_lets -underBinder); intro x; refine letS (P := P) (s₀ := s₀) (x := x) ?_ (fun _ => ?_); unfold x; rotate_left; clear_value x)
    | ((try lift_lets -underBinder); intro x; clear_value x) | with_reducible assumption | split
    | with_reducible apply State.put_framed | with_reducible apply State.setGen_framed | exact maskIn_trans hP rfl
    | exact bit_of hP rfl | dsimp -zeta only | with_reducible apply Framed.mk_of)

theorem State.genStop_framed {P : Nat} {s₀ : State} (s : State) (g : Nat) (hI : Framed P s₀ s) (hP : maskIn 0x10010000 P)
    : Framed P s₀ (State.genStop s g) := by
  unfold State.genStop
  repeat' (first
    | with_reducible exact Or.inl rfl | exact Or.inr (bit_of hP rfl)
    | ((try lift_lets -underBinder); intro x; refine letS (P := P) (s₀ := s₀) (x := x) ?_ (fun _ => ?_); unfold x; rotate_left; clear_value x)
    | ((try lift_lets -underBinder); intro x; clear_value x) | with_reducible assumption
    | with_reducible apply State.put_framed | with_reducible apply State.setGen_framed | exact maskIn_trans hP rfl
    | exact bit_of hP rfl | dsimp -zeta only | with_reducible apply Framed.mk_of)

theorem State.genGate_framed {P : Nat} {s₀ : State} (s : State) (g : Nat) (v : Bool) (hI : Framed P s₀ s) (hP : maskIn
    0x10000 P) : Framed P s₀ (State.genGate s g v) := by
  unfold State.genGate
  repeat' (first
    | with_reducible exact Or.inl rfl | exact Or.inr (bit_of hP rfl)
    | ((try lift_lets -underBinder); intro x; refine letS (P := P) (s₀ := s₀) (x := x) ?_ (fun _ => ?_); unfold x; rotate_left; clear_value x)
    | ((try lift_lets -underBinder); intro x; clear_value x) | with_reducible assumption | split
    | with_reducible apply State.setGen_framed | exact maskIn_trans hP rfl | dsimp -zeta only
    | with_reducible apply Framed.mk_of)

theorem execGateRise_framed {P : Nat} {s₀ : State} (gen : Nat) (s : State) (hI : Framed P s₀ s) (hP : maskIn 0x10010000 P)
    : FramedO P s₀ (execGateRise gen s) := by
  unfold execGateRise
  repeat' (first
    | with_reducible exact Or.inl rfl | exact Or.inr (bit_of hP rfl) | refine fun (s : State) (hs : Framed P s₀ s) => ?_
    | refine fun (_ : _) (s : State) (hs : Framed P s₀ s) => ?_
    | refine fun (_ : _) (_ : _) (s : State) (hs : Framed P s₀ s) => ?_
    | ((try lift_lets -underBinder); intro x; refine letS (P := P) (s₀ := s₀) (x := x) ?_ (fun _ => ?_); unfold x; rotate_left; clear_value x)
    | ((try lift_lets -underBinder); intro x; clear_value x) | with_reducible assumption | with_reducible apply id_framed
    | split | with_reducible apply when_framed | with_reducible apply FramedO_next | with_reducible apply State.setGen_framed
    | with_reducible apply State.genStart_framed | exact maskIn_trans hP rfl | dsimp -zeta only
    | with_reducible apply Framed.mk_of)

theorem execGateFall_framed {P : Nat} {s₀ : State} (gen : Nat) (s : State) (hI : Framed P s₀ s) (hP : maskIn 0x10010000 P)
    : FramedO P s₀ (execGateFall gen s) := by
  unfold execGateFall
  repeat' (first
    | with_reducible exact Or.inl rfl | exact Or.inr (bit_of hP rfl) | refine fun (s : State) (hs : Framed P s₀ s) => ?_
    | refine fun (_ : _) (s : State) (hs : Framed P s₀ s) => ?_
    | refine fun (_ : _) (_ : _) (s : State) (hs : Framed P s₀ s) => ?_
    | ((try lift_lets -underBinder); intro x; refine letS (P := P) (s₀ := s₀) (x := x) ?_ (fun _ => ?_); unfold x; rotate_left; clear_value x)
    | ((try lift_lets -underBinder); intro x; clear_value x) | with_reducible assumption | with_reducible apply id_framed
    | split | with_reducible apply when_framed | with_reducible apply FramedO_next | with_reducible apply State.setGen_framed
    | exact maskIn_trans hP rfl | dsimp -zeta only | with_reducible apply Framed.mk_of)

theorem execGenStepEnd_framed {P : Nat} {s₀ : State} (gen : Nat) (s : State) (hI : Framed P s₀ s) (hP : maskIn 0x10010000
    P) : FramedO P s₀ (execGenStepEnd gen s) := by
  unfold execGenStepEnd
  repeat' (first
    | with_reducible exact Or.inl rfl | exact Or.inr (bit_of hP rfl) | refine fun (s : State) (hs : Framed P s₀ s) => ?_
    | refine fun (_ : _) (s : State) (hs : Framed P s₀ s) => ?_
    | refine fun (_ : _) (_ : _) (s : State) (hs : Framed P s₀ s) => ?_
    | ((try lift_lets -underBinder); intro x; refine letS (P := P) (s₀ := s₀) (x := x) ?_ (fun _ => ?_); unfold x; rotate_left; clear_value x)
    | ((try lift_lets -underBinder); intro x; clear_value x) | with_reducible assumption | with_reducible apply id_framed
    | split | with_reducible apply when_framed | with_reducible apply FramedO_next
    | with_reducible apply State.genStart_framed | with_reducible apply State.genStop_framed | exact maskIn_trans hP rfl
    | dsimp -zeta only | with_reducible apply Framed.mk_of)

theorem State.genBoundary_framed {P : Nat} {s₀ : State} (s : State) (hI : Framed P s₀ s) (hP : maskIn 0x10010000 P) :
    Framed P s₀ (State.genBoundary s) := by
  unfold State.genBoundary
  repeat' (first
    | with_reducible exact Or.inl rfl | exact Or.inr (bit_of hP rfl)
    | ((try lift_lets -underBinder); intro x; refine letS (P := P) (s₀ := s₀) (x := x) ?_ (fun _ => ?_); unfold x; rotate_left; clear_value x)
    | ((try lift_lets -underBinder); intro x; clear_value x) | with_reducible assumption | split
    | with_reducible refine forN_framed ?_ (fun _ _ _ => ?_) | with_reducible apply State.setGen_framed
    | with_reducible apply State.genGate_framed | exact maskIn_trans hP rfl | dsimp -zeta only
    | with_reducible apply Framed.mk_of)

theorem State.sineIngress_framed {P : Nat} {s₀ : State} (s : State) (j : Nat) (hI : Framed P s₀ s) (hP : maskIn 0x400 P) :
    Framed P s₀ (State.sineIngress s j) := by
  unfold State.sineIngress
  repeat' (first
    | with_reducible exact Or.inl rfl | exact Or.inr (bit_of hP rfl)
    | ((try lift_lets -underBinder); intro x; refine letS (P := P) (s₀ := s₀) (x := x) ?_ (fun _ => ?_); unfold x; rotate_left; clear_value x)
    | ((try lift_lets -underBinder); intro x; clear_value x) | with_reducible assumption
    | with_reducible refine forL_framed ?_ (fun _ _ _ => ?_) | with_reducible apply State.putSrc_framed
    | exact maskIn_trans hP rfl | dsimp -zeta only | with_reducible apply Framed.mk_of)

theorem State.takeChime_framed {P : Nat} {s₀ : State} (s : State) (g : Nat) (level : Bool) (hI : Framed P s₀ s) (hP :
    maskIn 0x850000 P) : Framed P s₀ (State.takeChime s g level) := by
  unfold State.takeChime
  repeat' (first
    | with_reducible assumption | split | with_reducible apply State.raise_framed | with_reducible apply State.genGate_framed
    | exact maskIn_trans hP rfl | dsimp -zeta only)

theorem execWellChime_framed {P : Nat} {s₀ : State} (level : Bool) (s : State) (hI : Framed P s₀ s) (hP : maskIn
    0x10850200 P) : FramedO P s₀ (execWellChime level s) := by
  unfold execWellChime
  repeat' (first
    | with_reducible exact Or.inl rfl | exact Or.inr (bit_of hP rfl) | refine fun (s : State) (hs : Framed P s₀ s) => ?_
    | refine fun (_ : _) (s : State) (hs : Framed P s₀ s) => ?_
    | refine fun (_ : _) (_ : _) (s : State) (hs : Framed P s₀ s) => ?_
    | ((try lift_lets -underBinder); intro x; refine letS (P := P) (s₀ := s₀) (x := x) ?_ (fun _ => ?_); unfold x; rotate_left; clear_value x)
    | ((try lift_lets -underBinder); intro x; clear_value x) | with_reducible assumption | with_reducible apply id_framed
    | split | with_reducible apply when_framed | with_reducible refine forN_framed ?_ (fun _ _ _ => ?_)
    | with_reducible apply FramedO_next | with_reducible apply State.submit_framed
    | with_reducible apply State.takeChime_framed | exact maskIn_trans hP rfl | dsimp -zeta only
    | with_reducible apply Framed.mk_of)

theorem State.genWrite_framed {P : Nat} {s₀ : State} (s : State) (g : Nat) (step : Option Nat) (v : Nat) (hI : Framed P s₀
    s) (hP : maskIn 0x10010800 P) : Framed P s₀ (State.genWrite s g step v) := by
  unfold State.genWrite
  repeat' (first
    | with_reducible exact Or.inl rfl | exact Or.inr (bit_of hP rfl)
    | ((try lift_lets -underBinder); intro x; refine letS (P := P) (s₀ := s₀) (x := x) ?_ (fun _ => ?_); unfold x; rotate_left; clear_value x)
    | ((try lift_lets -underBinder); intro x; clear_value x) | with_reducible assumption | split
    | with_reducible apply State.put_framed | with_reducible apply State.setGain_framed
    | with_reducible apply State.setGen_framed | exact maskIn_trans hP rfl | exact bit_of hP rfl | dsimp -zeta only
    | with_reducible apply Framed.mk_of)

theorem execWellGenCfgWrite_framed {P : Nat} {s₀ : State} (gen : Nat) (step : Option (Fin 4)) (value : BitVec 64) (s :
    State) (hI : Framed P s₀ s) (hP : maskIn 0xffffffffff P) : FramedO P s₀ (execWellGenCfgWrite gen step value s) := by
  unfold execWellGenCfgWrite
  repeat' (first
    | with_reducible exact Or.inl rfl | exact Or.inr (bit_of hP rfl) | refine fun (s : State) (hs : Framed P s₀ s) => ?_
    | refine fun (_ : _) (s : State) (hs : Framed P s₀ s) => ?_
    | refine fun (_ : _) (_ : _) (s : State) (hs : Framed P s₀ s) => ?_ | with_reducible assumption
    | with_reducible apply id_framed | split | with_reducible apply when_framed | with_reducible apply FramedO_next
    | with_reducible apply State.submit_framed | with_reducible apply State.genWrite_framed
    | with_reducible apply State.regWrite_framed | exact maskIn_trans hP rfl
    | with_reducible refine of_snd (by with_reducible assumption) ?_
    | with_reducible refine of_fst (by with_reducible assumption) ?_ | dsimp -zeta only | with_reducible apply Framed.mk_of)

theorem State.wellFill_framed {P : Nat} {s₀ : State} (s : State) (m : Nat) (hI : Framed P s₀ s) (hP : maskIn 0x10010000 P)
    : Framed P s₀ (State.wellFill s m) := by
  unfold State.wellFill
  repeat' (first
    | with_reducible exact Or.inl rfl | exact Or.inr (bit_of hP rfl)
    | ((try lift_lets -underBinder); intro x; refine letS (P := P) (s₀ := s₀) (x := x) ?_ (fun _ => ?_); unfold x; rotate_left; clear_value x)
    | ((try lift_lets -underBinder); intro x; clear_value x) | with_reducible assumption | split
    | with_reducible apply State.setWell_framed | with_reducible apply State.wellSample_framed | exact maskIn_trans hP rfl
    | dsimp -zeta only | with_reducible apply Framed.mk_of)

theorem State.wellUnderflow_framed {P : Nat} {s₀ : State} (s : State) (m : Nat) (hI : Framed P s₀ s) (hP : maskIn
    0x10850000 P) : Framed P s₀ (State.wellUnderflow s m) := by
  unfold State.wellUnderflow
  repeat' (first
    | with_reducible exact Or.inl rfl | exact Or.inr (bit_of hP rfl)
    | ((try lift_lets -underBinder); intro x; refine letS (P := P) (s₀ := s₀) (x := x) ?_ (fun _ => ?_); unfold x; rotate_left; clear_value x)
    | ((try lift_lets -underBinder); intro x; clear_value x) | with_reducible assumption | split
    | with_reducible apply State.put_framed | with_reducible apply State.incSat_framed
    | with_reducible apply State.raise_framed | with_reducible apply State.setWell_framed | exact maskIn_trans hP rfl
    | exact bit_of hP rfl | dsimp -zeta only | with_reducible apply Framed.mk_of)

theorem State.wellAfter_framed {P : Nat} {s₀ : State} (s : State) (m g0 : Nat) (hI : Framed P s₀ s) (hP : maskIn
    0x10a50000 P) : Framed P s₀ (State.wellAfter s m g0) := by
  unfold State.wellAfter
  repeat' (first
    | with_reducible exact Or.inl rfl | exact Or.inr (bit_of hP rfl)
    | ((try lift_lets -underBinder); intro x; refine letS (P := P) (s₀ := s₀) (x := x) ?_ (fun _ => ?_); unfold x; rotate_left; clear_value x)
    | ((try lift_lets -underBinder); intro x; clear_value x) | with_reducible assumption | split
    | with_reducible apply State.setWell_framed | with_reducible apply State.setSafe_framed | exact maskIn_trans hP rfl
    | dsimp -zeta only | with_reducible apply Framed.mk_of)

theorem State.wellTick_framed {P : Nat} {s₀ : State} (s : State) (m : Nat) (hI : Framed P s₀ s) (hP : maskIn 0x10a50000 P)
    : Framed P s₀ (State.wellTick s m) := by
  unfold State.wellTick
  repeat' (first
    | with_reducible exact Or.inl rfl | exact Or.inr (bit_of hP rfl)
    | ((try lift_lets -underBinder); intro x; refine letS (P := P) (s₀ := s₀) (x := x) ?_ (fun _ => ?_); unfold x; rotate_left; clear_value x)
    | ((try lift_lets -underBinder); intro x; clear_value x) | with_reducible assumption | split
    | with_reducible apply State.setWell_framed | with_reducible apply State.wellFill_framed
    | with_reducible apply State.wellUnderflow_framed | with_reducible apply State.wellAfter_framed
    | exact maskIn_trans hP rfl | dsimp -zeta only | with_reducible apply Framed.mk_of)

theorem State.safeTick_framed {P : Nat} {s₀ : State} (s : State) (hI : Framed P s₀ s) (hP : maskIn 0xa40002 P) : Framed P
    s₀ (State.safeTick s) := by
  unfold State.safeTick
  repeat' (first
    | with_reducible exact Or.inl rfl | exact Or.inr (bit_of hP rfl)
    | ((try lift_lets -underBinder); intro x; refine letS (P := P) (s₀ := s₀) (x := x) ?_ (fun _ => ?_); unfold x; rotate_left; clear_value x)
    | ((try lift_lets -underBinder); intro x; clear_value x) | with_reducible assumption | split
    | with_reducible apply State.put_framed | with_reducible apply State.raise_framed | exact maskIn_trans hP rfl
    | exact bit_of hP rfl | dsimp -zeta only | with_reducible apply Framed.mk_of)

theorem execWellSampleTick_framed {P : Nat} {s₀ : State} (chime : Bool) (s : State) (hI : Framed P s₀ s) (hP : maskIn
    0x10a50402 P) : FramedO P s₀ (execWellSampleTick chime s) := by
  unfold execWellSampleTick
  repeat' (first
    | with_reducible exact Or.inl rfl | exact Or.inr (bit_of hP rfl) | refine fun (s : State) (hs : Framed P s₀ s) => ?_
    | refine fun (_ : _) (s : State) (hs : Framed P s₀ s) => ?_
    | refine fun (_ : _) (_ : _) (s : State) (hs : Framed P s₀ s) => ?_
    | ((try lift_lets -underBinder); intro x; refine letS (P := P) (s₀ := s₀) (x := x) ?_ (fun _ => ?_); unfold x; rotate_left; clear_value x)
    | ((try lift_lets -underBinder); intro x; clear_value x) | with_reducible assumption | with_reducible apply id_framed
    | split | with_reducible apply when_framed | with_reducible refine forN_framed ?_ (fun _ _ _ => ?_)
    | with_reducible apply FramedO_next | with_reducible apply State.genTick_framed
    | with_reducible apply State.wellTick_framed | with_reducible apply State.safeTick_framed | exact maskIn_trans hP rfl
    | dsimp -zeta only | with_reducible apply Framed.mk_of)

theorem State.wellCodeWrite_framed {P : Nat} {s₀ : State} (s : State) (m w : Nat) (hI : Framed P s₀ s) (hP : maskIn
    0x10850000 P) : Framed P s₀ (State.wellCodeWrite s m w) := by
  unfold State.wellCodeWrite
  repeat' (first
    | with_reducible exact Or.inl rfl | exact Or.inr (bit_of hP rfl)
    | ((try lift_lets -underBinder); intro x; refine letS (P := P) (s₀ := s₀) (x := x) ?_ (fun _ => ?_); unfold x; rotate_left; clear_value x)
    | ((try lift_lets -underBinder); intro x; clear_value x) | with_reducible assumption | split
    | with_reducible apply State.put_framed | with_reducible apply State.raise_framed
    | with_reducible apply State.setWell_framed | with_reducible apply State.wellCode_framed | exact maskIn_trans hP rfl
    | exact bit_of hP rfl | dsimp -zeta only | with_reducible apply Framed.mk_of)

theorem execWellCodeWrite_framed {P : Nat} {s₀ : State} (channel : Nat) (code : BitVec 32) (s : State) (hI : Framed P s₀
    s) (hP : maskIn 0xffffffffff P) : FramedO P s₀ (execWellCodeWrite channel code s) := by
  unfold execWellCodeWrite
  repeat' (first
    | refine fun (s : State) (hs : Framed P s₀ s) => ?_ | refine fun (_ : _) (s : State) (hs : Framed P s₀ s) => ?_
    | refine fun (_ : _) (_ : _) (s : State) (hs : Framed P s₀ s) => ?_ | with_reducible assumption
    | with_reducible apply id_framed | split | with_reducible apply when_framed | with_reducible apply FramedO_next
    | with_reducible apply State.submit_framed | with_reducible apply State.wellCodeWrite_framed
    | with_reducible apply State.regWrite_framed | exact maskIn_trans hP rfl | dsimp -zeta only)

theorem State.wellCfgWrite_framed {P : Nat} {s₀ : State} (s : State) (m v : Nat) (hI : Framed P s₀ s) (hP : maskIn
    0x8010010000 P) : Framed P s₀ (State.wellCfgWrite s m v) := by
  unfold State.wellCfgWrite
  repeat' (first
    | with_reducible exact Or.inl rfl | exact Or.inr (bit_of hP rfl)
    | ((try lift_lets -underBinder); intro x; refine letS (P := P) (s₀ := s₀) (x := x) ?_ (fun _ => ?_); unfold x; rotate_left; clear_value x)
    | ((try lift_lets -underBinder); intro x; clear_value x) | with_reducible assumption | split
    | with_reducible apply State.setWord_framed | with_reducible apply State.setWell_framed | exact maskIn_trans hP rfl
    | dsimp -zeta only | with_reducible apply Framed.mk_of)

theorem execWellCfgWrite_framed {P : Nat} {s₀ : State} (channel : Nat) (value : BitVec 32) (s : State) (hI : Framed P s₀
    s) (hP : maskIn 0xffffffffff P) : FramedO P s₀ (execWellCfgWrite channel value s) := by
  unfold execWellCfgWrite
  repeat' (first
    | refine fun (s : State) (hs : Framed P s₀ s) => ?_ | refine fun (_ : _) (s : State) (hs : Framed P s₀ s) => ?_
    | refine fun (_ : _) (_ : _) (s : State) (hs : Framed P s₀ s) => ?_ | with_reducible assumption
    | with_reducible apply id_framed | split | with_reducible apply when_framed | with_reducible apply FramedO_next
    | with_reducible apply State.submit_framed | with_reducible apply State.wellCfgWrite_framed
    | with_reducible apply State.regWrite_framed | exact maskIn_trans hP rfl | dsimp -zeta only)

theorem execWellChangeSwitch_framed {P : Nat} {s₀ : State} (channel : Nat) (s : State) (hI : Framed P s₀ s) (hP : maskIn
    0x10010000 P) : FramedO P s₀ (execWellChangeSwitch channel s) := by
  unfold execWellChangeSwitch
  repeat' (first
    | with_reducible exact Or.inl rfl | exact Or.inr (bit_of hP rfl) | refine fun (s : State) (hs : Framed P s₀ s) => ?_
    | refine fun (_ : _) (s : State) (hs : Framed P s₀ s) => ?_
    | refine fun (_ : _) (_ : _) (s : State) (hs : Framed P s₀ s) => ?_
    | ((try lift_lets -underBinder); intro x; refine letS (P := P) (s₀ := s₀) (x := x) ?_ (fun _ => ?_); unfold x; rotate_left; clear_value x)
    | ((try lift_lets -underBinder); intro x; clear_value x) | with_reducible assumption | with_reducible apply id_framed
    | with_reducible apply when_framed | with_reducible apply FramedO_next | with_reducible apply State.setWell_framed
    | exact maskIn_trans hP rfl | dsimp -zeta only | with_reducible apply Framed.mk_of)

theorem State.wellDirect_framed {P : Nat} {s₀ : State} (s : State) (m : Nat) (v : Int) (hI : Framed P s₀ s) (hP : maskIn
    0x10010400 P) : Framed P s₀ (State.wellDirect s m v) := by
  unfold State.wellDirect
  repeat' (first
    | with_reducible exact Or.inl rfl | exact Or.inr (bit_of hP rfl)
    | ((try lift_lets -underBinder); intro x; refine letS (P := P) (s₀ := s₀) (x := x) ?_ (fun _ => ?_); unfold x; rotate_left; clear_value x)
    | ((try lift_lets -underBinder); intro x; clear_value x) | with_reducible assumption | split
    | with_reducible apply State.wellSample_framed | exact maskIn_trans hP rfl | dsimp -zeta only
    | with_reducible apply Framed.mk_of)

theorem State.netDirect_framed {P : Nat} {s₀ : State} (s : State) (n : Nat) (hI : Framed P s₀ s) (hP : maskIn 0x400 P) :
    Framed P s₀ (State.netDirect s n) := by
  unfold State.netDirect
  repeat' (first
    | with_reducible exact Or.inl rfl | exact Or.inr (bit_of hP rfl)
    | ((try lift_lets -underBinder); intro x; refine letS (P := P) (s₀ := s₀) (x := x) ?_ (fun _ => ?_); unfold x; rotate_left; clear_value x)
    | ((try lift_lets -underBinder); intro x; clear_value x) | with_reducible assumption | split | dsimp -zeta only
    | with_reducible apply Framed.mk_of)

theorem execDirectPathWord_framed {P : Nat} {s₀ : State} (port slot : Nat) (word : BitVec 32) (s : State) (hI : Framed P
    s₀ s) (hP : maskIn 0x30014400 P) : FramedO P s₀ (execDirectPathWord port slot word s) := by
  unfold execDirectPathWord
  repeat' (first
    | with_reducible exact Or.inl rfl | exact Or.inr (bit_of hP rfl) | refine fun (s : State) (hs : Framed P s₀ s) => ?_
    | refine fun (_ : _) (s : State) (hs : Framed P s₀ s) => ?_
    | refine fun (_ : _) (_ : _) (s : State) (hs : Framed P s₀ s) => ?_
    | ((try lift_lets -underBinder); intro x; refine letS (P := P) (s₀ := s₀) (x := x) ?_ (fun _ => ?_); unfold x; rotate_left; clear_value x)
    | ((try lift_lets -underBinder); intro x; refine letS (P := P) (s₀ := s₀) (x := x.2) ?_ (fun _ => ?_); unfold x; rotate_left; clear_value x)
    | ((try lift_lets -underBinder); intro x; refine letS (P := P) (s₀ := s₀) (x := x.1) ?_ (fun _ => ?_); unfold x; rotate_left; clear_value x)
    | ((try lift_lets -underBinder); intro x; clear_value x) | with_reducible assumption | with_reducible apply id_framed
    | split | with_reducible apply when_framed | with_reducible refine forL_framed ?_ (fun _ _ _ => ?_)
    | with_reducible refine forL1_framed ?_ (fun _ _ _ => ?_) | with_reducible refine forL2_framed ?_ (fun _ _ _ => ?_)
    | with_reducible apply FramedO_next | with_reducible apply State.tdmDirect_framed
    | with_reducible apply State.setWell_framed | with_reducible apply State.wellSample_framed
    | with_reducible apply State.wellDirect_framed | with_reducible apply State.netDirect_framed | exact maskIn_trans hP rfl
    | dsimp -zeta only | with_reducible apply Framed.mk_of)

end Sys2Proof.Machine
end

