-- ==== Sys2Proof/Laws/FramedNetwork.lean ====
section
/-! SUPPORT. What the operations and commands of Machine/Network.lean can change, as masks of parts (Laws/Framed.lean): one lemma
for each. -/

namespace Sys2Proof.Machine

open Sys2Proof

theorem legFd_blk (plane : Nat) : (legFd plane).blk = 11 := by
  unfold legFd; repeat' split
  all_goals rfl

theorem State.setSwPort_framed {P : Nat} {s₀ : State} (s : State) (p : Nat) (x : SwPort) (hI : Framed P s₀ s) (hP : maskIn
    0x8000 P) : Framed P s₀ (State.setSwPort s p x) := by
  unfold State.setSwPort
  repeat' (first
    | with_reducible exact Or.inl rfl | exact Or.inr (bit_of hP rfl) | with_reducible assumption | dsimp -zeta only
    | with_reducible apply Framed.mk_of)

theorem State.swDrop_framed {P : Nat} {s₀ : State} (s : State) (p media other : Nat) (hI : Framed P s₀ s) (hP : maskIn
    0x40848000 P) : Framed P s₀ (State.swDrop s p media other) := by
  unfold State.swDrop
  repeat' (first
    | with_reducible exact Or.inl rfl | exact Or.inr (bit_of hP rfl)
    | ((try lift_lets -underBinder); intro x; refine letS (P := P) (s₀ := s₀) (x := x) ?_ (fun _ => ?_); unfold x; rotate_left; clear_value x)
    | ((try lift_lets -underBinder); intro x; clear_value x) | with_reducible assumption | split
    | with_reducible apply State.addSat_framed | with_reducible apply State.raise_framed
    | with_reducible apply State.setSwPort_framed | exact maskIn_trans hP rfl | exact bit_of hP rfl | dsimp -zeta only
    | with_reducible apply Framed.mk_of)

theorem execNetLinkUp_framed {P : Nat} {s₀ : State} (port : Nat) (s : State) (hI : Framed P s₀ s) (hP : maskIn 0x40840000
    P) : FramedO P s₀ (execNetLinkUp port s) := by
  unfold execNetLinkUp
  repeat' (first
    | refine fun (s : State) (hs : Framed P s₀ s) => ?_ | refine fun (_ : _) (s : State) (hs : Framed P s₀ s) => ?_
    | refine fun (_ : _) (_ : _) (s : State) (hs : Framed P s₀ s) => ?_
    | ((try lift_lets -underBinder); intro x; refine letS (P := P) (s₀ := s₀) (x := x) ?_ (fun _ => ?_); unfold x; rotate_left; clear_value x)
    | ((try lift_lets -underBinder); intro x; clear_value x) | with_reducible assumption | with_reducible apply id_framed
    | split | with_reducible apply when_framed | with_reducible apply FramedO_next | with_reducible apply State.put_framed
    | with_reducible apply State.raise_framed | exact maskIn_trans hP rfl | exact bit_of hP rfl | dsimp -zeta only)

theorem State.linkDown_framed {P : Nat} {s₀ : State} (s : State) (p : Nat) (hI : Framed P s₀ s) (hP : maskIn 0x40848000 P)
    : Framed P s₀ (State.linkDown s p) := by
  unfold State.linkDown
  repeat' (first

    | ((try lift_lets -underBinder); intro x; refine letS (P := P) (s₀ := s₀) (x := x) ?_ (fun _ => ?_); unfold x; rotate_left; clear_value x)
    | ((try lift_lets -underBinder); intro x; clear_value x) | with_reducible assumption | split
    | with_reducible apply State.put_framed | with_reducible apply State.incSat_framed
    | with_reducible apply State.raise_framed | with_reducible apply State.setSwPort_framed
    | with_reducible apply State.swDrop_framed | exact maskIn_trans hP rfl | exact bit_of hP rfl | dsimp -zeta only)

theorem execNetLinkDown_framed {P : Nat} {s₀ : State} (port : Nat) (s : State) (hI : Framed P s₀ s) (hP : maskIn
    0x40848000 P) : FramedO P s₀ (execNetLinkDown port s) := by
  unfold execNetLinkDown
  repeat' (first
    | refine fun (s : State) (hs : Framed P s₀ s) => ?_ | refine fun (_ : _) (s : State) (hs : Framed P s₀ s) => ?_
    | refine fun (_ : _) (_ : _) (s : State) (hs : Framed P s₀ s) => ?_ | with_reducible assumption
    | with_reducible apply id_framed | with_reducible apply when_framed | with_reducible apply FramedO_next
    | with_reducible apply State.linkDown_framed | exact maskIn_trans hP rfl | dsimp -zeta only)

theorem State.ipv4Write_framed {P : Nat} {s₀ : State} (s : State) (x a : Nat) (hI : Framed P s₀ s) (hP : maskIn 0x40008000
    P) : Framed P s₀ (State.ipv4Write s x a) := by
  unfold State.ipv4Write
  repeat' (first
    | with_reducible exact Or.inl rfl | exact Or.inr (bit_of hP rfl)
    | ((try lift_lets -underBinder); intro x; refine letS (P := P) (s₀ := s₀) (x := x) ?_ (fun _ => ?_); unfold x; rotate_left; clear_value x)
    | ((try lift_lets -underBinder); intro x; clear_value x) | with_reducible assumption | split
    | with_reducible apply State.put_framed | exact bit_of hP rfl | dsimp -zeta only | with_reducible apply Framed.mk_of)

theorem execIpv4Write_framed {P : Nat} {s₀ : State} (plane : Nat) (addr : BitVec 32) (s : State) (hI : Framed P s₀ s) (hP
    : maskIn 0xffffffffff P) : FramedO P s₀ (execIpv4Write plane addr s) := by
  unfold execIpv4Write
  repeat' (first
    | refine fun (s : State) (hs : Framed P s₀ s) => ?_ | refine fun (_ : _) (s : State) (hs : Framed P s₀ s) => ?_
    | refine fun (_ : _) (_ : _) (s : State) (hs : Framed P s₀ s) => ?_ | with_reducible assumption
    | with_reducible apply id_framed | split | with_reducible apply when_framed | with_reducible apply FramedO_next
    | with_reducible apply State.submit_framed | with_reducible apply State.ipv4Write_framed
    | with_reducible apply State.regWrite_framed | exact maskIn_trans hP rfl | dsimp -zeta only)

theorem execAddrProbeEnd_framed {P : Nat} {s₀ : State} (plane : Nat) (s : State) (hI : Framed P s₀ s) (hP : maskIn
    0x40008000 P) : FramedO P s₀ (execAddrProbeEnd plane s) := by
  unfold execAddrProbeEnd
  repeat' (first
    | with_reducible exact Or.inl rfl | exact Or.inr (bit_of hP rfl) | refine fun (s : State) (hs : Framed P s₀ s) => ?_
    | refine fun (_ : _) (s : State) (hs : Framed P s₀ s) => ?_
    | refine fun (_ : _) (_ : _) (s : State) (hs : Framed P s₀ s) => ?_
    | ((try lift_lets -underBinder); intro x; refine letS (P := P) (s₀ := s₀) (x := x) ?_ (fun _ => ?_); unfold x; rotate_left; clear_value x)
    | ((try lift_lets -underBinder); intro x; clear_value x) | with_reducible assumption | with_reducible apply id_framed
    | with_reducible apply when_framed | with_reducible apply FramedO_next | with_reducible apply State.put_framed
    | exact bit_of hP rfl | dsimp -zeta only | with_reducible apply Framed.mk_of)

theorem execNetAddrConflict_framed {P : Nat} {s₀ : State} (plane : Nat) (s : State) (hI : Framed P s₀ s) (hP : maskIn
    0x40848000 P) : FramedO P s₀ (execNetAddrConflict plane s) := by
  unfold execNetAddrConflict
  repeat' (first
    | with_reducible exact Or.inl rfl | exact Or.inr (bit_of hP rfl) | refine fun (s : State) (hs : Framed P s₀ s) => ?_
    | refine fun (_ : _) (s : State) (hs : Framed P s₀ s) => ?_
    | refine fun (_ : _) (_ : _) (s : State) (hs : Framed P s₀ s) => ?_
    | ((try lift_lets -underBinder); intro x; refine letS (P := P) (s₀ := s₀) (x := x) ?_ (fun _ => ?_); unfold x; rotate_left; clear_value x)
    | ((try lift_lets -underBinder); intro x; clear_value x) | with_reducible assumption | with_reducible apply id_framed
    | with_reducible apply when_framed | with_reducible apply FramedO_next | with_reducible apply State.put_framed
    | with_reducible apply State.raise_framed | exact maskIn_trans hP rfl | exact bit_of hP rfl | dsimp -zeta only
    | with_reducible apply Framed.mk_of)

theorem State.enqueueFrame_framed {P : Nat} {s₀ : State} (s : State) (p q len : Nat) (hI : Framed P s₀ s) (hP : maskIn
    0x40848000 P) : Framed P s₀ (State.enqueueFrame s p q len) := by
  unfold State.enqueueFrame
  repeat' (first
    | with_reducible exact Or.inl rfl | exact Or.inr (bit_of hP rfl)
    | ((try lift_lets -underBinder); intro x; refine letS (P := P) (s₀ := s₀) (x := x) ?_ (fun _ => ?_); unfold x; rotate_left; clear_value x)
    | ((try lift_lets -underBinder); intro x; clear_value x) | with_reducible assumption | split
    | with_reducible refine foldl_framed ?_ (fun _ _ _ => ?_) | with_reducible apply State.setSwPort_framed
    | with_reducible apply State.swDrop_framed | exact maskIn_trans hP rfl | dsimp -zeta only
    | with_reducible apply Framed.mk_of)

theorem State.snoop_framed {P : Nat} {s₀ : State} (s : State) (f : SwFrame) (hI : Framed P s₀ s) (hP : maskIn 0x40008000
    P) : Framed P s₀ (State.snoop s f) := by
  unfold State.snoop
  repeat' (first
    | with_reducible exact Or.inl rfl | exact Or.inr (bit_of hP rfl)
    | ((try lift_lets -underBinder); intro x; refine letS (P := P) (s₀ := s₀) (x := x) ?_ (fun _ => ?_); unfold x; rotate_left; clear_value x)
    | ((try lift_lets -underBinder); intro x; clear_value x) | with_reducible assumption | split | dsimp -zeta only
    | with_reducible apply Framed.mk_of)

theorem State.learn_framed {P : Nat} {s₀ : State} (s : State) (f : SwFrame) (hI : Framed P s₀ s) (hP : maskIn 0x8000 P) :
    Framed P s₀ (State.learn s f) := by
  unfold State.learn
  repeat' (first
    | with_reducible exact Or.inl rfl | exact Or.inr (bit_of hP rfl)
    | ((try lift_lets -underBinder); intro x; refine letS (P := P) (s₀ := s₀) (x := x) ?_ (fun _ => ?_); unfold x; rotate_left; clear_value x)
    | ((try lift_lets -underBinder); intro x; clear_value x) | with_reducible assumption | split | dsimp -zeta only
    | with_reducible apply Framed.mk_of)

theorem execSwitchFrame_framed {P : Nat} {s₀ : State} (f : SwFrame) (s : State) (hI : Framed P s₀ s) (hP : maskIn
    0x40848000 P) : FramedO P s₀ (execSwitchFrame f s) := by
  unfold execSwitchFrame
  repeat' (first
    | with_reducible exact Or.inl rfl | exact Or.inr (bit_of hP rfl) | refine fun (s : State) (hs : Framed P s₀ s) => ?_
    | refine fun (_ : _) (s : State) (hs : Framed P s₀ s) => ?_
    | refine fun (_ : _) (_ : _) (s : State) (hs : Framed P s₀ s) => ?_
    | ((try lift_lets -underBinder); intro x; refine letS (P := P) (s₀ := s₀) (x := x) ?_ (fun _ => ?_); unfold x; rotate_left; clear_value x)
    | ((try lift_lets -underBinder); intro x; refine letF (P := P) (s₀ := s₀) (f := x) (fun _ _ => ?_) (fun hf => ?_); unfold x; rotate_left; clear_value x)
    | ((try lift_lets -underBinder); intro x; clear_value x) | with_reducible assumption | with_reducible apply id_framed
    | split | with_reducible apply when_framed | with_reducible refine forN_framed ?_ (fun _ _ _ => ?_)
    | with_reducible apply FramedO_next | with_reducible apply State.incSat_framed
    | with_reducible apply State.enqueueFrame_framed | with_reducible apply State.snoop_framed
    | with_reducible apply State.learn_framed | with_reducible apply hf | exact maskIn_trans hP rfl | exact bit_of hP rfl
    | dsimp -zeta only | with_reducible apply Framed.mk_of)

theorem execMacAgeOut_framed {P : Nat} {s₀ : State} (plane mac : Nat) (s : State) (hI : Framed P s₀ s) (hP : maskIn
    0x40008000 P) : FramedO P s₀ (execMacAgeOut plane mac s) := by
  unfold execMacAgeOut
  repeat' (first
    | with_reducible exact Or.inl rfl | exact Or.inr (bit_of hP rfl) | refine fun (s : State) (hs : Framed P s₀ s) => ?_
    | refine fun (_ : _) (s : State) (hs : Framed P s₀ s) => ?_
    | refine fun (_ : _) (_ : _) (s : State) (hs : Framed P s₀ s) => ?_ | with_reducible assumption
    | with_reducible apply id_framed | with_reducible apply when_framed | with_reducible apply FramedO_next
    | dsimp -zeta only | with_reducible apply Framed.mk_of)

theorem State.setRx_framed {P : Nat} {s₀ : State} (s : State) (i : Nat) (x : RxStream) (hI : Framed P s₀ s) (hP : maskIn
    0x8000 P) : Framed P s₀ (State.setRx s i x) := by
  unfold State.setRx
  repeat' (first
    | with_reducible exact Or.inl rfl | exact Or.inr (bit_of hP rfl) | with_reducible assumption | dsimp -zeta only
    | with_reducible apply Framed.mk_of)

theorem State.setTx_framed {P : Nat} {s₀ : State} (s : State) (i : Nat) (x : TxStream) (hI : Framed P s₀ s) (hP : maskIn
    0x8000 P) : Framed P s₀ (State.setTx s i x) := by
  unfold State.setTx
  repeat' (first
    | with_reducible exact Or.inl rfl | exact Or.inr (bit_of hP rfl) | with_reducible assumption | dsimp -zeta only
    | with_reducible apply Framed.mk_of)

theorem State.rxEnable_framed {P : Nat} {s₀ : State} (s : State) (i : Nat) (hI : Framed P s₀ s) (hP : maskIn 0x80848000 P)
    : Framed P s₀ (State.rxEnable s i) := by
  unfold State.rxEnable
  repeat' (first
    | with_reducible exact Or.inl rfl | exact Or.inr (bit_of hP rfl)
    | ((try lift_lets -underBinder); intro x; refine letS (P := P) (s₀ := s₀) (x := x) ?_ (fun _ => ?_); unfold x; rotate_left; clear_value x)
    | ((try lift_lets -underBinder); intro x; clear_value x) | with_reducible assumption | split
    | with_reducible apply State.put_framed | with_reducible apply State.raise_framed
    | with_reducible apply State.setRx_framed | exact maskIn_trans hP rfl | exact bit_of hP rfl | dsimp -zeta only
    | with_reducible apply Framed.mk_of)

theorem State.txEnable_framed {P : Nat} {s₀ : State} (s : State) (i : Nat) (hI : Framed P s₀ s) (hP : maskIn 0x80848000 P)
    : Framed P s₀ (State.txEnable s i) := by
  unfold State.txEnable
  repeat' (first
    | with_reducible exact Or.inl rfl | exact Or.inr (bit_of hP rfl)
    | ((try lift_lets -underBinder); intro x; refine letS (P := P) (s₀ := s₀) (x := x) ?_ (fun _ => ?_); unfold x; rotate_left; clear_value x)
    | ((try lift_lets -underBinder); intro x; clear_value x) | with_reducible assumption | split
    | with_reducible apply State.put_framed | with_reducible apply State.raise_framed
    | with_reducible apply State.setTx_framed | exact maskIn_trans hP rfl | exact bit_of hP rfl | dsimp -zeta only
    | with_reducible apply Framed.mk_of)

theorem State.rxDisable_framed {P : Nat} {s₀ : State} (s : State) (i : Nat) (hI : Framed P s₀ s) (hP : maskIn 0x80008000
    P) : Framed P s₀ (State.rxDisable s i) := by
  unfold State.rxDisable
  repeat' (first
    | with_reducible exact Or.inl rfl | exact Or.inr (bit_of hP rfl) | with_reducible assumption | split
    | with_reducible apply State.put_framed | with_reducible apply State.setRx_framed | exact maskIn_trans hP rfl
    | exact bit_of hP rfl | dsimp -zeta only | with_reducible apply Framed.mk_of)

theorem State.sdpWrite_framed {P : Nat} {s₀ : State} (s : State) (i : Nat) (t : List Byte) (hI : Framed P s₀ s) (hP :
    maskIn 0x8000a000 P) : Framed P s₀ (State.sdpWrite s i t) := by
  unfold State.sdpWrite
  repeat' (first
    | with_reducible exact Or.inl rfl | exact Or.inr (bit_of hP rfl)
    | ((try lift_lets -underBinder); intro x; refine letS (P := P) (s₀ := s₀) (x := x) ?_ (fun _ => ?_); unfold x; rotate_left; clear_value x)
    | ((try lift_lets -underBinder); intro x; clear_value x) | with_reducible assumption | split
    | with_reducible apply State.put_framed | with_reducible apply State.setObj_framed
    | with_reducible apply State.setRx_framed | exact maskIn_trans hP rfl | exact bit_of hP rfl | dsimp -zeta only
    | with_reducible apply Framed.mk_of)

theorem execSdpWrite_framed {P : Nat} {s₀ : State} (stream : Nat) (text : List Byte) (s : State) (hI : Framed P s₀ s) (hP
    : maskIn 0x8000a000 P) : FramedO P s₀ (execSdpWrite stream text s) := by
  unfold execSdpWrite
  repeat' (first
    | refine fun (s : State) (hs : Framed P s₀ s) => ?_ | refine fun (_ : _) (s : State) (hs : Framed P s₀ s) => ?_
    | refine fun (_ : _) (_ : _) (s : State) (hs : Framed P s₀ s) => ?_ | with_reducible assumption
    | with_reducible apply id_framed | with_reducible apply when_framed | with_reducible apply FramedO_next
    | with_reducible apply State.sdpWrite_framed | exact maskIn_trans hP rfl | dsimp -zeta only)

theorem State.txDisable_framed {P : Nat} {s₀ : State} (s : State) (i : Nat) (hI : Framed P s₀ s) (hP : maskIn 0x80008000
    P) : Framed P s₀ (State.txDisable s i) := by
  unfold State.txDisable
  repeat' (first
    | with_reducible exact Or.inl rfl | exact Or.inr (bit_of hP rfl)
    | ((try lift_lets -underBinder); intro x; refine letS (P := P) (s₀ := s₀) (x := x) ?_ (fun _ => ?_); unfold x; rotate_left; clear_value x)
    | ((try lift_lets -underBinder); intro x; clear_value x) | with_reducible assumption | split
    | with_reducible apply State.put_framed | with_reducible apply State.setTx_framed | exact maskIn_trans hP rfl
    | exact bit_of hP rfl | dsimp -zeta only | with_reducible apply Framed.mk_of)

theorem execStreamEnable_framed {P : Nat} {s₀ : State} (tx : Bool) (stream : Nat) (s : State) (hI : Framed P s₀ s) (hP :
    maskIn 0xffffffffff P) : FramedO P s₀ (execStreamEnable tx stream s) := by
  unfold execStreamEnable
  repeat' (first
    | refine fun (s : State) (hs : Framed P s₀ s) => ?_ | refine fun (_ : _) (s : State) (hs : Framed P s₀ s) => ?_
    | refine fun (_ : _) (_ : _) (s : State) (hs : Framed P s₀ s) => ?_ | with_reducible assumption
    | with_reducible apply id_framed | split | with_reducible apply when_framed | with_reducible apply FramedO_next
    | with_reducible apply State.submit_framed | with_reducible apply State.rxEnable_framed
    | with_reducible apply State.txEnable_framed | with_reducible apply State.regWrite_framed | exact maskIn_trans hP rfl
    | dsimp -zeta only)

theorem execStreamDisable_framed {P : Nat} {s₀ : State} (tx : Bool) (stream : Nat) (s : State) (hI : Framed P s₀ s) (hP :
    maskIn 0xffffffffff P) : FramedO P s₀ (execStreamDisable tx stream s) := by
  unfold execStreamDisable
  repeat' (first
    | refine fun (s : State) (hs : Framed P s₀ s) => ?_ | refine fun (_ : _) (s : State) (hs : Framed P s₀ s) => ?_
    | refine fun (_ : _) (_ : _) (s : State) (hs : Framed P s₀ s) => ?_ | with_reducible assumption
    | with_reducible apply id_framed | split | with_reducible apply when_framed | with_reducible apply FramedO_next
    | with_reducible apply State.submit_framed | with_reducible apply State.rxDisable_framed
    | with_reducible apply State.txDisable_framed | with_reducible apply State.regWrite_framed | exact maskIn_trans hP rfl
    | dsimp -zeta only)

theorem State.rxPlace_framed {P : Nat} {s₀ : State} (s : State) (i : Nat) (u : Int) (p : RtpPacket) (hI : Framed P s₀ s)
    (hP : maskIn 0x80008000 P) : Framed P s₀ (State.rxPlace s i u p) := by
  unfold State.rxPlace
  repeat' (first
    | with_reducible exact Or.inl rfl | exact Or.inr (bit_of hP rfl)
    | ((try lift_lets -underBinder); intro x; refine letS (P := P) (s₀ := s₀) (x := x) ?_ (fun _ => ?_); unfold x; rotate_left; clear_value x)
    | ((try lift_lets -underBinder); intro x; clear_value x) | with_reducible assumption | split
    | with_reducible refine forN_framed ?_ (fun _ _ _ => ?_) | with_reducible apply State.setRx_framed
    | exact maskIn_trans hP rfl | dsimp -zeta only | with_reducible apply Framed.mk_of)

theorem State.rxAlive_framed {P : Nat} {s₀ : State} (s : State) (i plane : Nat) (hI : Framed P s₀ s) (hP : maskIn
    0x80848000 P) : Framed P s₀ (State.rxAlive s i plane) := by
  unfold State.rxAlive
  repeat' (first
    | with_reducible exact Or.inl rfl | exact Or.inr (bit_of hP rfl)
    | ((try lift_lets -underBinder); intro x; refine letS (P := P) (s₀ := s₀) (x := x) ?_ (fun _ => ?_); unfold x; rotate_left; clear_value x)
    | ((try lift_lets -underBinder); intro x; clear_value x) | with_reducible assumption | split
    | with_reducible apply State.put_framed | with_reducible apply State.addWrap_framed
    | with_reducible apply State.raise_framed | with_reducible apply State.setRx_framed | exact maskIn_trans hP rfl
    | exact bit_of hP rfl | (rw [legFd_blk]; exact bit_of hP rfl) | dsimp -zeta only | with_reducible apply Framed.mk_of)

theorem State.rxPacket_framed {P : Nat} {s₀ : State} (s : State) (i : Nat) (p : RtpPacket) (hI : Framed P s₀ s) (hP :
    maskIn 0x80848200 P) : Framed P s₀ (State.rxPacket s i p) := by
  unfold State.rxPacket
  repeat' (first
    | with_reducible exact Or.inl rfl | exact Or.inr (bit_of hP rfl)
    | ((try lift_lets -underBinder); intro x; refine letS (P := P) (s₀ := s₀) (x := x) ?_ (fun _ => ?_); unfold x; rotate_left; clear_value x)
    | ((try lift_lets -underBinder); intro x; clear_value x) | with_reducible assumption | split
    | with_reducible apply State.incSat_framed | with_reducible apply State.stamp_framed
    | with_reducible apply State.rxPlace_framed | with_reducible apply State.rxAlive_framed | exact maskIn_trans hP rfl
    | exact bit_of hP rfl | dsimp -zeta only | with_reducible apply Framed.mk_of)

theorem execRtpPacketRx_framed {P : Nat} {s₀ : State} (p : RtpPacket) (s : State) (hI : Framed P s₀ s) (hP : maskIn
    0x80848200 P) : FramedO P s₀ (execRtpPacketRx p s) := by
  unfold execRtpPacketRx
  repeat' (first
    | refine fun (s : State) (hs : Framed P s₀ s) => ?_ | refine fun (_ : _) (s : State) (hs : Framed P s₀ s) => ?_
    | refine fun (_ : _) (_ : _) (s : State) (hs : Framed P s₀ s) => ?_
    | ((try lift_lets -underBinder); intro x; refine letS (P := P) (s₀ := s₀) (x := x) ?_ (fun _ => ?_); unfold x; rotate_left; clear_value x)
    | ((try lift_lets -underBinder); intro x; clear_value x) | with_reducible assumption | with_reducible apply id_framed
    | split | with_reducible apply when_framed | with_reducible refine forL_framed ?_ (fun _ _ _ => ?_)
    | with_reducible apply FramedO_next | with_reducible apply State.rxPacket_framed | exact maskIn_trans hP rfl
    | dsimp -zeta only)

theorem State.conceal_framed {P : Nat} {s₀ : State} (s : State) (i : Nat) (hI : Framed P s₀ s) (hP : maskIn 0x80848000 P)
    : Framed P s₀ (State.conceal s i) := by
  unfold State.conceal
  repeat' (first
    | with_reducible exact Or.inl rfl | exact Or.inr (bit_of hP rfl)
    | ((try lift_lets -underBinder); intro x; refine letS (P := P) (s₀ := s₀) (x := x) ?_ (fun _ => ?_); unfold x; rotate_left; clear_value x)
    | ((try lift_lets -underBinder); intro x; clear_value x) | with_reducible assumption | split
    | with_reducible apply State.incSat_framed | with_reducible apply State.raise_framed
    | with_reducible apply State.setRx_framed | exact maskIn_trans hP rfl | exact bit_of hP rfl | dsimp -zeta only
    | with_reducible apply Framed.mk_of)

theorem State.rxBlock_framed {P : Nat} {s₀ : State} (s : State) (j i : Nat) (hI : Framed P s₀ s) (hP : maskIn 0x80848400
    P) : Framed P s₀ (State.rxBlock s j i) := by
  unfold State.rxBlock
  repeat' (first
    | with_reducible exact Or.inl rfl | exact Or.inr (bit_of hP rfl)
    | ((try lift_lets -underBinder); intro x; refine letS (P := P) (s₀ := s₀) (x := x) ?_ (fun _ => ?_); unfold x; rotate_left; clear_value x)
    | ((try lift_lets -underBinder); intro x; refine letS (P := P) (s₀ := s₀) (x := x.2) ?_ (fun _ => ?_); unfold x; rotate_left; clear_value x)
    | ((try lift_lets -underBinder); intro x; refine letS (P := P) (s₀ := s₀) (x := x.1) ?_ (fun _ => ?_); unfold x; rotate_left; clear_value x)
    | ((try lift_lets -underBinder); intro x; clear_value x) | with_reducible assumption | split
    | with_reducible refine forL_framed ?_ (fun _ _ _ => ?_) | with_reducible refine forL1_framed ?_ (fun _ _ _ => ?_)
    | with_reducible refine forL2_framed ?_ (fun _ _ _ => ?_) | with_reducible refine forN_framed ?_ (fun _ _ _ => ?_)
    | with_reducible refine forN1_framed ?_ (fun _ _ _ => ?_) | with_reducible refine forN2_framed ?_ (fun _ _ _ => ?_)
    | with_reducible apply State.putSrc_framed | with_reducible apply State.setRx_framed
    | with_reducible apply State.conceal_framed | exact maskIn_trans hP rfl | dsimp -zeta only
    | with_reducible apply Framed.mk_of)

theorem State.rxBoundary_framed {P : Nat} {s₀ : State} (s : State) (hI : Framed P s₀ s) (hP : maskIn 0x81008000 P) :
    Framed P s₀ (State.rxBoundary s) := by
  unfold State.rxBoundary
  repeat' (first
    | with_reducible exact Or.inl rfl | exact Or.inr (bit_of hP rfl)
    | ((try lift_lets -underBinder); intro x; refine letS (P := P) (s₀ := s₀) (x := x) ?_ (fun _ => ?_); unfold x; rotate_left; clear_value x)
    | ((try lift_lets -underBinder); intro x; refine letF (P := P) (s₀ := s₀) (f := x) (fun _ _ => ?_) (fun hf => ?_); unfold x; rotate_left; clear_value x)
    | ((try lift_lets -underBinder); intro x; clear_value x) | with_reducible assumption | split
    | with_reducible refine forL_framed ?_ (fun _ _ _ => ?_) | with_reducible apply State.put_framed
    | with_reducible apply State.setRx_framed | with_reducible apply hf | exact maskIn_trans hP rfl | exact bit_of hP rfl
    | dsimp -zeta only | with_reducible apply Framed.mk_of)

theorem State.netIngress_framed {P : Nat} {s₀ : State} (s : State) (j : Nat) (hI : Framed P s₀ s) (hP : maskIn
    0x19c18486c9 P) : Framed P s₀ (State.netIngress s j) := by
  unfold State.netIngress
  repeat' (first
    | with_reducible exact Or.inl rfl | exact Or.inr (bit_of hP rfl)
    | ((try lift_lets -underBinder); intro x; refine letS (P := P) (s₀ := s₀) (x := x) ?_ (fun _ => ?_); unfold x; rotate_left; clear_value x)
    | ((try lift_lets -underBinder); intro x; clear_value x) | with_reducible assumption | split
    | with_reducible refine forL_framed ?_ (fun _ _ _ => ?_) | with_reducible refine forN_framed ?_ (fun _ _ _ => ?_)
    | with_reducible apply State.ingressPost_framed | with_reducible apply State.rxBlock_framed
    | with_reducible apply State.rxBoundary_framed | exact maskIn_trans hP rfl | dsimp -zeta only
    | with_reducible apply Framed.mk_of)

theorem execRxLegTimeout_framed {P : Nat} {s₀ : State} (stream plane : Nat) (s : State) (hI : Framed P s₀ s) (hP : maskIn
    0x80840000 P) : FramedO P s₀ (execRxLegTimeout stream plane s) := by
  unfold execRxLegTimeout
  repeat' (first
    | refine fun (s : State) (hs : Framed P s₀ s) => ?_ | refine fun (_ : _) (s : State) (hs : Framed P s₀ s) => ?_
    | refine fun (_ : _) (_ : _) (s : State) (hs : Framed P s₀ s) => ?_
    | ((try lift_lets -underBinder); intro x; refine letS (P := P) (s₀ := s₀) (x := x) ?_ (fun _ => ?_); unfold x; rotate_left; clear_value x)
    | ((try lift_lets -underBinder); intro x; clear_value x) | with_reducible assumption | with_reducible apply id_framed
    | split | with_reducible apply when_framed | with_reducible apply FramedO_next | with_reducible apply State.put_framed
    | with_reducible apply State.raise_framed | exact maskIn_trans hP rfl | exact bit_of hP rfl
    | (rw [legFd_blk]; exact bit_of hP rfl) | dsimp -zeta only)

theorem execRxIdleTimeout_framed {P : Nat} {s₀ : State} (stream : Nat) (s : State) (hI : Framed P s₀ s) (hP : maskIn
    0x80840000 P) : FramedO P s₀ (execRxIdleTimeout stream s) := by
  unfold execRxIdleTimeout
  repeat' (first
    | refine fun (s : State) (hs : Framed P s₀ s) => ?_ | refine fun (_ : _) (s : State) (hs : Framed P s₀ s) => ?_
    | refine fun (_ : _) (_ : _) (s : State) (hs : Framed P s₀ s) => ?_
    | ((try lift_lets -underBinder); intro x; refine letS (P := P) (s₀ := s₀) (x := x) ?_ (fun _ => ?_); unfold x; rotate_left; clear_value x)
    | ((try lift_lets -underBinder); intro x; clear_value x) | with_reducible assumption | with_reducible apply id_framed
    | with_reducible apply when_framed | with_reducible apply FramedO_next | with_reducible apply State.put_framed
    | with_reducible apply State.raise_framed | exact maskIn_trans hP rfl | exact bit_of hP rfl | dsimp -zeta only)

theorem State.txBoundary_framed {P : Nat} {s₀ : State} (s : State) (j : Nat) (hI : Framed P s₀ s) (hP : maskIn 0x81848000
    P) : Framed P s₀ (State.txBoundary s j) := by
  unfold State.txBoundary
  repeat' (first
    | with_reducible exact Or.inl rfl | exact Or.inr (bit_of hP rfl)
    | ((try lift_lets -underBinder); intro x; refine letS (P := P) (s₀ := s₀) (x := x) ?_ (fun _ => ?_); unfold x; rotate_left; clear_value x)
    | ((try lift_lets -underBinder); intro x; refine letF (P := P) (s₀ := s₀) (f := x) (fun _ _ => ?_) (fun hf => ?_); unfold x; rotate_left; clear_value x)
    | ((try lift_lets -underBinder); intro x; clear_value x) | with_reducible assumption | split
    | with_reducible refine forL_framed ?_ (fun _ _ _ => ?_) | with_reducible apply State.put_framed
    | with_reducible apply State.raise_framed | with_reducible apply State.setTx_framed | with_reducible apply hf
    | exact maskIn_trans hP rfl | exact bit_of hP rfl | dsimp -zeta only | with_reducible apply Framed.mk_of)

theorem State.txCollect_framed {P : Nat} {s₀ : State} (s : State) (j : Nat) (hI : Framed P s₀ s) (hP : maskIn 0x80848000
    P) : Framed P s₀ (State.txCollect s j) := by
  unfold State.txCollect
  repeat' (first
    | with_reducible exact Or.inl rfl | exact Or.inr (bit_of hP rfl)
    | ((try lift_lets -underBinder); intro x; refine letS (P := P) (s₀ := s₀) (x := x) ?_ (fun _ => ?_); unfold x; rotate_left; clear_value x)
    | ((try lift_lets -underBinder); intro x; clear_value x) | with_reducible assumption | split
    | with_reducible refine forL_framed ?_ (fun _ _ _ => ?_) | with_reducible refine forN_framed ?_ (fun _ _ _ => ?_)
    | with_reducible apply State.incSat_framed | with_reducible apply State.raise_framed
    | with_reducible apply State.setTx_framed | exact maskIn_trans hP rfl | exact bit_of hP rfl | dsimp -zeta only
    | with_reducible apply Framed.mk_of)

theorem execTxPacketClose_framed {P : Nat} {s₀ : State} (stream : Nat) (s : State) (hI : Framed P s₀ s) (hP : maskIn
    0x10c0008040 P) : FramedO P s₀ (execTxPacketClose stream s) := by
  unfold execTxPacketClose
  repeat' (first
    | with_reducible exact Or.inl rfl | exact Or.inr (bit_of hP rfl) | refine fun (s : State) (hs : Framed P s₀ s) => ?_
    | refine fun (_ : _) (s : State) (hs : Framed P s₀ s) => ?_
    | refine fun (_ : _) (_ : _) (s : State) (hs : Framed P s₀ s) => ?_
    | ((try lift_lets -underBinder); intro x; refine letS (P := P) (s₀ := s₀) (x := x) ?_ (fun _ => ?_); unfold x; rotate_left; clear_value x)
    | ((try lift_lets -underBinder); intro x; clear_value x) | with_reducible assumption | with_reducible apply id_framed
    | split | with_reducible apply when_framed | with_reducible refine forN_framed ?_ (fun _ _ _ => ?_)
    | with_reducible refine foldl_framed ?_ (fun _ _ _ => ?_) | with_reducible apply FramedO_next
    | with_reducible apply State.addWrap_framed | with_reducible apply State.egressCredit_framed
    | with_reducible apply State.setTx_framed | exact maskIn_trans hP rfl | exact bit_of hP rfl | dsimp -zeta only
    | with_reducible apply Framed.mk_of)

theorem execMdnsAnnounce_framed {P : Nat} {s₀ : State} (s : State) (hI : Framed P s₀ s) (hP : maskIn 0x8000 P) : FramedO P
    s₀ (execMdnsAnnounce s) := by
  unfold execMdnsAnnounce
  repeat' (first
    | with_reducible exact Or.inl rfl | exact Or.inr (bit_of hP rfl) | refine fun (s : State) (hs : Framed P s₀ s) => ?_
    | refine fun (_ : _) (s : State) (hs : Framed P s₀ s) => ?_
    | refine fun (_ : _) (_ : _) (s : State) (hs : Framed P s₀ s) => ?_ | with_reducible assumption
    | with_reducible apply id_framed | with_reducible apply when_framed | with_reducible apply FramedO_next
    | dsimp -zeta only | with_reducible apply Framed.mk_of)

theorem execSapAnnounce_framed {P : Nat} {s₀ : State} (stream : Nat) (s : State) (hI : Framed P s₀ s) (hP : maskIn
    0x80008000 P) : FramedO P s₀ (execSapAnnounce stream s) := by
  unfold execSapAnnounce
  repeat' (first
    | with_reducible exact Or.inl rfl | exact Or.inr (bit_of hP rfl) | refine fun (s : State) (hs : Framed P s₀ s) => ?_
    | refine fun (_ : _) (s : State) (hs : Framed P s₀ s) => ?_
    | refine fun (_ : _) (_ : _) (s : State) (hs : Framed P s₀ s) => ?_
    | ((try lift_lets -underBinder); intro x; refine letS (P := P) (s₀ := s₀) (x := x) ?_ (fun _ => ?_); unfold x; rotate_left; clear_value x)
    | ((try lift_lets -underBinder); intro x; clear_value x) | with_reducible assumption | with_reducible apply id_framed
    | with_reducible apply when_framed | with_reducible apply FramedO_next | with_reducible apply State.setTx_framed
    | exact maskIn_trans hP rfl | dsimp -zeta only | with_reducible apply Framed.mk_of)

theorem execSapReceive_framed {P : Nat} {s₀ : State} (a : SapMsg) (s : State) (hI : Framed P s₀ s) (hP : maskIn 0x8000 P)
    : FramedO P s₀ (execSapReceive a s) := by
  unfold execSapReceive
  repeat' (first
    | with_reducible exact Or.inl rfl | exact Or.inr (bit_of hP rfl) | refine fun (s : State) (hs : Framed P s₀ s) => ?_
    | refine fun (_ : _) (s : State) (hs : Framed P s₀ s) => ?_
    | refine fun (_ : _) (_ : _) (s : State) (hs : Framed P s₀ s) => ?_
    | ((try lift_lets -underBinder); intro x; refine letS (P := P) (s₀ := s₀) (x := x) ?_ (fun _ => ?_); unfold x; rotate_left; clear_value x)
    | ((try lift_lets -underBinder); intro x; clear_value x) | with_reducible assumption | with_reducible apply id_framed
    | split | with_reducible apply when_framed | with_reducible apply FramedO_next | dsimp -zeta only
    | with_reducible apply Framed.mk_of)

theorem execSapAgeOut_framed {P : Nat} {s₀ : State} (src hash : Nat) (s : State) (hI : Framed P s₀ s) (hP : maskIn 0x8000
    P) : FramedO P s₀ (execSapAgeOut src hash s) := by
  unfold execSapAgeOut
  repeat' (first
    | with_reducible exact Or.inl rfl | exact Or.inr (bit_of hP rfl) | refine fun (s : State) (hs : Framed P s₀ s) => ?_
    | refine fun (_ : _) (s : State) (hs : Framed P s₀ s) => ?_
    | refine fun (_ : _) (_ : _) (s : State) (hs : Framed P s₀ s) => ?_ | with_reducible assumption
    | with_reducible apply id_framed | split | with_reducible apply when_framed | with_reducible apply FramedO_next
    | dsimp -zeta only | with_reducible apply Framed.mk_of)

end Sys2Proof.Machine
end

