-- ==== Sys2Proof/Laws/FramedRoster.lean ====
section
/-! SUPPORT. What the operations and commands of Machine/Roster.lean can change, as masks of parts (Laws/Framed.lean): one lemma
for each. -/

namespace Sys2Proof.Machine

open Sys2Proof

theorem State.syncAmps_framed {P : Nat} {s₀ : State} (s : State) (hI : Framed P s₀ s) (hP : maskIn 0x1000 P) : Framed P s₀
    (State.syncAmps s) := by
  unfold State.syncAmps
  repeat' (first
    | with_reducible exact Or.inl rfl | exact Or.inr (bit_of hP rfl)
    | ((try lift_lets -underBinder); intro x; refine letS (P := P) (s₀ := s₀) (x := x) ?_ (fun _ => ?_); unfold x; rotate_left; clear_value x)
    | ((try lift_lets -underBinder); intro x; clear_value x) | with_reducible assumption | split | dsimp -zeta only
    | with_reducible apply Framed.mk_of)

theorem State.hearAmps_framed {P : Nat} {s₀ : State} (s : State) (hI : Framed P s₀ s) (hP : maskIn 0x1000 P) : Framed P s₀
    (State.hearAmps s) := by
  unfold State.hearAmps
  repeat' (first
    | with_reducible exact Or.inl rfl | exact Or.inr (bit_of hP rfl) | with_reducible assumption | split | dsimp -zeta only
    | with_reducible apply Framed.mk_of)

theorem State.flagPeer_framed {P : Nat} {s₀ : State} (s : State) (same : Peer → Bool) (hI : Framed P s₀ s) (hP : maskIn
    0x841000 P) : Framed P s₀ (State.flagPeer s same) := by
  unfold State.flagPeer
  repeat' (first
    | with_reducible exact Or.inl rfl | exact Or.inr (bit_of hP rfl)
    | ((try lift_lets -underBinder); intro x; refine letS (P := P) (s₀ := s₀) (x := x) ?_ (fun _ => ?_); unfold x; rotate_left; clear_value x)
    | ((try lift_lets -underBinder); intro x; clear_value x) | with_reducible assumption | split
    | with_reducible refine foldl_framed ?_ (fun _ _ _ => ?_) | with_reducible apply State.raise_framed
    | exact maskIn_trans hP rfl | dsimp -zeta only | with_reducible apply Framed.mk_of)

theorem State.hearPeer_framed {P : Nat} {s₀ : State} (s : State) (same : Peer → Bool) (blank : Peer) (f : Peer → Peer) (hI
    : Framed P s₀ s) (hP : maskIn 0x841000 P) : Framed P s₀ (State.hearPeer s same blank f) := by
  unfold State.hearPeer
  repeat' (first
    | with_reducible exact Or.inl rfl | exact Or.inr (bit_of hP rfl)
    | ((try lift_lets -underBinder); intro x; refine letS (P := P) (s₀ := s₀) (x := x) ?_ (fun _ => ?_); unfold x; rotate_left; clear_value x)
    | ((try lift_lets -underBinder); intro x; clear_value x) | with_reducible assumption | split
    | with_reducible apply State.flagPeer_framed | exact maskIn_trans hP rfl | dsimp -zeta only
    | with_reducible apply Framed.mk_of)

theorem State.hearHello_framed {P : Nat} {s₀ : State} (s : State) (h : Hello) (hI : Framed P s₀ s) (hP : maskIn 0x841000
    P) : Framed P s₀ (State.hearHello s h) := by
  unfold State.hearHello
  repeat' (first
    | with_reducible exact Or.inl rfl | exact Or.inr (bit_of hP rfl)
    | ((try lift_lets -underBinder); intro x; refine letS (P := P) (s₀ := s₀) (x := x) ?_ (fun _ => ?_); unfold x; rotate_left; clear_value x)
    | ((try lift_lets -underBinder); intro x; clear_value x) | with_reducible assumption
    | with_reducible apply State.hearPeer_framed | exact maskIn_trans hP rfl | dsimp -zeta only
    | with_reducible apply Framed.mk_of)

theorem State.hearMarker_framed {P : Nat} {s₀ : State} (s : State) (role : Nat) (hI : Framed P s₀ s) (hP : maskIn 0x841000
    P) : Framed P s₀ (State.hearMarker s role) := by
  unfold State.hearMarker
  repeat' (first
    | with_reducible exact Or.inl rfl | exact Or.inr (bit_of hP rfl) | refine fun (s : State) (hs : Framed P s₀ s) => ?_
    | refine fun (_ : _) (s : State) (hs : Framed P s₀ s) => ?_
    | refine fun (_ : _) (_ : _) (s : State) (hs : Framed P s₀ s) => ?_ | with_reducible assumption
    | with_reducible apply id_framed | with_reducible apply when_framed | with_reducible apply State.hearPeer_framed
    | exact maskIn_trans hP rfl | dsimp -zeta only | with_reducible apply Framed.mk_of)

theorem execMdnsReceive_framed {P : Nat} {s₀ : State} (plane addr : Nat) (info : PeerInfo) (s : State) (hI : Framed P s₀
    s) (hP : maskIn 0x841000 P) : FramedO P s₀ (execMdnsReceive plane addr info s) := by
  unfold execMdnsReceive
  repeat' (first
    | with_reducible exact Or.inl rfl | exact Or.inr (bit_of hP rfl) | refine fun (s : State) (hs : Framed P s₀ s) => ?_
    | refine fun (_ : _) (s : State) (hs : Framed P s₀ s) => ?_
    | refine fun (_ : _) (_ : _) (s : State) (hs : Framed P s₀ s) => ?_
    | ((try lift_lets -underBinder); intro x; refine letS (P := P) (s₀ := s₀) (x := x) ?_ (fun _ => ?_); unfold x; rotate_left; clear_value x)
    | ((try lift_lets -underBinder); intro x; clear_value x) | with_reducible assumption | with_reducible apply id_framed
    | split | with_reducible apply when_framed | with_reducible apply FramedO_next
    | with_reducible apply State.hearPeer_framed | exact maskIn_trans hP rfl | dsimp -zeta only
    | with_reducible apply Framed.mk_of)

theorem execPeerKeepalive_framed {P : Nat} {s₀ : State} (elem : Nat) (answer : Option (List Byte)) (s : State) (hI :
    Framed P s₀ s) (hP : maskIn 0x841000 P) : FramedO P s₀ (execPeerKeepalive elem answer s) := by
  unfold execPeerKeepalive
  repeat' (first
    | with_reducible exact Or.inl rfl | exact Or.inr (bit_of hP rfl) | refine fun (s : State) (hs : Framed P s₀ s) => ?_
    | refine fun (_ : _) (s : State) (hs : Framed P s₀ s) => ?_
    | refine fun (_ : _) (_ : _) (s : State) (hs : Framed P s₀ s) => ?_
    | ((try lift_lets -underBinder); intro x; refine letS (P := P) (s₀ := s₀) (x := x) ?_ (fun _ => ?_); unfold x; rotate_left; clear_value x)
    | ((try lift_lets -underBinder); intro x; clear_value x) | with_reducible assumption | with_reducible apply id_framed
    | split | with_reducible apply when_framed | with_reducible apply FramedO_next
    | with_reducible apply State.hearPeer_framed | exact maskIn_trans hP rfl | dsimp -zeta only
    | with_reducible apply Framed.mk_of)

theorem execRosterAgeOut_framed {P : Nat} {s₀ : State} (kind node : Nat) (s : State) (hI : Framed P s₀ s) (hP : maskIn
    0x1000 P) : FramedO P s₀ (execRosterAgeOut kind node s) := by
  unfold execRosterAgeOut
  repeat' (first
    | with_reducible exact Or.inl rfl | exact Or.inr (bit_of hP rfl) | refine fun (s : State) (hs : Framed P s₀ s) => ?_
    | refine fun (_ : _) (s : State) (hs : Framed P s₀ s) => ?_
    | refine fun (_ : _) (_ : _) (s : State) (hs : Framed P s₀ s) => ?_
    | ((try lift_lets -underBinder); intro x; refine letS (P := P) (s₀ := s₀) (x := x) ?_ (fun _ => ?_); unfold x; rotate_left; clear_value x)
    | ((try lift_lets -underBinder); intro x; clear_value x) | with_reducible assumption | with_reducible apply id_framed
    | split | with_reducible apply when_framed | with_reducible apply FramedO_next | dsimp -zeta only
    | with_reducible apply Framed.mk_of)

theorem execDisagreementClear_framed {P : Nat} {s₀ : State} (kind node flag : Nat) (s : State) (hI : Framed P s₀ s) (hP :
    maskIn 0x1000 P) : FramedO P s₀ (execDisagreementClear kind node flag s) := by
  unfold execDisagreementClear
  repeat' (first
    | with_reducible exact Or.inl rfl | exact Or.inr (bit_of hP rfl) | refine fun (s : State) (hs : Framed P s₀ s) => ?_
    | refine fun (_ : _) (s : State) (hs : Framed P s₀ s) => ?_
    | refine fun (_ : _) (_ : _) (s : State) (hs : Framed P s₀ s) => ?_ | with_reducible assumption
    | with_reducible apply id_framed | split | with_reducible apply when_framed | with_reducible apply FramedO_next
    | dsimp -zeta only | with_reducible apply Framed.mk_of)

end Sys2Proof.Machine
end

