-- ==== Sys2Proof/Laws/FramedPairing.lean ====
section
/-! SUPPORT. What the operations and commands of Machine/Pairing.lean can change, as masks of parts (Laws/Framed.lean): one lemma
for each. -/

namespace Sys2Proof.Machine

open Sys2Proof

theorem laneUp_blk (lane : Nat) : (laneUp lane).blk = 7 := by
  unfold laneUp; repeat' split
  all_goals rfl

theorem State.setRole_framed {P : Nat} {s₀ : State} (s : State) (new cause : Nat) (blk : Nat) (hI : Framed P s₀ s) (hP :
    maskIn 0x8841200 P) : Framed P s₀ (State.setRole s new cause blk) := by
  unfold State.setRole
  repeat' (first
    | with_reducible exact Or.inl rfl | exact Or.inr (bit_of hP rfl)
    | ((try lift_lets -underBinder); intro x; refine letS (P := P) (s₀ := s₀) (x := x) ?_ (fun _ => ?_); unfold x; rotate_left; clear_value x)
    | ((try lift_lets -underBinder); intro x; clear_value x) | with_reducible assumption | split
    | with_reducible apply State.put_framed | with_reducible apply State.incSat_framed
    | with_reducible apply State.raise_framed | exact maskIn_trans hP rfl | exact bit_of hP rfl | dsimp -zeta only
    | with_reducible apply Framed.mk_of)

theorem State.claimOn_framed {P : Nat} {s₀ : State} (s : State) (hI : Framed P s₀ s) (hP : maskIn 0x18000000 P) : Framed P
    s₀ (State.claimOn s) := by
  unfold State.claimOn
  repeat' (first
    | with_reducible assumption | with_reducible apply State.put_framed | with_reducible apply State.wellClaim_framed
    | exact maskIn_trans hP rfl | exact bit_of hP rfl | dsimp -zeta only)

theorem State.claimOff_framed {P : Nat} {s₀ : State} (s : State) (hI : Framed P s₀ s) (hP : maskIn 0x18000000 P) : Framed
    P s₀ (State.claimOff s) := by
  unfold State.claimOff
  repeat' (first
    | refine fun (s : State) (hs : Framed P s₀ s) => ?_ | refine fun (_ : _) (s : State) (hs : Framed P s₀ s) => ?_
    | refine fun (_ : _) (_ : _) (s : State) (hs : Framed P s₀ s) => ?_ | with_reducible assumption
    | with_reducible apply id_framed | split | with_reducible apply when_framed | with_reducible apply State.put_framed
    | with_reducible apply State.wellClaim_framed | exact maskIn_trans hP rfl | exact bit_of hP rfl | dsimp -zeta only)

theorem State.clearSync_framed {P : Nat} {s₀ : State} (s : State) (hI : Framed P s₀ s) (hP : maskIn 0x8000200 P) : Framed
    P s₀ (State.clearSync s) := by
  unfold State.clearSync
  repeat' (first
    | with_reducible exact Or.inl rfl | exact Or.inr (bit_of hP rfl)
    | ((try lift_lets -underBinder); intro x; refine letS (P := P) (s₀ := s₀) (x := x) ?_ (fun _ => ?_); unfold x; rotate_left; clear_value x)
    | ((try lift_lets -underBinder); intro x; clear_value x) | with_reducible assumption
    | with_reducible apply State.put_framed | exact bit_of hP rfl | dsimp -zeta only | with_reducible apply Framed.mk_of)

theorem State.abandonCopy_framed {P : Nat} {s₀ : State} (s : State) (hI : Framed P s₀ s) (hP : maskIn 0x18851a00 P) :
    Framed P s₀ (State.abandonCopy s) := by
  unfold State.abandonCopy
  repeat' (first

    | ((try lift_lets -underBinder); intro x; refine letS (P := P) (s₀ := s₀) (x := x) ?_ (fun _ => ?_); unfold x; rotate_left; clear_value x)
    | ((try lift_lets -underBinder); intro x; clear_value x) | with_reducible assumption | split
    | with_reducible refine forN_framed ?_ (fun _ _ _ => ?_) | with_reducible apply State.startAuto_framed
    | with_reducible apply State.setSafe_framed | with_reducible apply State.setRole_framed
    | with_reducible apply State.clearSync_framed | exact maskIn_trans hP rfl | dsimp -zeta only)

theorem State.planesFrom_framed {P : Nat} {s₀ : State} (s : State) (a b : Nat) (hI : Framed P s₀ s) (hP : maskIn 0x200 P)
    : Framed P s₀ (State.planesFrom s a b) := by
  unfold State.planesFrom
  repeat' (first
    | with_reducible exact Or.inl rfl | exact Or.inr (bit_of hP rfl) | with_reducible assumption | dsimp -zeta only
    | with_reducible apply Framed.mk_of)

theorem State.diverge_framed {P : Nat} {s₀ : State} (s : State) (cause : Nat) (blk : Nat) (hI : Framed P s₀ s) (hP :
    maskIn 0x8841200 P) : Framed P s₀ (State.diverge s cause blk) := by
  unfold State.diverge
  repeat' (first
    | with_reducible exact Or.inl rfl | exact Or.inr (bit_of hP rfl)
    | ((try lift_lets -underBinder); intro x; refine letS (P := P) (s₀ := s₀) (x := x) ?_ (fun _ => ?_); unfold x; rotate_left; clear_value x)
    | ((try lift_lets -underBinder); intro x; clear_value x) | with_reducible assumption | split
    | with_reducible apply State.setRole_framed | with_reducible apply State.clearSync_framed | exact maskIn_trans hP rfl
    | dsimp -zeta only | with_reducible apply Framed.mk_of)

theorem State.syncFail_framed {P : Nat} {s₀ : State} (s : State) (hI : Framed P s₀ s) (hP : maskIn 0x8841200 P) : Framed P
    s₀ (State.syncFail s) := by
  unfold State.syncFail
  repeat' (first
    | with_reducible assumption | with_reducible apply State.raise_framed | with_reducible apply State.diverge_framed
    | exact maskIn_trans hP rfl | dsimp -zeta only)

theorem State.contestLost_framed {P : Nat} {s₀ : State} (s : State) (hI : Framed P s₀ s) (hP : maskIn 0x8841200 P) :
    Framed P s₀ (State.contestLost s) := by
  unfold State.contestLost
  repeat' (first
    | with_reducible assumption | with_reducible apply State.diverge_framed | exact maskIn_trans hP rfl | dsimp -zeta only)

theorem State.takeClaim_framed {P : Nat} {s₀ : State} (s : State) (hI : Framed P s₀ s) (hP : maskIn 0x18841200 P) : Framed
    P s₀ (State.takeClaim s) := by
  unfold State.takeClaim
  repeat' (first

    | ((try lift_lets -underBinder); intro x; refine letS (P := P) (s₀ := s₀) (x := x) ?_ (fun _ => ?_); unfold x; rotate_left; clear_value x)
    | ((try lift_lets -underBinder); intro x; clear_value x) | with_reducible assumption | split
    | with_reducible apply State.incSat_framed | with_reducible apply State.raise_framed
    | with_reducible apply State.setRole_framed | with_reducible apply State.claimOn_framed
    | with_reducible apply State.planesFrom_framed | exact maskIn_trans hP rfl | exact bit_of hP rfl | dsimp -zeta only)

theorem State.dropPartner_framed {P : Nat} {s₀ : State} (s : State) (hI : Framed P s₀ s) (hP : maskIn 0x8000200 P) :
    Framed P s₀ (State.dropPartner s) := by
  unfold State.dropPartner
  repeat' (first
    | with_reducible exact Or.inl rfl | exact Or.inr (bit_of hP rfl)
    | ((try lift_lets -underBinder); intro x; refine letS (P := P) (s₀ := s₀) (x := x) ?_ (fun _ => ?_); unfold x; rotate_left; clear_value x)
    | ((try lift_lets -underBinder); intro x; clear_value x) | with_reducible assumption
    | with_reducible apply State.put_framed | exact bit_of hP rfl | dsimp -zeta only | with_reducible apply Framed.mk_of)

theorem State.hbStart_framed {P : Nat} {s₀ : State} (s : State) (hI : Framed P s₀ s) (hP : maskIn 0x200 P) : Framed P s₀
    (State.hbStart s) := by
  unfold State.hbStart
  repeat' (first
    | with_reducible exact Or.inl rfl | exact Or.inr (bit_of hP rfl) | with_reducible assumption | dsimp -zeta only
    | with_reducible apply Framed.mk_of)

theorem State.hbStop_framed {P : Nat} {s₀ : State} (s : State) (hI : Framed P s₀ s) (hP : maskIn 0x18000200 P) : Framed P
    s₀ (State.hbStop s) := by
  unfold State.hbStop
  repeat' (first
    | with_reducible exact Or.inl rfl | exact Or.inr (bit_of hP rfl)
    | ((try lift_lets -underBinder); intro x; refine letS (P := P) (s₀ := s₀) (x := x) ?_ (fun _ => ?_); unfold x; rotate_left; clear_value x)
    | ((try lift_lets -underBinder); intro x; clear_value x) | with_reducible assumption
    | with_reducible apply State.claimOff_framed | exact maskIn_trans hP rfl | dsimp -zeta only
    | with_reducible apply Framed.mk_of)

theorem execHbToggle_framed {P : Nat} {s₀ : State} (s : State) (hI : Framed P s₀ s) (hP : maskIn 0x200 P) : FramedO P s₀
    (execHbToggle s) := by
  unfold execHbToggle
  repeat' (first
    | with_reducible exact Or.inl rfl | exact Or.inr (bit_of hP rfl) | refine fun (s : State) (hs : Framed P s₀ s) => ?_
    | refine fun (_ : _) (s : State) (hs : Framed P s₀ s) => ?_
    | refine fun (_ : _) (_ : _) (s : State) (hs : Framed P s₀ s) => ?_ | with_reducible assumption
    | with_reducible apply id_framed | with_reducible apply when_framed | with_reducible apply FramedO_next
    | dsimp -zeta only | with_reducible apply Framed.mk_of)

theorem execHbRxEdge_framed {P : Nat} {s₀ : State} (s : State) (hI : Framed P s₀ s) (hP : maskIn 0x8000200 P) : FramedO P
    s₀ (execHbRxEdge s) := by
  unfold execHbRxEdge
  repeat' (first
    | with_reducible exact Or.inl rfl | exact Or.inr (bit_of hP rfl) | refine fun (s : State) (hs : Framed P s₀ s) => ?_
    | refine fun (_ : _) (s : State) (hs : Framed P s₀ s) => ?_
    | refine fun (_ : _) (_ : _) (s : State) (hs : Framed P s₀ s) => ?_
    | ((try lift_lets -underBinder); intro x; refine letS (P := P) (s₀ := s₀) (x := x) ?_ (fun _ => ?_); unfold x; rotate_left; clear_value x)
    | ((try lift_lets -underBinder); intro x; clear_value x) | with_reducible assumption | with_reducible apply id_framed
    | with_reducible apply when_framed | with_reducible apply FramedO_next | with_reducible apply State.put_framed
    | exact bit_of hP rfl | dsimp -zeta only | with_reducible apply Framed.mk_of)

theorem execHbFault_framed {P : Nat} {s₀ : State} (s : State) (hI : Framed P s₀ s) (hP : maskIn 0x8840000 P) : FramedO P
    s₀ (execHbFault s) := by
  unfold execHbFault
  repeat' (first
    | refine fun (s : State) (hs : Framed P s₀ s) => ?_ | refine fun (_ : _) (s : State) (hs : Framed P s₀ s) => ?_
    | refine fun (_ : _) (_ : _) (s : State) (hs : Framed P s₀ s) => ?_ | with_reducible assumption
    | with_reducible apply id_framed | with_reducible apply when_framed | with_reducible apply FramedO_next
    | with_reducible apply State.put_framed | with_reducible apply State.raise_framed | exact maskIn_trans hP rfl
    | exact bit_of hP rfl | dsimp -zeta only)

theorem execPartnerLost_framed {P : Nat} {s₀ : State} (s : State) (hI : Framed P s₀ s) (hP : maskIn 0x18851a00 P) :
    FramedO P s₀ (execPartnerLost s) := by
  unfold execPartnerLost
  repeat' (first
    | refine fun (s : State) (hs : Framed P s₀ s) => ?_ | refine fun (_ : _) (s : State) (hs : Framed P s₀ s) => ?_
    | refine fun (_ : _) (_ : _) (s : State) (hs : Framed P s₀ s) => ?_
    | ((try lift_lets -underBinder); intro x; refine letS (P := P) (s₀ := s₀) (x := x) ?_ (fun _ => ?_); unfold x; rotate_left; clear_value x)
    | ((try lift_lets -underBinder); intro x; clear_value x) | with_reducible assumption | with_reducible apply id_framed
    | split | with_reducible apply when_framed | with_reducible apply FramedO_next
    | with_reducible apply State.setRole_framed | with_reducible apply State.clearSync_framed
    | with_reducible apply State.abandonCopy_framed | with_reducible apply State.planesFrom_framed
    | with_reducible apply State.dropPartner_framed | exact maskIn_trans hP rfl | dsimp -zeta only)

theorem State.partnerGone_framed {P : Nat} {s₀ : State} (s : State) (hI : Framed P s₀ s) (hP : maskIn 0x18851a00 P) :
    Framed P s₀ (State.partnerGone s) := by
  unfold State.partnerGone
  repeat' (first
    | with_reducible exact Or.inl rfl | exact Or.inr (bit_of hP rfl)
    | ((try lift_lets -underBinder); intro x; refine letS (P := P) (s₀ := s₀) (x := x) ?_ (fun _ => ?_); unfold x; rotate_left; clear_value x)
    | ((try lift_lets -underBinder); intro x; clear_value x) | with_reducible assumption | split
    | with_reducible apply State.setRole_framed | with_reducible apply State.clearSync_framed
    | with_reducible apply State.abandonCopy_framed | with_reducible apply State.planesFrom_framed
    | with_reducible apply State.dropPartner_framed | exact maskIn_trans hP rfl | dsimp -zeta only
    | with_reducible apply Framed.mk_of)

theorem execClaimHoldRelease_framed {P : Nat} {s₀ : State} (s : State) (hI : Framed P s₀ s) (hP : maskIn 0x18000200 P) :
    FramedO P s₀ (execClaimHoldRelease s) := by
  unfold execClaimHoldRelease
  repeat' (first
    | refine fun (s : State) (hs : Framed P s₀ s) => ?_ | refine fun (_ : _) (s : State) (hs : Framed P s₀ s) => ?_
    | refine fun (_ : _) (_ : _) (s : State) (hs : Framed P s₀ s) => ?_ | with_reducible assumption
    | with_reducible apply id_framed | with_reducible apply when_framed | with_reducible apply FramedO_next
    | with_reducible apply State.hbStop_framed | exact maskIn_trans hP rfl | dsimp -zeta only)

theorem execClaimTake_framed {P : Nat} {s₀ : State} (highFor : Nat) (witnessOk : Bool) (s : State) (hI : Framed P s₀ s)
    (hP : maskIn 0x18841200 P) : FramedO P s₀ (execClaimTake highFor witnessOk s) := by
  unfold execClaimTake
  repeat' (first
    | refine fun (s : State) (hs : Framed P s₀ s) => ?_ | refine fun (_ : _) (s : State) (hs : Framed P s₀ s) => ?_
    | refine fun (_ : _) (_ : _) (s : State) (hs : Framed P s₀ s) => ?_ | with_reducible assumption
    | with_reducible apply id_framed | split | with_reducible apply when_framed | with_reducible apply FramedO_next
    | with_reducible apply State.put_framed | with_reducible apply State.takeClaim_framed | exact maskIn_trans hP rfl
    | exact bit_of hP rfl | dsimp -zeta only)

theorem execContestWaitEnd_framed {P : Nat} {s₀ : State} (high witnessOk : Bool) (s : State) (hI : Framed P s₀ s) (hP :
    maskIn 0x18841200 P) : FramedO P s₀ (execContestWaitEnd high witnessOk s) := by
  unfold execContestWaitEnd
  repeat' (first
    | with_reducible exact Or.inl rfl | exact Or.inr (bit_of hP rfl) | refine fun (s : State) (hs : Framed P s₀ s) => ?_
    | refine fun (_ : _) (s : State) (hs : Framed P s₀ s) => ?_
    | refine fun (_ : _) (_ : _) (s : State) (hs : Framed P s₀ s) => ?_
    | ((try lift_lets -underBinder); intro x; refine letS (P := P) (s₀ := s₀) (x := x) ?_ (fun _ => ?_); unfold x; rotate_left; clear_value x)
    | ((try lift_lets -underBinder); intro x; clear_value x) | with_reducible assumption | with_reducible apply id_framed
    | split | with_reducible apply when_framed | with_reducible apply FramedO_next | with_reducible apply State.put_framed
    | with_reducible apply State.contestLost_framed | with_reducible apply State.takeClaim_framed | exact maskIn_trans hP rfl
    | exact bit_of hP rfl | dsimp -zeta only | with_reducible apply Framed.mk_of)

theorem execContestTmo_framed {P : Nat} {s₀ : State} (s : State) (hI : Framed P s₀ s) (hP : maskIn 0x8000200 P) : FramedO
    P s₀ (execContestTmo s) := by
  unfold execContestTmo
  repeat' (first
    | with_reducible exact Or.inl rfl | exact Or.inr (bit_of hP rfl) | refine fun (s : State) (hs : Framed P s₀ s) => ?_
    | refine fun (_ : _) (s : State) (hs : Framed P s₀ s) => ?_
    | refine fun (_ : _) (_ : _) (s : State) (hs : Framed P s₀ s) => ?_ | with_reducible assumption
    | with_reducible apply id_framed | with_reducible apply when_framed | with_reducible apply FramedO_next
    | dsimp -zeta only | with_reducible apply Framed.mk_of)

theorem State.witnessAnswer_framed {P : Nat} {s₀ : State} (s : State) (r : Nat) (hI : Framed P s₀ s) (hP : maskIn 0x1200
    P) : Framed P s₀ (State.witnessAnswer s r) := by
  unfold State.witnessAnswer
  repeat' (first
    | with_reducible exact Or.inl rfl | exact Or.inr (bit_of hP rfl)
    | ((try lift_lets -underBinder); intro x; refine letS (P := P) (s₀ := s₀) (x := x) ?_ (fun _ => ?_); unfold x; rotate_left; clear_value x)
    | ((try lift_lets -underBinder); intro x; clear_value x) | with_reducible assumption
    | with_reducible apply State.answer_framed | exact maskIn_trans hP rfl | dsimp -zeta only
    | with_reducible apply Framed.mk_of)

theorem State.witnessProbe_framed {P : Nat} {s₀ : State} (s : State) (node : Nat) (hI : Framed P s₀ s) (hP : maskIn 0x1200
    P) : Framed P s₀ (State.witnessProbe s node) := by
  unfold State.witnessProbe
  repeat' (first
    | with_reducible exact Or.inl rfl | exact Or.inr (bit_of hP rfl) | with_reducible assumption | split
    | with_reducible apply State.witnessAnswer_framed | exact maskIn_trans hP rfl | dsimp -zeta only
    | with_reducible apply Framed.mk_of)

theorem execWitnessQuery_framed {P : Nat} {s₀ : State} (node : Nat) (s : State) (hI : Framed P s₀ s) (hP : maskIn 0x1200
    P) : FramedO P s₀ (execWitnessQuery node s) := by
  unfold execWitnessQuery
  repeat' (first
    | refine fun (s : State) (hs : Framed P s₀ s) => ?_ | refine fun (_ : _) (s : State) (hs : Framed P s₀ s) => ?_
    | refine fun (_ : _) (_ : _) (s : State) (hs : Framed P s₀ s) => ?_ | with_reducible assumption
    | with_reducible apply id_framed | with_reducible apply when_framed | with_reducible apply FramedO_next
    | with_reducible apply State.witnessProbe_framed | exact maskIn_trans hP rfl | dsimp -zeta only)

theorem execWitnessProbeEnd_framed {P : Nat} {s₀ : State} (alive : Bool) (s : State) (hI : Framed P s₀ s) (hP : maskIn
    0x1200 P) : FramedO P s₀ (execWitnessProbeEnd alive s) := by
  unfold execWitnessProbeEnd
  repeat' (first
    | refine fun (s : State) (hs : Framed P s₀ s) => ?_ | refine fun (_ : _) (s : State) (hs : Framed P s₀ s) => ?_
    | refine fun (_ : _) (_ : _) (s : State) (hs : Framed P s₀ s) => ?_ | with_reducible assumption
    | with_reducible apply id_framed | split | with_reducible apply when_framed | with_reducible apply FramedO_next
    | with_reducible apply State.witnessAnswer_framed | exact maskIn_trans hP rfl | dsimp -zeta only)

theorem execWitnessReply_framed {P : Nat} {s₀ : State} (reply : Nat) (s : State) (hI : Framed P s₀ s) (hP : maskIn
    0x18841200 P) : FramedO P s₀ (execWitnessReply reply s) := by
  unfold execWitnessReply
  repeat' (first
    | with_reducible exact Or.inl rfl | exact Or.inr (bit_of hP rfl) | refine fun (s : State) (hs : Framed P s₀ s) => ?_
    | refine fun (_ : _) (s : State) (hs : Framed P s₀ s) => ?_
    | refine fun (_ : _) (_ : _) (s : State) (hs : Framed P s₀ s) => ?_
    | ((try lift_lets -underBinder); intro x; refine letS (P := P) (s₀ := s₀) (x := x) ?_ (fun _ => ?_); unfold x; rotate_left; clear_value x)
    | ((try lift_lets -underBinder); intro x; clear_value x) | with_reducible assumption | with_reducible apply id_framed
    | split | with_reducible apply when_framed | with_reducible apply FramedO_next
    | with_reducible apply State.contestLost_framed | with_reducible apply State.takeClaim_framed | exact maskIn_trans hP rfl
    | dsimp -zeta only | with_reducible apply Framed.mk_of)

theorem State.siphonLost_framed {P : Nat} {s₀ : State} (s : State) (hI : Framed P s₀ s) (hP : maskIn 0x8841200 P) : Framed
    P s₀ (State.siphonLost s) := by
  unfold State.siphonLost
  repeat' (first
    | with_reducible exact Or.inl rfl | exact Or.inr (bit_of hP rfl) | with_reducible assumption | split
    | with_reducible apply State.diverge_framed | exact maskIn_trans hP rfl | dsimp -zeta only
    | with_reducible apply Framed.mk_of)

theorem execSiphLaneUp_framed {P : Nat} {s₀ : State} (lane : Nat) (s : State) (hI : Framed P s₀ s) (hP : maskIn 0x8860200
    P) : FramedO P s₀ (execSiphLaneUp lane s) := by
  unfold execSiphLaneUp
  repeat' (first
    | with_reducible exact Or.inl rfl | exact Or.inr (bit_of hP rfl) | refine fun (s : State) (hs : Framed P s₀ s) => ?_
    | refine fun (_ : _) (s : State) (hs : Framed P s₀ s) => ?_
    | refine fun (_ : _) (_ : _) (s : State) (hs : Framed P s₀ s) => ?_
    | ((try lift_lets -underBinder); intro x; refine letS (P := P) (s₀ := s₀) (x := x) ?_ (fun _ => ?_); unfold x; rotate_left; clear_value x)
    | ((try lift_lets -underBinder); intro x; clear_value x) | with_reducible assumption | with_reducible apply id_framed
    | with_reducible apply when_framed | with_reducible apply FramedO_next | with_reducible apply State.put_framed
    | with_reducible apply State.raise_framed | with_reducible apply State.retired_framed | exact maskIn_trans hP rfl
    | exact bit_of hP rfl | (rw [laneUp_blk]; exact bit_of hP rfl) | dsimp -zeta only | with_reducible apply Framed.mk_of)

theorem State.siphLaneDown_framed {P : Nat} {s₀ : State} (s : State) (lane : Nat) (hI : Framed P s₀ s) (hP : maskIn
    0xea61248 P) : Framed P s₀ (State.siphLaneDown s lane) := by
  unfold State.siphLaneDown
  repeat' (first
    | with_reducible exact Or.inl rfl | exact Or.inr (bit_of hP rfl)
    | ((try lift_lets -underBinder); intro x; refine letS (P := P) (s₀ := s₀) (x := x) ?_ (fun _ => ?_); unfold x; rotate_left; clear_value x)
    | ((try lift_lets -underBinder); intro x; clear_value x) | with_reducible assumption | split
    | with_reducible apply State.put_framed | with_reducible apply State.addSat_framed
    | with_reducible apply State.raise_framed | with_reducible apply State.healthError_framed
    | with_reducible apply State.siphonLost_framed | exact maskIn_trans hP rfl | exact bit_of hP rfl
    | (rw [laneUp_blk]; exact bit_of hP rfl) | dsimp -zeta only | with_reducible apply Framed.mk_of)

theorem execSiphLaneDown_framed {P : Nat} {s₀ : State} (lane : Nat) (s : State) (hI : Framed P s₀ s) (hP : maskIn
    0xea61248 P) : FramedO P s₀ (execSiphLaneDown lane s) := by
  unfold execSiphLaneDown
  repeat' (first
    | refine fun (s : State) (hs : Framed P s₀ s) => ?_ | refine fun (_ : _) (s : State) (hs : Framed P s₀ s) => ?_
    | refine fun (_ : _) (_ : _) (s : State) (hs : Framed P s₀ s) => ?_ | with_reducible assumption
    | with_reducible apply id_framed | with_reducible apply when_framed | with_reducible apply FramedO_next
    | with_reducible apply State.siphLaneDown_framed | exact maskIn_trans hP rfl | (rw [laneUp_blk]; exact bit_of hP rfl)
    | dsimp -zeta only)

theorem State.takeAck_framed {P : Nat} {s₀ : State} (s : State) (a : Nat) (hI : Framed P s₀ s) (hP : maskIn 0x200 P) :
    Framed P s₀ (State.takeAck s a) := by
  unfold State.takeAck
  repeat' (first
    | with_reducible exact Or.inl rfl | exact Or.inr (bit_of hP rfl)
    | ((try lift_lets -underBinder); intro x; refine letS (P := P) (s₀ := s₀) (x := x) ?_ (fun _ => ?_); unfold x; rotate_left; clear_value x)
    | ((try lift_lets -underBinder); intro x; clear_value x) | with_reducible assumption | split | dsimp -zeta only
    | with_reducible apply Framed.mk_of)

theorem State.sendHello_framed {P : Nat} {s₀ : State} (s : State) (hI : Framed P s₀ s) (hP : maskIn 0x200 P) : Framed P s₀
    (State.sendHello s) := by
  unfold State.sendHello
  repeat' (first
    | with_reducible exact Or.inl rfl | exact Or.inr (bit_of hP rfl) | refine fun (s : State) (hs : Framed P s₀ s) => ?_
    | refine fun (_ : _) (s : State) (hs : Framed P s₀ s) => ?_
    | refine fun (_ : _) (_ : _) (s : State) (hs : Framed P s₀ s) => ?_
    | ((try lift_lets -underBinder); intro x; refine letS (P := P) (s₀ := s₀) (x := x) ?_ (fun _ => ?_); unfold x; rotate_left; clear_value x)
    | ((try lift_lets -underBinder); intro x; clear_value x) | with_reducible assumption | with_reducible apply id_framed
    | with_reducible apply when_framed | with_reducible apply State.sendFrame_framed | exact maskIn_trans hP rfl
    | dsimp -zeta only | with_reducible apply Framed.mk_of)

theorem State.enterSync_framed {P : Nat} {s₀ : State} (s : State) (hI : Framed P s₀ s) (hP : maskIn 0x8841200 P) : Framed
    P s₀ (State.enterSync s) := by
  unfold State.enterSync
  repeat' (first
    | with_reducible exact Or.inl rfl | exact Or.inr (bit_of hP rfl)
    | ((try lift_lets -underBinder); intro x; refine letS (P := P) (s₀ := s₀) (x := x) ?_ (fun _ => ?_); unfold x; rotate_left; clear_value x)
    | ((try lift_lets -underBinder); intro x; clear_value x) | with_reducible assumption
    | with_reducible apply State.setRole_framed | with_reducible apply State.clearSync_framed | exact maskIn_trans hP rfl
    | dsimp -zeta only | with_reducible apply Framed.mk_of)

theorem State.beginCapture_framed {P : Nat} {s₀ : State} (s : State) (hI : Framed P s₀ s) (hP : maskIn 0x8000200 P) :
    Framed P s₀ (State.beginCapture s) := by
  unfold State.beginCapture
  repeat' (first

    | ((try lift_lets -underBinder); intro x; refine letS (P := P) (s₀ := s₀) (x := x) ?_ (fun _ => ?_); unfold x; rotate_left; clear_value x)
    | ((try lift_lets -underBinder); intro x; clear_value x) | with_reducible assumption
    | with_reducible apply State.stamp_framed | with_reducible apply State.capture_framed | exact maskIn_trans hP rfl
    | dsimp -zeta only)

theorem State.capture_framed {P : Nat} {s₀ : State} (s : State) (k : Nat) (hI : Framed P s₀ s) (hP : maskIn 0x8000200 P) :
    Framed P s₀ (State.capture s k) := by
  unfold State.capture
  repeat' (first
    | with_reducible exact Or.inl rfl | exact Or.inr (bit_of hP rfl)
    | ((try lift_lets -underBinder); intro x; refine letS (P := P) (s₀ := s₀) (x := x) ?_ (fun _ => ?_); unfold x; rotate_left; clear_value x)
    | ((try lift_lets -underBinder); intro x; clear_value x) | with_reducible assumption | split
    | with_reducible apply State.put_framed | exact bit_of hP rfl | dsimp -zeta only | with_reducible apply Framed.mk_of)

theorem State.partnerMoves_framed {P : Nat} {s₀ : State} (s : State) (h : FrameHdr) (m : Marker) (was : Nat) (hI : Framed
    P s₀ s) (hP : maskIn 0x1008841240 P) : Framed P s₀ (State.partnerMoves s h m was) := by
  unfold State.partnerMoves
  repeat' (first
    | with_reducible exact Or.inl rfl | exact Or.inr (bit_of hP rfl)
    | ((try lift_lets -underBinder); intro x; refine letS (P := P) (s₀ := s₀) (x := x) ?_ (fun _ => ?_); unfold x; rotate_left; clear_value x)
    | ((try lift_lets -underBinder); intro x; clear_value x) | with_reducible assumption | split
    | with_reducible apply State.release_framed | with_reducible apply State.setRole_framed
    | with_reducible apply State.clearSync_framed | with_reducible apply State.diverge_framed
    | with_reducible apply State.sendHello_framed | with_reducible apply State.beginCapture_framed
    | exact maskIn_trans hP rfl | dsimp -zeta only | with_reducible apply Framed.mk_of)

theorem State.takeMarker_framed {P : Nat} {s₀ : State} (s : State) (h : FrameHdr) (m : Marker) (hI : Framed P s₀ s) (hP :
    maskIn 0x10088c1250 P) : Framed P s₀ (State.takeMarker s h m) := by
  unfold State.takeMarker
  repeat' (first
    | with_reducible exact Or.inl rfl | exact Or.inr (bit_of hP rfl)
    | ((try lift_lets -underBinder); intro x; refine letS (P := P) (s₀ := s₀) (x := x) ?_ (fun _ => ?_); unfold x; rotate_left; clear_value x)
    | ((try lift_lets -underBinder); intro x; clear_value x) | with_reducible assumption | split
    | with_reducible apply State.put_framed | with_reducible apply State.putI_framed
    | with_reducible apply State.hearMarker_framed | with_reducible apply State.diverge_framed
    | with_reducible apply State.partnerMoves_framed | exact maskIn_trans hP rfl | exact bit_of hP rfl | dsimp -zeta only
    | with_reducible apply Framed.mk_of)

theorem State.takeHello_framed {P : Nat} {s₀ : State} (s : State) (b : Hello) (hI : Framed P s₀ s) (hP : maskIn 0x8841200
    P) : Framed P s₀ (State.takeHello s b) := by
  unfold State.takeHello
  repeat' (first
    | with_reducible exact Or.inl rfl | exact Or.inr (bit_of hP rfl)
    | ((try lift_lets -underBinder); intro x; refine letS (P := P) (s₀ := s₀) (x := x) ?_ (fun _ => ?_); unfold x; rotate_left; clear_value x)
    | ((try lift_lets -underBinder); intro x; clear_value x) | with_reducible assumption | split
    | with_reducible apply State.put_framed | with_reducible apply State.raise_framed
    | with_reducible apply State.sendFrame_framed | with_reducible apply State.hearHello_framed
    | with_reducible apply State.enterSync_framed | exact maskIn_trans hP rfl | exact bit_of hP rfl | dsimp -zeta only
    | with_reducible apply Framed.mk_of)

theorem State.takeRecord_framed {P : Nat} {s₀ : State} (s : State) (r : LedgerRec) (hI : Framed P s₀ s) (hP : maskIn
    0x8841200 P) : Framed P s₀ (State.takeRecord s r) := by
  unfold State.takeRecord
  repeat' (first
    | with_reducible exact Or.inl rfl | exact Or.inr (bit_of hP rfl) | refine fun (s : State) (hs : Framed P s₀ s) => ?_
    | refine fun (_ : _) (s : State) (hs : Framed P s₀ s) => ?_
    | refine fun (_ : _) (_ : _) (s : State) (hs : Framed P s₀ s) => ?_
    | ((try lift_lets -underBinder); intro x; refine letS (P := P) (s₀ := s₀) (x := x) ?_ (fun _ => ?_); unfold x; rotate_left; clear_value x)
    | ((try lift_lets -underBinder); intro x; clear_value x) | with_reducible assumption | with_reducible apply id_framed
    | split | with_reducible apply when_framed | with_reducible apply State.diverge_framed
    | with_reducible apply State.capture_framed | exact maskIn_trans hP rfl | dsimp -zeta only
    | with_reducible apply Framed.mk_of)

theorem State.compareDigest_framed {P : Nat} {s₀ : State} (s : State) (j : Nat) (hI : Framed P s₀ s) (hP : maskIn
    0x8841200 P) : Framed P s₀ (State.compareDigest s j) := by
  unfold State.compareDigest
  repeat' (first
    | with_reducible exact Or.inl rfl | exact Or.inr (bit_of hP rfl) | with_reducible assumption | split
    | with_reducible apply State.diverge_framed | exact maskIn_trans hP rfl | dsimp -zeta only
    | with_reducible apply Framed.mk_of)

theorem State.takeDigestFrame_framed {P : Nat} {s₀ : State} (s : State) (j out tdm : Nat) (hI : Framed P s₀ s) (hP :
    maskIn 0x8841200 P) : Framed P s₀ (State.takeDigestFrame s j out tdm) := by
  unfold State.takeDigestFrame
  repeat' (first
    | with_reducible exact Or.inl rfl | exact Or.inr (bit_of hP rfl)
    | ((try lift_lets -underBinder); intro x; refine letS (P := P) (s₀ := s₀) (x := x) ?_ (fun _ => ?_); unfold x; rotate_left; clear_value x)
    | ((try lift_lets -underBinder); intro x; clear_value x) | with_reducible assumption
    | with_reducible apply State.compareDigest_framed | exact maskIn_trans hP rfl | dsimp -zeta only
    | with_reducible apply Framed.mk_of)

theorem State.takePrep_framed {P : Nat} {s₀ : State} (s : State) (c : Nat) (hI : Framed P s₀ s) (hP : maskIn 0xa00 P) :
    Framed P s₀ (State.takePrep s c) := by
  unfold State.takePrep
  repeat' (first
    | with_reducible exact Or.inl rfl | exact Or.inr (bit_of hP rfl)
    | ((try lift_lets -underBinder); intro x; refine letS (P := P) (s₀ := s₀) (x := x) ?_ (fun _ => ?_); unfold x; rotate_left; clear_value x)
    | ((try lift_lets -underBinder); intro x; clear_value x) | with_reducible assumption | split
    | with_reducible apply State.stampPress_framed | exact maskIn_trans hP rfl | dsimp -zeta only
    | with_reducible apply Framed.mk_of)

theorem State.takeSnap_framed {P : Nat} {s₀ : State} (s : State) (epoch off : Nat) (data : List Byte) (hI : Framed P s₀ s)
    (hP : maskIn 0x200 P) : Framed P s₀ (State.takeSnap s epoch off data) := by
  unfold State.takeSnap
  repeat' (first
    | with_reducible exact Or.inl rfl | exact Or.inr (bit_of hP rfl) | with_reducible assumption | split | dsimp -zeta only
    | with_reducible apply Framed.mk_of)

theorem State.commitImage_framed {P : Nat} {s₀ : State} (s : State) (at' : Nat) (l : List Byte) (hI : Framed P s₀ s) (hP :
    maskIn 0x1 P) : Framed P s₀ (State.commitImage s at' l) := by
  unfold State.commitImage
  apply forN_framed hI
  intro a s h
  split
  · exact h.ofMem (bit_of hP rfl) fun c => memSet_wf _ _ c
  · exact h

theorem State.setBacklog_framed {P : Nat} {s₀ : State} (s : State) (hI : Framed P s₀ s) (hP : maskIn 0x8000000 P) : Framed
    P s₀ (State.setBacklog s) := by
  unfold State.setBacklog
  repeat' (first
    | with_reducible exact Or.inl rfl | exact Or.inr (bit_of hP rfl) | with_reducible assumption | split
    | with_reducible apply State.put_framed | exact bit_of hP rfl | dsimp -zeta only | with_reducible apply Framed.mk_of)

theorem State.takeEpochEnd_framed {P : Nat} {s₀ : State} (s : State) (epoch bytes crc : Nat) (hI : Framed P s₀ s) (hP :
    maskIn 0x8841201 P) : Framed P s₀ (State.takeEpochEnd s epoch bytes crc) := by
  unfold State.takeEpochEnd
  repeat' (first
    | with_reducible exact Or.inl rfl | exact Or.inr (bit_of hP rfl)
    | ((try lift_lets -underBinder); intro x; refine letS (P := P) (s₀ := s₀) (x := x) ?_ (fun _ => ?_); unfold x; rotate_left; clear_value x)
    | ((try lift_lets -underBinder); intro x; clear_value x) | with_reducible assumption | split
    | with_reducible apply State.put_framed | with_reducible apply State.sendFrame_framed
    | with_reducible apply State.syncFail_framed | with_reducible apply State.commitImage_framed
    | with_reducible apply State.setBacklog_framed | exact maskIn_trans hP rfl | exact bit_of hP rfl | dsimp -zeta only
    | with_reducible apply Framed.mk_of)

theorem State.takeEpochAck_framed {P : Nat} {s₀ : State} (s : State) (epoch result : Nat) (hI : Framed P s₀ s) (hP :
    maskIn 0x8000200 P) : Framed P s₀ (State.takeEpochAck s epoch result) := by
  unfold State.takeEpochAck
  repeat' (first
    | with_reducible exact Or.inl rfl | exact Or.inr (bit_of hP rfl)
    | ((try lift_lets -underBinder); intro x; refine letS (P := P) (s₀ := s₀) (x := x) ?_ (fun _ => ?_); unfold x; rotate_left; clear_value x)
    | ((try lift_lets -underBinder); intro x; clear_value x) | with_reducible assumption | split
    | with_reducible apply State.put_framed | exact bit_of hP rfl | dsimp -zeta only | with_reducible apply Framed.mk_of)

theorem State.ingressPiece_framed {P : Nat} {s₀ : State} (s : State) (p : Stored) (hI : Framed P s₀ s) (hP : maskIn
    0x19008402c9 P) : Framed P s₀ (State.ingressPiece s p) := by
  unfold State.ingressPiece
  repeat' (first
    | with_reducible exact Or.inl rfl | exact Or.inr (bit_of hP rfl)
    | ((try lift_lets -underBinder); intro x; refine letS (P := P) (s₀ := s₀) (x := x) ?_ (fun _ => ?_); unfold x; rotate_left; clear_value x)
    | ((try lift_lets -underBinder); intro x; clear_value x) | with_reducible assumption | split
    | with_reducible apply State.ingressDropped_framed | with_reducible apply State.ingressWords_framed
    | with_reducible apply State.ingressWhole_framed | exact maskIn_trans hP rfl | dsimp -zeta only
    | with_reducible apply Framed.mk_of)

theorem State.takeIngress_framed {P : Nat} {s₀ : State} (s : State) (h : FrameHdr) (e : Nat) (dropped : Bool) (off : Nat)
    (words : List Nat) (hI : Framed P s₀ s) (hP : maskIn 0x19008402c9 P) : Framed P s₀ (State.takeIngress s h e dropped off
    words) := by
  unfold State.takeIngress
  repeat' (first
    | with_reducible exact Or.inl rfl | exact Or.inr (bit_of hP rfl)
    | ((try lift_lets -underBinder); intro x; refine letS (P := P) (s₀ := s₀) (x := x) ?_ (fun _ => ?_); unfold x; rotate_left; clear_value x)
    | ((try lift_lets -underBinder); intro x; clear_value x) | with_reducible assumption | split
    | with_reducible apply State.ingressPiece_framed | exact maskIn_trans hP rfl | dsimp -zeta only
    | with_reducible apply Framed.mk_of)

theorem State.takeNak_framed {P : Nat} {s₀ : State} (s : State) (first : Nat) (hI : Framed P s₀ s) (hP : maskIn 0x8841200
    P) : Framed P s₀ (State.takeNak s first) := by
  unfold State.takeNak
  repeat' (first
    | with_reducible exact Or.inl rfl | exact Or.inr (bit_of hP rfl)
    | ((try lift_lets -underBinder); intro x; refine letS (P := P) (s₀ := s₀) (x := x) ?_ (fun _ => ?_); unfold x; rotate_left; clear_value x)
    | ((try lift_lets -underBinder); intro x; clear_value x) | with_reducible assumption | split
    | with_reducible apply State.addSat_framed | with_reducible apply State.siphonLost_framed | exact maskIn_trans hP rfl
    | exact bit_of hP rfl | dsimp -zeta only | with_reducible apply Framed.mk_of)

theorem State.frameActs_framed {P : Nat} {s₀ : State} (s : State) (h : FrameHdr) (b : FrameBody) (hI : Framed P s₀ s) (hP
    : maskIn 0x19188d1ad9 P) : Framed P s₀ (State.frameActs s h b) := by
  unfold State.frameActs
  repeat' (first
    | with_reducible exact Or.inl rfl | exact Or.inr (bit_of hP rfl) | with_reducible assumption | split
    | with_reducible refine forL_framed ?_ (fun _ _ _ => ?_) | with_reducible apply State.partnerGone_framed
    | with_reducible apply State.takeMarker_framed | with_reducible apply State.takeHello_framed
    | with_reducible apply State.takeRecord_framed | with_reducible apply State.takeDigestFrame_framed
    | with_reducible apply State.takePrep_framed | with_reducible apply State.takeSnap_framed
    | with_reducible apply State.takeEpochEnd_framed | with_reducible apply State.takeEpochAck_framed
    | with_reducible apply State.takeIngress_framed | with_reducible apply State.takeNak_framed | exact maskIn_trans hP rfl
    | dsimp -zeta only | with_reducible apply Framed.mk_of)

theorem State.frameInOrder_framed {P : Nat} {s₀ : State} (s : State) (h : FrameHdr) (b : FrameBody) (hI : Framed P s₀ s)
    (hP : maskIn 0x19188d1ad9 P) : Framed P s₀ (State.frameInOrder s h b) := by
  unfold State.frameInOrder
  repeat' (first
    | with_reducible exact Or.inl rfl | exact Or.inr (bit_of hP rfl)
    | ((try lift_lets -underBinder); intro x; refine letS (P := P) (s₀ := s₀) (x := x) ?_ (fun _ => ?_); unfold x; rotate_left; clear_value x)
    | ((try lift_lets -underBinder); intro x; clear_value x) | with_reducible assumption
    | with_reducible apply State.frameActs_framed | exact maskIn_trans hP rfl | dsimp -zeta only
    | with_reducible apply Framed.mk_of)

theorem State.drainEarly_framed {P : Nat} {s₀ : State} (s : State) (k : Nat) (hI : Framed P s₀ s) (hP : maskIn
    0x19188d1ad9 P) : Framed P s₀ (State.drainEarly s k) := by
  induction k generalizing s with
  | zero =>
    unfold State.drainEarly
    repeat' (first
      | with_reducible exact Or.inl rfl | exact Or.inr (bit_of hP rfl)
      | ((try lift_lets -underBinder); intro x; refine letS (P := P) (s₀ := s₀) (x := x) ?_ (fun _ => ?_); unfold x; rotate_left; clear_value x)
      | ((try lift_lets -underBinder); intro x; clear_value x) | with_reducible assumption | split
      | with_reducible apply State.frameInOrder_framed | exact maskIn_trans hP rfl | dsimp -zeta only
      | with_reducible apply Framed.mk_of)
  | succ k0 ih =>
    unfold State.drainEarly
    repeat' (first
      | with_reducible exact Or.inl rfl | exact Or.inr (bit_of hP rfl)
      | ((try lift_lets -underBinder); intro x; refine letS (P := P) (s₀ := s₀) (x := x) ?_ (fun _ => ?_); unfold x; rotate_left; clear_value x)
      | ((try lift_lets -underBinder); intro x; clear_value x) | with_reducible assumption | split
      | with_reducible apply State.frameInOrder_framed | exact maskIn_trans hP rfl | with_reducible apply ih
      | dsimp -zeta only | with_reducible apply Framed.mk_of)

theorem State.rxFrame_framed {P : Nat} {s₀ : State} (s : State) (h : FrameHdr) (b : FrameBody) (hI : Framed P s₀ s) (hP :
    maskIn 0x19188d1ad9 P) : Framed P s₀ (State.rxFrame s h b) := by
  unfold State.rxFrame
  repeat' (first
    | with_reducible exact Or.inl rfl | exact Or.inr (bit_of hP rfl) | refine fun (s : State) (hs : Framed P s₀ s) => ?_
    | refine fun (_ : _) (s : State) (hs : Framed P s₀ s) => ?_
    | refine fun (_ : _) (_ : _) (s : State) (hs : Framed P s₀ s) => ?_
    | ((try lift_lets -underBinder); intro x; refine letS (P := P) (s₀ := s₀) (x := x) ?_ (fun _ => ?_); unfold x; rotate_left; clear_value x)
    | ((try lift_lets -underBinder); intro x; clear_value x) | with_reducible assumption | with_reducible apply id_framed
    | split | with_reducible apply when_framed | with_reducible apply State.put_framed
    | with_reducible apply State.incSat_framed | with_reducible apply State.partnerGone_framed
    | with_reducible apply State.takeAck_framed | with_reducible apply State.frameInOrder_framed
    | with_reducible apply State.drainEarly_framed | exact maskIn_trans hP rfl | exact bit_of hP rfl
    | (rw [laneUp_blk]; exact bit_of hP rfl) | dsimp -zeta only | with_reducible apply Framed.mk_of)

theorem execGone_framed {P : Nat} {s₀ : State} (hdr : FrameHdr) (cause : Nat) (s : State) (hI : Framed P s₀ s) (hP :
    maskIn 0x19188d1ad9 P) : FramedO P s₀ (execGone hdr cause s) := by
  unfold execGone
  repeat' (first
    | with_reducible assumption | with_reducible apply FramedO_next | with_reducible apply State.rxFrame_framed
    | exact maskIn_trans hP rfl | dsimp -zeta only)

theorem execMarker_framed {P : Nat} {s₀ : State} (hdr : FrameHdr) (body : Marker) (s : State) (hI : Framed P s₀ s) (hP :
    maskIn 0x19188d1ad9 P) : FramedO P s₀ (execMarker hdr body s) := by
  unfold execMarker
  repeat' (first
    | with_reducible assumption | with_reducible apply FramedO_next | with_reducible apply State.rxFrame_framed
    | exact maskIn_trans hP rfl | dsimp -zeta only)

theorem execStatus_framed {P : Nat} {s₀ : State} (hdr : FrameHdr) (s : State) (hI : Framed P s₀ s) (hP : maskIn
    0x19188d1ad9 P) : FramedO P s₀ (execStatus hdr s) := by
  unfold execStatus
  repeat' (first
    | with_reducible assumption | with_reducible apply FramedO_next | with_reducible apply State.rxFrame_framed
    | exact maskIn_trans hP rfl | dsimp -zeta only)

theorem execNak_framed {P : Nat} {s₀ : State} (hdr : FrameHdr) (first : Nat) (s : State) (hI : Framed P s₀ s) (hP : maskIn
    0x19188d1ad9 P) : FramedO P s₀ (execNak hdr first s) := by
  unfold execNak
  repeat' (first
    | with_reducible assumption | with_reducible apply FramedO_next | with_reducible apply State.rxFrame_framed
    | exact maskIn_trans hP rfl | dsimp -zeta only)

theorem execHello_framed {P : Nat} {s₀ : State} (hdr : FrameHdr) (body : Hello) (s : State) (hI : Framed P s₀ s) (hP :
    maskIn 0x19188d1ad9 P) : FramedO P s₀ (execHello hdr body s) := by
  unfold execHello
  repeat' (first
    | with_reducible assumption | with_reducible apply FramedO_next | with_reducible apply State.rxFrame_framed
    | exact maskIn_trans hP rfl | dsimp -zeta only)

theorem execLedger_framed {P : Nat} {s₀ : State} (hdr : FrameHdr) (recs : List LedgerRec) (s : State) (hI : Framed P s₀ s)
    (hP : maskIn 0x19188d1ad9 P) : FramedO P s₀ (execLedger hdr recs s) := by
  unfold execLedger
  repeat' (first
    | with_reducible assumption | with_reducible apply FramedO_next | with_reducible apply State.rxFrame_framed
    | exact maskIn_trans hP rfl | dsimp -zeta only)

theorem execDigest_framed {P : Nat} {s₀ : State} (hdr : FrameHdr) (blk out tdmIn : Nat) (s : State) (hI : Framed P s₀ s)
    (hP : maskIn 0x19188d1ad9 P) : FramedO P s₀ (execDigest hdr blk out tdmIn s) := by
  unfold execDigest
  repeat' (first
    | with_reducible assumption | with_reducible apply FramedO_next | with_reducible apply State.rxFrame_framed
    | exact maskIn_trans hP rfl | dsimp -zeta only)

theorem execPrep_framed {P : Nat} {s₀ : State} (hdr : FrameHdr) (counter : Nat) (s : State) (hI : Framed P s₀ s) (hP :
    maskIn 0x19188d1ad9 P) : FramedO P s₀ (execPrep hdr counter s) := by
  unfold execPrep
  repeat' (first
    | with_reducible assumption | with_reducible apply FramedO_next | with_reducible apply State.rxFrame_framed
    | exact maskIn_trans hP rfl | dsimp -zeta only)

theorem execEpochEnd_framed {P : Nat} {s₀ : State} (hdr : FrameHdr) (epoch bytes crc : Nat) (s : State) (hI : Framed P s₀
    s) (hP : maskIn 0x19188d1ad9 P) : FramedO P s₀ (execEpochEnd hdr epoch bytes crc s) := by
  unfold execEpochEnd
  repeat' (first
    | with_reducible assumption | with_reducible apply FramedO_next | with_reducible apply State.rxFrame_framed
    | exact maskIn_trans hP rfl | dsimp -zeta only)

theorem execEpochAck_framed {P : Nat} {s₀ : State} (hdr : FrameHdr) (epoch result : Nat) (s : State) (hI : Framed P s₀ s)
    (hP : maskIn 0x19188d1ad9 P) : FramedO P s₀ (execEpochAck hdr epoch result s) := by
  unfold execEpochAck
  repeat' (first
    | with_reducible assumption | with_reducible apply FramedO_next | with_reducible apply State.rxFrame_framed
    | exact maskIn_trans hP rfl | dsimp -zeta only)

theorem execIngress_framed {P : Nat} {s₀ : State} (hdr : FrameHdr) (edge : Nat) (dropped : Bool) (off : Nat) (words : List
    Nat) (s : State) (hI : Framed P s₀ s) (hP : maskIn 0x19188d1ad9 P) : FramedO P s₀ (execIngress hdr edge dropped off words
    s) := by
  unfold execIngress
  repeat' (first
    | with_reducible assumption | with_reducible apply FramedO_next | with_reducible apply State.rxFrame_framed
    | exact maskIn_trans hP rfl | dsimp -zeta only)

theorem execSnap_framed {P : Nat} {s₀ : State} (hdr : FrameHdr) (epoch off : Nat) (data : List Byte) (s : State) (hI :
    Framed P s₀ s) (hP : maskIn 0x19188d1ad9 P) : FramedO P s₀ (execSnap hdr epoch off data s) := by
  unfold execSnap
  repeat' (first
    | with_reducible assumption | with_reducible apply FramedO_next | with_reducible apply State.rxFrame_framed
    | exact maskIn_trans hP rfl | dsimp -zeta only)

theorem execStatusTimer_framed {P : Nat} {s₀ : State} (s : State) (hI : Framed P s₀ s) (hP : maskIn 0x200 P) : FramedO P
    s₀ (execStatusTimer s) := by
  unfold execStatusTimer
  repeat' (first
    | refine fun (s : State) (hs : Framed P s₀ s) => ?_ | refine fun (_ : _) (s : State) (hs : Framed P s₀ s) => ?_
    | refine fun (_ : _) (_ : _) (s : State) (hs : Framed P s₀ s) => ?_ | with_reducible assumption
    | with_reducible apply id_framed | with_reducible apply when_framed | with_reducible apply FramedO_next
    | with_reducible apply State.sendFrame_framed | exact maskIn_trans hP rfl | dsimp -zeta only)

theorem execSeqGapTimeout_framed {P : Nat} {s₀ : State} (s : State) (hI : Framed P s₀ s) (hP : maskIn 0x200 P) : FramedO P
    s₀ (execSeqGapTimeout s) := by
  unfold execSeqGapTimeout
  repeat' (first
    | with_reducible exact Or.inl rfl | exact Or.inr (bit_of hP rfl) | refine fun (s : State) (hs : Framed P s₀ s) => ?_
    | refine fun (_ : _) (s : State) (hs : Framed P s₀ s) => ?_
    | refine fun (_ : _) (_ : _) (s : State) (hs : Framed P s₀ s) => ?_
    | ((try lift_lets -underBinder); intro x; refine letS (P := P) (s₀ := s₀) (x := x) ?_ (fun _ => ?_); unfold x; rotate_left; clear_value x)
    | ((try lift_lets -underBinder); intro x; clear_value x) | with_reducible assumption | with_reducible apply id_framed
    | with_reducible apply when_framed | with_reducible apply FramedO_next | with_reducible apply State.sendFrame_framed
    | exact maskIn_trans hP rfl | dsimp -zeta only | with_reducible apply Framed.mk_of)

theorem execDigestSend_framed {P : Nat} {s₀ : State} (blk : Nat) (s : State) (hI : Framed P s₀ s) (hP : maskIn 0x8841200
    P) : FramedO P s₀ (execDigestSend blk s) := by
  unfold execDigestSend
  repeat' (first
    | with_reducible exact Or.inl rfl | exact Or.inr (bit_of hP rfl) | refine fun (s : State) (hs : Framed P s₀ s) => ?_
    | refine fun (_ : _) (s : State) (hs : Framed P s₀ s) => ?_
    | refine fun (_ : _) (_ : _) (s : State) (hs : Framed P s₀ s) => ?_
    | ((try lift_lets -underBinder); intro x; refine letS (P := P) (s₀ := s₀) (x := x) ?_ (fun _ => ?_); unfold x; rotate_left; clear_value x)
    | ((try lift_lets -underBinder); intro x; clear_value x) | with_reducible assumption | with_reducible apply id_framed
    | with_reducible apply when_framed | with_reducible apply FramedO_next | with_reducible apply State.sendFrame_framed
    | with_reducible apply State.compareDigest_framed | exact maskIn_trans hP rfl | dsimp -zeta only
    | with_reducible apply Framed.mk_of)

theorem State.digestMissing_framed {P : Nat} {s₀ : State} (s : State) (j : Nat) (hI : Framed P s₀ s) (hP : maskIn
    0x8841200 P) : Framed P s₀ (State.digestMissing s j) := by
  unfold State.digestMissing
  repeat' (first
    | with_reducible assumption | split | with_reducible apply State.diverge_framed | exact maskIn_trans hP rfl
    | dsimp -zeta only)

theorem State.switchOver_framed {P : Nat} {s₀ : State} (s : State) (hI : Framed P s₀ s) (hP : maskIn 0x8000200 P) : Framed
    P s₀ (State.switchOver s) := by
  unfold State.switchOver
  repeat' (first
    | with_reducible exact Or.inl rfl | exact Or.inr (bit_of hP rfl)
    | ((try lift_lets -underBinder); intro x; refine letS (P := P) (s₀ := s₀) (x := x) ?_ (fun _ => ?_); unfold x; rotate_left; clear_value x)
    | ((try lift_lets -underBinder); intro x; clear_value x) | with_reducible assumption | split
    | with_reducible apply State.put_framed | with_reducible apply State.stamp_framed | exact maskIn_trans hP rfl
    | exact bit_of hP rfl | dsimp -zeta only | with_reducible apply Framed.mk_of)

theorem execSwitch_framed {P : Nat} {s₀ : State} (s : State) (hI : Framed P s₀ s) (hP : maskIn 0x8000200 P) : FramedO P s₀
    (execSwitch s) := by
  unfold execSwitch
  repeat' (first
    | refine fun (s : State) (hs : Framed P s₀ s) => ?_ | refine fun (_ : _) (s : State) (hs : Framed P s₀ s) => ?_
    | refine fun (_ : _) (_ : _) (s : State) (hs : Framed P s₀ s) => ?_ | with_reducible assumption
    | with_reducible apply id_framed | with_reducible apply when_framed | with_reducible apply FramedO_next
    | with_reducible apply State.switchOver_framed | exact maskIn_trans hP rfl | dsimp -zeta only)

theorem State.rejoin_framed {P : Nat} {s₀ : State} (s : State) (hI : Framed P s₀ s) (hP : maskIn 0x200 P) : Framed P s₀
    (State.rejoin s) := by
  unfold State.rejoin
  repeat' (first
    | refine fun (s : State) (hs : Framed P s₀ s) => ?_ | refine fun (_ : _) (s : State) (hs : Framed P s₀ s) => ?_
    | refine fun (_ : _) (_ : _) (s : State) (hs : Framed P s₀ s) => ?_ | with_reducible assumption
    | with_reducible apply id_framed | with_reducible apply when_framed | with_reducible apply State.sendHello_framed
    | exact maskIn_trans hP rfl | dsimp -zeta only)

theorem execRejoin_framed {P : Nat} {s₀ : State} (s : State) (hI : Framed P s₀ s) (hP : maskIn 0x200 P) : FramedO P s₀
    (execRejoin s) := by
  unfold execRejoin
  repeat' (first
    | refine fun (s : State) (hs : Framed P s₀ s) => ?_ | refine fun (_ : _) (s : State) (hs : Framed P s₀ s) => ?_
    | refine fun (_ : _) (_ : _) (s : State) (hs : Framed P s₀ s) => ?_ | with_reducible assumption
    | with_reducible apply id_framed | with_reducible apply when_framed | with_reducible apply FramedO_next
    | with_reducible apply State.rejoin_framed | exact maskIn_trans hP rfl | dsimp -zeta only)

theorem State.partnerDiverge_framed {P : Nat} {s₀ : State} (s : State) (hI : Framed P s₀ s) (hP : maskIn 0x200 P) : Framed
    P s₀ (State.partnerDiverge s) := by
  unfold State.partnerDiverge
  repeat' (first
    | refine fun (s : State) (hs : Framed P s₀ s) => ?_ | refine fun (_ : _) (s : State) (hs : Framed P s₀ s) => ?_
    | refine fun (_ : _) (_ : _) (s : State) (hs : Framed P s₀ s) => ?_ | with_reducible assumption
    | with_reducible apply id_framed | with_reducible apply when_framed | with_reducible apply State.submit_framed
    | exact maskIn_trans hP rfl | dsimp -zeta only)

theorem execPartnerDivergeRequest_framed {P : Nat} {s₀ : State} (s : State) (hI : Framed P s₀ s) (hP : maskIn 0x200 P) :
    FramedO P s₀ (execPartnerDivergeRequest s) := by
  unfold execPartnerDivergeRequest
  repeat' (first
    | refine fun (s : State) (hs : Framed P s₀ s) => ?_ | refine fun (_ : _) (s : State) (hs : Framed P s₀ s) => ?_
    | refine fun (_ : _) (_ : _) (s : State) (hs : Framed P s₀ s) => ?_ | with_reducible assumption
    | with_reducible apply id_framed | with_reducible apply when_framed | with_reducible apply FramedO_next
    | with_reducible apply State.partnerDiverge_framed | exact maskIn_trans hP rfl | dsimp -zeta only)

theorem execRejoinWaitExpiry_framed {P : Nat} {s₀ : State} (s : State) (hI : Framed P s₀ s) (hP : maskIn 0x8000200 P) :
    FramedO P s₀ (execRejoinWaitExpiry s) := by
  unfold execRejoinWaitExpiry
  repeat' (first
    | refine fun (s : State) (hs : Framed P s₀ s) => ?_ | refine fun (_ : _) (s : State) (hs : Framed P s₀ s) => ?_
    | refine fun (_ : _) (_ : _) (s : State) (hs : Framed P s₀ s) => ?_ | with_reducible assumption
    | with_reducible apply id_framed | with_reducible apply when_framed | with_reducible apply FramedO_next
    | with_reducible apply State.rejoin_framed | exact maskIn_trans hP rfl | dsimp -zeta only)

theorem execSyncTimeout_framed {P : Nat} {s₀ : State} (s : State) (hI : Framed P s₀ s) (hP : maskIn 0x8841200 P) : FramedO
    P s₀ (execSyncTimeout s) := by
  unfold execSyncTimeout
  repeat' (first
    | with_reducible exact Or.inl rfl | exact Or.inr (bit_of hP rfl) | refine fun (s : State) (hs : Framed P s₀ s) => ?_
    | refine fun (_ : _) (s : State) (hs : Framed P s₀ s) => ?_
    | refine fun (_ : _) (_ : _) (s : State) (hs : Framed P s₀ s) => ?_ | with_reducible assumption
    | with_reducible apply id_framed | split | with_reducible apply when_framed | with_reducible apply FramedO_next
    | with_reducible apply State.syncFail_framed | exact maskIn_trans hP rfl | dsimp -zeta only
    | with_reducible apply Framed.mk_of)

theorem State.pairStep_framed {P : Nat} {s₀ : State} (s : State) (j : Nat) (hI : Framed P s₀ s) (hP : maskIn 0x1018841240
    P) : Framed P s₀ (State.pairStep s j) := by
  unfold State.pairStep
  repeat' (first
    | with_reducible exact Or.inl rfl | exact Or.inr (bit_of hP rfl)
    | ((try lift_lets -underBinder); intro x; refine letS (P := P) (s₀ := s₀) (x := x) ?_ (fun _ => ?_); unfold x; rotate_left; clear_value x)
    | ((try lift_lets -underBinder); intro x; clear_value x) | with_reducible assumption | split
    | with_reducible apply State.incSat_framed | with_reducible apply State.raise_framed
    | with_reducible apply State.release_framed | with_reducible apply State.setRole_framed
    | with_reducible apply State.claimOn_framed | with_reducible apply State.claimOff_framed
    | with_reducible apply State.clearSync_framed | with_reducible apply State.planesFrom_framed | exact maskIn_trans hP rfl
    | exact bit_of hP rfl | dsimp -zeta only | with_reducible apply Framed.mk_of)

theorem State.lockstepBegin_framed {P : Nat} {s₀ : State} (s : State) (m : Nat) (hI : Framed P s₀ s) (hP : maskIn
    0x19088402e9 P) : Framed P s₀ (State.lockstepBegin s m) := by
  unfold State.lockstepBegin
  repeat' (first
    | with_reducible exact Or.inl rfl | exact Or.inr (bit_of hP rfl)
    | ((try lift_lets -underBinder); intro x; refine letS (P := P) (s₀ := s₀) (x := x) ?_ (fun _ => ?_); unfold x; rotate_left; clear_value x)
    | ((try lift_lets -underBinder); intro x; clear_value x) | with_reducible assumption | split
    | with_reducible refine forL_framed ?_ (fun _ _ _ => ?_) | with_reducible apply State.clearSync_framed
    | with_reducible apply State.ingressPiece_framed | exact maskIn_trans hP rfl | dsimp -zeta only
    | with_reducible apply Framed.mk_of)

theorem State.sendMarker_framed {P : Nat} {s₀ : State} (s : State) (j : Nat) (hI : Framed P s₀ s) (hP : maskIn
    0x1002000240 P) : Framed P s₀ (State.sendMarker s j) := by
  unfold State.sendMarker
  repeat' (first

    | ((try lift_lets -underBinder); intro x; refine letS (P := P) (s₀ := s₀) (x := x) ?_ (fun _ => ?_); unfold x; rotate_left; clear_value x)
    | ((try lift_lets -underBinder); intro x; clear_value x) | with_reducible assumption | split
    | with_reducible apply State.release_framed | with_reducible apply State.sendFrame_framed | exact maskIn_trans hP rfl
    | dsimp -zeta only)

theorem execSiphLaneRetrainTimeout_framed {P : Nat} {s₀ : State} (lane : Nat) (s : State) (hI : Framed P s₀ s) (hP :
    maskIn 0x4a60040 P) : FramedO P s₀ (execSiphLaneRetrainTimeout lane s) := by
  unfold execSiphLaneRetrainTimeout
  repeat' (first
    | refine fun (s : State) (hs : Framed P s₀ s) => ?_ | refine fun (_ : _) (s : State) (hs : Framed P s₀ s) => ?_
    | refine fun (_ : _) (_ : _) (s : State) (hs : Framed P s₀ s) => ?_ | with_reducible assumption
    | with_reducible apply id_framed | with_reducible apply when_framed | with_reducible apply FramedO_next
    | with_reducible apply State.healthStuck_framed | exact maskIn_trans hP rfl | (rw [laneUp_blk]; exact bit_of hP rfl)
    | dsimp -zeta only)

end Sys2Proof.Machine
end

