-- ==== Sys2Proof/Laws/FramedHealth.lean ====
section
/-! SUPPORT. What the operations and commands of Machine/Health.lean can change, as masks of parts (Laws/Framed.lean): one lemma
for each. -/

namespace Sys2Proof.Machine

open Sys2Proof

theorem execErrWinExpiry_framed {P : Nat} {s₀ : State} (s : State) (hI : Framed P s₀ s) (hP : maskIn 0x20000 P) : FramedO
    P s₀ (execErrWinExpiry s) := by
  unfold execErrWinExpiry
  repeat' (first
    | with_reducible exact Or.inl rfl | exact Or.inr (bit_of hP rfl) | refine fun (s : State) (hs : Framed P s₀ s) => ?_
    | refine fun (_ : _) (s : State) (hs : Framed P s₀ s) => ?_
    | refine fun (_ : _) (_ : _) (s : State) (hs : Framed P s₀ s) => ?_ | with_reducible assumption
    | with_reducible apply id_framed | with_reducible apply when_framed | with_reducible apply FramedO_next
    | dsimp -zeta only | with_reducible apply Framed.mk_of)

theorem State.retire_framed {P : Nat} {s₀ : State} (s : State) (kind site : Nat) (hI : Framed P s₀ s) (hP : maskIn
    0x4a60040 P) : Framed P s₀ (State.retire s kind site) := by
  unfold State.retire
  repeat' (first
    | refine fun (s : State) (hs : Framed P s₀ s) => ?_ | refine fun (_ : _) (s : State) (hs : Framed P s₀ s) => ?_
    | refine fun (_ : _) (_ : _) (s : State) (hs : Framed P s₀ s) => ?_ | with_reducible assumption
    | with_reducible apply id_framed | with_reducible apply when_framed | with_reducible apply State.permanent_framed
    | exact maskIn_trans hP rfl | dsimp -zeta only)

theorem execHlthRetire_framed {P : Nat} {s₀ : State} (kind site : Nat) (s : State) (hI : Framed P s₀ s) (hP : maskIn
    0x4a60040 P) : FramedO P s₀ (execHlthRetire kind site s) := by
  unfold execHlthRetire
  repeat' (first
    | refine fun (s : State) (hs : Framed P s₀ s) => ?_ | refine fun (_ : _) (s : State) (hs : Framed P s₀ s) => ?_
    | refine fun (_ : _) (_ : _) (s : State) (hs : Framed P s₀ s) => ?_ | with_reducible assumption
    | with_reducible apply id_framed | with_reducible apply when_framed | with_reducible apply FramedO_next
    | with_reducible apply State.retire_framed | exact maskIn_trans hP rfl | dsimp -zeta only)

theorem execRetirementRecordWrite_framed {P : Nat} {s₀ : State} (ok : Bool) (s : State) (hI : Framed P s₀ s) (hP : maskIn
    0x860004 P) : FramedO P s₀ (execRetirementRecordWrite ok s) := by
  unfold execRetirementRecordWrite
  repeat' (first
    | with_reducible exact Or.inl rfl | exact Or.inr (bit_of hP rfl) | refine fun (s : State) (hs : Framed P s₀ s) => ?_
    | refine fun (_ : _) (s : State) (hs : Framed P s₀ s) => ?_
    | refine fun (_ : _) (_ : _) (s : State) (hs : Framed P s₀ s) => ?_
    | ((try lift_lets -underBinder); intro x; refine letS (P := P) (s₀ := s₀) (x := x) ?_ (fun _ => ?_); unfold x; rotate_left; clear_value x)
    | ((try lift_lets -underBinder); intro x; clear_value x) | with_reducible assumption | with_reducible apply id_framed
    | split | with_reducible apply when_framed | with_reducible apply FramedO_next | with_reducible apply State.raise_framed
    | with_reducible apply State.retired_framed | exact maskIn_trans hP rfl | dsimp -zeta only
    | with_reducible apply Framed.mk_of)

theorem State.retired_framed {P : Nat} {s₀ : State} (s : State) (r : Retired) (hI : Framed P s₀ s) (hP : maskIn 0x20000 P)
    : Framed P s₀ (State.retired s r) := by
  unfold State.retired
  repeat' (first
    | with_reducible exact Or.inl rfl | exact Or.inr (bit_of hP rfl) | with_reducible assumption | dsimp -zeta only
    | with_reducible apply Framed.mk_of)

theorem State.mapBanks_framed {P : Nat} {s₀ : State} (s : State) (hI : Framed P s₀ s) (hP : maskIn 0x104860000 P) : Framed
    P s₀ (State.mapBanks s) := by
  unfold State.mapBanks
  repeat' (first
    | with_reducible exact Or.inl rfl | exact Or.inr (bit_of hP rfl)
    | ((try lift_lets -underBinder); intro x; refine letS (P := P) (s₀ := s₀) (x := x) ?_ (fun _ => ?_); unfold x; rotate_left; clear_value x)
    | ((try lift_lets -underBinder); intro x; clear_value x) | with_reducible assumption | split
    | with_reducible refine forL_framed ?_ (fun _ _ _ => ?_) | with_reducible apply State.put_framed
    | with_reducible apply State.raise_framed | with_reducible apply State.useSpare_framed
    | with_reducible apply State.retired_framed | exact maskIn_trans hP rfl | exact bit_of hP rfl | dsimp -zeta only
    | with_reducible apply Framed.mk_of)

theorem State.countRow_framed {P : Nat} {s₀ : State} (s : State) (b : Nat) (hI : Framed P s₀ s) (hP : maskIn 0x100000000
    P) : Framed P s₀ (State.countRow s b) := by
  unfold State.countRow
  repeat' (first
    | with_reducible exact Or.inl rfl | exact Or.inr (bit_of hP rfl) | with_reducible assumption | split
    | with_reducible apply State.incSat_framed | exact bit_of hP rfl | dsimp -zeta only | with_reducible apply Framed.mk_of)

theorem State.mapRow_framed {P : Nat} {s₀ : State} (s : State) (b r sp : Nat) (hI : Framed P s₀ s) (hP : maskIn
    0x104860000 P) : Framed P s₀ (State.mapRow s b r sp) := by
  unfold State.mapRow
  repeat' (first
    | with_reducible exact Or.inl rfl | exact Or.inr (bit_of hP rfl)
    | ((try lift_lets -underBinder); intro x; refine letS (P := P) (s₀ := s₀) (x := x) ?_ (fun _ => ?_); unfold x; rotate_left; clear_value x)
    | ((try lift_lets -underBinder); intro x; clear_value x) | with_reducible assumption | split
    | with_reducible apply State.put_framed | with_reducible apply State.raise_framed
    | with_reducible apply State.retired_framed | with_reducible apply State.countRow_framed | exact maskIn_trans hP rfl
    | exact bit_of hP rfl | dsimp -zeta only | with_reducible apply Framed.mk_of)

theorem State.mapRows_framed {P : Nat} {s₀ : State} (s : State) (hI : Framed P s₀ s) (hP : maskIn 0x104860000 P) : Framed
    P s₀ (State.mapRows s) := by
  unfold State.mapRows
  repeat' (first
    | with_reducible exact Or.inl rfl | exact Or.inr (bit_of hP rfl) | with_reducible assumption
    | with_reducible refine forL_framed ?_ (fun _ _ _ => ?_) | with_reducible apply State.mapRow_framed
    | exact maskIn_trans hP rfl | dsimp -zeta only | with_reducible apply Framed.mk_of)

theorem State.moveFields_framed {P : Nat} {s₀ : State} (s : State) (old new : Nat) (hI : Framed P s₀ s) (hP : maskIn
    0x8000000000 P) : Framed P s₀ (State.moveFields s old new) := by
  exact hI.ofRegs (bit_of hP rfl) fun c => foldl_sorted
    (nkeep_sorted (fun k => !((keyBlock k = 14 || keyBlock k = 15 || keyBlock k = 16) && (keyI k = old || keyI k = new))) c)
    fun _ _ hm => nput_sorted _ _ hm

theorem State.copyCluster_framed {P : Nat} {s₀ : State} (s : State) (old new : Nat) (hI : Framed P s₀ s) (hP : maskIn 0x81
    P) : Framed P s₀ (State.copyCluster s old new) := by
  unfold State.copyCluster
  have h1 := State.zeroCluster_framed s new hI (maskIn_trans hP rfl)
  apply forL_framed
  · exact h1.ofMem (bit_of hP rfl) fun c => foldl_wf c fun _ _ hm => memSet_wf _ _ hm
  · intro a s h
    repeat' (first | split | apply State.wrMem_framed | exact h | exact maskIn_trans hP rfl | (lift_lets; intro x))

theorem State.mapCluster_framed {P : Nat} {s₀ : State} (s : State) (old new : Nat) (hI : Framed P s₀ s) (hP : maskIn
    0x8104a600c3 P) : Framed P s₀ (State.mapCluster s old new) := by
  unfold State.mapCluster
  repeat' (first
    | with_reducible exact Or.inl rfl | exact Or.inr (bit_of hP rfl)
    | ((try lift_lets -underBinder); intro x; refine letS (P := P) (s₀ := s₀) (x := x) ?_ (fun _ => ?_); unfold x; rotate_left; clear_value x)
    | ((try lift_lets -underBinder); intro x; clear_value x) | with_reducible assumption | split
    | with_reducible refine forN_framed ?_ (fun _ _ _ => ?_) | with_reducible apply State.put_framed
    | with_reducible apply State.raise_framed | with_reducible apply State.setClocked_framed
    | with_reducible apply State.useSpare_framed | with_reducible apply State.retired_framed
    | with_reducible apply State.moveFields_framed | with_reducible apply State.copyCluster_framed
    | exact maskIn_trans hP rfl | exact bit_of hP rfl | dsimp -zeta only | with_reducible apply Framed.mk_of)

theorem State.mapClusters_framed {P : Nat} {s₀ : State} (s : State) (hI : Framed P s₀ s) (hP : maskIn 0x8104a600c3 P) :
    Framed P s₀ (State.mapClusters s) := by
  unfold State.mapClusters
  repeat' (first
    | with_reducible assumption | with_reducible refine forL_framed ?_ (fun _ _ _ => ?_)
    | with_reducible apply State.mapCluster_framed | exact maskIn_trans hP rfl | dsimp -zeta only)

theorem State.mapLane_framed {P : Nat} {s₀ : State} (s : State) (r : Retired) (hI : Framed P s₀ s) (hP : maskIn 0x4860008
    P) : Framed P s₀ (State.mapLane s r) := by
  unfold State.mapLane
  repeat' (first
    | with_reducible exact Or.inl rfl | exact Or.inr (bit_of hP rfl)
    | ((try lift_lets -underBinder); intro x; refine letS (P := P) (s₀ := s₀) (x := x) ?_ (fun _ => ?_); unfold x; rotate_left; clear_value x)
    | ((try lift_lets -underBinder); intro x; clear_value x) | with_reducible assumption | split
    | with_reducible apply State.put_framed | with_reducible apply State.raise_framed
    | with_reducible apply State.useSpare_framed | with_reducible apply State.retired_framed | exact maskIn_trans hP rfl
    | exact bit_of hP rfl | dsimp -zeta only | with_reducible apply Framed.mk_of)

theorem State.mapLanesOf_framed {P : Nat} {s₀ : State} (s : State) (n : Nat) (hI : Framed P s₀ s) (hP : maskIn 0x4a60048
    P) : Framed P s₀ (State.mapLanesOf s n) := by
  unfold State.mapLanesOf
  repeat' (first

    | ((try lift_lets -underBinder); intro x; refine letS (P := P) (s₀ := s₀) (x := x) ?_ (fun _ => ?_); unfold x; rotate_left; clear_value x)
    | ((try lift_lets -underBinder); intro x; clear_value x) | with_reducible assumption | split
    | with_reducible refine forL_framed ?_ (fun _ _ _ => ?_) | with_reducible apply State.permanent_framed
    | with_reducible apply State.mapLane_framed | exact maskIn_trans hP rfl | dsimp -zeta only)

theorem State.shedTasks_framed {P : Nat} {s₀ : State} (s : State) (keys : List Nat) (hI : Framed P s₀ s) (hP : maskIn
    0x1800840040 P) : Framed P s₀ (State.shedTasks s keys) := by
  unfold State.shedTasks
  repeat' (first
    | with_reducible exact Or.inl rfl | exact Or.inr (bit_of hP rfl)
    | ((try lift_lets -underBinder); intro x; refine letS (P := P) (s₀ := s₀) (x := x) ?_ (fun _ => ?_); unfold x; rotate_left; clear_value x)
    | ((try lift_lets -underBinder); intro x; clear_value x) | with_reducible assumption
    | with_reducible refine forL_framed ?_ (fun _ _ _ => ?_) | with_reducible refine foldl_framed ?_ (fun _ _ _ => ?_)
    | with_reducible apply State.raise_framed | with_reducible apply State.cancelTask_framed | exact maskIn_trans hP rfl
    | dsimp -zeta only | with_reducible apply Framed.mk_of)

theorem State.shedStep_framed {P : Nat} {s₀ : State} (s : State) (hI : Framed P s₀ s) (hP : maskIn 0x1808a61240 P) :
    Framed P s₀ (State.shedStep s) := by
  unfold State.shedStep
  repeat' (first

    | ((try lift_lets -underBinder); intro x; refine letS (P := P) (s₀ := s₀) (x := x) ?_ (fun _ => ?_); unfold x; rotate_left; clear_value x)
    | ((try lift_lets -underBinder); intro x; clear_value x) | with_reducible assumption | split
    | with_reducible refine forL_framed ?_ (fun _ _ _ => ?_) | with_reducible refine foldl_framed ?_ (fun _ _ _ => ?_)
    | with_reducible apply State.raise_framed | with_reducible apply State.setClocked_framed
    | with_reducible apply State.submit_framed | with_reducible apply State.diverge_framed
    | with_reducible apply State.retired_framed | with_reducible apply State.shedTasks_framed | exact maskIn_trans hP rfl
    | dsimp -zeta only)

theorem State.dropSpares_framed {P : Nat} {s₀ : State} (s : State) (hI : Framed P s₀ s) (hP : maskIn 0x4860000 P) : Framed
    P s₀ (State.dropSpares s) := by
  unfold State.dropSpares
  repeat' (first
    | with_reducible assumption | split | with_reducible refine forL_framed ?_ (fun _ _ _ => ?_)
    | with_reducible apply State.useSpare_framed | with_reducible apply State.retired_framed | exact maskIn_trans hP rfl
    | exact bit_of hP rfl | dsimp -zeta only)

theorem State.spareStep_framed {P : Nat} {s₀ : State} (s : State) (hI : Framed P s₀ s) (hP : maskIn 0x990ca612cb P) :
    Framed P s₀ (State.spareStep s) := by
  unfold State.spareStep
  repeat' (first

    | ((try lift_lets -underBinder); intro x; refine letS (P := P) (s₀ := s₀) (x := x) ?_ (fun _ => ?_); unfold x; rotate_left; clear_value x)
    | ((try lift_lets -underBinder); intro x; clear_value x) | with_reducible assumption
    | with_reducible refine forN_framed ?_ (fun _ _ _ => ?_) | with_reducible apply State.mapBanks_framed
    | with_reducible apply State.mapRows_framed | with_reducible apply State.mapClusters_framed
    | with_reducible apply State.mapLanesOf_framed | with_reducible apply State.shedStep_framed
    | with_reducible apply State.dropSpares_framed | exact maskIn_trans hP rfl | dsimp -zeta only)

theorem execSpareClusterReady_framed {P : Nat} {s₀ : State} (site : Nat) (ok : Bool) (s : State) (hI : Framed P s₀ s) (hP
    : maskIn 0x4004a600c1 P) : FramedO P s₀ (execSpareClusterReady site ok s) := by
  unfold execSpareClusterReady
  repeat' (first
    | with_reducible exact Or.inl rfl | exact Or.inr (bit_of hP rfl) | refine fun (s : State) (hs : Framed P s₀ s) => ?_
    | refine fun (_ : _) (s : State) (hs : Framed P s₀ s) => ?_
    | refine fun (_ : _) (_ : _) (s : State) (hs : Framed P s₀ s) => ?_
    | ((try lift_lets -underBinder); intro x; refine letS (P := P) (s₀ := s₀) (x := x) ?_ (fun _ => ?_); unfold x; rotate_left; clear_value x)
    | ((try lift_lets -underBinder); intro x; clear_value x) | with_reducible assumption | with_reducible apply id_framed
    | split | with_reducible apply when_framed | with_reducible apply FramedO_next | with_reducible apply State.put_framed
    | with_reducible apply State.setClocked_framed | with_reducible apply State.startClusterCopy_framed
    | with_reducible apply State.permanent_framed | with_reducible apply State.copyCluster_framed | exact maskIn_trans hP rfl
    | exact bit_of hP rfl | dsimp -zeta only | with_reducible apply Framed.mk_of)

theorem execBrineBorrow_framed {P : Nat} {s₀ : State} (addr : Nat) (s : State) (hI : Framed P s₀ s) (hP : maskIn 0x20000
    P) : FramedO P s₀ (execBrineBorrow addr s) := by
  unfold execBrineBorrow
  repeat' (first
    | with_reducible exact Or.inl rfl | exact Or.inr (bit_of hP rfl) | refine fun (s : State) (hs : Framed P s₀ s) => ?_
    | refine fun (_ : _) (s : State) (hs : Framed P s₀ s) => ?_
    | refine fun (_ : _) (_ : _) (s : State) (hs : Framed P s₀ s) => ?_
    | ((try lift_lets -underBinder); intro x; refine letS (P := P) (s₀ := s₀) (x := x) ?_ (fun _ => ?_); unfold x; rotate_left; clear_value x)
    | ((try lift_lets -underBinder); intro x; clear_value x) | with_reducible assumption | with_reducible apply id_framed
    | split | with_reducible apply when_framed | with_reducible apply FramedO_next | dsimp -zeta only
    | with_reducible apply Framed.mk_of)

theorem State.endBorrow_framed {P : Nat} {s₀ : State} (s : State) (m : Nat) (hI : Framed P s₀ s) (hP : maskIn 0x20001 P) :
    Framed P s₀ (State.endBorrow s m) := by
  unfold State.endBorrow
  split
  · exact hI
  · exact { hI with memWf := fun c => memSetList_wf _ _ (hI.memWf c), mem := bit_no hP rfl, hlth := bit_no hP rfl }

theorem State.marchFail_framed {P : Nat} {s₀ : State} (s : State) (m a : Nat) (hI : Framed P s₀ s) (hP : maskIn
    0x104a60040 P) : Framed P s₀ (State.marchFail s m a) := by
  unfold State.marchFail
  repeat' (first
    | with_reducible exact Or.inl rfl | exact Or.inr (bit_of hP rfl)
    | ((try lift_lets -underBinder); intro x; refine letS (P := P) (s₀ := s₀) (x := x) ?_ (fun _ => ?_); unfold x; rotate_left; clear_value x)
    | ((try lift_lets -underBinder); intro x; clear_value x) | with_reducible assumption | split
    | with_reducible apply State.incSat_framed | with_reducible apply State.raise_framed
    | with_reducible apply State.healthStuck_framed | exact maskIn_trans hP rfl | exact bit_of hP rfl | dsimp -zeta only
    | with_reducible apply Framed.mk_of)

theorem execBrineBorrowEnd_framed {P : Nat} {s₀ : State} (memId : Nat) (pass : Bool) (s : State) (hI : Framed P s₀ s) (hP
    : maskIn 0x104a60041 P) : FramedO P s₀ (execBrineBorrowEnd memId pass s) := by
  unfold execBrineBorrowEnd
  repeat' (first
    | with_reducible exact Or.inl rfl | exact Or.inr (bit_of hP rfl) | refine fun (s : State) (hs : Framed P s₀ s) => ?_
    | refine fun (_ : _) (s : State) (hs : Framed P s₀ s) => ?_
    | refine fun (_ : _) (_ : _) (s : State) (hs : Framed P s₀ s) => ?_
    | ((try lift_lets -underBinder); intro x; refine letS (P := P) (s₀ := s₀) (x := x) ?_ (fun _ => ?_); unfold x; rotate_left; clear_value x)
    | ((try lift_lets -underBinder); intro x; clear_value x) | with_reducible assumption | with_reducible apply id_framed
    | split | with_reducible apply when_framed | with_reducible apply FramedO_next
    | with_reducible apply State.endBorrow_framed | with_reducible apply State.marchFail_framed | exact maskIn_trans hP rfl
    | dsimp -zeta only | with_reducible apply Framed.mk_of)

theorem execBrineYield_framed {P : Nat} {s₀ : State} (memId : Nat) (s : State) (hI : Framed P s₀ s) (hP : maskIn 0x4020001
    P) : FramedO P s₀ (execBrineYield memId s) := by
  unfold execBrineYield
  repeat' (first
    | refine fun (s : State) (hs : Framed P s₀ s) => ?_ | refine fun (_ : _) (s : State) (hs : Framed P s₀ s) => ?_
    | refine fun (_ : _) (_ : _) (s : State) (hs : Framed P s₀ s) => ?_ | with_reducible assumption
    | with_reducible apply id_framed | with_reducible apply when_framed | with_reducible apply FramedO_next
    | with_reducible apply State.incSat_framed | with_reducible apply State.endBorrow_framed | exact maskIn_trans hP rfl
    | exact bit_of hP rfl | dsimp -zeta only)

theorem execBrineScrub_framed {P : Nat} {s₀ : State} (addr : Nat) (ecc : Ecc) (s : State) (hI : Framed P s₀ s) (hP :
    maskIn 0x504a600c0 P) : FramedO P s₀ (execBrineScrub addr ecc s) := by
  unfold execBrineScrub
  repeat' (first
    | with_reducible exact Or.inl rfl | exact Or.inr (bit_of hP rfl) | refine fun (s : State) (hs : Framed P s₀ s) => ?_
    | refine fun (_ : _) (s : State) (hs : Framed P s₀ s) => ?_
    | refine fun (_ : _) (_ : _) (s : State) (hs : Framed P s₀ s) => ?_
    | ((try lift_lets -underBinder); intro x; refine letS (P := P) (s₀ := s₀) (x := x) ?_ (fun _ => ?_); unfold x; rotate_left; clear_value x)
    | ((try lift_lets -underBinder); intro x; clear_value x) | with_reducible assumption | with_reducible apply id_framed
    | split | with_reducible apply when_framed | with_reducible apply FramedO_next | with_reducible apply State.put_framed
    | with_reducible apply State.incSat_framed | with_reducible apply State.eccRead_framed | exact maskIn_trans hP rfl
    | exact bit_of hP rfl | dsimp -zeta only | with_reducible apply Framed.mk_of)

theorem execBrineSpareTest_framed {P : Nat} {s₀ : State} (cluster : Bool) (site : Nat) (s : State) (hI : Framed P s₀ s)
    (hP : maskIn 0x4220000 P) : FramedO P s₀ (execBrineSpareTest cluster site s) := by
  unfold execBrineSpareTest
  repeat' (first
    | with_reducible exact Or.inl rfl | exact Or.inr (bit_of hP rfl) | refine fun (s : State) (hs : Framed P s₀ s) => ?_
    | refine fun (_ : _) (s : State) (hs : Framed P s₀ s) => ?_
    | refine fun (_ : _) (_ : _) (s : State) (hs : Framed P s₀ s) => ?_
    | ((try lift_lets -underBinder); intro x; refine letS (P := P) (s₀ := s₀) (x := x) ?_ (fun _ => ?_); unfold x; rotate_left; clear_value x)
    | ((try lift_lets -underBinder); intro x; clear_value x) | with_reducible assumption | with_reducible apply id_framed
    | split | with_reducible apply when_framed | with_reducible apply FramedO_next
    | with_reducible apply State.setClocked_framed | exact maskIn_trans hP rfl | dsimp -zeta only
    | with_reducible apply Framed.mk_of)

theorem execBrineSpareTestEnd_framed {P : Nat} {s₀ : State} (pass : Bool) (s : State) (hI : Framed P s₀ s) (hP : maskIn
    0x4a600c1 P) : FramedO P s₀ (execBrineSpareTestEnd pass s) := by
  unfold execBrineSpareTestEnd
  repeat' (first
    | with_reducible exact Or.inl rfl | exact Or.inr (bit_of hP rfl) | refine fun (s : State) (hs : Framed P s₀ s) => ?_
    | refine fun (_ : _) (s : State) (hs : Framed P s₀ s) => ?_
    | refine fun (_ : _) (_ : _) (s : State) (hs : Framed P s₀ s) => ?_
    | ((try lift_lets -underBinder); intro x; refine letS (P := P) (s₀ := s₀) (x := x) ?_ (fun _ => ?_); unfold x; rotate_left; clear_value x)
    | ((try lift_lets -underBinder); intro x; clear_value x) | with_reducible assumption | with_reducible apply id_framed
    | split | with_reducible apply when_framed | with_reducible apply FramedO_next | with_reducible apply State.incSat_framed
    | with_reducible apply State.zeroCluster_framed | with_reducible apply State.setClocked_framed
    | with_reducible apply State.healthStuck_framed | exact maskIn_trans hP rfl | exact bit_of hP rfl | dsimp -zeta only
    | with_reducible apply Framed.mk_of)

theorem execBrineShadow_framed {P : Nat} {s₀ : State} (site lane : Nat) (s : State) (hI : Framed P s₀ s) (hP : maskIn
    0x404020048 P) : FramedO P s₀ (execBrineShadow site lane s) := by
  unfold execBrineShadow
  repeat' (first
    | with_reducible exact Or.inl rfl | exact Or.inr (bit_of hP rfl) | refine fun (s : State) (hs : Framed P s₀ s) => ?_
    | refine fun (_ : _) (s : State) (hs : Framed P s₀ s) => ?_
    | refine fun (_ : _) (_ : _) (s : State) (hs : Framed P s₀ s) => ?_
    | ((try lift_lets -underBinder); intro x; refine letS (P := P) (s₀ := s₀) (x := x) ?_ (fun _ => ?_); unfold x; rotate_left; clear_value x)
    | ((try lift_lets -underBinder); intro x; clear_value x) | with_reducible assumption | with_reducible apply id_framed
    | with_reducible apply when_framed | with_reducible apply FramedO_next | with_reducible apply State.put_framed
    | with_reducible apply State.setLane_framed | exact maskIn_trans hP rfl | exact bit_of hP rfl | dsimp -zeta only
    | with_reducible apply Framed.mk_of)

theorem State.confirmDone_framed {P : Nat} {s₀ : State} (s : State) (n : Nat) (c : Confirm) (hI : Framed P s₀ s) (hP :
    maskIn 0x4a60040 P) : Framed P s₀ (State.confirmDone s n c) := by
  unfold State.confirmDone
  repeat' (first
    | with_reducible exact Or.inl rfl | exact Or.inr (bit_of hP rfl)
    | ((try lift_lets -underBinder); intro x; refine letS (P := P) (s₀ := s₀) (x := x) ?_ (fun _ => ?_); unfold x; rotate_left; clear_value x)
    | ((try lift_lets -underBinder); intro x; clear_value x) | with_reducible assumption | split
    | with_reducible apply State.healthError_framed | with_reducible apply State.healthStuck_framed
    | exact maskIn_trans hP rfl | dsimp -zeta only | with_reducible apply Framed.mk_of)

theorem State.shadowCount_framed {P : Nat} {s₀ : State} (s : State) (n m : Nat) (mis : Bool) (hI : Framed P s₀ s) (hP :
    maskIn 0x4a60040 P) : Framed P s₀ (State.shadowCount s n m mis) := by
  unfold State.shadowCount
  repeat' (first
    | with_reducible exact Or.inl rfl | exact Or.inr (bit_of hP rfl)
    | ((try lift_lets -underBinder); intro x; refine letS (P := P) (s₀ := s₀) (x := x) ?_ (fun _ => ?_); unfold x; rotate_left; clear_value x)
    | ((try lift_lets -underBinder); intro x; clear_value x) | with_reducible assumption | split
    | with_reducible apply State.confirmDone_framed | exact maskIn_trans hP rfl | dsimp -zeta only
    | with_reducible apply Framed.mk_of)

theorem execBrineShadowEnd_framed {P : Nat} {s₀ : State} (site : Nat) (s : State) (hI : Framed P s₀ s) (hP : maskIn
    0x404a60040 P) : FramedO P s₀ (execBrineShadowEnd site s) := by
  unfold execBrineShadowEnd
  repeat' (first
    | with_reducible exact Or.inl rfl | exact Or.inr (bit_of hP rfl) | refine fun (s : State) (hs : Framed P s₀ s) => ?_
    | refine fun (_ : _) (s : State) (hs : Framed P s₀ s) => ?_
    | refine fun (_ : _) (_ : _) (s : State) (hs : Framed P s₀ s) => ?_
    | ((try lift_lets -underBinder); intro x; refine letS (P := P) (s₀ := s₀) (x := x) ?_ (fun _ => ?_); unfold x; rotate_left; clear_value x)
    | ((try lift_lets -underBinder); intro x; clear_value x) | with_reducible assumption | with_reducible apply id_framed
    | split | with_reducible apply when_framed | with_reducible apply FramedO_next | with_reducible apply State.put_framed
    | with_reducible apply State.incSat_framed | with_reducible apply State.raise_framed
    | with_reducible apply State.endShadow_framed | with_reducible apply State.shadowCount_framed | exact maskIn_trans hP rfl
    | exact bit_of hP rfl | dsimp -zeta only | with_reducible apply Framed.mk_of)

theorem State.monitor_framed {P : Nat} {s₀ : State} (s : State) (k : Nat) (v : Int) (hI : Framed P s₀ s) (hP : maskIn
    0x860000 P) : Framed P s₀ (State.monitor s k v) := by
  unfold State.monitor
  repeat' (first
    | with_reducible exact Or.inl rfl | exact Or.inr (bit_of hP rfl)
    | ((try lift_lets -underBinder); intro x; refine letS (P := P) (s₀ := s₀) (x := x) ?_ (fun _ => ?_); unfold x; rotate_left; clear_value x)
    | ((try lift_lets -underBinder); intro x; clear_value x) | with_reducible assumption | split
    | with_reducible apply State.raise_framed | exact maskIn_trans hP rfl | dsimp -zeta only
    | with_reducible apply Framed.mk_of)

theorem State.ageing_framed {P : Nat} {s₀ : State} (s : State) (k f : Nat) (hI : Framed P s₀ s) (hP : maskIn 0x860000 P) :
    Framed P s₀ (State.ageing s k f) := by
  unfold State.ageing
  repeat' (first
    | with_reducible exact Or.inl rfl | exact Or.inr (bit_of hP rfl)
    | ((try lift_lets -underBinder); intro x; refine letS (P := P) (s₀ := s₀) (x := x) ?_ (fun _ => ?_); unfold x; rotate_left; clear_value x)
    | ((try lift_lets -underBinder); intro x; clear_value x) | with_reducible assumption | split
    | with_reducible apply State.monitor_framed | exact maskIn_trans hP rfl | dsimp -zeta only
    | with_reducible apply Framed.mk_of)

theorem execMonitorSample_framed {P : Nat} {s₀ : State} (values : List Int) (osc : List Nat) (s : State) (hI : Framed P s₀
    s) (hP : maskIn 0x4860000 P) : FramedO P s₀ (execMonitorSample values osc s) := by
  unfold execMonitorSample
  repeat' (first
    | refine fun (s : State) (hs : Framed P s₀ s) => ?_ | refine fun (_ : _) (s : State) (hs : Framed P s₀ s) => ?_
    | refine fun (_ : _) (_ : _) (s : State) (hs : Framed P s₀ s) => ?_
    | ((try lift_lets -underBinder); intro x; refine letS (P := P) (s₀ := s₀) (x := x) ?_ (fun _ => ?_); unfold x; rotate_left; clear_value x)
    | ((try lift_lets -underBinder); intro x; clear_value x) | with_reducible assumption | with_reducible apply id_framed
    | with_reducible apply when_framed | with_reducible refine forN_framed ?_ (fun _ _ _ => ?_)
    | with_reducible apply FramedO_next | with_reducible apply State.setWear_framed
    | with_reducible apply State.monitor_framed | with_reducible apply State.ageing_framed | exact maskIn_trans hP rfl
    | dsimp -zeta only)

theorem State.setLine_framed {P : Nat} {s₀ : State} (s : State) (f : Nat) (x : SoundLine) (hI : Framed P s₀ s) (hP :
    maskIn 0x20000 P) : Framed P s₀ (State.setLine s f x) := by
  unfold State.setLine
  repeat' (first
    | with_reducible exact Or.inl rfl | exact Or.inr (bit_of hP rfl) | with_reducible assumption | dsimp -zeta only
    | with_reducible apply Framed.mk_of)

theorem State.soundVal_framed {P : Nat} {s₀ : State} (s : State) (f : Nat) (c : Corr) (hI : Framed P s₀ s) (hP : maskIn
    0x80000 P) : Framed P s₀ (State.soundVal s f c).2 := by
  unfold State.soundVal
  repeat' (first

    | ((try lift_lets -underBinder); intro x; refine letS (P := P) (s₀ := s₀) (x := x) ?_ (fun _ => ?_); unfold x; rotate_left; clear_value x)
    | ((try lift_lets -underBinder); intro x; refine letS (P := P) (s₀ := s₀) (x := x.2) ?_ (fun _ => ?_); unfold x; rotate_left; clear_value x)
    | ((try lift_lets -underBinder); intro x; refine letS (P := P) (s₀ := s₀) (x := x.1) ?_ (fun _ => ?_); unfold x; rotate_left; clear_value x)
    | ((try lift_lets -underBinder); intro x; clear_value x) | with_reducible assumption | split
    | with_reducible apply State.takeFree_framed | exact maskIn_trans hP rfl | dsimp -zeta only)

theorem State.soundCompare_framed {P : Nat} {s₀ : State} (s : State) (yRe yIm y0Re y0Im : Int) (g : Nat) (hI : Framed P s₀
    s) (hP : maskIn 0x80000 P) : Framed P s₀ (State.soundCompare s yRe yIm y0Re y0Im g).2 := by
  unfold State.soundCompare
  repeat' (first

    | ((try lift_lets -underBinder); intro x; refine letS (P := P) (s₀ := s₀) (x := x) ?_ (fun _ => ?_); unfold x; rotate_left; clear_value x)
    | ((try lift_lets -underBinder); intro x; refine letS (P := P) (s₀ := s₀) (x := x.2) ?_ (fun _ => ?_); unfold x; rotate_left; clear_value x)
    | ((try lift_lets -underBinder); intro x; refine letS (P := P) (s₀ := s₀) (x := x.1) ?_ (fun _ => ?_); unfold x; rotate_left; clear_value x)
    | ((try lift_lets -underBinder); intro x; refine letFP3 (P := P) (s₀ := s₀) (f := x) (fun _ _ _ _ => ?_) (fun hf => ?_); unfold x; rotate_left; clear_value x)
    | ((try lift_lets -underBinder); intro x; clear_value x) | with_reducible assumption | split
    | with_reducible apply State.takeFree_framed | with_reducible apply hf | exact maskIn_trans hP rfl | dsimp -zeta only)

theorem State.soundReport_framed {P : Nat} {s₀ : State} (s : State) (f st : Nat) (hI : Framed P s₀ s) (hP : maskIn
    0x860000 P) : Framed P s₀ (State.soundReport s f st) := by
  unfold State.soundReport
  repeat' (first
    | with_reducible exact Or.inl rfl | exact Or.inr (bit_of hP rfl)
    | ((try lift_lets -underBinder); intro x; refine letS (P := P) (s₀ := s₀) (x := x) ?_ (fun _ => ?_); unfold x; rotate_left; clear_value x)
    | ((try lift_lets -underBinder); intro x; clear_value x) | with_reducible assumption | split
    | with_reducible apply State.raise_framed | with_reducible apply State.setLine_framed | exact maskIn_trans hP rfl
    | dsimp -zeta only | with_reducible apply Framed.mk_of)

theorem State.soundHeld_framed {P : Nat} {s₀ : State} (s : State) (f c : Nat) (hI : Framed P s₀ s) (hP : maskIn 0x860000
    P) : Framed P s₀ (State.soundHeld s f c) := by
  unfold State.soundHeld
  repeat' (first
    | with_reducible exact Or.inl rfl | exact Or.inr (bit_of hP rfl)
    | ((try lift_lets -underBinder); intro x; refine letS (P := P) (s₀ := s₀) (x := x) ?_ (fun _ => ?_); unfold x; rotate_left; clear_value x)
    | ((try lift_lets -underBinder); intro x; clear_value x) | with_reducible assumption | split
    | with_reducible apply State.setLine_framed | with_reducible apply State.soundReport_framed | exact maskIn_trans hP rfl
    | dsimp -zeta only | with_reducible apply Framed.mk_of)

theorem execSoundFrameResult_framed {P : Nat} {s₀ : State} (feed frame : Nat) (corr : Corr) (s : State) (hI : Framed P s₀
    s) (hP : maskIn 0x8e8000 P) : FramedO P s₀ (execSoundFrameResult feed frame corr s) := by
  unfold execSoundFrameResult
  repeat' (first
    | with_reducible exact Or.inl rfl | exact Or.inr (bit_of hP rfl) | refine fun (s : State) (hs : Framed P s₀ s) => ?_
    | refine fun (_ : _) (s : State) (hs : Framed P s₀ s) => ?_
    | refine fun (_ : _) (_ : _) (s : State) (hs : Framed P s₀ s) => ?_
    | ((try lift_lets -underBinder); intro x; refine letS (P := P) (s₀ := s₀) (x := x) ?_ (fun _ => ?_); unfold x; rotate_left; clear_value x)
    | ((try lift_lets -underBinder); intro x; refine letS (P := P) (s₀ := s₀) (x := x.2) ?_ (fun _ => ?_); unfold x; rotate_left; clear_value x)
    | ((try lift_lets -underBinder); intro x; refine letS (P := P) (s₀ := s₀) (x := x.1) ?_ (fun _ => ?_); unfold x; rotate_left; clear_value x)
    | ((try lift_lets -underBinder); intro x; clear_value x) | with_reducible assumption | with_reducible apply id_framed
    | split | with_reducible apply when_framed | with_reducible apply FramedO_next | with_reducible apply State.learn_framed
    | with_reducible apply State.setLine_framed | with_reducible apply State.soundVal_framed
    | with_reducible apply State.soundCompare_framed | with_reducible apply State.soundHeld_framed
    | exact maskIn_trans hP rfl | with_reducible refine of_snd (by with_reducible assumption) ?_
    | with_reducible refine of_fst (by with_reducible assumption) ?_ | dsimp -zeta only | with_reducible apply Framed.mk_of)

theorem State.soundStep_framed {P : Nat} {s₀ : State} (s : State) (hI : Framed P s₀ s) (hP : maskIn 0x860000 P) : Framed P
    s₀ (State.soundStep s) := by
  unfold State.soundStep
  repeat' (first
    | with_reducible exact Or.inl rfl | exact Or.inr (bit_of hP rfl)
    | ((try lift_lets -underBinder); intro x; refine letS (P := P) (s₀ := s₀) (x := x) ?_ (fun _ => ?_); unfold x; rotate_left; clear_value x)
    | ((try lift_lets -underBinder); intro x; clear_value x) | with_reducible assumption | split
    | with_reducible refine forL_framed ?_ (fun _ _ _ => ?_) | with_reducible apply State.setLine_framed
    | with_reducible apply State.soundReport_framed | exact maskIn_trans hP rfl | dsimp -zeta only
    | with_reducible apply Framed.mk_of)

theorem State.learnLine_framed {P : Nat} {s₀ : State} (s : State) (f : Nat) (hI : Framed P s₀ s) (hP : maskIn 0x20000 P) :
    Framed P s₀ (State.learnLine s f) := by
  unfold State.learnLine
  repeat' (first
    | with_reducible exact Or.inl rfl | exact Or.inr (bit_of hP rfl) | with_reducible assumption | split
    | with_reducible apply State.setLine_framed | exact maskIn_trans hP rfl | dsimp -zeta only
    | with_reducible apply Framed.mk_of)

theorem State.soundLearn_framed {P : Nat} {s₀ : State} (s : State) (feed : Nat) (hI : Framed P s₀ s) (hP : maskIn 0x20000
    P) : Framed P s₀ (State.soundLearn s feed) := by
  unfold State.soundLearn
  repeat' (first
    | with_reducible assumption | split | with_reducible refine forN_framed ?_ (fun _ _ _ => ?_)
    | with_reducible apply State.learnLine_framed | exact maskIn_trans hP rfl | dsimp -zeta only)

theorem execSoundLearn_framed {P : Nat} {s₀ : State} (feed : Nat) (s : State) (hI : Framed P s₀ s) (hP : maskIn 0x20000 P)
    : FramedO P s₀ (execSoundLearn feed s) := by
  unfold execSoundLearn
  repeat' (first
    | refine fun (s : State) (hs : Framed P s₀ s) => ?_ | refine fun (_ : _) (s : State) (hs : Framed P s₀ s) => ?_
    | refine fun (_ : _) (_ : _) (s : State) (hs : Framed P s₀ s) => ?_ | with_reducible assumption
    | with_reducible apply id_framed | with_reducible apply when_framed | with_reducible apply FramedO_next
    | with_reducible apply State.soundLearn_framed | exact maskIn_trans hP rfl | dsimp -zeta only)

theorem execSoundLearnEnd_framed {P : Nat} {s₀ : State} (feed : Nat) (s : State) (hI : Framed P s₀ s) (hP : maskIn
    0x86a004 P) : FramedO P s₀ (execSoundLearnEnd feed s) := by
  unfold execSoundLearnEnd
  repeat' (first
    | with_reducible exact Or.inl rfl | exact Or.inr (bit_of hP rfl) | refine fun (s : State) (hs : Framed P s₀ s) => ?_
    | refine fun (_ : _) (s : State) (hs : Framed P s₀ s) => ?_
    | refine fun (_ : _) (_ : _) (s : State) (hs : Framed P s₀ s) => ?_
    | ((try lift_lets -underBinder); intro x; refine letS (P := P) (s₀ := s₀) (x := x) ?_ (fun _ => ?_); unfold x; rotate_left; clear_value x)
    | ((try lift_lets -underBinder); intro x; clear_value x) | with_reducible assumption | with_reducible apply id_framed
    | split | with_reducible apply when_framed | with_reducible apply FramedO_next | with_reducible apply State.raise_framed
    | with_reducible apply State.setObj_framed | with_reducible apply State.learn_framed
    | with_reducible apply State.setLine_framed | exact maskIn_trans hP rfl | dsimp -zeta only
    | with_reducible apply Framed.mk_of)

theorem execSoundNightly_framed {P : Nat} {s₀ : State} (s : State) (hI : Framed P s₀ s) (hP : maskIn 0x1860000 P) :
    FramedO P s₀ (execSoundNightly s) := by
  unfold execSoundNightly
  repeat' (first
    | with_reducible exact Or.inl rfl | exact Or.inr (bit_of hP rfl) | refine fun (s : State) (hs : Framed P s₀ s) => ?_
    | refine fun (_ : _) (s : State) (hs : Framed P s₀ s) => ?_
    | refine fun (_ : _) (_ : _) (s : State) (hs : Framed P s₀ s) => ?_
    | ((try lift_lets -underBinder); intro x; refine letS (P := P) (s₀ := s₀) (x := x) ?_ (fun _ => ?_); unfold x; rotate_left; clear_value x)
    | ((try lift_lets -underBinder); intro x; clear_value x) | with_reducible assumption | with_reducible apply id_framed
    | with_reducible apply when_framed | with_reducible refine forL_framed ?_ (fun _ _ _ => ?_)
    | with_reducible apply FramedO_next | with_reducible apply State.raiseLong_framed
    | with_reducible apply State.setLine_framed | exact maskIn_trans hP rfl | dsimp -zeta only
    | with_reducible apply Framed.mk_of)

end Sys2Proof.Machine
end

