-- ==== Sys2Proof/Laws/FramedResets.lean ====
section
/-! SUPPORT. What the operations and commands of Machine/Resets.lean can change, as masks of parts (Laws/Framed.lean): one lemma
for each. -/

namespace Sys2Proof.Machine

open Sys2Proof

theorem State.powerOnReset_framed {P : Nat} {s₀ : State} (s : State) (cause : Fd) (hI : Framed P s₀ s) (hP : maskIn
    0xffffffffff P) : Framed P s₀ (State.powerOnReset s cause) := by
  unfold State.powerOnReset
  apply forL_framed
  · apply State.put_all _ _ _ _ hP
    exact Framed.all hP hI.queue (fun _ => rfl) fun c => nkeep_sorted (fun k => decide (keyId k = fSYS_SCRATCH_VALUE.id))
        (hI.regsSorted c)
  · intro a s h; exact State.put_all _ _ _ _ hP h

theorem State.sendGone_framed {P : Nat} {s₀ : State} (s : State) (cause : Nat) (hI : Framed P s₀ s) (hP : maskIn 0x200 P)
    : Framed P s₀ (State.sendGone s cause) := by
  unfold State.sendGone
  repeat' (first
    | refine fun (s : State) (hs : Framed P s₀ s) => ?_ | refine fun (_ : _) (s : State) (hs : Framed P s₀ s) => ?_
    | refine fun (_ : _) (_ : _) (s : State) (hs : Framed P s₀ s) => ?_ | with_reducible assumption
    | with_reducible apply id_framed | with_reducible apply when_framed | with_reducible apply State.sendFrame_framed
    | exact maskIn_trans hP rfl | dsimp -zeta only)

theorem execPwrGoodLow_framed {P : Nat} {s₀ : State} (s : State) (hI : Framed P s₀ s) (hP : maskIn 0xffffffffff P) :
    FramedO P s₀ (execPwrGoodLow s) := by
  unfold execPwrGoodLow
  repeat' (first
    | with_reducible exact Or.inl rfl | exact Or.inr (bit_of hP rfl)
    | ((try lift_lets -underBinder); intro x; refine letS (P := P) (s₀ := s₀) (x := x) ?_ (fun _ => ?_); unfold x; rotate_left; clear_value x)
    | ((try lift_lets -underBinder); intro x; clear_value x) | with_reducible assumption | with_reducible apply FramedO_next
    | with_reducible apply State.powerOnReset_framed | with_reducible apply State.sendGone_framed | exact maskIn_trans hP rfl
    | exact bit_of hP rfl | dsimp -zeta only | with_reducible apply Framed.mk_of)

theorem execResetNLow_framed {P : Nat} {s₀ : State} (ns : Nat) (s : State) (hI : Framed P s₀ s) (hP : maskIn 0xffffffffff
    P) : FramedO P s₀ (execResetNLow ns s) := by
  unfold execResetNLow
  repeat' (first
    | with_reducible exact Or.inl rfl | exact Or.inr (bit_of hP rfl) | refine fun (s : State) (hs : Framed P s₀ s) => ?_
    | refine fun (_ : _) (s : State) (hs : Framed P s₀ s) => ?_
    | refine fun (_ : _) (_ : _) (s : State) (hs : Framed P s₀ s) => ?_
    | ((try lift_lets -underBinder); intro x; refine letS (P := P) (s₀ := s₀) (x := x) ?_ (fun _ => ?_); unfold x; rotate_left; clear_value x)
    | ((try lift_lets -underBinder); intro x; refine letS (P := P) (s₀ := s₀) (x := x.2) ?_ (fun _ => ?_); unfold x; rotate_left; clear_value x)
    | ((try lift_lets -underBinder); intro x; refine letS (P := P) (s₀ := s₀) (x := x.1) ?_ (fun _ => ?_); unfold x; rotate_left; clear_value x)
    | ((try lift_lets -underBinder); intro x; clear_value x) | with_reducible assumption | with_reducible apply id_framed
    | split | with_reducible apply when_framed | with_reducible apply FramedO_next
    | with_reducible apply State.takeFree_framed | with_reducible apply State.powerOnReset_framed
    | with_reducible apply State.sendGone_framed | with_reducible apply State.deepStandby_framed | exact maskIn_trans hP rfl
    | exact bit_of hP rfl | dsimp -zeta only | with_reducible apply Framed.mk_of)

theorem execBrownOut_framed {P : Nat} {s₀ : State} (ns : Nat) (s : State) (hI : Framed P s₀ s) (hP : maskIn 0xffffffffff
    P) : FramedO P s₀ (execBrownOut ns s) := by
  unfold execBrownOut
  repeat' (first
    | with_reducible exact Or.inl rfl | exact Or.inr (bit_of hP rfl) | refine fun (s : State) (hs : Framed P s₀ s) => ?_
    | refine fun (_ : _) (s : State) (hs : Framed P s₀ s) => ?_
    | refine fun (_ : _) (_ : _) (s : State) (hs : Framed P s₀ s) => ?_
    | ((try lift_lets -underBinder); intro x; refine letS (P := P) (s₀ := s₀) (x := x) ?_ (fun _ => ?_); unfold x; rotate_left; clear_value x)
    | ((try lift_lets -underBinder); intro x; clear_value x) | with_reducible assumption | with_reducible apply id_framed
    | with_reducible apply when_framed | with_reducible apply FramedO_next | with_reducible apply State.powerOnReset_framed
    | with_reducible apply State.deepStandby_framed | exact maskIn_trans hP rfl | exact bit_of hP rfl | dsimp -zeta only
    | with_reducible apply Framed.mk_of)

theorem execVstbyLow_framed {P : Nat} {s₀ : State} (s : State) (hI : Framed P s₀ s) (hP : maskIn 0xffffffffff P) : FramedO
    P s₀ (execVstbyLow s) := by
  have h1 := State.powerOnReset_framed s fSYS_RESET_CAUSE_POR_STANDBY hI hP
  exact State.put_all _ _ _ _ hP (Framed.all hP h1.queue h1.memWf fun _ => rfl)

theorem execWake_framed {P : Nat} {s₀ : State} (s : State) (hI : Framed P s₀ s) (hP : maskIn 0xffffffffff P) : FramedO P
    s₀ (execWake s) := by
  unfold execWake
  repeat' (first
    | refine fun (s : State) (hs : Framed P s₀ s) => ?_ | refine fun (_ : _) (s : State) (hs : Framed P s₀ s) => ?_
    | refine fun (_ : _) (_ : _) (s : State) (hs : Framed P s₀ s) => ?_ | with_reducible assumption
    | with_reducible apply id_framed | with_reducible apply when_framed | with_reducible apply FramedO_next
    | with_reducible apply State.powerOnReset_framed | with_reducible apply State.deepStandby_framed
    | exact maskIn_trans hP rfl | exact bit_of hP rfl | dsimp -zeta only)

theorem State.loadChime_framed {P : Nat} {s₀ : State} (s : State) (family : Nat) (hI : Framed P s₀ s) (hP : maskIn
    0x10000000 P) : Framed P s₀ (State.loadChime s family) := by
  unfold State.loadChime
  repeat' (first
    | with_reducible assumption | split | with_reducible refine forN_framed ?_ (fun _ _ _ => ?_)
    | with_reducible apply State.put_framed | exact bit_of hP rfl | dsimp -zeta only)

theorem State.tdm0Straps_framed {P : Nat} {s₀ : State} (s : State) (hI : Framed P s₀ s) (hP : maskIn 0x20200000 P) :
    Framed P s₀ (State.tdm0Straps s) := by
  unfold State.tdm0Straps
  repeat' (first

    | ((try lift_lets -underBinder); intro x; refine letS (P := P) (s₀ := s₀) (x := x) ?_ (fun _ => ?_); unfold x; rotate_left; clear_value x)
    | ((try lift_lets -underBinder); intro x; clear_value x) | with_reducible assumption | split
    | with_reducible apply State.put_framed | exact bit_of hP rfl | dsimp -zeta only)

theorem State.wellStraps_framed {P : Nat} {s₀ : State} (s : State) (hI : Framed P s₀ s) (hP : maskIn 0x10210000 P) :
    Framed P s₀ (State.wellStraps s) := by
  unfold State.wellStraps
  repeat' (first

    | ((try lift_lets -underBinder); intro x; refine letS (P := P) (s₀ := s₀) (x := x) ?_ (fun _ => ?_); unfold x; rotate_left; clear_value x)
    | ((try lift_lets -underBinder); intro x; clear_value x) | with_reducible assumption | split
    | with_reducible refine forN_framed ?_ (fun _ _ _ => ?_) | with_reducible apply State.put_framed
    | with_reducible apply State.setWell_framed | exact maskIn_trans hP rfl | exact bit_of hP rfl | dsimp -zeta only)

theorem State.setStage_framed {P : Nat} {s₀ : State} (s : State) (v : Nat) (hI : Framed P s₀ s) (hP : maskIn 0x200000 P) :
    Framed P s₀ (State.setStage s v) := by
  unfold State.setStage
  repeat' (first | with_reducible assumption | with_reducible apply State.put_framed | exact bit_of hP rfl | dsimp -zeta only)

theorem State.startStage2_framed {P : Nat} {s₀ : State} (s : State) (hI : Framed P s₀ s) (hP : maskIn 0x200000 P) : Framed
    P s₀ (State.startStage2 s) := by
  unfold State.startStage2
  repeat' (first
    | with_reducible assumption | split | with_reducible apply State.setStage_framed | exact maskIn_trans hP rfl
    | dsimp -zeta only)

theorem State.tryRelease_framed {P : Nat} {s₀ : State} (s : State) (straps rank : Nat) (hI : Framed P s₀ s) (hP : maskIn
    0x803a291002 P) : Framed P s₀ (State.tryRelease s straps rank) := by
  unfold State.tryRelease
  repeat' (first
    | with_reducible exact Or.inl rfl | exact Or.inr (bit_of hP rfl) | refine fun (s : State) (hs : Framed P s₀ s) => ?_
    | refine fun (_ : _) (s : State) (hs : Framed P s₀ s) => ?_
    | refine fun (_ : _) (_ : _) (s : State) (hs : Framed P s₀ s) => ?_
    | ((try lift_lets -underBinder); intro x; refine letS (P := P) (s₀ := s₀) (x := x) ?_ (fun _ => ?_); unfold x; rotate_left; clear_value x)
    | ((try lift_lets -underBinder); intro x; refine letS (P := P) (s₀ := s₀) (x := x.2) ?_ (fun _ => ?_); unfold x; rotate_left; clear_value x)
    | ((try lift_lets -underBinder); intro x; refine letS (P := P) (s₀ := s₀) (x := x.1) ?_ (fun _ => ?_); unfold x; rotate_left; clear_value x)
    | ((try lift_lets -underBinder); intro x; clear_value x) | with_reducible assumption | with_reducible apply id_framed
    | split | with_reducible apply when_framed | with_reducible apply State.put_framed
    | with_reducible apply State.setWord_framed | with_reducible apply State.takeFree_framed
    | with_reducible apply State.setRpllWord_framed | with_reducible apply State.loadChime_framed
    | with_reducible apply State.tdm0Straps_framed | with_reducible apply State.wellStraps_framed
    | with_reducible apply State.startStage2_framed | exact maskIn_trans hP rfl | exact bit_of hP rfl | dsimp -zeta only
    | with_reducible apply Framed.mk_of)

theorem execRelease_framed {P : Nat} {s₀ : State} (straps : BitVec 12) (rank : Bool) (s : State) (hI : Framed P s₀ s) (hP
    : maskIn 0x803a291002 P) : FramedO P s₀ (execRelease straps rank s) := by
  unfold execRelease
  repeat' (first
    | with_reducible exact Or.inl rfl | exact Or.inr (bit_of hP rfl)
    | ((try lift_lets -underBinder); intro x; refine letS (P := P) (s₀ := s₀) (x := x) ?_ (fun _ => ?_); unfold x; rotate_left; clear_value x)
    | ((try lift_lets -underBinder); intro x; clear_value x) | with_reducible assumption | split
    | with_reducible apply FramedO_next | with_reducible apply State.tryRelease_framed | exact maskIn_trans hP rfl
    | dsimp -zeta only | with_reducible apply Framed.mk_of)

theorem execBrownOutEnd_framed {P : Nat} {s₀ : State} (straps : BitVec 12) (rank : Bool) (s : State) (hI : Framed P s₀ s)
    (hP : maskIn 0x803a291002 P) : FramedO P s₀ (execBrownOutEnd straps rank s) := by
  unfold execBrownOutEnd
  repeat' (first
    | with_reducible exact Or.inl rfl | exact Or.inr (bit_of hP rfl)
    | ((try lift_lets -underBinder); intro x; refine letS (P := P) (s₀ := s₀) (x := x) ?_ (fun _ => ?_); unfold x; rotate_left; clear_value x)
    | ((try lift_lets -underBinder); intro x; clear_value x) | with_reducible assumption | split
    | with_reducible apply FramedO_next | with_reducible apply State.tryRelease_framed | exact maskIn_trans hP rfl
    | dsimp -zeta only | with_reducible apply Framed.mk_of)

theorem execVstbyRise_framed {P : Nat} {s₀ : State} (straps : BitVec 12) (rank : Bool) (s : State) (hI : Framed P s₀ s)
    (hP : maskIn 0x803a291002 P) : FramedO P s₀ (execVstbyRise straps rank s) := by
  unfold execVstbyRise
  repeat' (first
    | with_reducible exact Or.inl rfl | exact Or.inr (bit_of hP rfl)
    | ((try lift_lets -underBinder); intro x; refine letS (P := P) (s₀ := s₀) (x := x) ?_ (fun _ => ?_); unfold x; rotate_left; clear_value x)
    | ((try lift_lets -underBinder); intro x; clear_value x) | with_reducible assumption | split
    | with_reducible apply FramedO_next | with_reducible apply State.tryRelease_framed | exact maskIn_trans hP rfl
    | dsimp -zeta only | with_reducible apply Framed.mk_of)

theorem execXoQualified_framed {P : Nat} {s₀ : State} (s : State) (hI : Framed P s₀ s) (hP : maskIn 0x2 P) : FramedO P s₀
    (execXoQualified s) := by
  unfold execXoQualified
  repeat' (first
    | with_reducible exact Or.inl rfl | exact Or.inr (bit_of hP rfl) | refine fun (s : State) (hs : Framed P s₀ s) => ?_
    | refine fun (_ : _) (s : State) (hs : Framed P s₀ s) => ?_
    | refine fun (_ : _) (_ : _) (s : State) (hs : Framed P s₀ s) => ?_ | with_reducible assumption
    | with_reducible apply id_framed | with_reducible apply when_framed | with_reducible apply FramedO_next
    | dsimp -zeta only | with_reducible apply Framed.mk_of)

theorem execXoMissing_framed {P : Nat} {s₀ : State} (s : State) (hI : Framed P s₀ s) (hP : maskIn 0x200000 P) : FramedO P
    s₀ (execXoMissing s) := by
  unfold execXoMissing
  repeat' (first
    | refine fun (s : State) (hs : Framed P s₀ s) => ?_ | refine fun (_ : _) (s : State) (hs : Framed P s₀ s) => ?_
    | refine fun (_ : _) (_ : _) (s : State) (hs : Framed P s₀ s) => ?_ | with_reducible assumption
    | with_reducible apply id_framed | with_reducible apply when_framed | with_reducible apply FramedO_next
    | with_reducible apply State.put_framed | exact bit_of hP rfl | dsimp -zeta only)

theorem State.clockActive_framed {P : Nat} {s₀ : State} (s : State) (hI : Framed P s₀ s) (hP : maskIn 0x4200000 P) :
    Framed P s₀ (State.clockActive s) := by
  unfold State.clockActive
  repeat' (first

    | ((try lift_lets -underBinder); intro x; refine letS (P := P) (s₀ := s₀) (x := x) ?_ (fun _ => ?_); unfold x; rotate_left; clear_value x)
    | ((try lift_lets -underBinder); intro x; clear_value x) | with_reducible assumption | split
    | with_reducible refine forN_framed ?_ (fun _ _ _ => ?_) | with_reducible apply State.setClocked_framed
    | exact maskIn_trans hP rfl | dsimp -zeta only)

theorem State.safeTdm_framed {P : Nat} {s₀ : State} (s : State) (hI : Framed P s₀ s) (hP : maskIn 0x20a44000 P) : Framed P
    s₀ (State.safeTdm s) := by
  unfold State.safeTdm
  repeat' (first
    | refine fun (s : State) (hs : Framed P s₀ s) => ?_ | refine fun (_ : _) (s : State) (hs : Framed P s₀ s) => ?_
    | refine fun (_ : _) (_ : _) (s : State) (hs : Framed P s₀ s) => ?_ | with_reducible assumption
    | with_reducible apply id_framed | with_reducible apply when_framed | with_reducible apply State.tdmBegin_framed
    | exact maskIn_trans hP rfl | dsimp -zeta only)

theorem State.safeLock_framed {P : Nat} {s₀ : State} (s : State) (hI : Framed P s₀ s) (hP : maskIn 0x34a44222 P) : Framed
    P s₀ (State.safeLock s) := by
  unfold State.safeLock
  repeat' (first
    | with_reducible exact Or.inl rfl | exact Or.inr (bit_of hP rfl)
    | ((try lift_lets -underBinder); intro x; refine letS (P := P) (s₀ := s₀) (x := x) ?_ (fun _ => ?_); unfold x; rotate_left; clear_value x)
    | ((try lift_lets -underBinder); intro x; clear_value x) | with_reducible assumption | split
    | with_reducible refine forN_framed ?_ (fun _ _ _ => ?_) | with_reducible apply State.raise_framed
    | with_reducible apply State.hbStart_framed | with_reducible apply State.clockActive_framed
    | with_reducible apply State.safeTdm_framed | exact maskIn_trans hP rfl | dsimp -zeta only
    | with_reducible apply Framed.mk_of)

theorem execRpllLocked_framed {P : Nat} {s₀ : State} (s : State) (hI : Framed P s₀ s) (hP : maskIn 0x36a44222 P) : FramedO
    P s₀ (execRpllLocked s) := by
  unfold execRpllLocked
  repeat' (first
    | refine fun (s : State) (hs : Framed P s₀ s) => ?_ | refine fun (_ : _) (s : State) (hs : Framed P s₀ s) => ?_
    | refine fun (_ : _) (_ : _) (s : State) (hs : Framed P s₀ s) => ?_
    | ((try lift_lets -underBinder); intro x; refine letS (P := P) (s₀ := s₀) (x := x) ?_ (fun _ => ?_); unfold x; rotate_left; clear_value x)
    | ((try lift_lets -underBinder); intro x; clear_value x) | with_reducible assumption | with_reducible apply id_framed
    | split | with_reducible apply when_framed | with_reducible apply FramedO_next | with_reducible apply State.put_framed
    | with_reducible apply State.safeLock_framed | exact maskIn_trans hP rfl | exact bit_of hP rfl | dsimp -zeta only)

theorem execWellheadReferencesSettled_framed {P : Nat} {s₀ : State} (s : State) (hI : Framed P s₀ s) (hP : maskIn 0x2 P) :
    FramedO P s₀ (execWellheadReferencesSettled s) := by
  unfold execWellheadReferencesSettled
  repeat' (first
    | with_reducible exact Or.inl rfl | exact Or.inr (bit_of hP rfl) | refine fun (s : State) (hs : Framed P s₀ s) => ?_
    | refine fun (_ : _) (s : State) (hs : Framed P s₀ s) => ?_
    | refine fun (_ : _) (_ : _) (s : State) (hs : Framed P s₀ s) => ?_ | with_reducible assumption
    | with_reducible apply id_framed | with_reducible apply when_framed | with_reducible apply FramedO_next
    | dsimp -zeta only | with_reducible apply Framed.mk_of)

theorem State.engineClear_framed {P : Nat} {s₀ : State} (s : State) (tdm0 : Bool) (hI : Framed P s₀ s) (hP : maskIn
    0xffffffffff P) : Framed P s₀ (State.engineClear s tdm0) := by
  exact Framed.all hP hI.queue (fun c => nkeep_wf (fun a => s.engineKeepsMem a) (hI.memWf c))
    fun c => nkeep_sorted (fun k => s.engineKeeps tdm0 k) (hI.regsSorted c)

theorem State.wellAtReset_framed {P : Nat} {s₀ : State} (s : State) (hI : Framed P s₀ s) (hP : maskIn 0x10a50000 P) :
    Framed P s₀ (State.wellAtReset s) := by
  unfold State.wellAtReset
  repeat' (first
    | with_reducible exact Or.inl rfl | exact Or.inr (bit_of hP rfl)
    | ((try lift_lets -underBinder); intro x; refine letS (P := P) (s₀ := s₀) (x := x) ?_ (fun _ => ?_); unfold x; rotate_left; clear_value x)
    | ((try lift_lets -underBinder); intro x; clear_value x) | with_reducible assumption | split
    | with_reducible refine forN_framed ?_ (fun _ _ _ => ?_) | with_reducible apply State.setWell_framed
    | with_reducible apply State.setSafe_framed | exact maskIn_trans hP rfl | dsimp -zeta only
    | with_reducible apply Framed.mk_of)

theorem State.engineReset_framed {P : Nat} {s₀ : State} (s : State) (cause : Fd) (hold : Bool) (hI : Framed P s₀ s) (hP :
    maskIn 0xffffffffff P) : Framed P s₀ (State.engineReset s cause hold) := by
  unfold State.engineReset
  repeat' (first
    | with_reducible exact Or.inl rfl | exact Or.inr (bit_of hP rfl)
    | ((try lift_lets -underBinder); intro x; refine letS (P := P) (s₀ := s₀) (x := x) ?_ (fun _ => ?_); unfold x; rotate_left; clear_value x)
    | ((try lift_lets -underBinder); intro x; clear_value x) | with_reducible assumption | split
    | with_reducible refine forL_framed ?_ (fun _ _ _ => ?_) | with_reducible apply State.put_any
    | with_reducible apply State.incSat_framed | with_reducible apply State.raise_framed
    | with_reducible apply State.hbStop_framed | with_reducible apply State.sendGone_framed
    | with_reducible apply State.tdm0Straps_framed | with_reducible apply State.setStage_framed
    | with_reducible apply State.startStage2_framed | with_reducible apply State.safeTdm_framed
    | with_reducible apply State.engineClear_framed | with_reducible apply State.wellAtReset_framed
    | exact maskIn_trans hP rfl | exact bit_of hP rfl | dsimp -zeta only | with_reducible apply Framed.mk_of)

theorem execEngineRst_framed {P : Nat} {s₀ : State} (src : ReqSrc) (s : State) (hI : Framed P s₀ s) (hP : maskIn
    0xffffffffff P) : FramedO P s₀ (execEngineRst src s) := by
  unfold execEngineRst
  repeat' (first
    | with_reducible exact Or.inl rfl | exact Or.inr (bit_of hP rfl) | refine fun (s : State) (hs : Framed P s₀ s) => ?_
    | refine fun (_ : _) (s : State) (hs : Framed P s₀ s) => ?_
    | refine fun (_ : _) (_ : _) (s : State) (hs : Framed P s₀ s) => ?_
    | ((try lift_lets -underBinder); intro x; refine letS (P := P) (s₀ := s₀) (x := x) ?_ (fun _ => ?_); unfold x; rotate_left; clear_value x)
    | ((try lift_lets -underBinder); intro x; clear_value x) | with_reducible assumption | with_reducible apply id_framed
    | split | with_reducible apply when_framed | with_reducible apply FramedO_next
    | with_reducible apply State.engineReset_framed | exact maskIn_trans hP rfl | exact bit_of hP rfl | dsimp -zeta only
    | with_reducible apply Framed.mk_of)

theorem execWatchdogExpiry_framed {P : Nat} {s₀ : State} (s : State) (hI : Framed P s₀ s) (hP : maskIn 0xffffffffff P) :
    FramedO P s₀ (execWatchdogExpiry s) := by
  unfold execWatchdogExpiry
  repeat' (first
    | refine fun (s : State) (hs : Framed P s₀ s) => ?_ | refine fun (_ : _) (s : State) (hs : Framed P s₀ s) => ?_
    | refine fun (_ : _) (_ : _) (s : State) (hs : Framed P s₀ s) => ?_ | with_reducible assumption
    | with_reducible apply id_framed | with_reducible apply when_framed | with_reducible apply FramedO_next
    | with_reducible apply State.engineReset_framed | exact maskIn_trans hP rfl | exact bit_of hP rfl | dsimp -zeta only)

theorem execThermalTrip_framed {P : Nat} {s₀ : State} (sensor : Nat) (celsius : Int) (ms : Nat) (s : State) (hI : Framed P
    s₀ s) (hP : maskIn 0xffffffffff P) : FramedO P s₀ (execThermalTrip sensor celsius ms s) := by
  unfold execThermalTrip
  repeat' (first
    | refine fun (s : State) (hs : Framed P s₀ s) => ?_ | refine fun (_ : _) (s : State) (hs : Framed P s₀ s) => ?_
    | refine fun (_ : _) (_ : _) (s : State) (hs : Framed P s₀ s) => ?_ | with_reducible assumption
    | with_reducible apply id_framed | with_reducible apply when_framed | with_reducible apply FramedO_next
    | with_reducible apply State.engineReset_framed | exact maskIn_trans hP rfl | exact bit_of hP rfl | dsimp -zeta only)

theorem execThermalTripEnd_framed {P : Nat} {s₀ : State} (celsius : List Int) (s : State) (hI : Framed P s₀ s) (hP :
    maskIn 0x200002 P) : FramedO P s₀ (execThermalTripEnd celsius s) := by
  unfold execThermalTripEnd
  repeat' (first
    | with_reducible exact Or.inl rfl | exact Or.inr (bit_of hP rfl) | refine fun (s : State) (hs : Framed P s₀ s) => ?_
    | refine fun (_ : _) (s : State) (hs : Framed P s₀ s) => ?_
    | refine fun (_ : _) (_ : _) (s : State) (hs : Framed P s₀ s) => ?_
    | ((try lift_lets -underBinder); intro x; refine letS (P := P) (s₀ := s₀) (x := x) ?_ (fun _ => ?_); unfold x; rotate_left; clear_value x)
    | ((try lift_lets -underBinder); intro x; clear_value x) | with_reducible assumption | with_reducible apply id_framed
    | with_reducible apply when_framed | with_reducible apply FramedO_next | with_reducible apply State.startStage2_framed
    | exact maskIn_trans hP rfl | dsimp -zeta only | with_reducible apply Framed.mk_of)

theorem State.requestClusterReset_framed {P : Nat} {s₀ : State} (s : State) (site : Nat) (hI : Framed P s₀ s) (hP : maskIn
    0x200 P) : Framed P s₀ (State.requestClusterReset s site) := by
  unfold State.requestClusterReset
  repeat' (first
    | refine fun (s : State) (hs : Framed P s₀ s) => ?_ | refine fun (_ : _) (s : State) (hs : Framed P s₀ s) => ?_
    | refine fun (_ : _) (_ : _) (s : State) (hs : Framed P s₀ s) => ?_ | with_reducible assumption
    | with_reducible apply id_framed | with_reducible apply when_framed | with_reducible apply State.submit_framed
    | exact maskIn_trans hP rfl | dsimp -zeta only)

theorem execClusterRst_framed {P : Nat} {s₀ : State} (src : ReqSrc) (site : Nat) (s : State) (hI : Framed P s₀ s) (hP :
    maskIn 0x200 P) : FramedO P s₀ (execClusterRst src site s) := by
  unfold execClusterRst
  repeat' (first
    | with_reducible exact Or.inl rfl | exact Or.inr (bit_of hP rfl) | refine fun (s : State) (hs : Framed P s₀ s) => ?_
    | refine fun (_ : _) (s : State) (hs : Framed P s₀ s) => ?_
    | refine fun (_ : _) (_ : _) (s : State) (hs : Framed P s₀ s) => ?_
    | ((try lift_lets -underBinder); intro x; refine letS (P := P) (s₀ := s₀) (x := x) ?_ (fun _ => ?_); unfold x; rotate_left; clear_value x)
    | ((try lift_lets -underBinder); intro x; clear_value x) | with_reducible assumption | with_reducible apply id_framed
    | split | with_reducible apply when_framed | with_reducible apply FramedO_next
    | with_reducible apply State.requestClusterReset_framed | exact maskIn_trans hP rfl | dsimp -zeta only
    | with_reducible apply Framed.mk_of)

theorem State.clearSite_framed {P : Nat} {s₀ : State} (s : State) (n : Nat) (hI : Framed P s₀ s) (hP : maskIn 0x98000000c1
    P) : Framed P s₀ (State.clearSite s n) := by
  unfold State.clearSite
  repeat' (first
    | with_reducible exact Or.inl rfl | exact Or.inr (bit_of hP rfl)
    | ((try lift_lets -underBinder); intro x; refine letS (P := P) (s₀ := s₀) (x := x) ?_ (fun _ => ?_); unfold x; rotate_left; clear_value x)
    | ((try lift_lets -underBinder); intro x; clear_value x) | with_reducible assumption | split
    | with_reducible refine forN_framed ?_ (fun _ _ _ => ?_) | with_reducible apply State.put_framed
    | with_reducible apply State.resetFields_framed | with_reducible apply State.zeroCluster_framed
    | with_reducible apply State.setTState_framed | exact maskIn_trans hP rfl | exact bit_of hP rfl | dsimp -zeta only
    | with_reducible apply Framed.mk_of)

theorem State.beginClusterReset_framed {P : Nat} {s₀ : State} (s : State) (n : Nat) (hI : Framed P s₀ s) (hP : maskIn
    0xd8000000c3 P) : Framed P s₀ (State.beginClusterReset s n) := by
  unfold State.beginClusterReset
  repeat' (first
    | with_reducible exact Or.inl rfl | exact Or.inr (bit_of hP rfl) | refine fun (s : State) (hs : Framed P s₀ s) => ?_
    | refine fun (_ : _) (s : State) (hs : Framed P s₀ s) => ?_
    | refine fun (_ : _) (_ : _) (s : State) (hs : Framed P s₀ s) => ?_
    | ((try lift_lets -underBinder); intro x; refine letS (P := P) (s₀ := s₀) (x := x) ?_ (fun _ => ?_); unfold x; rotate_left; clear_value x)
    | ((try lift_lets -underBinder); intro x; clear_value x) | with_reducible assumption | with_reducible apply id_framed
    | with_reducible apply when_framed | with_reducible apply State.put_framed | with_reducible apply State.clearSite_framed
    | exact maskIn_trans hP rfl | exact bit_of hP rfl | dsimp -zeta only | with_reducible apply Framed.mk_of)

theorem execClusterResetReturn_framed {P : Nat} {s₀ : State} (site : Nat) (s : State) (hI : Framed P s₀ s) (hP : maskIn
    0x883 P) : FramedO P s₀ (execClusterResetReturn site s) := by
  unfold execClusterResetReturn
  repeat' (first
    | with_reducible exact Or.inl rfl | exact Or.inr (bit_of hP rfl) | refine fun (s : State) (hs : Framed P s₀ s) => ?_
    | refine fun (_ : _) (s : State) (hs : Framed P s₀ s) => ?_
    | refine fun (_ : _) (_ : _) (s : State) (hs : Framed P s₀ s) => ?_
    | ((try lift_lets -underBinder); intro x; refine letS (P := P) (s₀ := s₀) (x := x) ?_ (fun _ => ?_); unfold x; rotate_left; clear_value x)
    | ((try lift_lets -underBinder); intro x; clear_value x) | with_reducible assumption | with_reducible apply id_framed
    | split | with_reducible apply when_framed | with_reducible refine forL_framed ?_ (fun _ _ _ => ?_)
    | with_reducible apply FramedO_next | with_reducible apply State.wrMem_framed
    | with_reducible apply State.restCluster_framed | exact maskIn_trans hP rfl | dsimp -zeta only
    | with_reducible apply Framed.mk_of)

theorem State.requestSessionReset_framed {P : Nat} {s₀ : State} (s : State) (hI : Framed P s₀ s) (hP : maskIn 0x4000841a02
    P) : Framed P s₀ (State.requestSessionReset s) := by
  unfold State.requestSessionReset
  repeat' (first
    | with_reducible exact Or.inl rfl | exact Or.inr (bit_of hP rfl) | with_reducible assumption | split
    | with_reducible apply State.submit_framed | with_reducible apply State.sessionReset_framed | exact maskIn_trans hP rfl
    | dsimp -zeta only | with_reducible apply Framed.mk_of)

theorem execSessionRst_framed {P : Nat} {s₀ : State} (src : ReqSrc) (s : State) (hI : Framed P s₀ s) (hP : maskIn
    0x4000841a02 P) : FramedO P s₀ (execSessionRst src s) := by
  unfold execSessionRst
  repeat' (first
    | with_reducible exact Or.inl rfl | exact Or.inr (bit_of hP rfl) | refine fun (s : State) (hs : Framed P s₀ s) => ?_
    | refine fun (_ : _) (s : State) (hs : Framed P s₀ s) => ?_
    | refine fun (_ : _) (_ : _) (s : State) (hs : Framed P s₀ s) => ?_
    | ((try lift_lets -underBinder); intro x; refine letS (P := P) (s₀ := s₀) (x := x) ?_ (fun _ => ?_); unfold x; rotate_left; clear_value x)
    | ((try lift_lets -underBinder); intro x; clear_value x) | with_reducible assumption | with_reducible apply id_framed
    | split | with_reducible apply when_framed | with_reducible apply FramedO_next
    | with_reducible apply State.requestSessionReset_framed | exact maskIn_trans hP rfl | dsimp -zeta only
    | with_reducible apply Framed.mk_of)

theorem State.closeAll_framed {P : Nat} {s₀ : State} (s : State) (cause : Nat) (hI : Framed P s₀ s) (hP : maskIn 0x841000
    P) : Framed P s₀ (State.closeAll s cause) := by
  unfold State.closeAll
  repeat' (first
    | with_reducible exact Or.inl rfl | exact Or.inr (bit_of hP rfl)
    | ((try lift_lets -underBinder); intro x; refine letS (P := P) (s₀ := s₀) (x := x) ?_ (fun _ => ?_); unfold x; rotate_left; clear_value x)
    | ((try lift_lets -underBinder); intro x; clear_value x) | with_reducible assumption
    | with_reducible refine forL_framed ?_ (fun _ _ _ => ?_) | with_reducible apply State.raise_framed
    | exact maskIn_trans hP rfl | dsimp -zeta only | with_reducible apply Framed.mk_of)

theorem State.sessionReset_framed {P : Nat} {s₀ : State} (s : State) (hI : Framed P s₀ s) (hP : maskIn 0x4000841802 P) :
    Framed P s₀ (State.sessionReset s) := by
  unfold State.sessionReset
  repeat' (first
    | with_reducible exact Or.inl rfl | exact Or.inr (bit_of hP rfl)
    | ((try lift_lets -underBinder); intro x; refine letS (P := P) (s₀ := s₀) (x := x) ?_ (fun _ => ?_); unfold x; rotate_left; clear_value x)
    | ((try lift_lets -underBinder); intro x; clear_value x) | with_reducible assumption | split
    | with_reducible apply State.put_framed | with_reducible apply State.raise_framed
    | with_reducible apply State.emptyVat_framed | with_reducible apply State.pressCancel_framed
    | with_reducible apply State.closeAll_framed | exact maskIn_trans hP rfl | exact bit_of hP rfl | dsimp -zeta only
    | with_reducible apply Framed.mk_of)

end Sys2Proof.Machine
end

