-- ==== Sys2Proof/Laws/FramedRegisters.lean ====
section
/-! SUPPORT. What the operations and commands of Machine/Registers.lean can change, as masks of parts (Laws/Framed.lean): one lemma
for each. -/

namespace Sys2Proof.Machine

open Sys2Proof

theorem State.regPlain_framed {P : Nat} {s₀ : State} (s : State) (r : Reg) (v : Nat) (i : Nat) (j : Nat) (hI : Framed P s₀
    s) (hP : maskIn 0x8000000000 P) : Framed P s₀ (State.regPlain s r v i j) := by
  unfold State.regPlain
  repeat' (first
    | with_reducible assumption | with_reducible refine foldl_framed ?_ (fun _ _ _ => ?_)
    | with_reducible apply State.put_any | exact bit_of hP rfl | dsimp -zeta only)

theorem State.resetCtrl_framed {P : Nat} {s₀ : State} (s : State) (v : Nat) (hI : Framed P s₀ s) (hP : maskIn 0xffffffffff
    P) : Framed P s₀ (State.resetCtrl s v) := by
  unfold State.resetCtrl
  repeat' (first

    | ((try lift_lets -underBinder); intro x; refine letS (P := P) (s₀ := s₀) (x := x) ?_ (fun _ => ?_); unfold x; rotate_left; clear_value x)
    | ((try lift_lets -underBinder); intro x; clear_value x) | with_reducible assumption | split
    | with_reducible apply State.engineReset_framed | with_reducible apply State.requestClusterReset_framed
    | with_reducible apply State.requestSessionReset_framed | exact maskIn_trans hP rfl | exact bit_of hP rfl
    | dsimp -zeta only)

theorem State.dbgWrite_framed {P : Nat} {s₀ : State} (s : State) (v : Nat) (hI : Framed P s₀ s) (hP : maskIn 0x600000 P) :
    Framed P s₀ (State.dbgWrite s v) := by
  unfold State.dbgWrite
  repeat' (first
    | with_reducible assumption | split | with_reducible apply State.put_framed | exact bit_of hP rfl | dsimp -zeta only)

theorem State.timCtrl_framed {P : Nat} {s₀ : State} (s : State) (v : Nat) (hI : Framed P s₀ s) (hP : maskIn 0x8001000020
    P) : Framed P s₀ (State.timCtrl s v) := by
  unfold State.timCtrl
  repeat' (first

    | ((try lift_lets -underBinder); intro x; refine letS (P := P) (s₀ := s₀) (x := x) ?_ (fun _ => ?_); unfold x; rotate_left; clear_value x)
    | ((try lift_lets -underBinder); intro x; clear_value x) | with_reducible assumption | split
    | with_reducible apply State.nameSrc_framed | with_reducible apply State.regPlain_framed | exact maskIn_trans hP rfl
    | dsimp -zeta only)

theorem State.timDom_framed {P : Nat} {s₀ : State} (s : State) (d v : Nat) (hI : Framed P s₀ s) (hP : maskIn 0x8001840020
    P) : Framed P s₀ (State.timDom s d v) := by
  unfold State.timDom
  repeat' (first

    | ((try lift_lets -underBinder); intro x; refine letS (P := P) (s₀ := s₀) (x := x) ?_ (fun _ => ?_); unfold x; rotate_left; clear_value x)
    | ((try lift_lets -underBinder); intro x; clear_value x) | with_reducible assumption | split
    | with_reducible apply State.domDisable_framed | with_reducible apply State.domEnable_framed
    | with_reducible apply State.regPlain_framed | exact maskIn_trans hP rfl | dsimp -zeta only)

theorem State.refCtrl_framed {P : Nat} {s₀ : State} (s : State) (v : Nat) (hI : Framed P s₀ s) (hP : maskIn 0x80028c0010
    P) : Framed P s₀ (State.refCtrl s v) := by
  unfold State.refCtrl
  repeat' (first

    | ((try lift_lets -underBinder); intro x; refine letS (P := P) (s₀ := s₀) (x := x) ?_ (fun _ => ?_); unfold x; rotate_left; clear_value x)
    | ((try lift_lets -underBinder); intro x; clear_value x) | with_reducible assumption
    | with_reducible apply State.evalSelect_framed | with_reducible apply State.regPlain_framed | exact maskIn_trans hP rfl
    | dsimp -zeta only)

theorem State.refLimits_framed {P : Nat} {s₀ : State} (s : State) (v : Nat) (hI : Framed P s₀ s) (hP : maskIn 0x8000000000
    P) : Framed P s₀ (State.refLimits s v) := by
  unfold State.refLimits
  repeat' (first
    | ((try lift_lets -underBinder); intro x; clear_value x) | with_reducible assumption | split
    | with_reducible apply State.regPlain_framed | exact maskIn_trans hP rfl | dsimp -zeta only)

theorem State.refCand_framed {P : Nat} {s₀ : State} (s : State) (n v : Nat) (hI : Framed P s₀ s) (hP : maskIn 0x80028c0010
    P) : Framed P s₀ (State.refCand s n v) := by
  unfold State.refCand
  repeat' (first

    | ((try lift_lets -underBinder); intro x; refine letS (P := P) (s₀ := s₀) (x := x) ?_ (fun _ => ?_); unfold x; rotate_left; clear_value x)
    | ((try lift_lets -underBinder); intro x; clear_value x) | with_reducible assumption | split
    | with_reducible apply State.evalSelect_framed | with_reducible apply State.moveCand_framed
    | with_reducible apply State.regPlain_framed | exact maskIn_trans hP rfl | dsimp -zeta only)

theorem State.refFreq_framed {P : Nat} {s₀ : State} (s : State) (n v : Nat) (hI : Framed P s₀ s) (hP : maskIn 0x8002000000
    P) : Framed P s₀ (State.refFreq s n v) := by
  unfold State.refFreq
  repeat' (first
    | with_reducible assumption | with_reducible apply State.regPlain_framed | exact maskIn_trans hP rfl | dsimp -zeta only)

theorem State.pulseCtrl_framed {P : Nat} {s₀ : State} (s : State) (n v : Nat) (hI : Framed P s₀ s) (hP : maskIn
    0x8002000010 P) : Framed P s₀ (State.pulseCtrl s n v) := by
  unfold State.pulseCtrl
  repeat' (first

    | ((try lift_lets -underBinder); intro x; refine letS (P := P) (s₀ := s₀) (x := x) ?_ (fun _ => ?_); unfold x; rotate_left; clear_value x)
    | ((try lift_lets -underBinder); intro x; clear_value x) | with_reducible assumption | split
    | with_reducible apply State.put_framed | with_reducible apply State.setPulse_framed
    | with_reducible apply State.regPlain_framed | exact maskIn_trans hP rfl | exact bit_of hP rfl | dsimp -zeta only)

theorem State.pulseOfs_framed {P : Nat} {s₀ : State} (s : State) (n v : Nat) (hI : Framed P s₀ s) (hP : maskIn 0x2000000
    P) : Framed P s₀ (State.pulseOfs s n v) := by
  unfold State.pulseOfs
  repeat' (first
    | with_reducible assumption | split | with_reducible apply State.put_framed | exact bit_of hP rfl | dsimp -zeta only)

theorem State.rpllStatus_framed {P : Nat} {s₀ : State} (s : State) (v : Nat) (hI : Framed P s₀ s) (hP : maskIn
    0x800a000008 P) : Framed P s₀ (State.rpllStatus s v) := by
  unfold State.rpllStatus
  repeat' (first
    | with_reducible exact Or.inl rfl | exact Or.inr (bit_of hP rfl)
    | ((try lift_lets -underBinder); intro x; refine letS (P := P) (s₀ := s₀) (x := x) ?_ (fun _ => ?_); unfold x; rotate_left; clear_value x)
    | ((try lift_lets -underBinder); intro x; clear_value x) | with_reducible assumption | split
    | with_reducible apply State.regPlain_framed | exact maskIn_trans hP rfl | dsimp -zeta only
    | with_reducible apply Framed.mk_of)

theorem State.siphWord_framed {P : Nat} {s₀ : State} (s : State) (v : Nat) (hI : Framed P s₀ s) (hP : maskIn 0x8008000200
    P) : Framed P s₀ (State.siphWord s v) := by
  unfold State.siphWord
  repeat' (first

    | ((try lift_lets -underBinder); intro x; refine letS (P := P) (s₀ := s₀) (x := x) ?_ (fun _ => ?_); unfold x; rotate_left; clear_value x)
    | ((try lift_lets -underBinder); intro x; clear_value x) | with_reducible assumption | split
    | with_reducible apply State.switchOver_framed | with_reducible apply State.rejoin_framed
    | with_reducible apply State.partnerDiverge_framed | with_reducible apply State.regPlain_framed
    | exact maskIn_trans hP rfl | dsimp -zeta only)

theorem State.siphCtrl_framed {P : Nat} {s₀ : State} (s : State) (v : Nat) (hI : Framed P s₀ s) (hP : maskIn 0x8008000200
    P) : Framed P s₀ (State.siphCtrl s v) := by
  unfold State.siphCtrl
  repeat' (first

    | ((try lift_lets -underBinder); intro x; refine letS (P := P) (s₀ := s₀) (x := x) ?_ (fun _ => ?_); unfold x; rotate_left; clear_value x)
    | ((try lift_lets -underBinder); intro x; clear_value x) | with_reducible assumption
    | with_reducible apply State.siphWord_framed | exact maskIn_trans hP rfl | dsimp -zeta only)

theorem State.netPort_framed {P : Nat} {s₀ : State} (s : State) (p v : Nat) (hI : Framed P s₀ s) (hP : maskIn 0x8040848000
    P) : Framed P s₀ (State.netPort s p v) := by
  unfold State.netPort
  repeat' (first

    | ((try lift_lets -underBinder); intro x; refine letS (P := P) (s₀ := s₀) (x := x) ?_ (fun _ => ?_); unfold x; rotate_left; clear_value x)
    | ((try lift_lets -underBinder); intro x; clear_value x) | with_reducible assumption | split
    | with_reducible apply State.linkDown_framed | with_reducible apply State.regPlain_framed | exact maskIn_trans hP rfl
    | dsimp -zeta only)

theorem State.netPlane_framed {P : Nat} {s₀ : State} (s : State) (x v : Nat) (hI : Framed P s₀ s) (hP : maskIn
    0x8040008000 P) : Framed P s₀ (State.netPlane s x v) := by
  unfold State.netPlane
  repeat' (first

    | ((try lift_lets -underBinder); intro x; refine letS (P := P) (s₀ := s₀) (x := x) ?_ (fun _ => ?_); unfold x; rotate_left; clear_value x)
    | ((try lift_lets -underBinder); intro x; clear_value x) | with_reducible assumption | split
    | with_reducible apply State.ipv4Write_framed | with_reducible apply State.regPlain_framed | exact maskIn_trans hP rfl
    | dsimp -zeta only)

theorem State.rxWord0_framed {P : Nat} {s₀ : State} (s : State) (i v : Nat) (hI : Framed P s₀ s) (hP : maskIn 0x8080848000
    P) : Framed P s₀ (State.rxWord0 s i v) := by
  unfold State.rxWord0
  repeat' (first

    | ((try lift_lets -underBinder); intro x; refine letS (P := P) (s₀ := s₀) (x := x) ?_ (fun _ => ?_); unfold x; rotate_left; clear_value x)
    | ((try lift_lets -underBinder); intro x; clear_value x) | with_reducible assumption | split
    | with_reducible apply State.rxEnable_framed | with_reducible apply State.rxDisable_framed
    | with_reducible apply State.regPlain_framed | exact maskIn_trans hP rfl | dsimp -zeta only)

theorem State.txWord0_framed {P : Nat} {s₀ : State} (s : State) (i v : Nat) (hI : Framed P s₀ s) (hP : maskIn 0x8080848000
    P) : Framed P s₀ (State.txWord0 s i v) := by
  unfold State.txWord0
  repeat' (first

    | ((try lift_lets -underBinder); intro x; refine letS (P := P) (s₀ := s₀) (x := x) ?_ (fun _ => ?_); unfold x; rotate_left; clear_value x)
    | ((try lift_lets -underBinder); intro x; clear_value x) | with_reducible assumption | split
    | with_reducible apply State.txEnable_framed | with_reducible apply State.txDisable_framed
    | with_reducible apply State.regPlain_framed | exact maskIn_trans hP rfl | dsimp -zeta only)

theorem State.bankCtrl_framed {P : Nat} {s₀ : State} (s : State) (master k v : Nat) (hI : Framed P s₀ s) (hP : maskIn
    0x100840080 P) : Framed P s₀ (State.bankCtrl s master k v) := by
  unfold State.bankCtrl
  repeat' (first

    | ((try lift_lets -underBinder); intro x; refine letS (P := P) (s₀ := s₀) (x := x) ?_ (fun _ => ?_); unfold x; rotate_left; clear_value x)
    | ((try lift_lets -underBinder); intro x; clear_value x) | with_reducible assumption | split
    | with_reducible apply State.put_framed | with_reducible apply State.handoverReq_framed | exact maskIn_trans hP rfl
    | exact bit_of hP rfl | dsimp -zeta only)

theorem State.dcisCfg_framed {P : Nat} {s₀ : State} (s : State) (v : Nat) (hI : Framed P s₀ s) (hP : maskIn 0x8200200000
    P) : Framed P s₀ (State.dcisCfg s v) := by
  unfold State.dcisCfg
  repeat' (first

    | ((try lift_lets -underBinder); intro x; refine letS (P := P) (s₀ := s₀) (x := x) ?_ (fun _ => ?_); unfold x; rotate_left; clear_value x)
    | ((try lift_lets -underBinder); intro x; clear_value x) | with_reducible assumption | split
    | with_reducible apply State.put_framed | with_reducible apply State.regPlain_framed | exact maskIn_trans hP rfl
    | exact bit_of hP rfl | dsimp -zeta only)

theorem State.dcisRegion_framed {P : Nat} {s₀ : State} (s : State) (r v : Nat) (hI : Framed P s₀ s) (hP : maskIn
    0x8200a00000 P) : Framed P s₀ (State.dcisRegion s r v) := by
  unfold State.dcisRegion
  repeat' (first

    | ((try lift_lets -underBinder); intro x; refine letS (P := P) (s₀ := s₀) (x := x) ?_ (fun _ => ?_); unfold x; rotate_left; clear_value x)
    | ((try lift_lets -underBinder); intro x; clear_value x) | with_reducible assumption | split
    | with_reducible apply State.put_framed | with_reducible apply State.setRecOk_framed
    | with_reducible apply State.regPlain_framed | exact maskIn_trans hP rfl | exact bit_of hP rfl | dsimp -zeta only)

theorem State.dcisWord_framed {P : Nat} {s₀ : State} (s : State) (r : Reg) (i v : Nat) (hI : Framed P s₀ s) (hP : maskIn
    0x8200000000 P) : Framed P s₀ (State.dcisWord s r i v) := by
  unfold State.dcisWord
  repeat' (first

    | ((try lift_lets -underBinder); intro x; refine letS (P := P) (s₀ := s₀) (x := x) ?_ (fun _ => ?_); unfold x; rotate_left; clear_value x)
    | ((try lift_lets -underBinder); intro x; clear_value x) | with_reducible assumption | split
    | with_reducible apply State.put_framed | with_reducible apply State.regPlain_framed | exact maskIn_trans hP rfl
    | exact bit_of hP rfl | dsimp -zeta only)

theorem State.regDo_framed {P : Nat} {s₀ : State} (s : State) (master : Nat) (r : Reg) (i j v : Nat) (hI : Framed P s₀ s)
    (hP : maskIn 0xffffffffff P) : Framed P s₀ (State.regDo s master r i j v) := by
  unfold State.regDo
  repeat' (first
    | with_reducible exact Or.inl rfl | exact Or.inr (bit_of hP rfl) | with_reducible assumption | split
    | with_reducible apply State.put_framed | with_reducible apply State.hostPump_framed
    | with_reducible apply State.writeTaskWord_framed | with_reducible apply State.takeSnapshot_framed
    | with_reducible apply State.corrWrite_framed | with_reducible apply State.tdmMaskWrite_framed
    | with_reducible apply State.tdmCfgWrite_framed | with_reducible apply State.tdmStart_framed
    | with_reducible apply State.tdmStop_framed | with_reducible apply State.genWrite_framed
    | with_reducible apply State.wellCodeWrite_framed | with_reducible apply State.wellCfgWrite_framed
    | with_reducible apply State.retire_framed | with_reducible apply State.pwrWrite_framed
    | with_reducible apply State.regPlain_framed | with_reducible apply State.resetCtrl_framed
    | with_reducible apply State.dbgWrite_framed | with_reducible apply State.timCtrl_framed
    | with_reducible apply State.timDom_framed | with_reducible apply State.refCtrl_framed
    | with_reducible apply State.refLimits_framed | with_reducible apply State.refCand_framed
    | with_reducible apply State.refFreq_framed | with_reducible apply State.pulseCtrl_framed
    | with_reducible apply State.pulseOfs_framed | with_reducible apply State.rpllStatus_framed
    | with_reducible apply State.siphCtrl_framed | with_reducible apply State.netPort_framed
    | with_reducible apply State.netPlane_framed | with_reducible apply State.rxWord0_framed
    | with_reducible apply State.txWord0_framed | with_reducible apply State.bankCtrl_framed
    | with_reducible apply State.dcisCfg_framed | with_reducible apply State.dcisRegion_framed
    | with_reducible apply State.dcisWord_framed | exact maskIn_trans hP rfl | exact bit_of hP rfl | dsimp -zeta only
    | with_reducible apply Framed.mk_of)

theorem State.regPost_framed {P : Nat} {s₀ : State} (s : State) (master : Nat) (r : Reg) (i j v : Nat) (hI : Framed P s₀
    s) (hP : maskIn 0xffffffffff P) : Framed P s₀ (State.regPost s master r i j v) := by
  unfold State.regPost
  repeat' (first
    | with_reducible assumption | split | with_reducible apply State.submit_framed | with_reducible apply State.regDo_framed
    | with_reducible apply State.regWrite_framed | exact maskIn_trans hP rfl | dsimp -zeta only)

theorem State.regApply_framed {P : Nat} {s₀ : State} (s : State) (a v : Nat) (hI : Framed P s₀ s) (hP : maskIn
    0xffffffffff P) : Framed P s₀ (State.regApply s a v) := by
  unfold State.regApply
  repeat' (first
    | with_reducible exact Or.inl rfl | exact Or.inr (bit_of hP rfl) | with_reducible assumption | split
    | with_reducible apply State.regDo_framed | exact maskIn_trans hP rfl | dsimp -zeta only
    | with_reducible apply Framed.mk_of)

theorem State.regWrite_framed {P : Nat} {s₀ : State} (s : State) (master a v : Nat) (hI : Framed P s₀ s) (hP : maskIn
    0xffffffffff P) : Framed P s₀ (State.regWrite s master a v).1 := by
  unfold State.regWrite
  repeat' (first
    | with_reducible exact Or.inl rfl | exact Or.inr (bit_of hP rfl)
    | ((try lift_lets -underBinder); intro x; refine letS (P := P) (s₀ := s₀) (x := x) ?_ (fun _ => ?_); unfold x; rotate_left; clear_value x)
    | ((try lift_lets -underBinder); intro x; refine letS (P := P) (s₀ := s₀) (x := x.2) ?_ (fun _ => ?_); unfold x; rotate_left; clear_value x)
    | ((try lift_lets -underBinder); intro x; refine letS (P := P) (s₀ := s₀) (x := x.1) ?_ (fun _ => ?_); unfold x; rotate_left; clear_value x)
    | ((try lift_lets -underBinder); intro x; clear_value x) | with_reducible assumption | split
    | with_reducible apply State.regPost_framed | exact maskIn_trans hP rfl
    | with_reducible refine of_snd (by with_reducible assumption) ?_
    | with_reducible refine of_fst (by with_reducible assumption) ?_ | dsimp -zeta only | with_reducible apply Framed.mk_of)

theorem execRegisterWrite_framed {P : Nat} {s₀ : State} (master addr : Nat) (value : BitVec 64) (s : State) (hI : Framed P
    s₀ s) (hP : maskIn 0xffffffffff P) : FramedO P s₀ (execRegisterWrite master addr value s) := by
  unfold execRegisterWrite
  repeat' (first
    | refine fun (s : State) (hs : Framed P s₀ s) => ?_ | refine fun (_ : _) (s : State) (hs : Framed P s₀ s) => ?_
    | refine fun (_ : _) (_ : _) (s : State) (hs : Framed P s₀ s) => ?_
    | ((try lift_lets -underBinder); intro x; refine letS (P := P) (s₀ := s₀) (x := x) ?_ (fun _ => ?_); unfold x; rotate_left; clear_value x)
    | ((try lift_lets -underBinder); intro x; refine letS (P := P) (s₀ := s₀) (x := x.2) ?_ (fun _ => ?_); unfold x; rotate_left; clear_value x)
    | ((try lift_lets -underBinder); intro x; refine letS (P := P) (s₀ := s₀) (x := x.1) ?_ (fun _ => ?_); unfold x; rotate_left; clear_value x)
    | ((try lift_lets -underBinder); intro x; clear_value x) | with_reducible assumption | with_reducible apply id_framed
    | split | with_reducible apply when_framed | with_reducible apply FramedO_next
    | with_reducible apply State.fabError_framed | with_reducible apply State.regWrite_framed | exact maskIn_trans hP rfl
    | dsimp -zeta only)

theorem execRemapSet_framed {P : Nat} {s₀ : State} (master key : Nat) (s : State) (hI : Framed P s₀ s) (hP : maskIn
    0xe40100 P) : FramedO P s₀ (execRemapSet master key s) := by
  unfold execRemapSet
  repeat' (first
    | refine fun (s : State) (hs : Framed P s₀ s) => ?_ | refine fun (_ : _) (s : State) (hs : Framed P s₀ s) => ?_
    | refine fun (_ : _) (_ : _) (s : State) (hs : Framed P s₀ s) => ?_ | with_reducible assumption
    | with_reducible apply id_framed | split | with_reducible apply when_framed | with_reducible apply FramedO_next
    | with_reducible apply State.put_framed | with_reducible apply State.fabError_framed | exact maskIn_trans hP rfl
    | exact bit_of hP rfl | dsimp -zeta only)

end Sys2Proof.Machine
end

