-- ==== Sys2Proof/Laws/FramedDictionary.lean ====
section
/-! SUPPORT. What the operations and commands of Machine/Dictionary.lean can change, as masks of parts (Laws/Framed.lean): one lemma
for each. -/

namespace Sys2Proof.Machine

open Sys2Proof

theorem State.objStore_framed {P : Nat} {s₀ : State} (s : State) (r : ObjRow) (idx sub elem : Nat) (v : PVal) (hI : Framed
    P s₀ s) (hP : maskIn 0xffffffffff P) : Framed P s₀ (State.objStore s r idx sub elem v) := by
  unfold State.objStore
  repeat' (first
    | with_reducible exact Or.inl rfl | exact Or.inr (bit_of hP rfl)
    | ((try lift_lets -underBinder); intro x; refine letS (P := P) (s₀ := s₀) (x := x) ?_ (fun _ => ?_); unfold x; rotate_left; clear_value x)
    | ((try lift_lets -underBinder); intro x; refine letS (P := P) (s₀ := s₀) (x := x.2) ?_ (fun _ => ?_); unfold x; rotate_left; clear_value x)
    | ((try lift_lets -underBinder); intro x; refine letS (P := P) (s₀ := s₀) (x := x.1) ?_ (fun _ => ?_); unfold x; rotate_left; clear_value x)
    | ((try lift_lets -underBinder); intro x; clear_value x) | with_reducible assumption | split
    | with_reducible refine forL_framed ?_ (fun _ _ _ => ?_) | with_reducible refine forL1_framed ?_ (fun _ _ _ => ?_)
    | with_reducible refine forL2_framed ?_ (fun _ _ _ => ?_) | with_reducible apply State.raise_framed
    | with_reducible apply State.setObj_framed | with_reducible apply State.sdpWrite_framed
    | with_reducible apply State.syncAmps_framed | with_reducible apply State.regDo_framed | exact maskIn_trans hP rfl
    | with_reducible refine of_snd (by with_reducible assumption) ?_
    | with_reducible refine of_fst (by with_reducible assumption) ?_ | dsimp -zeta only | with_reducible apply Framed.mk_of)

end Sys2Proof.Machine
end

