-- ==== Sys2Proof/Laws/FramedBoot.lean ====
section
/-! SUPPORT. What the operations and commands of Machine/Boot.lean can change, as masks of parts (Laws/Framed.lean): one lemma
for each. -/

namespace Sys2Proof.Machine

open Sys2Proof

theorem sigFailFd_blk (slot : Nat) : (sigFailFd slot).blk = 1 := by
  unfold sigFailFd; repeat' split
  all_goals rfl

theorem State.bootValue_framed {P : Nat} {s₀ : State} (s : State) (e : SceneEntry) (hI : Framed P s₀ s) (hP : maskIn
    0xffffffffff P) : Framed P s₀ (State.bootValue s e) := by
  unfold State.bootValue
  repeat' (first
    | with_reducible exact Or.inl rfl | exact Or.inr (bit_of hP rfl) | with_reducible assumption | split
    | with_reducible apply State.commitVal_framed | with_reducible apply State.objStore_framed | exact maskIn_trans hP rfl
    | dsimp -zeta only | with_reducible apply Framed.mk_of)

theorem State.bootRates_framed {P : Nat} {s₀ : State} (s : State) (cls b : Nat) (hI : Framed P s₀ s) (hP : maskIn 0x22 P)
    : Framed P s₀ (State.bootRates s cls b) := by
  unfold State.bootRates
  repeat' (first
    | with_reducible exact Or.inl rfl | exact Or.inr (bit_of hP rfl) | with_reducible assumption | split | dsimp -zeta only
    | with_reducible apply Framed.mk_of)

theorem State.startFirmware_framed {P : Nat} {s₀ : State} (s : State) (f : FwSlot) (hI : Framed P s₀ s) (hP : maskIn
    0xffffffffff P) : Framed P s₀ (State.startFirmware s f) := by
  unfold State.startFirmware
  repeat' (first
    | with_reducible exact Or.inl rfl | exact Or.inr (bit_of hP rfl)
    | ((try lift_lets -underBinder); intro x; refine letS (P := P) (s₀ := s₀) (x := x) ?_ (fun _ => ?_); unfold x; rotate_left; clear_value x)
    | ((try lift_lets -underBinder); intro x; clear_value x) | with_reducible assumption | split
    | with_reducible refine forL_framed ?_ (fun _ _ _ => ?_) | with_reducible apply State.put_framed
    | with_reducible apply State.hbStart_framed | with_reducible apply State.setStage_framed
    | with_reducible apply State.bootValue_framed | with_reducible apply State.bootRates_framed | exact maskIn_trans hP rfl
    | exact bit_of hP rfl | dsimp -zeta only | with_reducible apply Framed.mk_of)

theorem State.recovery_framed {P : Nat} {s₀ : State} (s : State) (hI : Framed P s₀ s) (hP : maskIn 0xa40000 P) : Framed P
    s₀ (State.recovery s) := by
  unfold State.recovery
  repeat' (first

    | ((try lift_lets -underBinder); intro x; refine letS (P := P) (s₀ := s₀) (x := x) ?_ (fun _ => ?_); unfold x; rotate_left; clear_value x)
    | ((try lift_lets -underBinder); intro x; clear_value x) | with_reducible assumption
    | with_reducible apply State.raise_framed | with_reducible apply State.setStage_framed | exact maskIn_trans hP rfl
    | dsimp -zeta only)

theorem execBootRomVerify_framed {P : Nat} {s₀ : State} (s : State) (hI : Framed P s₀ s) (hP : maskIn 0xffffffffff P) :
    FramedO P s₀ (execBootRomVerify s) := by
  unfold execBootRomVerify
  repeat' (first
    | with_reducible exact Or.inl rfl | exact Or.inr (bit_of hP rfl) | refine fun (s : State) (hs : Framed P s₀ s) => ?_
    | refine fun (_ : _) (s : State) (hs : Framed P s₀ s) => ?_
    | refine fun (_ : _) (_ : _) (s : State) (hs : Framed P s₀ s) => ?_
    | ((try lift_lets -underBinder); intro x; refine letS (P := P) (s₀ := s₀) (x := x) ?_ (fun _ => ?_); unfold x; rotate_left; clear_value x)
    | ((try lift_lets -underBinder); intro x; clear_value x) | with_reducible assumption | with_reducible apply id_framed
    | split | with_reducible apply when_framed | with_reducible refine forL_framed ?_ (fun _ _ _ => ?_)
    | with_reducible apply FramedO_next | with_reducible apply State.put_framed | with_reducible apply State.raise_framed
    | with_reducible apply State.startFirmware_framed | with_reducible apply State.recovery_framed
    | exact maskIn_trans hP rfl | exact bit_of hP rfl | (rw [sigFailFd_blk]; exact bit_of hP rfl) | dsimp -zeta only
    | with_reducible apply Framed.mk_of)

theorem State.lessSpare_framed {P : Nat} {s₀ : State} (s : State) (f : Fd) (hI : Framed P s₀ s) (hB0 : P.testBit (20 +
    f.blk) = true) : Framed P s₀ (State.lessSpare s f) := by
  unfold State.lessSpare
  repeat' (first | with_reducible assumption | with_reducible apply State.put_framed | dsimp -zeta only)

theorem State.applyRetired_framed {P : Nat} {s₀ : State} (s : State) (r : Retired) (hI : Framed P s₀ s) (hP : maskIn
    0x104220000 P) : Framed P s₀ (State.applyRetired s r) := by
  unfold State.applyRetired
  repeat' (first
    | with_reducible exact Or.inl rfl | exact Or.inr (bit_of hP rfl)
    | ((try lift_lets -underBinder); intro x; refine letS (P := P) (s₀ := s₀) (x := x) ?_ (fun _ => ?_); unfold x; rotate_left; clear_value x)
    | ((try lift_lets -underBinder); intro x; clear_value x) | with_reducible assumption | split
    | with_reducible apply State.put_framed | with_reducible apply State.incSat_framed
    | with_reducible apply State.setClocked_framed | with_reducible apply State.lessSpare_framed | exact maskIn_trans hP rfl
    | exact bit_of hP rfl | dsimp -zeta only | with_reducible apply Framed.mk_of)

theorem execRetirementRecordApply_framed {P : Nat} {s₀ : State} (s : State) (hI : Framed P s₀ s) (hP : maskIn 0x106220000
    P) : FramedO P s₀ (execRetirementRecordApply s) := by
  unfold execRetirementRecordApply
  repeat' (first
    | with_reducible exact Or.inl rfl | exact Or.inr (bit_of hP rfl) | refine fun (s : State) (hs : Framed P s₀ s) => ?_
    | refine fun (_ : _) (s : State) (hs : Framed P s₀ s) => ?_
    | refine fun (_ : _) (_ : _) (s : State) (hs : Framed P s₀ s) => ?_
    | ((try lift_lets -underBinder); intro x; refine letS (P := P) (s₀ := s₀) (x := x) ?_ (fun _ => ?_); unfold x; rotate_left; clear_value x)
    | ((try lift_lets -underBinder); intro x; clear_value x) | with_reducible assumption | with_reducible apply id_framed
    | split | with_reducible apply when_framed | with_reducible refine forL_framed ?_ (fun _ _ _ => ?_)
    | with_reducible apply FramedO_next | with_reducible apply State.retired_framed
    | with_reducible apply State.setStage_framed | with_reducible apply State.applyRetired_framed | exact maskIn_trans hP rfl
    | dsimp -zeta only | with_reducible apply Framed.mk_of)

theorem execBootFlashWriteEnd_framed {P : Nat} {s₀ : State} (s : State) (hI : Framed P s₀ s) (hP : maskIn 0x4 P) : FramedO
    P s₀ (execBootFlashWriteEnd s) := by
  unfold execBootFlashWriteEnd
  repeat' (first
    | with_reducible exact Or.inl rfl | exact Or.inr (bit_of hP rfl) | refine fun (s : State) (hs : Framed P s₀ s) => ?_
    | refine fun (_ : _) (s : State) (hs : Framed P s₀ s) => ?_
    | refine fun (_ : _) (_ : _) (s : State) (hs : Framed P s₀ s) => ?_
    | ((try lift_lets -underBinder); intro x; refine letS (P := P) (s₀ := s₀) (x := x) ?_ (fun _ => ?_); unfold x; rotate_left; clear_value x)
    | ((try lift_lets -underBinder); intro x; clear_value x) | with_reducible assumption | with_reducible apply id_framed
    | split | with_reducible apply when_framed | with_reducible apply FramedO_next | dsimp -zeta only
    | with_reducible apply Framed.mk_of)

end Sys2Proof.Machine
end

