-- ==== Sys2Proof/Laws/FramedGraph.lean ====
section
/-! SUPPORT. What the operations and commands of Machine/Graph.lean can change, as masks of parts (Laws/Framed.lean): one lemma
for each. -/

namespace Sys2Proof.Machine

open Sys2Proof

theorem State.writeTask_framed {P : Nat} {s₀ : State} (s : State) (t : GTask) (hI : Framed P s₀ s) (hP : maskIn
    0x9c008c00c1 P) : Framed P s₀ (State.writeTask s t) := by
  unfold State.writeTask
  repeat' (first
    | with_reducible exact Or.inl rfl | exact Or.inr (bit_of hP rfl) | refine fun (s : State) (hs : Framed P s₀ s) => ?_
    | refine fun (_ : _) (s : State) (hs : Framed P s₀ s) => ?_
    | refine fun (_ : _) (_ : _) (s : State) (hs : Framed P s₀ s) => ?_
    | ((try lift_lets -underBinder); intro x; refine letS (P := P) (s₀ := s₀) (x := x) ?_ (fun _ => ?_); unfold x; rotate_left; clear_value x)
    | ((try lift_lets -underBinder); intro x; clear_value x) | with_reducible assumption | with_reducible apply id_framed
    | with_reducible apply State.put_framed | with_reducible apply State.setWord_framed
    | with_reducible apply State.slot_framed | exact maskIn_trans hP rfl | exact bit_of hP rfl | dsimp -zeta only
    | with_reducible apply Framed.mk_of)

theorem State.writeBuf_framed {P : Nat} {s₀ : State} (s : State) (b : GBuf) (hI : Framed P s₀ s) (hP : maskIn 0x9000000000
    P) : Framed P s₀ (State.writeBuf s b) := by
  unfold State.writeBuf
  repeat' (first

    | ((try lift_lets -underBinder); intro x; refine letS (P := P) (s₀ := s₀) (x := x) ?_ (fun _ => ?_); unfold x; rotate_left; clear_value x)
    | ((try lift_lets -underBinder); intro x; clear_value x) | with_reducible assumption
    | with_reducible apply State.put_framed | with_reducible apply State.setWord_framed | exact maskIn_trans hP rfl
    | exact bit_of hP rfl | dsimp -zeta only)

theorem State.writeImage_framed {P : Nat} {s₀ : State} (s : State) (p : GProg) (hI : Framed P s₀ s) (hP : maskIn 0x40 P) :
    Framed P s₀ (State.writeImage s p) := by
  unfold State.writeImage
  repeat' (first
    | with_reducible exact Or.inl rfl | exact Or.inr (bit_of hP rfl) | with_reducible assumption | split
    | with_reducible refine foldl_framed ?_ (fun _ _ _ => ?_) | dsimp -zeta only | with_reducible apply Framed.mk_of)

theorem State.candidate_framed {P : Nat} {s₀ : State} (s : State) (g : Graph) (hI : Framed P s₀ s) (hP : maskIn
    0x9c008c00c1 P) : Framed P s₀ (State.candidate s g) := by
  unfold State.candidate
  repeat' (first
    | with_reducible exact Or.inl rfl | exact Or.inr (bit_of hP rfl)
    | ((try lift_lets -underBinder); intro x; refine letS (P := P) (s₀ := s₀) (x := x) ?_ (fun _ => ?_); unfold x; rotate_left; clear_value x)
    | ((try lift_lets -underBinder); intro x; clear_value x) | with_reducible assumption | split
    | with_reducible refine forL_framed ?_ (fun _ _ _ => ?_) | with_reducible apply State.setWord_framed
    | with_reducible apply State.resetFields_framed | with_reducible apply State.setPumpSt_framed
    | with_reducible apply State.writeTask_framed | with_reducible apply State.writeBuf_framed
    | with_reducible apply State.writeImage_framed | exact maskIn_trans hP rfl | dsimp -zeta only
    | with_reducible apply Framed.mk_of)

theorem State.zeroDelayed_framed {P : Nat} {s₀ : State} (s : State) (b : GBuf) (hI : Framed P s₀ s) (hP : maskIn
    0x1000000081 P) : Framed P s₀ (State.zeroDelayed s b) := by
  unfold State.zeroDelayed
  repeat' (first

    | ((try lift_lets -underBinder); intro x; refine letS (P := P) (s₀ := s₀) (x := x) ?_ (fun _ => ?_); unfold x; rotate_left; clear_value x)
    | ((try lift_lets -underBinder); intro x; clear_value x) | with_reducible assumption | split
    | with_reducible refine forN_framed ?_ (fun _ _ _ => ?_) | with_reducible apply State.wrMem_framed
    | exact maskIn_trans hP rfl | dsimp -zeta only)

theorem State.installGraph_framed {P : Nat} {s₀ : State} (s : State) (g : Graph) (serves : List GServe) (hI : Framed P s₀
    s) (hP : maskIn 0x1c008c04c1 P) : Framed P s₀ (State.installGraph s g serves) := by
  unfold State.installGraph
  repeat' (first
    | with_reducible exact Or.inl rfl | exact Or.inr (bit_of hP rfl) | refine fun (s : State) (hs : Framed P s₀ s) => ?_
    | refine fun (_ : _) (s : State) (hs : Framed P s₀ s) => ?_
    | refine fun (_ : _) (_ : _) (s : State) (hs : Framed P s₀ s) => ?_
    | ((try lift_lets -underBinder); intro x; refine letS (P := P) (s₀ := s₀) (x := x) ?_ (fun _ => ?_); unfold x; rotate_left; clear_value x)
    | ((try lift_lets -underBinder); intro x; clear_value x) | with_reducible assumption | with_reducible apply id_framed
    | split | with_reducible apply when_framed | with_reducible refine forL_framed ?_ (fun _ _ _ => ?_)
    | with_reducible refine foldl_framed ?_ (fun _ _ _ => ?_) | with_reducible apply State.wrMem_framed
    | with_reducible apply State.pumpLoad_framed | with_reducible apply State.pumpArm_framed
    | with_reducible apply State.zeroDelayed_framed | with_reducible apply State.slot_framed | exact maskIn_trans hP rfl
    | dsimp -zeta only | with_reducible apply Framed.mk_of)

theorem execGraphLoad_framed {P : Nat} {s₀ : State} (g : Graph) (s : State) (hI : Framed P s₀ s) (hP : maskIn 0x9c00ac0cc1
    P) : FramedO P s₀ (execGraphLoad g s) := by
  unfold execGraphLoad
  repeat' (first
    | with_reducible exact Or.inl rfl | exact Or.inr (bit_of hP rfl) | refine fun (s : State) (hs : Framed P s₀ s) => ?_
    | refine fun (_ : _) (s : State) (hs : Framed P s₀ s) => ?_
    | refine fun (_ : _) (_ : _) (s : State) (hs : Framed P s₀ s) => ?_
    | ((try lift_lets -underBinder); intro x; refine letS (P := P) (s₀ := s₀) (x := x) ?_ (fun _ => ?_); unfold x; rotate_left; clear_value x)
    | ((try lift_lets -underBinder); intro x; refine letS (P := P) (s₀ := s₀) (x := x.2) ?_ (fun _ => ?_); unfold x; rotate_left; clear_value x)
    | ((try lift_lets -underBinder); intro x; refine letS (P := P) (s₀ := s₀) (x := x.1) ?_ (fun _ => ?_); unfold x; rotate_left; clear_value x)
    | ((try lift_lets -underBinder); intro x; clear_value x) | with_reducible assumption | with_reducible apply id_framed
    | split | with_reducible apply when_framed | with_reducible apply FramedO_next
    | with_reducible apply State.takeFree_framed | with_reducible apply State.raise_framed
    | with_reducible apply State.startAuto_framed | with_reducible apply State.candidate_framed
    | with_reducible apply State.installGraph_framed | exact maskIn_trans hP rfl
    | with_reducible refine of_snd (by with_reducible assumption) ?_
    | with_reducible refine of_fst (by with_reducible assumption) ?_ | dsimp -zeta only | with_reducible apply Framed.mk_of)

end Sys2Proof.Machine
end

