-- ==== Sys2Proof/Laws/FramedPop.lean ====
section
/-! SUPPORT. What the operations and commands of Machine/Pop.lean can change, as masks of parts (Laws/Framed.lean): one lemma
for each. -/

namespace Sys2Proof.Machine

open Sys2Proof

theorem State.popEmit_framed {P : Nat} {s₀ : State} (s : State) (dst : PopFrom) (m : List Byte) (hI : Framed P s₀ s) (hP :
    maskIn 0x1000 P) : Framed P s₀ (State.popEmit s dst m) := by
  unfold State.popEmit
  repeat' (first
    | with_reducible exact Or.inl rfl | exact Or.inr (bit_of hP rfl)
    | ((try lift_lets -underBinder); intro x; refine letS (P := P) (s₀ := s₀) (x := x) ?_ (fun _ => ?_); unfold x; rotate_left; clear_value x)
    | ((try lift_lets -underBinder); intro x; clear_value x) | with_reducible assumption | split | dsimp -zeta only
    | with_reducible apply Framed.mk_of)

theorem State.noteResp_framed {P : Nat} {s₀ : State} (s : State) (num req : Nat) (m : List Byte) (hI : Framed P s₀ s) (hP
    : maskIn 0x1001 P) : Framed P s₀ (State.noteResp s num req m) := by
  unfold State.noteResp
  repeat' (first
    | with_reducible exact Or.inl rfl | exact Or.inr (bit_of hP rfl) | with_reducible assumption | split
    | with_reducible apply State.setSess_framed | exact maskIn_trans hP rfl | dsimp -zeta only
    | with_reducible apply Framed.mk_of)

theorem State.popRespond_framed {P : Nat} {s₀ : State} (s : State) (dst : PopFrom) (x : Session) (req typ : Nat) (a : Ans)
    (rseq : Nat) (hI : Framed P s₀ s) (hP : maskIn 0x1001 P) : Framed P s₀ (State.popRespond s dst x req typ a rseq) := by
  unfold State.popRespond
  repeat' (first
    | with_reducible exact Or.inl rfl | exact Or.inr (bit_of hP rfl)
    | ((try lift_lets -underBinder); intro x; refine letS (P := P) (s₀ := s₀) (x := x) ?_ (fun _ => ?_); unfold x; rotate_left; clear_value x)
    | ((try lift_lets -underBinder); intro x; clear_value x) | with_reducible assumption | split
    | with_reducible apply State.popEmit_framed | with_reducible apply State.noteResp_framed | exact maskIn_trans hP rfl
    | dsimp -zeta only | with_reducible apply Framed.mk_of)

theorem State.releaseWaits_framed {P : Nat} {s₀ : State} (s : State) (hI : Framed P s₀ s) (hP : maskIn 0x1001 P) : Framed
    P s₀ (State.releaseWaits s) := by
  unfold State.releaseWaits
  repeat' (first
    | with_reducible exact Or.inl rfl | exact Or.inr (bit_of hP rfl)
    | ((try lift_lets -underBinder); intro x; refine letS (P := P) (s₀ := s₀) (x := x) ?_ (fun _ => ?_); unfold x; rotate_left; clear_value x)
    | ((try lift_lets -underBinder); intro x; clear_value x) | with_reducible assumption
    | with_reducible refine forL_framed ?_ (fun _ _ _ => ?_) | with_reducible apply State.popEmit_framed
    | with_reducible apply State.noteResp_framed | exact maskIn_trans hP rfl | dsimp -zeta only
    | with_reducible apply Framed.mk_of)

theorem State.closeSession_framed {P : Nat} {s₀ : State} (s : State) (num cause : Nat) (hI : Framed P s₀ s) (hP : maskIn
    0x841000 P) : Framed P s₀ (State.closeSession s num cause) := by
  unfold State.closeSession
  repeat' (first
    | with_reducible exact Or.inl rfl | exact Or.inr (bit_of hP rfl) | refine fun (s : State) (hs : Framed P s₀ s) => ?_
    | refine fun (_ : _) (s : State) (hs : Framed P s₀ s) => ?_
    | refine fun (_ : _) (_ : _) (s : State) (hs : Framed P s₀ s) => ?_
    | ((try lift_lets -underBinder); intro x; refine letS (P := P) (s₀ := s₀) (x := x) ?_ (fun _ => ?_); unfold x; rotate_left; clear_value x)
    | ((try lift_lets -underBinder); intro x; clear_value x) | with_reducible assumption | with_reducible apply id_framed
    | with_reducible apply when_framed | with_reducible apply State.raise_framed | exact maskIn_trans hP rfl
    | dsimp -zeta only | with_reducible apply Framed.mk_of)

theorem State.openSession_framed {P : Nat} {s₀ : State} (s : State) (x : Session) (hI : Framed P s₀ s) (hP : maskIn
    0x841000 P) : Framed P s₀ (State.openSession s x) := by
  unfold State.openSession
  repeat' (first
    | with_reducible exact Or.inl rfl | exact Or.inr (bit_of hP rfl)
    | ((try lift_lets -underBinder); intro x; refine letS (P := P) (s₀ := s₀) (x := x) ?_ (fun _ => ?_); unfold x; rotate_left; clear_value x)
    | ((try lift_lets -underBinder); intro x; clear_value x) | with_reducible assumption
    | with_reducible apply State.raise_framed | exact maskIn_trans hP rfl | dsimp -zeta only
    | with_reducible apply Framed.mk_of)

theorem State.takeNumber_framed {P : Nat} {s₀ : State} (s : State) (hI : Framed P s₀ s) (hP : maskIn 0x1000 P) : Framed P
    s₀ (State.takeNumber s).2 := by
  unfold State.takeNumber
  repeat' (first
    | with_reducible exact Or.inl rfl | exact Or.inr (bit_of hP rfl) | with_reducible assumption | split | dsimp -zeta only
    | with_reducible apply Framed.mk_of)

theorem State.submitOpen_framed {P : Nat} {s₀ : State} (s : State) (x : Session) (hI : Framed P s₀ s) (hP : maskIn
    0x841200 P) : Framed P s₀ (State.submitOpen s x) := by
  unfold State.submitOpen
  repeat' (first
    | with_reducible assumption | split | with_reducible apply State.submit_framed
    | with_reducible apply State.openSession_framed | exact maskIn_trans hP rfl | dsimp -zeta only)

theorem State.submitClose_framed {P : Nat} {s₀ : State} (s : State) (num cause : Nat) (hI : Framed P s₀ s) (hP : maskIn
    0x841200 P) : Framed P s₀ (State.submitClose s num cause) := by
  unfold State.submitClose
  repeat' (first
    | with_reducible assumption | split | with_reducible apply State.submit_framed
    | with_reducible apply State.closeSession_framed | exact maskIn_trans hP rfl | dsimp -zeta only)

theorem State.popRead_framed {P : Nat} {s₀ : State} (s : State) (x : Session) (b : List Byte) (off : Nat) (hI : Framed P
    s₀ s) (hP : maskIn 0x80000 P) : Framed P s₀ (State.popRead s x b off).2 := by
  unfold State.popRead
  repeat' (first
    | with_reducible exact Or.inl rfl | exact Or.inr (bit_of hP rfl)
    | ((try lift_lets -underBinder); intro x; refine letS (P := P) (s₀ := s₀) (x := x) ?_ (fun _ => ?_); unfold x; rotate_left; clear_value x)
    | ((try lift_lets -underBinder); intro x; refine letS (P := P) (s₀ := s₀) (x := x.2) ?_ (fun _ => ?_); unfold x; rotate_left; clear_value x)
    | ((try lift_lets -underBinder); intro x; refine letS (P := P) (s₀ := s₀) (x := x.1) ?_ (fun _ => ?_); unfold x; rotate_left; clear_value x)
    | ((try lift_lets -underBinder); intro x; clear_value x) | with_reducible assumption | split
    | with_reducible apply State.takeFree_framed | exact maskIn_trans hP rfl
    | with_reducible refine of_snd (by with_reducible assumption) ?_
    | with_reducible refine of_fst (by with_reducible assumption) ?_ | dsimp -zeta only | with_reducible apply Framed.mk_of)

theorem State.popWrite_framed {P : Nat} {s₀ : State} (s : State) (x : Session) (b : List Byte) (off : Nat) (hI : Framed P
    s₀ s) (hP : maskIn 0xffffffffff P) : Framed P s₀ (State.popWrite s x b off).2 := by
  unfold State.popWrite
  repeat' (first
    | with_reducible exact Or.inl rfl | exact Or.inr (bit_of hP rfl)
    | ((try lift_lets -underBinder); intro x; refine letS (P := P) (s₀ := s₀) (x := x) ?_ (fun _ => ?_); unfold x; rotate_left; clear_value x)
    | ((try lift_lets -underBinder); intro x; refine letS (P := P) (s₀ := s₀) (x := x.2) ?_ (fun _ => ?_); unfold x; rotate_left; clear_value x)
    | ((try lift_lets -underBinder); intro x; refine letS (P := P) (s₀ := s₀) (x := x.1) ?_ (fun _ => ?_); unfold x; rotate_left; clear_value x)
    | ((try lift_lets -underBinder); intro x; clear_value x) | with_reducible assumption | split
    | with_reducible refine forL_framed ?_ (fun _ _ _ => ?_) | with_reducible refine forL1_framed ?_ (fun _ _ _ => ?_)
    | with_reducible refine forL2_framed ?_ (fun _ _ _ => ?_) | with_reducible apply State.queueWrite_framed
    | with_reducible apply State.objStore_framed | exact maskIn_trans hP rfl
    | with_reducible refine of_snd (by with_reducible assumption) ?_
    | with_reducible refine of_fst (by with_reducible assumption) ?_ | dsimp -zeta only | with_reducible apply Framed.mk_of)

theorem State.stageAll_framed {P : Nat} {s₀ : State} (s : State) (num : Nat) (p : Put) (l : List (Nat × PVal)) (hI :
    Framed P s₀ s) (hP : maskIn 0x800 P) : Framed P s₀ (State.stageAll s num p l).2 := by
  induction l generalizing s num p with
  | nil =>
    unfold State.stageAll
    repeat' (first
      | with_reducible exact Or.inl rfl | exact Or.inr (bit_of hP rfl)
      | ((try lift_lets -underBinder); intro x; refine letS (P := P) (s₀ := s₀) (x := x) ?_ (fun _ => ?_); unfold x; rotate_left; clear_value x)
      | ((try lift_lets -underBinder); intro x; refine letS (P := P) (s₀ := s₀) (x := x.2) ?_ (fun _ => ?_); unfold x; rotate_left; clear_value x)
      | ((try lift_lets -underBinder); intro x; refine letS (P := P) (s₀ := s₀) (x := x.1) ?_ (fun _ => ?_); unfold x; rotate_left; clear_value x)
      | ((try lift_lets -underBinder); intro x; clear_value x) | with_reducible assumption | split
      | with_reducible apply State.stageOne_framed | exact maskIn_trans hP rfl
      | with_reducible refine of_snd (by with_reducible assumption) ?_
      | with_reducible refine of_fst (by with_reducible assumption) ?_ | dsimp -zeta only | with_reducible apply Framed.mk_of)
  | cons a0 l0 ih =>
    unfold State.stageAll
    repeat' (first
      | with_reducible exact Or.inl rfl | exact Or.inr (bit_of hP rfl)
      | ((try lift_lets -underBinder); intro x; refine letS (P := P) (s₀ := s₀) (x := x) ?_ (fun _ => ?_); unfold x; rotate_left; clear_value x)
      | ((try lift_lets -underBinder); intro x; refine letS (P := P) (s₀ := s₀) (x := x.2) ?_ (fun _ => ?_); unfold x; rotate_left; clear_value x)
      | ((try lift_lets -underBinder); intro x; refine letS (P := P) (s₀ := s₀) (x := x.1) ?_ (fun _ => ?_); unfold x; rotate_left; clear_value x)
      | ((try lift_lets -underBinder); intro x; clear_value x) | with_reducible assumption | split
      | with_reducible apply State.stageOne_framed | exact maskIn_trans hP rfl
      | with_reducible refine of_snd (by with_reducible assumption) ?_
      | with_reducible refine of_fst (by with_reducible assumption) ?_ | with_reducible apply ih | dsimp -zeta only
      | with_reducible apply Framed.mk_of)

theorem State.popStage_framed {P : Nat} {s₀ : State} (s : State) (x : Session) (b : List Byte) (off : Nat) (hI : Framed P
    s₀ s) (hP : maskIn 0x800 P) : Framed P s₀ (State.popStage s x b off).2 := by
  unfold State.popStage
  repeat' (first
    | with_reducible exact Or.inl rfl | exact Or.inr (bit_of hP rfl)
    | ((try lift_lets -underBinder); intro x; refine letS (P := P) (s₀ := s₀) (x := x) ?_ (fun _ => ?_); unfold x; rotate_left; clear_value x)
    | ((try lift_lets -underBinder); intro x; refine letS (P := P) (s₀ := s₀) (x := x.2) ?_ (fun _ => ?_); unfold x; rotate_left; clear_value x)
    | ((try lift_lets -underBinder); intro x; refine letS (P := P) (s₀ := s₀) (x := x.1) ?_ (fun _ => ?_); unfold x; rotate_left; clear_value x)
    | ((try lift_lets -underBinder); intro x; clear_value x) | with_reducible assumption | split
    | with_reducible apply State.stageAll_framed | exact maskIn_trans hP rfl
    | with_reducible refine of_snd (by with_reducible assumption) ?_
    | with_reducible refine of_fst (by with_reducible assumption) ?_ | dsimp -zeta only | with_reducible apply Framed.mk_of)

theorem State.fromReply_framed {P : Nat} {s₀ : State} (s : State) (hI : Framed P s₀ s) : Framed P s₀ (State.fromReply s).2
    := by
  unfold State.fromReply
  repeat' (first | with_reducible assumption | dsimp -zeta only)

theorem State.refusedOpen_framed {P : Nat} {s₀ : State} (s : State) (hI : Framed P s₀ s) (hP : maskIn 0x80000 P) : Framed
    P s₀ (State.refusedOpen s).2 := by
  unfold State.refusedOpen
  repeat' (first

    | ((try lift_lets -underBinder); intro x; refine letS (P := P) (s₀ := s₀) (x := x) ?_ (fun _ => ?_); unfold x; rotate_left; clear_value x)
    | ((try lift_lets -underBinder); intro x; refine letS (P := P) (s₀ := s₀) (x := x.2) ?_ (fun _ => ?_); unfold x; rotate_left; clear_value x)
    | ((try lift_lets -underBinder); intro x; refine letS (P := P) (s₀ := s₀) (x := x.1) ?_ (fun _ => ?_); unfold x; rotate_left; clear_value x)
    | ((try lift_lets -underBinder); intro x; clear_value x) | with_reducible assumption
    | with_reducible apply State.takeFree_framed | exact maskIn_trans hP rfl | dsimp -zeta only)

theorem State.exeSystem_framed {P : Nat} {s₀ : State} (s : State) (sub n : Nat) (led : Bool) (hI : Framed P s₀ s) (hP :
    maskIn 0xffffffffff P) : Framed P s₀ (State.exeSystem s sub n led).2 := by
  unfold State.exeSystem
  repeat' (first
    | with_reducible exact Or.inl rfl | exact Or.inr (bit_of hP rfl) | with_reducible assumption | split
    | with_reducible apply State.engineReset_framed | with_reducible apply State.requestSessionReset_framed
    | with_reducible apply State.closeSession_framed | exact maskIn_trans hP rfl | exact bit_of hP rfl | dsimp -zeta only
    | with_reducible apply Framed.mk_of)

theorem State.exePump_framed {P : Nat} {s₀ : State} (s : State) (k n : Nat) (led : Bool) (hI : Framed P s₀ s) (hP : maskIn
    0x1800000240 P) : Framed P s₀ (State.exePump s k n led).2 := by
  unfold State.exePump
  repeat' (first
    | refine fun (s : State) (hs : Framed P s₀ s) => ?_ | refine fun (_ : _) (s : State) (hs : Framed P s₀ s) => ?_
    | refine fun (_ : _) (_ : _) (s : State) (hs : Framed P s₀ s) => ?_ | with_reducible assumption
    | with_reducible apply id_framed | split | with_reducible apply when_framed | with_reducible apply State.pumpCmd_framed
    | with_reducible apply State.hostPump_framed | exact maskIn_trans hP rfl | dsimp -zeta only)

theorem State.exeScene_framed {P : Nat} {s₀ : State} (s : State) (sub : Nat) (arg : List Byte) (led : Bool) (hI : Framed P
    s₀ s) (hP : maskIn 0x10843c00 P) : Framed P s₀ (State.exeScene s sub arg led).2 := by
  unfold State.exeScene
  repeat' (first

    | ((try lift_lets -underBinder); intro x; refine letS (P := P) (s₀ := s₀) (x := x) ?_ (fun _ => ?_); unfold x; rotate_left; clear_value x)
    | ((try lift_lets -underBinder); intro x; refine letS (P := P) (s₀ := s₀) (x := x.2) ?_ (fun _ => ?_); unfold x; rotate_left; clear_value x)
    | ((try lift_lets -underBinder); intro x; refine letS (P := P) (s₀ := s₀) (x := x.1) ?_ (fun _ => ?_); unfold x; rotate_left; clear_value x)
    | ((try lift_lets -underBinder); intro x; clear_value x) | with_reducible assumption | split
    | with_reducible apply State.applyWrites_framed | with_reducible apply State.answer_framed
    | with_reducible apply State.pressExec_framed | with_reducible apply State.pressCancel_framed
    | with_reducible apply State.vatClear_framed | with_reducible apply State.fromReply_framed | exact maskIn_trans hP rfl
    | dsimp -zeta only)

theorem State.exeRole_framed {P : Nat} {s₀ : State} (s : State) (sub n : Nat) (hI : Framed P s₀ s) (hP : maskIn 0x8080200
    P) : Framed P s₀ (State.exeRole s sub n).2 := by
  unfold State.exeRole
  repeat' (first
    | with_reducible assumption | split | with_reducible apply State.switchOver_framed
    | with_reducible apply State.rejoin_framed | with_reducible apply State.partnerDiverge_framed
    | with_reducible apply State.refusedOpen_framed | exact maskIn_trans hP rfl | dsimp -zeta only)

theorem State.exeHealth_framed {P : Nat} {s₀ : State} (s : State) (sub n : Nat) (led : Bool) (hI : Framed P s₀ s) (hP :
    maskIn 0xd804a602c3 P) : Framed P s₀ (State.exeHealth s sub n led).2 := by
  unfold State.exeHealth
  repeat' (first
    | refine fun (s : State) (hs : Framed P s₀ s) => ?_ | refine fun (_ : _) (s : State) (hs : Framed P s₀ s) => ?_
    | refine fun (_ : _) (_ : _) (s : State) (hs : Framed P s₀ s) => ?_ | with_reducible assumption
    | with_reducible apply id_framed | split | with_reducible apply when_framed | with_reducible apply State.retire_framed
    | with_reducible apply State.requestClusterReset_framed | with_reducible apply State.beginClusterReset_framed
    | exact maskIn_trans hP rfl | dsimp -zeta only)

theorem State.exeDo_framed {P : Nat} {s₀ : State} (s : State) (idx sub : Nat) (v : PVal) (led : Bool) (hI : Framed P s₀ s)
    (hP : maskIn 0xffffffffff P) : Framed P s₀ (State.exeDo s idx sub v led).2 := by
  unfold State.exeDo
  repeat' (first
    | with_reducible exact Or.inl rfl | exact Or.inr (bit_of hP rfl)
    | ((try lift_lets -underBinder); intro x; refine letS (P := P) (s₀ := s₀) (x := x) ?_ (fun _ => ?_); unfold x; rotate_left; clear_value x)
    | ((try lift_lets -underBinder); intro x; refine letS (P := P) (s₀ := s₀) (x := x.2) ?_ (fun _ => ?_); unfold x; rotate_left; clear_value x)
    | ((try lift_lets -underBinder); intro x; refine letS (P := P) (s₀ := s₀) (x := x.1) ?_ (fun _ => ?_); unfold x; rotate_left; clear_value x)
    | ((try lift_lets -underBinder); intro x; clear_value x) | with_reducible assumption | split
    | with_reducible apply State.tdmStart_framed | with_reducible apply State.tdmStop_framed
    | with_reducible apply State.witnessProbe_framed | with_reducible apply State.soundLearn_framed
    | with_reducible apply State.exeSystem_framed | with_reducible apply State.exePump_framed
    | with_reducible apply State.exeScene_framed | with_reducible apply State.exeRole_framed
    | with_reducible apply State.exeHealth_framed | exact maskIn_trans hP rfl
    | with_reducible refine of_snd (by with_reducible assumption) ?_
    | with_reducible refine of_fst (by with_reducible assumption) ?_ | dsimp -zeta only | with_reducible apply Framed.mk_of)

theorem State.popExec_framed {P : Nat} {s₀ : State} (s : State) (x : Session) (b : List Byte) (off : Nat) (led : Bool) (hI
    : Framed P s₀ s) (hP : maskIn 0xffffffffff P) : Framed P s₀ (State.popExec s x b off led).2 := by
  unfold State.popExec
  repeat' (first
    | with_reducible exact Or.inl rfl | exact Or.inr (bit_of hP rfl)
    | ((try lift_lets -underBinder); intro x; refine letS (P := P) (s₀ := s₀) (x := x) ?_ (fun _ => ?_); unfold x; rotate_left; clear_value x)
    | ((try lift_lets -underBinder); intro x; refine letS (P := P) (s₀ := s₀) (x := x.2) ?_ (fun _ => ?_); unfold x; rotate_left; clear_value x)
    | ((try lift_lets -underBinder); intro x; refine letS (P := P) (s₀ := s₀) (x := x.1) ?_ (fun _ => ?_); unfold x; rotate_left; clear_value x)
    | ((try lift_lets -underBinder); intro x; clear_value x) | with_reducible assumption | split
    | with_reducible apply State.exeDo_framed | exact maskIn_trans hP rfl
    | with_reducible refine of_snd (by with_reducible assumption) ?_
    | with_reducible refine of_fst (by with_reducible assumption) ?_ | dsimp -zeta only | with_reducible apply Framed.mk_of)

theorem State.popSubscribe_framed {P : Nat} {s₀ : State} (s : State) (x : Session) (b : List Byte) (off : Nat) (hI :
    Framed P s₀ s) (hP : maskIn 0x1000 P) : Framed P s₀ (State.popSubscribe s x b off).2 := by
  unfold State.popSubscribe
  repeat' (first
    | with_reducible exact Or.inl rfl | exact Or.inr (bit_of hP rfl)
    | ((try lift_lets -underBinder); intro x; refine letS (P := P) (s₀ := s₀) (x := x) ?_ (fun _ => ?_); unfold x; rotate_left; clear_value x)
    | ((try lift_lets -underBinder); intro x; refine letS (P := P) (s₀ := s₀) (x := x.2) ?_ (fun _ => ?_); unfold x; rotate_left; clear_value x)
    | ((try lift_lets -underBinder); intro x; refine letS (P := P) (s₀ := s₀) (x := x.1) ?_ (fun _ => ?_); unfold x; rotate_left; clear_value x)
    | ((try lift_lets -underBinder); intro x; clear_value x) | with_reducible assumption | split
    | with_reducible refine foldl_framed ?_ (fun _ _ _ => ?_) | with_reducible refine foldl1_framed ?_ (fun _ _ _ => ?_)
    | with_reducible refine foldl2_framed ?_ (fun _ _ _ => ?_) | with_reducible apply State.setSess_framed
    | exact maskIn_trans hP rfl | with_reducible refine of_snd (by with_reducible assumption) ?_
    | with_reducible refine of_fst (by with_reducible assumption) ?_ | dsimp -zeta only | with_reducible apply Framed.mk_of)

theorem State.subScan_framed {P : Nat} {s₀ : State} (s : State) (num : Nat) (u : Sub) (hI : Framed P s₀ s) (hP : maskIn
    0x841000 P) : Framed P s₀ (State.subScan s num u) := by
  unfold State.subScan
  repeat' (first
    | with_reducible exact Or.inl rfl | exact Or.inr (bit_of hP rfl)
    | ((try lift_lets -underBinder); intro x; refine letS (P := P) (s₀ := s₀) (x := x) ?_ (fun _ => ?_); unfold x; rotate_left; clear_value x)
    | ((try lift_lets -underBinder); intro x; clear_value x) | with_reducible assumption | split
    | with_reducible apply State.setSess_framed | with_reducible apply State.pushNote_framed | exact maskIn_trans hP rfl
    | dsimp -zeta only | with_reducible apply Framed.mk_of)

theorem State.notifyScan_framed {P : Nat} {s₀ : State} (s : State) (hI : Framed P s₀ s) (hP : maskIn 0x841000 P) : Framed
    P s₀ (State.notifyScan s) := by
  unfold State.notifyScan
  repeat' (first
    | with_reducible assumption | with_reducible refine forL_framed ?_ (fun _ _ _ => ?_)
    | with_reducible apply State.subScan_framed | exact maskIn_trans hP rfl | dsimp -zeta only)

theorem execNotifySend_framed {P : Nat} {s₀ : State} (session : Nat) (s : State) (hI : Framed P s₀ s) (hP : maskIn 0x1000
    P) : FramedO P s₀ (execNotifySend session s) := by
  unfold execNotifySend
  repeat' (first
    | with_reducible exact Or.inl rfl | exact Or.inr (bit_of hP rfl) | refine fun (s : State) (hs : Framed P s₀ s) => ?_
    | refine fun (_ : _) (s : State) (hs : Framed P s₀ s) => ?_
    | refine fun (_ : _) (_ : _) (s : State) (hs : Framed P s₀ s) => ?_
    | ((try lift_lets -underBinder); intro x; refine letS (P := P) (s₀ := s₀) (x := x) ?_ (fun _ => ?_); unfold x; rotate_left; clear_value x)
    | ((try lift_lets -underBinder); intro x; clear_value x) | with_reducible assumption | with_reducible apply id_framed
    | split | with_reducible apply when_framed | with_reducible apply FramedO_next
    | with_reducible apply State.setSess_framed | with_reducible apply State.popEmit_framed | exact maskIn_trans hP rfl
    | dsimp -zeta only | with_reducible apply Framed.mk_of)

theorem State.subRun_framed {P : Nat} {s₀ : State} (s : State) (num : Nat) (off : Nat) (q : SubReq) (led : Bool) (hI :
    Framed P s₀ s) (hP : maskIn 0xffffffffff P) : Framed P s₀ (State.subRun s num off q led).2 := by
  unfold State.subRun
  repeat' (first
    | with_reducible exact Or.inl rfl | exact Or.inr (bit_of hP rfl)
    | ((try lift_lets -underBinder); intro x; refine letS (P := P) (s₀ := s₀) (x := x) ?_ (fun _ => ?_); unfold x; rotate_left; clear_value x)
    | ((try lift_lets -underBinder); intro x; refine letS (P := P) (s₀ := s₀) (x := x.2) ?_ (fun _ => ?_); unfold x; rotate_left; clear_value x)
    | ((try lift_lets -underBinder); intro x; refine letS (P := P) (s₀ := s₀) (x := x.1) ?_ (fun _ => ?_); unfold x; rotate_left; clear_value x)
    | ((try lift_lets -underBinder); intro x; clear_value x) | with_reducible assumption | split
    | with_reducible apply State.popRead_framed | with_reducible apply State.popWrite_framed
    | with_reducible apply State.popStage_framed | with_reducible apply State.popExec_framed | exact maskIn_trans hP rfl
    | with_reducible refine of_snd (by with_reducible assumption) ?_
    | with_reducible refine of_fst (by with_reducible assumption) ?_ | dsimp -zeta only | with_reducible apply Framed.mk_of)

theorem State.batchRun_framed {P : Nat} {s₀ : State} (s : State) (num : Nat) (l : List (Nat × SubReq)) (led : Bool) (acc :
    Ans) (hI : Framed P s₀ s) (hP : maskIn 0xffffffffff P) : Framed P s₀ (State.batchRun s num l led acc).2 := by
  induction l generalizing s num led acc with
  | nil =>
    unfold State.batchRun
    repeat' (first
      | with_reducible exact Or.inl rfl | exact Or.inr (bit_of hP rfl)
      | ((try lift_lets -underBinder); intro x; refine letS (P := P) (s₀ := s₀) (x := x) ?_ (fun _ => ?_); unfold x; rotate_left; clear_value x)
      | ((try lift_lets -underBinder); intro x; refine letS (P := P) (s₀ := s₀) (x := x.2) ?_ (fun _ => ?_); unfold x; rotate_left; clear_value x)
      | ((try lift_lets -underBinder); intro x; refine letS (P := P) (s₀ := s₀) (x := x.1) ?_ (fun _ => ?_); unfold x; rotate_left; clear_value x)
      | ((try lift_lets -underBinder); intro x; clear_value x) | with_reducible assumption | split
      | with_reducible apply State.subRun_framed | exact maskIn_trans hP rfl
      | with_reducible refine of_snd (by with_reducible assumption) ?_
      | with_reducible refine of_fst (by with_reducible assumption) ?_ | dsimp -zeta only | with_reducible apply Framed.mk_of)
  | cons a0 l0 ih =>
    unfold State.batchRun
    repeat' (first
      | with_reducible exact Or.inl rfl | exact Or.inr (bit_of hP rfl)
      | ((try lift_lets -underBinder); intro x; refine letS (P := P) (s₀ := s₀) (x := x) ?_ (fun _ => ?_); unfold x; rotate_left; clear_value x)
      | ((try lift_lets -underBinder); intro x; refine letS (P := P) (s₀ := s₀) (x := x.2) ?_ (fun _ => ?_); unfold x; rotate_left; clear_value x)
      | ((try lift_lets -underBinder); intro x; refine letS (P := P) (s₀ := s₀) (x := x.1) ?_ (fun _ => ?_); unfold x; rotate_left; clear_value x)
      | ((try lift_lets -underBinder); intro x; clear_value x) | with_reducible assumption | split
      | with_reducible apply State.subRun_framed | exact maskIn_trans hP rfl
      | with_reducible refine of_snd (by with_reducible assumption) ?_
      | with_reducible refine of_fst (by with_reducible assumption) ?_ | with_reducible apply ih | dsimp -zeta only
      | with_reducible apply Framed.mk_of)

theorem State.atomicRun_framed {P : Nat} {s₀ : State} (s : State) (num k : Nat) (l : List SubReq) (hI : Framed P s₀ s) (hP
    : maskIn 0xffffffffff P) : ∀ t, (State.atomicRun s num k l) = .ok t → Framed P s₀ t := by
  induction l generalizing s k with
  | nil => intro t e; cases e; exact hI
  | cons q r ih =>
    intro t e
    unfold State.atomicRun at e
    dsimp only at e
    split at e
    · cases e
    · exact ih _ _ (State.subRun_framed _ _ _ _ _ hI (maskIn_trans hP rfl)) t e

theorem State.atomicApply_framed {P : Nat} {s₀ : State} (s : State) (num : Nat) (l : List SubReq) (hI : Framed P s₀ s) (hP
    : maskIn 0xffffffffff P) : Framed P s₀ (State.atomicApply s num l).2 := by
  unfold State.atomicApply
  split
  · rename_i e; exact State.atomicRun_framed _ _ _ _ hI (maskIn_trans hP rfl) _ e
  · exact hI

theorem State.popBatch_framed {P : Nat} {s₀ : State} (s : State) (x : Session) (h : PopHdr) (b : List Byte) (dst :
    PopFrom) (led : Bool) (hI : Framed P s₀ s) (hP : maskIn 0xffffffffff P) : Framed P s₀ (State.popBatch s x h b dst led).2
    := by
  unfold State.popBatch
  repeat' (first
    | with_reducible exact Or.inl rfl | exact Or.inr (bit_of hP rfl)
    | ((try lift_lets -underBinder); intro x; refine letS (P := P) (s₀ := s₀) (x := x) ?_ (fun _ => ?_); unfold x; rotate_left; clear_value x)
    | ((try lift_lets -underBinder); intro x; refine letS (P := P) (s₀ := s₀) (x := x.2) ?_ (fun _ => ?_); unfold x; rotate_left; clear_value x)
    | ((try lift_lets -underBinder); intro x; refine letS (P := P) (s₀ := s₀) (x := x.1) ?_ (fun _ => ?_); unfold x; rotate_left; clear_value x)
    | ((try lift_lets -underBinder); intro x; clear_value x) | with_reducible assumption | with_reducible apply id_framed
    | split | with_reducible apply State.setSess_framed | with_reducible apply State.batchRun_framed
    | with_reducible apply State.atomicApply_framed | exact maskIn_trans hP rfl
    | with_reducible refine of_snd (by with_reducible assumption) ?_
    | with_reducible refine of_fst (by with_reducible assumption) ?_ | dsimp -zeta only | with_reducible apply Framed.mk_of)

theorem State.runJobs_framed {P : Nat} {s₀ : State} (s : State) (hI : Framed P s₀ s) (hP : maskIn 0xffffffffff P) : Framed
    P s₀ (State.runJobs s) := by
  unfold State.runJobs
  repeat' (first
    | with_reducible exact Or.inl rfl | exact Or.inr (bit_of hP rfl)
    | ((try lift_lets -underBinder); intro x; refine letS (P := P) (s₀ := s₀) (x := x) ?_ (fun _ => ?_); unfold x; rotate_left; clear_value x)
    | ((try lift_lets -underBinder); intro x; refine letS (P := P) (s₀ := s₀) (x := x.2) ?_ (fun _ => ?_); unfold x; rotate_left; clear_value x)
    | ((try lift_lets -underBinder); intro x; refine letS (P := P) (s₀ := s₀) (x := x.1) ?_ (fun _ => ?_); unfold x; rotate_left; clear_value x)
    | ((try lift_lets -underBinder); intro x; clear_value x) | with_reducible assumption | split
    | with_reducible refine forL_framed ?_ (fun _ _ _ => ?_) | with_reducible refine forL1_framed ?_ (fun _ _ _ => ?_)
    | with_reducible refine forL2_framed ?_ (fun _ _ _ => ?_) | with_reducible apply State.popRespond_framed
    | with_reducible apply State.atomicApply_framed | exact maskIn_trans hP rfl
    | with_reducible refine of_snd (by with_reducible assumption) ?_
    | with_reducible refine of_fst (by with_reducible assumption) ?_ | dsimp -zeta only | with_reducible apply Framed.mk_of)

theorem execBatchTimeout_framed {P : Nat} {s₀ : State} (session : Nat) (s : State) (hI : Framed P s₀ s) (hP : maskIn
    0x1000 P) : FramedO P s₀ (execBatchTimeout session s) := by
  unfold execBatchTimeout
  repeat' (first
    | with_reducible exact Or.inl rfl | exact Or.inr (bit_of hP rfl) | refine fun (s : State) (hs : Framed P s₀ s) => ?_
    | refine fun (_ : _) (s : State) (hs : Framed P s₀ s) => ?_
    | refine fun (_ : _) (_ : _) (s : State) (hs : Framed P s₀ s) => ?_ | with_reducible assumption
    | with_reducible apply id_framed | split | with_reducible apply when_framed | with_reducible apply FramedO_next
    | with_reducible apply State.setSess_framed | exact maskIn_trans hP rfl | dsimp -zeta only
    | with_reducible apply Framed.mk_of)

theorem State.popRun_framed {P : Nat} {s₀ : State} (s : State) (x : Session) (h : PopHdr) (b : List Byte) (dst : PopFrom)
    (led : Bool) (hI : Framed P s₀ s) (hP : maskIn 0xffffffffff P) : Framed P s₀ (State.popRun s x h b dst led).2 := by
  unfold State.popRun
  repeat' (first

    | ((try lift_lets -underBinder); intro x; refine letS (P := P) (s₀ := s₀) (x := x) ?_ (fun _ => ?_); unfold x; rotate_left; clear_value x)
    | ((try lift_lets -underBinder); intro x; refine letS (P := P) (s₀ := s₀) (x := x.2) ?_ (fun _ => ?_); unfold x; rotate_left; clear_value x)
    | ((try lift_lets -underBinder); intro x; refine letS (P := P) (s₀ := s₀) (x := x.1) ?_ (fun _ => ?_); unfold x; rotate_left; clear_value x)
    | ((try lift_lets -underBinder); intro x; clear_value x) | with_reducible assumption | split
    | with_reducible apply State.popRead_framed | with_reducible apply State.popWrite_framed
    | with_reducible apply State.popStage_framed | with_reducible apply State.popExec_framed
    | with_reducible apply State.popSubscribe_framed | with_reducible apply State.popBatch_framed | exact maskIn_trans hP rfl
    | dsimp -zeta only)

theorem State.popNew_framed {P : Nat} {s₀ : State} (s : State) (src : PopFrom) (x : Session) (h : PopHdr) (m : List Byte)
    (hI : Framed P s₀ s) (hP : maskIn 0xffffffffff P) : Framed P s₀ (State.popNew s src x h m) := by
  unfold State.popNew
  repeat' (first
    | with_reducible exact Or.inl rfl | exact Or.inr (bit_of hP rfl)
    | ((try lift_lets -underBinder); intro x; refine letS (P := P) (s₀ := s₀) (x := x) ?_ (fun _ => ?_); unfold x; rotate_left; clear_value x)
    | ((try lift_lets -underBinder); intro x; refine letS (P := P) (s₀ := s₀) (x := x.2) ?_ (fun _ => ?_); unfold x; rotate_left; clear_value x)
    | ((try lift_lets -underBinder); intro x; refine letS (P := P) (s₀ := s₀) (x := x.1) ?_ (fun _ => ?_); unfold x; rotate_left; clear_value x)
    | ((try lift_lets -underBinder); intro x; refine letF (P := P) (s₀ := s₀) (f := x) (fun _ _ => ?_) (fun hf => ?_); unfold x; rotate_left; clear_value x)
    | ((try lift_lets -underBinder); intro x; clear_value x) | with_reducible assumption | split
    | with_reducible apply State.submit_framed | with_reducible apply State.popEmit_framed
    | with_reducible apply State.noteResp_framed | with_reducible apply State.popRespond_framed
    | with_reducible apply State.popRun_framed | with_reducible apply hf | exact maskIn_trans hP rfl
    | with_reducible refine of_snd (by with_reducible assumption) ?_
    | with_reducible refine of_fst (by with_reducible assumption) ?_ | dsimp -zeta only | with_reducible apply Framed.mk_of)

theorem State.popBare_framed {P : Nat} {s₀ : State} (s : State) (src : PopFrom) (h : PopHdr) (st det : Nat) (hI : Framed P
    s₀ s) (hP : maskIn 0x1000 P) : Framed P s₀ (State.popBare s src h st det) := by
  unfold State.popBare
  repeat' (first
    | with_reducible assumption | with_reducible apply State.popEmit_framed | exact maskIn_trans hP rfl | dsimp -zeta only)

theorem State.popPlain_framed {P : Nat} {s₀ : State} (s : State) (src : PopFrom) (x : Session) (h : PopHdr) (st det : Nat)
    (hI : Framed P s₀ s) (hP : maskIn 0x1000 P) : Framed P s₀ (State.popPlain s src x h st det) := by
  unfold State.popPlain
  repeat' (first
    | with_reducible assumption | with_reducible apply State.popEmit_framed | exact maskIn_trans hP rfl | dsimp -zeta only)

theorem State.popSession_framed {P : Nat} {s₀ : State} (s : State) (src : PopFrom) (x : Session) (h : PopHdr) (m : List
    Byte) (hI : Framed P s₀ s) (hP : maskIn 0xffffffffff P) : Framed P s₀ (State.popSession s src x h m) := by
  unfold State.popSession
  repeat' (first
    | with_reducible exact Or.inl rfl | exact Or.inr (bit_of hP rfl)
    | ((try lift_lets -underBinder); intro x; refine letS (P := P) (s₀ := s₀) (x := x) ?_ (fun _ => ?_); unfold x; rotate_left; clear_value x)
    | ((try lift_lets -underBinder); intro x; clear_value x) | with_reducible assumption | split
    | with_reducible refine foldl_framed ?_ (fun _ _ _ => ?_) | with_reducible apply State.setSess_framed
    | with_reducible apply State.popEmit_framed | with_reducible apply State.submitClose_framed
    | with_reducible apply State.popNew_framed | with_reducible apply State.popPlain_framed | exact maskIn_trans hP rfl
    | dsimp -zeta only | with_reducible apply Framed.mk_of)

theorem State.netOpen_framed {P : Nat} {s₀ : State} (s : State) (addr port : Nat) (h : PopHdr) (m : List Byte) (hI :
    Framed P s₀ s) (hP : maskIn 0x81000 P) : Framed P s₀ (State.netOpen s addr port h m) := by
  unfold State.netOpen
  repeat' (first
    | with_reducible exact Or.inl rfl | exact Or.inr (bit_of hP rfl)
    | ((try lift_lets -underBinder); intro x; refine letS (P := P) (s₀ := s₀) (x := x) ?_ (fun _ => ?_); unfold x; rotate_left; clear_value x)
    | ((try lift_lets -underBinder); intro x; refine letS (P := P) (s₀ := s₀) (x := x.2) ?_ (fun _ => ?_); unfold x; rotate_left; clear_value x)
    | ((try lift_lets -underBinder); intro x; refine letS (P := P) (s₀ := s₀) (x := x.1) ?_ (fun _ => ?_); unfold x; rotate_left; clear_value x)
    | ((try lift_lets -underBinder); intro x; clear_value x) | with_reducible assumption | split
    | with_reducible apply State.takeFree_framed | with_reducible apply State.popEmit_framed
    | with_reducible apply State.takeNumber_framed | with_reducible apply State.popBare_framed | exact maskIn_trans hP rfl
    | dsimp -zeta only | with_reducible apply Framed.mk_of)

theorem State.proofFails_framed {P : Nat} {s₀ : State} (s : State) (addr : Nat) (hI : Framed P s₀ s) (hP : maskIn 0x841000
    P) : Framed P s₀ (State.proofFails s addr) := by
  unfold State.proofFails
  repeat' (first
    | with_reducible exact Or.inl rfl | exact Or.inr (bit_of hP rfl)
    | ((try lift_lets -underBinder); intro x; refine letS (P := P) (s₀ := s₀) (x := x) ?_ (fun _ => ?_); unfold x; rotate_left; clear_value x)
    | ((try lift_lets -underBinder); intro x; clear_value x) | with_reducible assumption | split
    | with_reducible apply State.raise_framed | exact maskIn_trans hP rfl | dsimp -zeta only
    | with_reducible apply Framed.mk_of)

theorem State.proof_framed {P : Nat} {s₀ : State} (s : State) (addr port : Nat) (h : PopHdr) (m : List Byte) (hI : Framed
    P s₀ s) (hP : maskIn 0x841200 P) : Framed P s₀ (State.proof s addr port h m) := by
  unfold State.proof
  repeat' (first
    | with_reducible exact Or.inl rfl | exact Or.inr (bit_of hP rfl)
    | ((try lift_lets -underBinder); intro x; refine letS (P := P) (s₀ := s₀) (x := x) ?_ (fun _ => ?_); unfold x; rotate_left; clear_value x)
    | ((try lift_lets -underBinder); intro x; clear_value x) | with_reducible assumption | split
    | with_reducible apply State.popEmit_framed | with_reducible apply State.submitOpen_framed
    | with_reducible apply State.popBare_framed | with_reducible apply State.proofFails_framed | exact maskIn_trans hP rfl
    | dsimp -zeta only | with_reducible apply Framed.mk_of)

theorem State.spiOpen_framed {P : Nat} {s₀ : State} (s : State) (h : PopHdr) (m : List Byte) (hI : Framed P s₀ s) (hP :
    maskIn 0x841200 P) : Framed P s₀ (State.spiOpen s h m) := by
  unfold State.spiOpen
  repeat' (first
    | with_reducible exact Or.inl rfl | exact Or.inr (bit_of hP rfl)
    | ((try lift_lets -underBinder); intro x; refine letS (P := P) (s₀ := s₀) (x := x) ?_ (fun _ => ?_); unfold x; rotate_left; clear_value x)
    | ((try lift_lets -underBinder); intro x; refine letS (P := P) (s₀ := s₀) (x := x.2) ?_ (fun _ => ?_); unfold x; rotate_left; clear_value x)
    | ((try lift_lets -underBinder); intro x; refine letS (P := P) (s₀ := s₀) (x := x.1) ?_ (fun _ => ?_); unfold x; rotate_left; clear_value x)
    | ((try lift_lets -underBinder); intro x; clear_value x) | with_reducible assumption | split
    | with_reducible apply State.popEmit_framed | with_reducible apply State.takeNumber_framed
    | with_reducible apply State.submitOpen_framed | with_reducible apply State.submitClose_framed
    | with_reducible apply State.popBare_framed | exact maskIn_trans hP rfl
    | with_reducible refine of_snd (by with_reducible assumption) ?_
    | with_reducible refine of_fst (by with_reducible assumption) ?_ | dsimp -zeta only | with_reducible apply Framed.mk_of)

theorem State.popRx_framed {P : Nat} {s₀ : State} (s : State) (src : PopFrom) (m : List Byte) (hI : Framed P s₀ s) (hP :
    maskIn 0xffffffffff P) : Framed P s₀ (State.popRx s src m) := by
  unfold State.popRx
  repeat' (first
    | with_reducible exact Or.inl rfl | exact Or.inr (bit_of hP rfl)
    | ((try lift_lets -underBinder); intro x; refine letS (P := P) (s₀ := s₀) (x := x) ?_ (fun _ => ?_); unfold x; rotate_left; clear_value x)
    | ((try lift_lets -underBinder); intro x; clear_value x) | with_reducible assumption | split
    | with_reducible apply State.setSess_framed | with_reducible apply State.popBare_framed
    | with_reducible apply State.popSession_framed | with_reducible apply State.netOpen_framed
    | with_reducible apply State.proof_framed | with_reducible apply State.spiOpen_framed | exact maskIn_trans hP rfl
    | dsimp -zeta only | with_reducible apply Framed.mk_of)

theorem State.popRow_framed {P : Nat} {s₀ : State} (s : State) (l : Nat → Bool) (src : PopFrom) (m : List Byte) (hI :
    Framed P s₀ s) (hP : maskIn 0xffffffffff P) : FramedO P s₀ (State.popRow s l src m) := by
  unfold State.popRow
  repeat' (first
    | refine fun (s : State) (hs : Framed P s₀ s) => ?_ | refine fun (_ : _) (s : State) (hs : Framed P s₀ s) => ?_
    | refine fun (_ : _) (_ : _) (s : State) (hs : Framed P s₀ s) => ?_ | with_reducible assumption
    | with_reducible apply id_framed | with_reducible apply when_framed | with_reducible apply FramedO_next
    | with_reducible apply State.popRx_framed | exact maskIn_trans hP rfl | dsimp -zeta only)

theorem execPopRead_framed {P : Nat} {s₀ : State} (src : PopFrom) (msg : List Byte) (s : State) (hI : Framed P s₀ s) (hP :
    maskIn 0xffffffffff P) : FramedO P s₀ (execPopRead src msg s) := by
  unfold execPopRead
  repeat' (first
    | with_reducible assumption | with_reducible apply FramedO_next | with_reducible apply State.popRow_framed
    | exact maskIn_trans hP rfl | dsimp -zeta only)

theorem execPopWrite_framed {P : Nat} {s₀ : State} (src : PopFrom) (msg : List Byte) (s : State) (hI : Framed P s₀ s) (hP
    : maskIn 0xffffffffff P) : FramedO P s₀ (execPopWrite src msg s) := by
  unfold execPopWrite
  repeat' (first
    | with_reducible assumption | with_reducible apply FramedO_next | with_reducible apply State.popRow_framed
    | exact maskIn_trans hP rfl | dsimp -zeta only)

theorem execPopStage_framed {P : Nat} {s₀ : State} (src : PopFrom) (msg : List Byte) (s : State) (hI : Framed P s₀ s) (hP
    : maskIn 0xffffffffff P) : FramedO P s₀ (execPopStage src msg s) := by
  unfold execPopStage
  repeat' (first
    | with_reducible assumption | with_reducible apply FramedO_next | with_reducible apply State.popRow_framed
    | exact maskIn_trans hP rfl | dsimp -zeta only)

theorem execPopExec_framed {P : Nat} {s₀ : State} (src : PopFrom) (msg : List Byte) (s : State) (hI : Framed P s₀ s) (hP :
    maskIn 0xffffffffff P) : FramedO P s₀ (execPopExec src msg s) := by
  unfold execPopExec
  repeat' (first
    | with_reducible assumption | with_reducible apply FramedO_next | with_reducible apply State.popRow_framed
    | exact maskIn_trans hP rfl | dsimp -zeta only)

theorem execPopSubscribe_framed {P : Nat} {s₀ : State} (src : PopFrom) (msg : List Byte) (s : State) (hI : Framed P s₀ s)
    (hP : maskIn 0xffffffffff P) : FramedO P s₀ (execPopSubscribe src msg s) := by
  unfold execPopSubscribe
  repeat' (first
    | with_reducible assumption | with_reducible apply FramedO_next | with_reducible apply State.popRow_framed
    | exact maskIn_trans hP rfl | dsimp -zeta only)

theorem execPopBatch_framed {P : Nat} {s₀ : State} (src : PopFrom) (msg : List Byte) (s : State) (hI : Framed P s₀ s) (hP
    : maskIn 0xffffffffff P) : FramedO P s₀ (execPopBatch src msg s) := by
  unfold execPopBatch
  repeat' (first
    | with_reducible assumption | with_reducible apply FramedO_next | with_reducible apply State.popRow_framed
    | exact maskIn_trans hP rfl | dsimp -zeta only)

theorem execPopOpen_framed {P : Nat} {s₀ : State} (src : PopFrom) (msg : List Byte) (s : State) (hI : Framed P s₀ s) (hP :
    maskIn 0xffffffffff P) : FramedO P s₀ (execPopOpen src msg s) := by
  unfold execPopOpen
  repeat' (first
    | with_reducible assumption | with_reducible apply FramedO_next | with_reducible apply State.popRow_framed
    | exact maskIn_trans hP rfl | dsimp -zeta only)

theorem execPopProof_framed {P : Nat} {s₀ : State} (src : PopFrom) (msg : List Byte) (s : State) (hI : Framed P s₀ s) (hP
    : maskIn 0xffffffffff P) : FramedO P s₀ (execPopProof src msg s) := by
  unfold execPopProof
  repeat' (first
    | with_reducible assumption | with_reducible apply FramedO_next | with_reducible apply State.popRow_framed
    | exact maskIn_trans hP rfl | dsimp -zeta only)

theorem execPopClose_framed {P : Nat} {s₀ : State} (src : PopFrom) (msg : List Byte) (s : State) (hI : Framed P s₀ s) (hP
    : maskIn 0xffffffffff P) : FramedO P s₀ (execPopClose src msg s) := by
  unfold execPopClose
  repeat' (first
    | with_reducible assumption | with_reducible apply FramedO_next | with_reducible apply State.popRow_framed
    | exact maskIn_trans hP rfl | dsimp -zeta only)

theorem execProofTimeout_framed {P : Nat} {s₀ : State} (session : Nat) (s : State) (hI : Framed P s₀ s) (hP : maskIn
    0x1000 P) : FramedO P s₀ (execProofTimeout session s) := by
  unfold execProofTimeout
  repeat' (first
    | with_reducible exact Or.inl rfl | exact Or.inr (bit_of hP rfl) | refine fun (s : State) (hs : Framed P s₀ s) => ?_
    | refine fun (_ : _) (s : State) (hs : Framed P s₀ s) => ?_
    | refine fun (_ : _) (_ : _) (s : State) (hs : Framed P s₀ s) => ?_ | with_reducible assumption
    | with_reducible apply id_framed | with_reducible apply when_framed | with_reducible apply FramedO_next
    | dsimp -zeta only | with_reducible apply Framed.mk_of)

theorem execSessionCloseExec_framed {P : Nat} {s₀ : State} (session : Nat) (s : State) (hI : Framed P s₀ s) (hP : maskIn
    0x841200 P) : FramedO P s₀ (execSessionCloseExec session s) := by
  unfold execSessionCloseExec
  repeat' (first
    | refine fun (s : State) (hs : Framed P s₀ s) => ?_ | refine fun (_ : _) (s : State) (hs : Framed P s₀ s) => ?_
    | refine fun (_ : _) (_ : _) (s : State) (hs : Framed P s₀ s) => ?_ | with_reducible assumption
    | with_reducible apply id_framed | with_reducible apply when_framed | with_reducible apply FramedO_next
    | with_reducible apply State.submitClose_framed | exact maskIn_trans hP rfl | dsimp -zeta only)

theorem execSessionIdleTimeout_framed {P : Nat} {s₀ : State} (session : Nat) (s : State) (hI : Framed P s₀ s) (hP : maskIn
    0x841200 P) : FramedO P s₀ (execSessionIdleTimeout session s) := by
  unfold execSessionIdleTimeout
  repeat' (first
    | refine fun (s : State) (hs : Framed P s₀ s) => ?_ | refine fun (_ : _) (s : State) (hs : Framed P s₀ s) => ?_
    | refine fun (_ : _) (_ : _) (s : State) (hs : Framed P s₀ s) => ?_ | with_reducible assumption
    | with_reducible apply id_framed | with_reducible apply when_framed | with_reducible apply FramedO_next
    | with_reducible apply State.submitClose_framed | exact maskIn_trans hP rfl | dsimp -zeta only)

theorem State.popApply_framed {P : Nat} {s₀ : State} (s : State) (src : PopFrom) (m : List Byte) (rseq : Nat) (hI : Framed
    P s₀ s) (hP : maskIn 0xffffffffff P) : Framed P s₀ (State.popApply s src m rseq) := by
  unfold State.popApply
  repeat' (first
    | with_reducible exact Or.inl rfl | exact Or.inr (bit_of hP rfl)
    | ((try lift_lets -underBinder); intro x; refine letS (P := P) (s₀ := s₀) (x := x) ?_ (fun _ => ?_); unfold x; rotate_left; clear_value x)
    | ((try lift_lets -underBinder); intro x; refine letS (P := P) (s₀ := s₀) (x := x.2) ?_ (fun _ => ?_); unfold x; rotate_left; clear_value x)
    | ((try lift_lets -underBinder); intro x; refine letS (P := P) (s₀ := s₀) (x := x.1) ?_ (fun _ => ?_); unfold x; rotate_left; clear_value x)
    | ((try lift_lets -underBinder); intro x; clear_value x) | with_reducible assumption | split
    | with_reducible apply State.setSess_framed | with_reducible apply State.popRespond_framed
    | with_reducible apply State.popRun_framed | exact maskIn_trans hP rfl
    | with_reducible refine of_snd (by with_reducible assumption) ?_
    | with_reducible refine of_fst (by with_reducible assumption) ?_ | dsimp -zeta only | with_reducible apply Framed.mk_of)

theorem State.openApply_framed {P : Nat} {s₀ : State} (s : State) (num role addr port : Nat) (key : List Byte) (hI :
    Framed P s₀ s) (hP : maskIn 0x841000 P) : Framed P s₀ (State.openApply s num role addr port key) := by
  unfold State.openApply
  repeat' (first
    | with_reducible assumption | with_reducible apply State.openSession_framed | exact maskIn_trans hP rfl
    | dsimp -zeta only)

theorem State.witnessStep_framed {P : Nat} {s₀ : State} (s : State) (hI : Framed P s₀ s) (hP : maskIn 0x1001 P) : Framed P
    s₀ (State.witnessStep s) := by
  unfold State.witnessStep
  repeat' (first
    | with_reducible exact Or.inl rfl | exact Or.inr (bit_of hP rfl)
    | ((try lift_lets -underBinder); intro x; refine letS (P := P) (s₀ := s₀) (x := x) ?_ (fun _ => ?_); unfold x; rotate_left; clear_value x)
    | ((try lift_lets -underBinder); intro x; clear_value x) | with_reducible assumption | split
    | with_reducible apply State.popEmit_framed | with_reducible apply State.noteResp_framed | exact maskIn_trans hP rfl
    | dsimp -zeta only | with_reducible apply Framed.mk_of)

end Sys2Proof.Machine
end

