-- ==== Sys2Proof/Laws/FramedHostport.lean ====
section
/-! SUPPORT. What the operations and commands of Machine/Hostport.lean can change, as masks of parts (Laws/Framed.lean): one lemma
for each. -/

namespace Sys2Proof.Machine

open Sys2Proof

theorem State.spiServe_framed {P : Nat} {s₀ : State} (s : State) (hI : Framed P s₀ s) (hP : maskIn 0xffffffffff P) :
    Framed P s₀ (State.spiServe s) := by
  unfold State.spiServe
  repeat' (first
    | with_reducible exact Or.inl rfl | exact Or.inr (bit_of hP rfl)
    | ((try lift_lets -underBinder); intro x; refine letS (P := P) (s₀ := s₀) (x := x) ?_ (fun _ => ?_); unfold x; rotate_left; clear_value x)
    | ((try lift_lets -underBinder); intro x; clear_value x) | with_reducible assumption | split
    | with_reducible apply State.popBare_framed | with_reducible apply State.popRx_framed | exact maskIn_trans hP rfl
    | dsimp -zeta only | with_reducible apply Framed.mk_of)

theorem State.spiPump_framed {P : Nat} {s₀ : State} (s : State) (hI : Framed P s₀ s) (hP : maskIn 0xffffffffff P) : Framed
    P s₀ (State.spiPump s) := by
  unfold State.spiPump
  repeat' (first
    | with_reducible assumption | with_reducible refine forN_framed ?_ (fun _ _ _ => ?_)
    | with_reducible apply State.spiServe_framed | exact maskIn_trans hP rfl | dsimp -zeta only)

theorem execSpiStatus_framed {P : Nat} {s₀ : State} (s : State) (hI : Framed P s₀ s) (hP : maskIn 0x1000 P) : FramedO P s₀
    (execSpiStatus s) := by
  unfold execSpiStatus
  repeat' (first
    | with_reducible exact Or.inl rfl | exact Or.inr (bit_of hP rfl) | refine fun (s : State) (hs : Framed P s₀ s) => ?_
    | refine fun (_ : _) (s : State) (hs : Framed P s₀ s) => ?_
    | refine fun (_ : _) (_ : _) (s : State) (hs : Framed P s₀ s) => ?_
    | ((try lift_lets -underBinder); intro x; refine letS (P := P) (s₀ := s₀) (x := x) ?_ (fun _ => ?_); unfold x; rotate_left; clear_value x)
    | ((try lift_lets -underBinder); intro x; clear_value x) | with_reducible assumption | with_reducible apply id_framed
    | split | with_reducible apply when_framed | with_reducible apply FramedO_next | dsimp -zeta only
    | with_reducible apply Framed.mk_of)

theorem execSpiSend_framed {P : Nat} {s₀ : State} (len : Nat) (msg : List Byte) (s : State) (hI : Framed P s₀ s) (hP :
    maskIn 0xffffffffff P) : FramedO P s₀ (execSpiSend len msg s) := by
  unfold execSpiSend
  repeat' (first
    | with_reducible exact Or.inl rfl | exact Or.inr (bit_of hP rfl) | refine fun (s : State) (hs : Framed P s₀ s) => ?_
    | refine fun (_ : _) (s : State) (hs : Framed P s₀ s) => ?_
    | refine fun (_ : _) (_ : _) (s : State) (hs : Framed P s₀ s) => ?_
    | ((try lift_lets -underBinder); intro x; refine letS (P := P) (s₀ := s₀) (x := x) ?_ (fun _ => ?_); unfold x; rotate_left; clear_value x)
    | ((try lift_lets -underBinder); intro x; clear_value x) | with_reducible assumption | with_reducible apply id_framed
    | split | with_reducible apply when_framed | with_reducible apply FramedO_next
    | with_reducible apply State.spiPump_framed | exact maskIn_trans hP rfl | dsimp -zeta only
    | with_reducible apply Framed.mk_of)

theorem execSpiReceive_framed {P : Nat} {s₀ : State} (early : Bool) (s : State) (hI : Framed P s₀ s) (hP : maskIn
    0xffffffffff P) : FramedO P s₀ (execSpiReceive early s) := by
  unfold execSpiReceive
  repeat' (first
    | with_reducible exact Or.inl rfl | exact Or.inr (bit_of hP rfl) | refine fun (s : State) (hs : Framed P s₀ s) => ?_
    | refine fun (_ : _) (s : State) (hs : Framed P s₀ s) => ?_
    | refine fun (_ : _) (_ : _) (s : State) (hs : Framed P s₀ s) => ?_
    | ((try lift_lets -underBinder); intro x; refine letS (P := P) (s₀ := s₀) (x := x) ?_ (fun _ => ?_); unfold x; rotate_left; clear_value x)
    | ((try lift_lets -underBinder); intro x; clear_value x) | with_reducible assumption | with_reducible apply id_framed
    | split | with_reducible apply when_framed | with_reducible apply FramedO_next
    | with_reducible apply State.spiPump_framed | exact maskIn_trans hP rfl | dsimp -zeta only
    | with_reducible apply Framed.mk_of)

theorem execSpiImage_framed {P : Nat} {s₀ : State} (offset : Nat) (data : List Byte) (s : State) (hI : Framed P s₀ s) (hP
    : maskIn 0x81 P) : FramedO P s₀ (execSpiImage offset data s) := by
  unfold execSpiImage
  repeat' (first
    | refine fun (s : State) (hs : Framed P s₀ s) => ?_ | refine fun (_ : _) (s : State) (hs : Framed P s₀ s) => ?_
    | refine fun (_ : _) (_ : _) (s : State) (hs : Framed P s₀ s) => ?_ | with_reducible assumption
    | with_reducible apply id_framed | with_reducible apply when_framed
    | with_reducible refine forN_framed ?_ (fun _ _ _ => ?_) | with_reducible apply FramedO_next
    | with_reducible apply State.wrMem_framed | exact maskIn_trans hP rfl | dsimp -zeta only)

theorem execSpiImageDone_framed {P : Nat} {s₀ : State} (len : Nat) (image : FwSlot) (s : State) (hI : Framed P s₀ s) (hP :
    maskIn 0xffffffffff P) : FramedO P s₀ (execSpiImageDone len image s) := by
  unfold execSpiImageDone
  repeat' (first
    | refine fun (s : State) (hs : Framed P s₀ s) => ?_ | refine fun (_ : _) (s : State) (hs : Framed P s₀ s) => ?_
    | refine fun (_ : _) (_ : _) (s : State) (hs : Framed P s₀ s) => ?_ | with_reducible assumption
    | with_reducible apply id_framed | split | with_reducible apply when_framed | with_reducible apply FramedO_next
    | with_reducible apply State.startFirmware_framed | exact maskIn_trans hP rfl | dsimp -zeta only)

theorem State.i2cDone_framed {P : Nat} {s₀ : State} (s : State) (b : List Byte) (nack : Bool) (hI : Framed P s₀ s) (hP :
    maskIn 0x1000 P) : Framed P s₀ (State.i2cDone s b nack) := by
  unfold State.i2cDone
  repeat' (first
    | with_reducible exact Or.inl rfl | exact Or.inr (bit_of hP rfl) | with_reducible assumption | dsimp -zeta only
    | with_reducible apply Framed.mk_of)

theorem execI2cWrite_framed {P : Nat} {s₀ : State} (sel : BitVec 8) (data : List Byte) (pecByte : BitVec 8) (s : State)
    (hI : Framed P s₀ s) (hP : maskIn 0xffffffffff P) : FramedO P s₀ (execI2cWrite sel data pecByte s) := by
  unfold execI2cWrite
  repeat' (first
    | with_reducible exact Or.inl rfl | exact Or.inr (bit_of hP rfl) | refine fun (s : State) (hs : Framed P s₀ s) => ?_
    | refine fun (_ : _) (s : State) (hs : Framed P s₀ s) => ?_
    | refine fun (_ : _) (_ : _) (s : State) (hs : Framed P s₀ s) => ?_
    | ((try lift_lets -underBinder); intro x; refine letS (P := P) (s₀ := s₀) (x := x) ?_ (fun _ => ?_); unfold x; rotate_left; clear_value x)
    | ((try lift_lets -underBinder); intro x; clear_value x) | with_reducible assumption | with_reducible apply id_framed
    | split | with_reducible apply when_framed | with_reducible apply FramedO_next | with_reducible apply State.regDo_framed
    | with_reducible apply State.i2cDone_framed | exact maskIn_trans hP rfl | dsimp -zeta only
    | with_reducible apply Framed.mk_of)

theorem execI2cRead_framed {P : Nat} {s₀ : State} (sel : BitVec 8) (s : State) (hI : Framed P s₀ s) (hP : maskIn 0x1000 P)
    : FramedO P s₀ (execI2cRead sel s) := by
  unfold execI2cRead
  repeat' (first
    | with_reducible exact Or.inl rfl | exact Or.inr (bit_of hP rfl) | refine fun (s : State) (hs : Framed P s₀ s) => ?_
    | refine fun (_ : _) (s : State) (hs : Framed P s₀ s) => ?_
    | refine fun (_ : _) (_ : _) (s : State) (hs : Framed P s₀ s) => ?_
    | ((try lift_lets -underBinder); intro x; refine letS (P := P) (s₀ := s₀) (x := x) ?_ (fun _ => ?_); unfold x; rotate_left; clear_value x)
    | ((try lift_lets -underBinder); intro x; clear_value x) | with_reducible assumption | with_reducible apply id_framed
    | split | with_reducible apply when_framed | with_reducible apply FramedO_next
    | with_reducible apply State.i2cDone_framed | exact maskIn_trans hP rfl | dsimp -zeta only
    | with_reducible apply Framed.mk_of)

theorem execEvtOverflow_framed {P : Nat} {s₀ : State} (route : Nat) (s : State) (hI : Framed P s₀ s) (hP : maskIn 0x840000
    P) : FramedO P s₀ (execEvtOverflow route s) := by
  unfold execEvtOverflow
  repeat' (first
    | with_reducible exact Or.inl rfl | exact Or.inr (bit_of hP rfl) | refine fun (s : State) (hs : Framed P s₀ s) => ?_
    | refine fun (_ : _) (s : State) (hs : Framed P s₀ s) => ?_
    | refine fun (_ : _) (_ : _) (s : State) (hs : Framed P s₀ s) => ?_
    | ((try lift_lets -underBinder); intro x; refine letS (P := P) (s₀ := s₀) (x := x) ?_ (fun _ => ?_); unfold x; rotate_left; clear_value x)
    | ((try lift_lets -underBinder); intro x; clear_value x) | with_reducible assumption | with_reducible apply id_framed
    | with_reducible apply when_framed | with_reducible apply FramedO_next | with_reducible apply State.raise_framed
    | exact maskIn_trans hP rfl | dsimp -zeta only | with_reducible apply Framed.mk_of)

theorem State.wrBytes_framed {P : Nat} {s₀ : State} (s : State) (a : Nat) (l : List Byte) (hI : Framed P s₀ s) (hP :
    maskIn 0x81 P) : Framed P s₀ (State.wrBytes s a l) := by
  unfold State.wrBytes
  repeat' (first
    | with_reducible assumption | with_reducible refine forN_framed ?_ (fun _ _ _ => ?_)
    | with_reducible apply State.wrMem_framed | exact maskIn_trans hP rfl | dsimp -zeta only)

theorem State.recordOne_framed {P : Nat} {s₀ : State} (s : State) (base cap : Nat) (r : EvRec) (hI : Framed P s₀ s) (hP :
    maskIn 0x40081 P) : Framed P s₀ (State.recordOne s base cap r) := by
  unfold State.recordOne
  repeat' (first
    | with_reducible exact Or.inl rfl | exact Or.inr (bit_of hP rfl)
    | ((try lift_lets -underBinder); intro x; refine letS (P := P) (s₀ := s₀) (x := x) ?_ (fun _ => ?_); unfold x; rotate_left; clear_value x)
    | ((try lift_lets -underBinder); intro x; clear_value x) | with_reducible assumption | split
    | with_reducible apply State.wrBytes_framed | exact maskIn_trans hP rfl | dsimp -zeta only
    | with_reducible apply Framed.mk_of)

theorem execRecorderWrite_framed {P : Nat} {s₀ : State} (s : State) (hI : Framed P s₀ s) (hP : maskIn 0x40081 P) : FramedO
    P s₀ (execRecorderWrite s) := by
  unfold execRecorderWrite
  repeat' (first
    | with_reducible exact Or.inl rfl | exact Or.inr (bit_of hP rfl) | refine fun (s : State) (hs : Framed P s₀ s) => ?_
    | refine fun (_ : _) (s : State) (hs : Framed P s₀ s) => ?_
    | refine fun (_ : _) (_ : _) (s : State) (hs : Framed P s₀ s) => ?_
    | ((try lift_lets -underBinder); intro x; refine letS (P := P) (s₀ := s₀) (x := x) ?_ (fun _ => ?_); unfold x; rotate_left; clear_value x)
    | ((try lift_lets -underBinder); intro x; clear_value x) | with_reducible assumption | with_reducible apply id_framed
    | split | with_reducible apply when_framed | with_reducible refine forL_framed ?_ (fun _ _ _ => ?_)
    | with_reducible apply FramedO_next | with_reducible apply State.recordOne_framed | exact maskIn_trans hP rfl
    | dsimp -zeta only | with_reducible apply Framed.mk_of)

end Sys2Proof.Machine
end

