-- ==== Sys2Proof/Laws/FramedBoundary.lean ====
section
/-! SUPPORT. What the operations and commands of Machine/Boundary.lean can change, as masks of parts (Laws/Framed.lean): one lemma
for each. -/

namespace Sys2Proof.Machine

open Sys2Proof

theorem State.deadlines_framed {P : Nat} {s₀ : State} (s : State) (hI : Framed P s₀ s) (hP : maskIn 0x1c008400c1 P) :
    Framed P s₀ (State.deadlines s) := by
  unfold State.deadlines
  repeat' (first
    | with_reducible assumption | split | with_reducible refine forN_framed ?_ (fun _ _ _ => ?_)
    | with_reducible apply State.deadlineOf_framed | exact maskIn_trans hP rfl | dsimp -zeta only)

theorem State.closeBlock_framed {P : Nat} {s₀ : State} (s : State) (j : Nat) (hI : Framed P s₀ s) (hP : maskIn
    0x1e908584c1 P) : Framed P s₀ (State.closeBlock s j) := by
  unfold State.closeBlock
  repeat' (first

    | ((try lift_lets -underBinder); intro x; refine letS (P := P) (s₀ := s₀) (x := x) ?_ (fun _ => ?_); unfold x; rotate_left; clear_value x)
    | ((try lift_lets -underBinder); intro x; clear_value x) | with_reducible assumption | split
    | with_reducible apply State.boundaryMoves_framed | with_reducible apply State.formBlock_framed
    | with_reducible apply State.wellOnTime_framed | with_reducible apply State.txCollect_framed
    | with_reducible apply State.deadlines_framed | exact maskIn_trans hP rfl | dsimp -zeta only)

theorem State.anchorInput_framed {P : Nat} {s₀ : State} (s : State) (r : LedgerRec) (hI : Framed P s₀ s) (hP : maskIn
    0x1000020 P) : Framed P s₀ (State.anchorInput s r) := by
  unfold State.anchorInput
  repeat' (first
    | with_reducible exact Or.inl rfl | exact Or.inr (bit_of hP rfl) | with_reducible assumption | split
    | with_reducible apply State.anchor_framed | exact maskIn_trans hP rfl | dsimp -zeta only
    | with_reducible apply Framed.mk_of)

theorem State.captureInput_framed {P : Nat} {s₀ : State} (s : State) (r : LedgerRec) (hI : Framed P s₀ s) (hP : maskIn
    0x8000200 P) : Framed P s₀ (State.captureInput s r) := by
  unfold State.captureInput
  repeat' (first
    | with_reducible exact Or.inl rfl | exact Or.inr (bit_of hP rfl) | with_reducible assumption | split
    | with_reducible apply State.capture_framed | exact maskIn_trans hP rfl | dsimp -zeta only
    | with_reducible apply Framed.mk_of)

theorem State.execInput_framed {P : Nat} {s₀ : State} (s : State) (idx sub : Nat) (arg : List Byte) (hI : Framed P s₀ s)
    (hP : maskIn 0x18843e00 P) : Framed P s₀ (State.execInput s idx sub arg) := by
  unfold State.execInput
  repeat' (first

    | ((try lift_lets -underBinder); intro x; refine letS (P := P) (s₀ := s₀) (x := x) ?_ (fun _ => ?_); unfold x; rotate_left; clear_value x)
    | ((try lift_lets -underBinder); intro x; clear_value x) | with_reducible assumption | split
    | with_reducible apply State.applyWrites_framed | with_reducible apply State.answer_framed
    | with_reducible apply State.pressExec_framed | with_reducible apply State.pressCancel_framed
    | with_reducible apply State.vatClear_framed | with_reducible apply State.diverge_framed | exact maskIn_trans hP rfl
    | dsimp -zeta only)

theorem State.input_framed {P : Nat} {s₀ : State} (s : State) (j : Nat) (r : LedgerRec) (hI : Framed P s₀ s) (hP : maskIn
    0xffffffffff P) : Framed P s₀ (State.input s j r) := by
  unfold State.input
  repeat' (first
    | with_reducible exact Or.inl rfl | exact Or.inr (bit_of hP rfl) | refine fun (s : State) (hs : Framed P s₀ s) => ?_
    | refine fun (_ : _) (s : State) (hs : Framed P s₀ s) => ?_
    | refine fun (_ : _) (_ : _) (s : State) (hs : Framed P s₀ s) => ?_ | with_reducible assumption
    | with_reducible apply id_framed | split | with_reducible apply when_framed | with_reducible apply State.pumpCmd_framed
    | with_reducible apply State.anchor_framed | with_reducible apply State.takeChime_framed
    | with_reducible apply State.capture_framed | with_reducible apply State.shedTasks_framed
    | with_reducible apply State.beginClusterReset_framed | with_reducible apply State.sessionReset_framed
    | with_reducible apply State.regApply_framed | with_reducible apply State.regWrite_framed
    | with_reducible apply State.closeSession_framed | with_reducible apply State.popApply_framed
    | with_reducible apply State.openApply_framed | with_reducible apply State.execInput_framed | exact maskIn_trans hP rfl
    | with_reducible refine of_snd (by with_reducible assumption) ?_
    | with_reducible refine of_fst (by with_reducible assumption) ?_ | dsimp -zeta only | with_reducible apply Framed.mk_of)

theorem State.takeInputs_framed {P : Nat} {s₀ : State} (s : State) (j : Nat) (hI : Framed P s₀ s) (hP : maskIn
    0xffffffffff P) : Framed P s₀ (State.takeInputs s j) := by
  unfold State.takeInputs
  repeat' (first
    | with_reducible exact Or.inl rfl | exact Or.inr (bit_of hP rfl)
    | ((try lift_lets -underBinder); intro x; refine letS (P := P) (s₀ := s₀) (x := x) ?_ (fun _ => ?_); unfold x; rotate_left; clear_value x)
    | ((try lift_lets -underBinder); intro x; clear_value x) | with_reducible assumption
    | with_reducible refine forL_framed ?_ (fun _ _ _ => ?_) | with_reducible apply State.input_framed
    | exact maskIn_trans hP rfl | dsimp -zeta only | with_reducible apply Framed.mk_of)

theorem State.armStep_framed {P : Nat} {s₀ : State} (s : State) (hI : Framed P s₀ s) (hP : maskIn 0x1800000040 P) : Framed
    P s₀ (State.armStep s) := by
  unfold State.armStep
  repeat' (first
    | with_reducible assumption | with_reducible refine forL_framed ?_ (fun _ _ _ => ?_)
    | with_reducible apply State.applyArm_framed | exact maskIn_trans hP rfl | dsimp -zeta only)

theorem State.inputStep_framed {P : Nat} {s₀ : State} (s : State) (j : Nat) (joins : Bool) (hI : Framed P s₀ s) (hP :
    maskIn 0xffffffffff P) : Framed P s₀ (State.inputStep s j joins) := by
  unfold State.inputStep
  repeat' (first

    | ((try lift_lets -underBinder); intro x; refine letS (P := P) (s₀ := s₀) (x := x) ?_ (fun _ => ?_); unfold x; rotate_left; clear_value x)
    | ((try lift_lets -underBinder); intro x; clear_value x) | with_reducible assumption | split
    | with_reducible apply State.tagBoundary_framed | with_reducible apply State.retryGlides_framed
    | with_reducible apply State.applyWrites_framed | with_reducible apply State.tdmStopStep_framed
    | with_reducible apply State.runJobs_framed | with_reducible apply State.takeInputs_framed
    | with_reducible apply State.armStep_framed | exact maskIn_trans hP rfl | dsimp -zeta only)

theorem State.routesStep_framed {P : Nat} {s₀ : State} (s : State) (hI : Framed P s₀ s) (hP : maskIn 0x10850c00 P) :
    Framed P s₀ (State.routesStep s) := by
  unfold State.routesStep
  repeat' (first
    | with_reducible assumption | with_reducible apply State.gainBlock_framed
    | with_reducible apply State.releaseStages_framed | with_reducible apply State.releaseDelays_framed
    | with_reducible apply State.routeStep_framed | with_reducible apply State.genBoundary_framed | exact maskIn_trans hP rfl
    | dsimp -zeta only)

theorem State.silenceStep_framed {P : Nat} {s₀ : State} (s : State) (j : Nat) (hI : Framed P s₀ s) (hP : maskIn
    0x1c108f04c1 P) : Framed P s₀ (State.silenceStep s j) := by
  unfold State.silenceStep
  repeat' (first
    | with_reducible assumption | with_reducible apply State.detStep_framed | with_reducible apply State.wellOffStep_framed
    | with_reducible apply State.soundStep_framed | exact maskIn_trans hP rfl | dsimp -zeta only)

theorem State.claimStep_framed {P : Nat} {s₀ : State} (s : State) (j : Nat) (enters : Bool) (hI : Framed P s₀ s) (hP :
    maskIn 0x1018841240 P) : Framed P s₀ (State.claimStep s j enters) := by
  unfold State.claimStep
  repeat' (first

    | ((try lift_lets -underBinder); intro x; refine letS (P := P) (s₀ := s₀) (x := x) ?_ (fun _ => ?_); unfold x; rotate_left; clear_value x)
    | ((try lift_lets -underBinder); intro x; clear_value x) | with_reducible assumption | split
    | with_reducible apply State.setRole_framed | with_reducible apply State.digestMissing_framed
    | with_reducible apply State.pairStep_framed | exact maskIn_trans hP rfl | dsimp -zeta only)

theorem State.ticks_framed {P : Nat} {s₀ : State} (s : State) (hI : Framed P s₀ s) (hP : maskIn 0x1800000000 P) : Framed P
    s₀ (State.ticks s) := by
  unfold State.ticks
  repeat' (first
    | with_reducible assumption | split | with_reducible refine forN_framed ?_ (fun _ _ _ => ?_)
    | with_reducible apply State.tickSite_framed | exact maskIn_trans hP rfl | dsimp -zeta only)

theorem State.noteSteps_framed {P : Nat} {s₀ : State} (s : State) (j mask : Nat) (hI : Framed P s₀ s) (hP : maskIn 0x80020
    P) : Framed P s₀ (State.noteSteps s j mask) := by
  unfold State.noteSteps
  repeat' (first
    | with_reducible exact Or.inl rfl | exact Or.inr (bit_of hP rfl)
    | ((try lift_lets -underBinder); intro x; refine letS (P := P) (s₀ := s₀) (x := x) ?_ (fun _ => ?_); unfold x; rotate_left; clear_value x)
    | ((try lift_lets -underBinder); intro x; refine letS (P := P) (s₀ := s₀) (x := x.2) ?_ (fun _ => ?_); unfold x; rotate_left; clear_value x)
    | ((try lift_lets -underBinder); intro x; refine letS (P := P) (s₀ := s₀) (x := x.1) ?_ (fun _ => ?_); unfold x; rotate_left; clear_value x)
    | ((try lift_lets -underBinder); intro x; clear_value x) | with_reducible assumption | split
    | with_reducible apply State.takeFree_framed | exact maskIn_trans hP rfl | dsimp -zeta only
    | with_reducible apply Framed.mk_of)

theorem State.ledgerAnchors_framed {P : Nat} {s₀ : State} (s : State) (hI : Framed P s₀ s) (hP : maskIn 0x1000220 P) :
    Framed P s₀ (State.ledgerAnchors s) := by
  unfold State.ledgerAnchors
  repeat' (first
    | with_reducible exact Or.inl rfl | exact Or.inr (bit_of hP rfl) | with_reducible assumption | split
    | with_reducible apply State.submit_framed | with_reducible apply State.anchor_framed | exact maskIn_trans hP rfl
    | dsimp -zeta only | with_reducible apply Framed.mk_of)

theorem State.blockInputs_framed {P : Nat} {s₀ : State} (s : State) (j : Nat) (hI : Framed P s₀ s) (hP : maskIn
    0x19e184c6c9 P) : Framed P s₀ (State.blockInputs s j) := by
  unfold State.blockInputs
  repeat' (first
    | with_reducible assumption | with_reducible apply State.tdmIngress_framed
    | with_reducible apply State.sineIngress_framed | with_reducible apply State.netIngress_framed
    | with_reducible apply State.txBoundary_framed | exact maskIn_trans hP rfl | dsimp -zeta only)

theorem State.sessionStep_framed {P : Nat} {s₀ : State} (s : State) (hI : Framed P s₀ s) (hP : maskIn 0x4000841802 P) :
    Framed P s₀ (State.sessionStep s) := by
  unfold State.sessionStep
  repeat' (first
    | with_reducible assumption | split | with_reducible apply State.sessionReset_framed | exact maskIn_trans hP rfl
    | dsimp -zeta only)

theorem State.capturesDue_framed {P : Nat} {s₀ : State} (s : State) (joins : Bool) (hI : Framed P s₀ s) (hP : maskIn
    0x9000220 P) : Framed P s₀ (State.capturesDue s joins) := by
  unfold State.capturesDue
  repeat' (first
    | with_reducible assumption | split | with_reducible refine forL_framed ?_ (fun _ _ _ => ?_)
    | with_reducible apply State.anchorInput_framed | with_reducible apply State.captureInput_framed
    | exact maskIn_trans hP rfl | dsimp -zeta only)

theorem State.boundarySteps_framed {P : Nat} {s₀ : State} (s : State) (joins enters : Bool) (hI : Framed P s₀ s) (hP :
    maskIn 0xffffffffff P) : Framed P s₀ (State.boundarySteps s joins enters) := by
  unfold State.boundarySteps
  repeat' (first

    | ((try lift_lets -underBinder); intro x; refine letS (P := P) (s₀ := s₀) (x := x) ?_ (fun _ => ?_); unfold x; rotate_left; clear_value x)
    | ((try lift_lets -underBinder); intro x; refine letS (P := P) (s₀ := s₀) (x := x.2) ?_ (fun _ => ?_); unfold x; rotate_left; clear_value x)
    | ((try lift_lets -underBinder); intro x; refine letS (P := P) (s₀ := s₀) (x := x.1) ?_ (fun _ => ?_); unfold x; rotate_left; clear_value x)
    | ((try lift_lets -underBinder); intro x; clear_value x) | with_reducible assumption
    | with_reducible apply State.reAnchorStep_framed | with_reducible apply State.retarget_framed
    | with_reducible apply State.pressStep_framed | with_reducible apply State.spareStep_framed
    | with_reducible apply State.inputStep_framed | with_reducible apply State.routesStep_framed
    | with_reducible apply State.silenceStep_framed | with_reducible apply State.claimStep_framed
    | with_reducible apply State.ticks_framed | with_reducible apply State.noteSteps_framed
    | with_reducible apply State.ledgerAnchors_framed | with_reducible apply State.blockInputs_framed
    | with_reducible apply State.sessionStep_framed | with_reducible apply State.capturesDue_framed
    | exact maskIn_trans hP rfl | dsimp -zeta only)

theorem State.boundaryAfter_framed {P : Nat} {s₀ : State} (s : State) (hI : Framed P s₀ s) (hP : maskIn 0xffffffffff P) :
    Framed P s₀ (State.boundaryAfter s) := by
  unfold State.boundaryAfter
  repeat' (first

    | ((try lift_lets -underBinder); intro x; refine letS (P := P) (s₀ := s₀) (x := x) ?_ (fun _ => ?_); unfold x; rotate_left; clear_value x)
    | ((try lift_lets -underBinder); intro x; clear_value x) | with_reducible assumption | split
    | with_reducible apply State.takeDigest_framed | with_reducible apply State.hearAmps_framed
    | with_reducible apply State.sendMarker_framed | with_reducible apply State.releaseWaits_framed
    | with_reducible apply State.notifyScan_framed | with_reducible apply State.witnessStep_framed
    | with_reducible apply State.spiPump_framed | exact maskIn_trans hP rfl | dsimp -zeta only)

theorem execBlockBoundary_framed {P : Nat} {s₀ : State} (s : State) (hI : Framed P s₀ s) (hP : maskIn 0xffffffffff P) :
    FramedO P s₀ (execBlockBoundary s) := by
  unfold execBlockBoundary
  repeat' (first
    | with_reducible exact Or.inl rfl | exact Or.inr (bit_of hP rfl) | refine fun (s : State) (hs : Framed P s₀ s) => ?_
    | refine fun (_ : _) (s : State) (hs : Framed P s₀ s) => ?_
    | refine fun (_ : _) (_ : _) (s : State) (hs : Framed P s₀ s) => ?_
    | ((try lift_lets -underBinder); intro x; refine letS (P := P) (s₀ := s₀) (x := x) ?_ (fun _ => ?_); unfold x; rotate_left; clear_value x)
    | ((try lift_lets -underBinder); intro x; clear_value x) | with_reducible assumption | with_reducible apply id_framed
    | split | with_reducible apply when_framed | with_reducible apply FramedO_next | with_reducible apply State.drain_framed
    | with_reducible apply State.reAnchorStep_framed | with_reducible apply State.lockstepBegin_framed
    | with_reducible apply State.closeBlock_framed | with_reducible apply State.boundarySteps_framed
    | with_reducible apply State.boundaryAfter_framed | exact maskIn_trans hP rfl | dsimp -zeta only
    | with_reducible apply Framed.mk_of)

theorem State.replayBlock_framed {P : Nat} {s₀ : State} (s : State) (c : Copy) (k : Nat) (hI : Framed P s₀ s) (hP : maskIn
    0xffffffffff P) : Framed P s₀ (State.replayBlock s c k) := by
  unfold State.replayBlock
  repeat' (first
    | with_reducible exact Or.inl rfl | exact Or.inr (bit_of hP rfl)
    | ((try lift_lets -underBinder); intro x; refine letS (P := P) (s₀ := s₀) (x := x) ?_ (fun _ => ?_); unfold x; rotate_left; clear_value x)
    | ((try lift_lets -underBinder); intro x; clear_value x) | with_reducible assumption | split
    | with_reducible refine forL_framed ?_ (fun _ _ _ => ?_) | with_reducible apply State.anchorAct_framed
    | with_reducible apply State.applyWrites_framed | with_reducible apply State.ingressPiece_framed
    | with_reducible apply State.anchorInput_framed | with_reducible apply State.input_framed | exact maskIn_trans hP rfl
    | dsimp -zeta only | with_reducible apply Framed.mk_of)

theorem execReplayBlockComplete_framed {P : Nat} {s₀ : State} (out tdmIn : Nat) (s : State) (hI : Framed P s₀ s) (hP :
    maskIn 0xffffffffff P) : FramedO P s₀ (execReplayBlockComplete out tdmIn s) := by
  unfold execReplayBlockComplete
  repeat' (first
    | with_reducible exact Or.inl rfl | exact Or.inr (bit_of hP rfl) | refine fun (s : State) (hs : Framed P s₀ s) => ?_
    | refine fun (_ : _) (s : State) (hs : Framed P s₀ s) => ?_
    | refine fun (_ : _) (_ : _) (s : State) (hs : Framed P s₀ s) => ?_
    | ((try lift_lets -underBinder); intro x; refine letS (P := P) (s₀ := s₀) (x := x) ?_ (fun _ => ?_); unfold x; rotate_left; clear_value x)
    | ((try lift_lets -underBinder); intro x; clear_value x) | with_reducible assumption | with_reducible apply id_framed
    | split | with_reducible apply when_framed | with_reducible apply FramedO_next
    | with_reducible apply State.syncFail_framed | with_reducible apply State.setBacklog_framed
    | with_reducible apply State.replayBlock_framed | exact maskIn_trans hP rfl | dsimp -zeta only
    | with_reducible apply Framed.mk_of)

theorem State.takeRecord1_framed {P : Nat} {s₀ : State} (s : State) (hI : Framed P s₀ s) (hP : maskIn 0x40000 P) : Framed
    P s₀ (State.takeRecord1 s) := by
  unfold State.takeRecord1
  repeat' (first
    | with_reducible exact Or.inl rfl | exact Or.inr (bit_of hP rfl) | with_reducible assumption | split | dsimp -zeta only
    | with_reducible apply Framed.mk_of)

theorem State.idleCycle_framed {P : Nat} {s₀ : State} (s : State) (hI : Framed P s₀ s) (hP : maskIn 0x841020 P) : Framed P
    s₀ (State.idleCycle s) := by
  unfold State.idleCycle
  repeat' (first
    | with_reducible exact Or.inl rfl | exact Or.inr (bit_of hP rfl) | refine fun (s : State) (hs : Framed P s₀ s) => ?_
    | refine fun (_ : _) (s : State) (hs : Framed P s₀ s) => ?_
    | refine fun (_ : _) (_ : _) (s : State) (hs : Framed P s₀ s) => ?_
    | ((try lift_lets -underBinder); intro x; refine letS (P := P) (s₀ := s₀) (x := x) ?_ (fun _ => ?_); unfold x; rotate_left; clear_value x)
    | ((try lift_lets -underBinder); intro x; clear_value x) | with_reducible assumption | with_reducible apply id_framed
    | split | with_reducible apply when_framed | with_reducible apply State.drainOne_framed
    | with_reducible apply State.takeRecord1_framed | exact maskIn_trans hP rfl | dsimp -zeta only
    | with_reducible apply Framed.mk_of)

end Sys2Proof.Machine
end

