-- ==== Sys2Proof/Laws/FramedFabric.lean ====
section
/-! SUPPORT. What the operations and commands of Machine/Fabric.lean can change, as masks of parts (Laws/Framed.lean): one lemma
for each. -/

namespace Sys2Proof.Machine

open Sys2Proof

theorem State.unlock_framed {P : Nat} {s₀ : State} (s : State) (t : Nat) (hI : Framed P s₀ s) (hP : maskIn 0x400100 P) :
    Framed P s₀ (State.unlock s t) := by
  unfold State.unlock
  repeat' (first
    | with_reducible exact Or.inl rfl | exact Or.inr (bit_of hP rfl) | with_reducible assumption
    | with_reducible apply State.put_framed | exact bit_of hP rfl | dsimp -zeta only | with_reducible apply Framed.mk_of)

theorem State.portReset_framed {P : Nat} {s₀ : State} (s : State) (m : Nat) (hI : Framed P s₀ s) (hP : maskIn 0x400100 P)
    : Framed P s₀ (State.portReset s m) := by
  unfold State.portReset
  repeat' (first
    | with_reducible exact Or.inl rfl | exact Or.inr (bit_of hP rfl)
    | ((try lift_lets -underBinder); intro x; refine letS (P := P) (s₀ := s₀) (x := x) ?_ (fun _ => ?_); unfold x; rotate_left; clear_value x)
    | ((try lift_lets -underBinder); intro x; clear_value x) | with_reducible assumption
    | with_reducible refine forL_framed ?_ (fun _ _ _ => ?_) | with_reducible apply State.unlock_framed
    | exact maskIn_trans hP rfl | dsimp -zeta only | with_reducible apply Framed.mk_of)

theorem State.badBeat_framed {P : Nat} {s₀ : State} (s : State) (cause : Nat) (hI : Framed P s₀ s) (hP : maskIn 0x80000 P)
    : Framed P s₀ (State.badBeat s cause).1 := by
  unfold State.badBeat
  repeat' (first

    | ((try lift_lets -underBinder); intro x; refine letS (P := P) (s₀ := s₀) (x := x) ?_ (fun _ => ?_); unfold x; rotate_left; clear_value x)
    | ((try lift_lets -underBinder); intro x; refine letS (P := P) (s₀ := s₀) (x := x.2) ?_ (fun _ => ?_); unfold x; rotate_left; clear_value x)
    | ((try lift_lets -underBinder); intro x; refine letS (P := P) (s₀ := s₀) (x := x.1) ?_ (fun _ => ?_); unfold x; rotate_left; clear_value x)
    | ((try lift_lets -underBinder); intro x; clear_value x) | with_reducible assumption
    | with_reducible apply State.takeFree_framed | exact maskIn_trans hP rfl | dsimp -zeta only)

theorem State.readWords_framed {P : Nat} {s₀ : State} (s : State) (l : List Nat) (ecc : Ecc) (hI : Framed P s₀ s) (hP :
    maskIn 0x504a600c0 P) : Framed P s₀ (State.readWords s l ecc).1 := by
  induction l generalizing s ecc with
  | nil =>
    unfold State.readWords
    repeat' (first
      | with_reducible exact Or.inl rfl | exact Or.inr (bit_of hP rfl)
      | ((try lift_lets -underBinder); intro x; refine letS (P := P) (s₀ := s₀) (x := x) ?_ (fun _ => ?_); unfold x; rotate_left; clear_value x)
      | ((try lift_lets -underBinder); intro x; refine letS (P := P) (s₀ := s₀) (x := x.2) ?_ (fun _ => ?_); unfold x; rotate_left; clear_value x)
      | ((try lift_lets -underBinder); intro x; refine letS (P := P) (s₀ := s₀) (x := x.1) ?_ (fun _ => ?_); unfold x; rotate_left; clear_value x)
      | ((try lift_lets -underBinder); intro x; clear_value x) | with_reducible assumption | split
      | with_reducible apply State.eccRead_framed | exact maskIn_trans hP rfl
      | with_reducible refine of_snd (by with_reducible assumption) ?_
      | with_reducible refine of_fst (by with_reducible assumption) ?_ | dsimp -zeta only | with_reducible apply Framed.mk_of)
  | cons a0 l0 ih =>
    unfold State.readWords
    repeat' (first
      | with_reducible exact Or.inl rfl | exact Or.inr (bit_of hP rfl)
      | ((try lift_lets -underBinder); intro x; refine letS (P := P) (s₀ := s₀) (x := x) ?_ (fun _ => ?_); unfold x; rotate_left; clear_value x)
      | ((try lift_lets -underBinder); intro x; refine letS (P := P) (s₀ := s₀) (x := x.2) ?_ (fun _ => ?_); unfold x; rotate_left; clear_value x)
      | ((try lift_lets -underBinder); intro x; refine letS (P := P) (s₀ := s₀) (x := x.1) ?_ (fun _ => ?_); unfold x; rotate_left; clear_value x)
      | ((try lift_lets -underBinder); intro x; clear_value x) | with_reducible assumption | split
      | with_reducible apply State.eccRead_framed | exact maskIn_trans hP rfl
      | with_reducible refine of_snd (by with_reducible assumption) ?_
      | with_reducible refine of_fst (by with_reducible assumption) ?_ | with_reducible apply ih | dsimp -zeta only
      | with_reducible apply Framed.mk_of)

theorem State.memBeat_framed {P : Nat} {s₀ : State} (s : State) (base be : Nat) (f : Option (Nat → Nat)) (rmw : Bool) (ecc
    : Ecc) (hI : Framed P s₀ s) (hP : maskIn 0x504ae00c1 P) : Framed P s₀ (State.memBeat s base be f rmw ecc).1 := by
  unfold State.memBeat
  repeat' (first
    | with_reducible exact Or.inl rfl | exact Or.inr (bit_of hP rfl)
    | ((try lift_lets -underBinder); intro x; refine letS (P := P) (s₀ := s₀) (x := x) ?_ (fun _ => ?_); unfold x; rotate_left; clear_value x)
    | ((try lift_lets -underBinder); intro x; refine letS (P := P) (s₀ := s₀) (x := x.2) ?_ (fun _ => ?_); unfold x; rotate_left; clear_value x)
    | ((try lift_lets -underBinder); intro x; refine letS (P := P) (s₀ := s₀) (x := x.1) ?_ (fun _ => ?_); unfold x; rotate_left; clear_value x)
    | ((try lift_lets -underBinder); intro x; clear_value x) | with_reducible assumption | split
    | with_reducible refine forL_framed ?_ (fun _ _ _ => ?_) | with_reducible refine forL1_framed ?_ (fun _ _ _ => ?_)
    | with_reducible refine forL2_framed ?_ (fun _ _ _ => ?_) | with_reducible apply State.wrMem_framed
    | with_reducible apply State.badBeat_framed | with_reducible apply State.readWords_framed | exact maskIn_trans hP rfl
    | with_reducible refine of_snd (by with_reducible assumption) ?_
    | with_reducible refine of_fst (by with_reducible assumption) ?_ | dsimp -zeta only | with_reducible apply Framed.mk_of)

theorem State.regRead_framed {P : Nat} {s₀ : State} (s : State) (master base be : Nat) (hI : Framed P s₀ s) (hP : maskIn
    0x1080000 P) : Framed P s₀ (State.regRead s master base be).1 := by
  unfold State.regRead
  repeat' (first

    | ((try lift_lets -underBinder); intro x; refine letS (P := P) (s₀ := s₀) (x := x) ?_ (fun _ => ?_); unfold x; rotate_left; clear_value x)
    | ((try lift_lets -underBinder); intro x; refine letS (P := P) (s₀ := s₀) (x := x.2) ?_ (fun _ => ?_); unfold x; rotate_left; clear_value x)
    | ((try lift_lets -underBinder); intro x; refine letS (P := P) (s₀ := s₀) (x := x.1) ?_ (fun _ => ?_); unfold x; rotate_left; clear_value x)
    | ((try lift_lets -underBinder); intro x; clear_value x) | with_reducible assumption | split
    | with_reducible refine foldl_framed ?_ (fun _ _ _ => ?_) | with_reducible refine foldl1_framed ?_ (fun _ _ _ => ?_)
    | with_reducible refine foldl2_framed ?_ (fun _ _ _ => ?_) | with_reducible apply State.latchCount_framed
    | with_reducible apply State.badBeat_framed | exact maskIn_trans hP rfl | dsimp -zeta only)

theorem State.regBeat_framed {P : Nat} {s₀ : State} (s : State) (master base be v : Nat) (hI : Framed P s₀ s) (hP : maskIn
    0xffffffffff P) : Framed P s₀ (State.regBeat s master base be v).1 := by
  unfold State.regBeat
  repeat' (first
    | with_reducible exact Or.inl rfl | exact Or.inr (bit_of hP rfl)
    | ((try lift_lets -underBinder); intro x; refine letS (P := P) (s₀ := s₀) (x := x) ?_ (fun _ => ?_); unfold x; rotate_left; clear_value x)
    | ((try lift_lets -underBinder); intro x; refine letS (P := P) (s₀ := s₀) (x := x.2) ?_ (fun _ => ?_); unfold x; rotate_left; clear_value x)
    | ((try lift_lets -underBinder); intro x; refine letS (P := P) (s₀ := s₀) (x := x.1) ?_ (fun _ => ?_); unfold x; rotate_left; clear_value x)
    | ((try lift_lets -underBinder); intro x; clear_value x) | with_reducible assumption | split
    | with_reducible apply State.regWrite_framed | exact maskIn_trans hP rfl
    | with_reducible refine of_snd (by with_reducible assumption) ?_
    | with_reducible refine of_fst (by with_reducible assumption) ?_ | dsimp -zeta only | with_reducible apply Framed.mk_of)

theorem State.winWrite_framed {P : Nat} {s₀ : State} (s : State) (master base be v : Nat) (hI : Framed P s₀ s) (hP :
    maskIn 0xffffffffff P) : Framed P s₀ (State.winWrite s master base be v).1 := by
  unfold State.winWrite
  repeat' (first
    | with_reducible exact Or.inl rfl | exact Or.inr (bit_of hP rfl)
    | ((try lift_lets -underBinder); intro x; refine letS (P := P) (s₀ := s₀) (x := x) ?_ (fun _ => ?_); unfold x; rotate_left; clear_value x)
    | ((try lift_lets -underBinder); intro x; refine letS (P := P) (s₀ := s₀) (x := x.2) ?_ (fun _ => ?_); unfold x; rotate_left; clear_value x)
    | ((try lift_lets -underBinder); intro x; refine letS (P := P) (s₀ := s₀) (x := x.1) ?_ (fun _ => ?_); unfold x; rotate_left; clear_value x)
    | ((try lift_lets -underBinder); intro x; clear_value x) | with_reducible assumption | split
    | with_reducible refine forL_framed ?_ (fun _ _ _ => ?_) | with_reducible refine forL1_framed ?_ (fun _ _ _ => ?_)
    | with_reducible refine forL2_framed ?_ (fun _ _ _ => ?_) | with_reducible apply State.regDo_framed
    | exact maskIn_trans hP rfl | with_reducible refine of_snd (by with_reducible assumption) ?_
    | with_reducible refine of_fst (by with_reducible assumption) ?_ | dsimp -zeta only | with_reducible apply Framed.mk_of)

theorem State.cluBeat_framed {P : Nat} {s₀ : State} (s : State) (master base be : Nat) (write : Option Nat) (ecc : Ecc)
    (hI : Framed P s₀ s) (hP : maskIn 0xffffffffff P) : Framed P s₀ (State.cluBeat s master base be write ecc).1 := by
  generalize e : State.cluBeat s master base be write ecc = b
  unfold State.cluBeat at e
  dsimp only at e
  split at e
  · subst e; exact State.badBeat_framed _ _ hI (maskIn_trans hP rfl)
  · split at e
    · subst e; exact State.memBeat_framed _ _ _ _ _ _ hI (maskIn_trans hP rfl)
    · split at e
      · subst e; exact State.badBeat_framed _ _ hI (maskIn_trans hP rfl)
      · split at e
        · subst e; exact hI
        · subst e; exact State.winWrite_framed _ _ _ _ _ hI (maskIn_trans hP rfl)

theorem State.cisBeat_framed {P : Nat} {s₀ : State} (s : State) (owner : Bool) (base be : Nat) (write : Option Nat) (ecc :
    Ecc) (hI : Framed P s₀ s) (hP : maskIn 0x504ae00c9 P) : Framed P s₀ (State.cisBeat s owner base be write ecc).1 := by
  unfold State.cisBeat
  repeat' (first

    | ((try lift_lets -underBinder); intro x; refine letS (P := P) (s₀ := s₀) (x := x) ?_ (fun _ => ?_); unfold x; rotate_left; clear_value x)
    | ((try lift_lets -underBinder); intro x; refine letS (P := P) (s₀ := s₀) (x := x.2) ?_ (fun _ => ?_); unfold x; rotate_left; clear_value x)
    | ((try lift_lets -underBinder); intro x; refine letS (P := P) (s₀ := s₀) (x := x.1) ?_ (fun _ => ?_); unfold x; rotate_left; clear_value x)
    | ((try lift_lets -underBinder); intro x; clear_value x) | with_reducible assumption | split
    | with_reducible apply State.touchBank_framed | with_reducible apply State.memBeat_framed | exact maskIn_trans hP rfl
    | dsimp -zeta only)

theorem State.dcisBeat_framed {P : Nat} {s₀ : State} (s : State) (base be : Nat) (write : Option Nat) (ecc : Ecc) (hI :
    Framed P s₀ s) (hP : maskIn 0x704ae00c1 P) : Framed P s₀ (State.dcisBeat s base be write ecc).1 := by
  unfold State.dcisBeat
  repeat' (first
    | with_reducible assumption | split | with_reducible apply State.badBeat_framed
    | with_reducible apply State.memBeat_framed | exact maskIn_trans hP rfl | dsimp -zeta only)

theorem State.beat_framed {P : Nat} {s₀ : State} (s : State) (owner : Bool) (master base be : Nat) (write : Option Nat)
    (ecc : Ecc) (hI : Framed P s₀ s) (hP : maskIn 0xffffffffff P) : Framed P s₀ (State.beat s owner master base be write
    ecc).1 := by
  unfold State.beat
  repeat' (first
    | with_reducible exact Or.inl rfl | exact Or.inr (bit_of hP rfl) | with_reducible assumption | split
    | with_reducible apply State.badBeat_framed | with_reducible apply State.memBeat_framed
    | with_reducible apply State.regRead_framed | with_reducible apply State.regBeat_framed
    | with_reducible apply State.cluBeat_framed | with_reducible apply State.cisBeat_framed
    | with_reducible apply State.dcisBeat_framed | exact maskIn_trans hP rfl
    | with_reducible refine of_snd (by with_reducible assumption) ?_
    | with_reducible refine of_fst (by with_reducible assumption) ?_ | dsimp -zeta only | with_reducible apply Framed.mk_of)

theorem State.countCollided_framed {P : Nat} {s₀ : State} (s : State) (base n : Nat) (hI : Framed P s₀ s) (hP : maskIn
    0x100000000 P) : Framed P s₀ (State.countCollided s base n) := by
  unfold State.countCollided
  repeat' (first
    | with_reducible assumption | split | with_reducible apply State.addSat_framed | exact bit_of hP rfl | dsimp -zeta only)

theorem State.tryBeat_framed {P : Nat} {s₀ : State} (s : State) (owner : Bool) (master base be : Nat) (write : Option Nat)
    (hit : Option Nat) (times : Nat) (ecc : Ecc) (hI : Framed P s₀ s) (hP : maskIn 0xffffffffff P) : Framed P s₀
    (State.tryBeat s owner master base be write hit times ecc).1 := by
  unfold State.tryBeat
  repeat' (first
    | with_reducible assumption | split | with_reducible apply State.beat_framed
    | with_reducible apply State.countCollided_framed | exact maskIn_trans hP rfl | dsimp -zeta only)

theorem State.runBeats_framed {P : Nat} {s₀ : State} (s : State) (owner : Bool) (b : FabBurst) (n : Nat) (hit : Option
    Nat) (times : Nat) (ecc : Ecc) (hI : Framed P s₀ s) (hP : maskIn 0xffffffffff P) : Framed P s₀ (State.runBeats s owner b n
    hit times ecc).1 := by
  unfold State.runBeats
  repeat' (first

    | ((try lift_lets -underBinder); intro x; refine letS (P := P) (s₀ := s₀) (x := x) ?_ (fun _ => ?_); unfold x; rotate_left; clear_value x)
    | ((try lift_lets -underBinder); intro x; refine letS (P := P) (s₀ := s₀) (x := x.2) ?_ (fun _ => ?_); unfold x; rotate_left; clear_value x)
    | ((try lift_lets -underBinder); intro x; refine letS (P := P) (s₀ := s₀) (x := x.1) ?_ (fun _ => ?_); unfold x; rotate_left; clear_value x)
    | ((try lift_lets -underBinder); intro x; clear_value x) | with_reducible assumption | split
    | with_reducible refine forN_framed ?_ (fun _ _ _ => ?_) | with_reducible refine forN1_framed ?_ (fun _ _ _ => ?_)
    | with_reducible refine forN2_framed ?_ (fun _ _ _ => ?_) | with_reducible apply State.fabError_framed
    | with_reducible apply State.tryBeat_framed | exact maskIn_trans hP rfl | dsimp -zeta only)

theorem State.respond_framed {P : Nat} {s₀ : State} (s : State) (b : FabBurst) (code notDone : Nat) (data : List Nat) (hI
    : Framed P s₀ s) (hP : maskIn 0x100 P) : Framed P s₀ (State.respond s b code notDone data) := by
  unfold State.respond
  repeat' (first
    | with_reducible exact Or.inl rfl | exact Or.inr (bit_of hP rfl) | with_reducible assumption | dsimp -zeta only
    | with_reducible apply Framed.mk_of)

theorem State.runBurst_framed {P : Nat} {s₀ : State} (s : State) (owner : Bool) (b : FabBurst) (hit : Option Nat) (times :
    Nat) (ecc : Ecc) (hI : Framed P s₀ s) (hP : maskIn 0xffffffffff P) : Framed P s₀ (State.runBurst s owner b hit times ecc)
    := by
  unfold State.runBurst
  repeat' (first

    | ((try lift_lets -underBinder); intro x; refine letS (P := P) (s₀ := s₀) (x := x) ?_ (fun _ => ?_); unfold x; rotate_left; clear_value x)
    | ((try lift_lets -underBinder); intro x; refine letS (P := P) (s₀ := s₀) (x := x.2) ?_ (fun _ => ?_); unfold x; rotate_left; clear_value x)
    | ((try lift_lets -underBinder); intro x; refine letS (P := P) (s₀ := s₀) (x := x.1) ?_ (fun _ => ?_); unfold x; rotate_left; clear_value x)
    | ((try lift_lets -underBinder); intro x; clear_value x) | with_reducible assumption | split
    | with_reducible apply State.runBeats_framed | with_reducible apply State.respond_framed | exact maskIn_trans hP rfl
    | dsimp -zeta only)

theorem State.refuse_framed {P : Nat} {s₀ : State} (s : State) (b : FabBurst) (cause : Nat) (hI : Framed P s₀ s) (hP :
    maskIn 0xc40100 P) : Framed P s₀ (State.refuse s b cause) := by
  unfold State.refuse
  repeat' (first
    | with_reducible assumption | with_reducible apply State.fabError_framed | with_reducible apply State.respond_framed
    | exact maskIn_trans hP rfl | dsimp -zeta only)

theorem State.refuseLock_framed {P : Nat} {s₀ : State} (s : State) (b : FabBurst) (hI : Framed P s₀ s) (hP : maskIn
    0xc40100 P) : Framed P s₀ (State.refuseLock s b) := by
  unfold State.refuseLock
  repeat' (first
    | with_reducible exact Or.inl rfl | exact Or.inr (bit_of hP rfl)
    | ((try lift_lets -underBinder); intro x; refine letS (P := P) (s₀ := s₀) (x := x) ?_ (fun _ => ?_); unfold x; rotate_left; clear_value x)
    | ((try lift_lets -underBinder); intro x; clear_value x) | with_reducible assumption | split
    | with_reducible apply State.unlock_framed | with_reducible apply State.refuse_framed | exact maskIn_trans hP rfl
    | dsimp -zeta only | with_reducible apply Framed.mk_of)

theorem execFabricRequest_framed {P : Nat} {s₀ : State} (r : FabReq) (ecc : Ecc) (s : State) (hI : Framed P s₀ s) (hP :
    maskIn 0xffffffffff P) : FramedO P s₀ (execFabricRequest r ecc s) := by
  unfold execFabricRequest
  repeat' (first
    | with_reducible exact Or.inl rfl | exact Or.inr (bit_of hP rfl) | refine fun (s : State) (hs : Framed P s₀ s) => ?_
    | refine fun (_ : _) (s : State) (hs : Framed P s₀ s) => ?_
    | refine fun (_ : _) (_ : _) (s : State) (hs : Framed P s₀ s) => ?_
    | ((try lift_lets -underBinder); intro x; refine letS (P := P) (s₀ := s₀) (x := x) ?_ (fun _ => ?_); unfold x; rotate_left; clear_value x)
    | ((try lift_lets -underBinder); intro x; clear_value x) | with_reducible assumption | with_reducible apply id_framed
    | split | with_reducible apply when_framed | with_reducible apply FramedO_next
    | with_reducible apply State.runBurst_framed | with_reducible apply State.refuse_framed
    | with_reducible apply State.refuseLock_framed | exact maskIn_trans hP rfl | dsimp -zeta only
    | with_reducible apply Framed.mk_of)

theorem State.noteGrant_framed {P : Nat} {s₀ : State} (s : State) (t : Nat) (b : FabBurst) (hI : Framed P s₀ s) (hP :
    maskIn 0x100 P) : Framed P s₀ (State.noteGrant s t b) := by
  unfold State.noteGrant
  repeat' (first
    | with_reducible exact Or.inl rfl | exact Or.inr (bit_of hP rfl)
    | ((try lift_lets -underBinder); intro x; refine letS (P := P) (s₀ := s₀) (x := x) ?_ (fun _ => ?_); unfold x; rotate_left; clear_value x)
    | ((try lift_lets -underBinder); intro x; clear_value x) | with_reducible assumption | split | dsimp -zeta only
    | with_reducible apply Framed.mk_of)

theorem State.lockAfter_framed {P : Nat} {s₀ : State} (s : State) (t : Nat) (b : FabBurst) (held : Nat) (hI : Framed P s₀
    s) (hP : maskIn 0x400100 P) : Framed P s₀ (State.lockAfter s t b held) := by
  unfold State.lockAfter
  repeat' (first
    | with_reducible exact Or.inl rfl | exact Or.inr (bit_of hP rfl)
    | ((try lift_lets -underBinder); intro x; refine letS (P := P) (s₀ := s₀) (x := x) ?_ (fun _ => ?_); unfold x; rotate_left; clear_value x)
    | ((try lift_lets -underBinder); intro x; clear_value x) | with_reducible assumption | split
    | with_reducible apply State.put_framed | with_reducible apply State.unlock_framed | exact maskIn_trans hP rfl
    | exact bit_of hP rfl | dsimp -zeta only | with_reducible apply Framed.mk_of)

theorem execFabricGrant_framed {P : Nat} {s₀ : State} (target : Nat) (hit : Option Nat) (times : Nat) (ecc : Ecc) (s :
    State) (hI : Framed P s₀ s) (hP : maskIn 0xffffffffff P) : FramedO P s₀ (execFabricGrant target hit times ecc s) := by
  unfold execFabricGrant
  repeat' (first
    | with_reducible exact Or.inl rfl | exact Or.inr (bit_of hP rfl) | refine fun (s : State) (hs : Framed P s₀ s) => ?_
    | refine fun (_ : _) (s : State) (hs : Framed P s₀ s) => ?_
    | refine fun (_ : _) (_ : _) (s : State) (hs : Framed P s₀ s) => ?_
    | ((try lift_lets -underBinder); intro x; refine letS (P := P) (s₀ := s₀) (x := x) ?_ (fun _ => ?_); unfold x; rotate_left; clear_value x)
    | ((try lift_lets -underBinder); intro x; clear_value x) | with_reducible assumption | with_reducible apply id_framed
    | split | with_reducible apply when_framed | with_reducible apply FramedO_next | with_reducible apply State.unlock_framed
    | with_reducible apply State.runBurst_framed | with_reducible apply State.refuse_framed
    | with_reducible apply State.noteGrant_framed | with_reducible apply State.lockAfter_framed | exact maskIn_trans hP rfl
    | dsimp -zeta only | with_reducible apply Framed.mk_of)

theorem execLockTimeout_framed {P : Nat} {s₀ : State} (target : Nat) (s : State) (hI : Framed P s₀ s) (hP : maskIn
    0xc40100 P) : FramedO P s₀ (execLockTimeout target s) := by
  unfold execLockTimeout
  repeat' (first
    | with_reducible exact Or.inl rfl | exact Or.inr (bit_of hP rfl) | refine fun (s : State) (hs : Framed P s₀ s) => ?_
    | refine fun (_ : _) (s : State) (hs : Framed P s₀ s) => ?_
    | refine fun (_ : _) (_ : _) (s : State) (hs : Framed P s₀ s) => ?_
    | ((try lift_lets -underBinder); intro x; refine letS (P := P) (s₀ := s₀) (x := x) ?_ (fun _ => ?_); unfold x; rotate_left; clear_value x)
    | ((try lift_lets -underBinder); intro x; clear_value x) | with_reducible assumption | with_reducible apply id_framed
    | split | with_reducible apply when_framed | with_reducible apply FramedO_next | with_reducible apply State.put_framed
    | with_reducible apply State.raise_framed | with_reducible apply State.unlock_framed | exact maskIn_trans hP rfl
    | exact bit_of hP rfl | dsimp -zeta only | with_reducible apply Framed.mk_of)

theorem State.abortBurst_framed {P : Nat} {s₀ : State} (s : State) (master t beats : Nat) (hI : Framed P s₀ s) (hP :
    maskIn 0xffffffffff P) : Framed P s₀ (State.abortBurst s master t beats) := by
  unfold State.abortBurst
  repeat' (first
    | with_reducible exact Or.inl rfl | exact Or.inr (bit_of hP rfl)
    | ((try lift_lets -underBinder); intro x; refine letS (P := P) (s₀ := s₀) (x := x) ?_ (fun _ => ?_); unfold x; rotate_left; clear_value x)
    | ((try lift_lets -underBinder); intro x; refine letS (P := P) (s₀ := s₀) (x := x.2) ?_ (fun _ => ?_); unfold x; rotate_left; clear_value x)
    | ((try lift_lets -underBinder); intro x; refine letS (P := P) (s₀ := s₀) (x := x.1) ?_ (fun _ => ?_); unfold x; rotate_left; clear_value x)
    | ((try lift_lets -underBinder); intro x; clear_value x) | with_reducible assumption | split
    | with_reducible apply State.put_framed | with_reducible apply State.incSat_framed
    | with_reducible apply State.raise_framed | with_reducible apply State.runBeats_framed | exact maskIn_trans hP rfl
    | exact bit_of hP rfl | with_reducible refine of_snd (by with_reducible assumption) ?_
    | with_reducible refine of_fst (by with_reducible assumption) ?_ | dsimp -zeta only | with_reducible apply Framed.mk_of)

theorem execMasterPortReset_framed {P : Nat} {s₀ : State} (master : Nat) (running : Option Nat) (beats : Nat) (s : State)
    (hI : Framed P s₀ s) (hP : maskIn 0xffffffffff P) : FramedO P s₀ (execMasterPortReset master running beats s) := by
  unfold execMasterPortReset
  repeat' (first
    | with_reducible exact Or.inl rfl | exact Or.inr (bit_of hP rfl) | refine fun (s : State) (hs : Framed P s₀ s) => ?_
    | refine fun (_ : _) (s : State) (hs : Framed P s₀ s) => ?_
    | refine fun (_ : _) (_ : _) (s : State) (hs : Framed P s₀ s) => ?_
    | ((try lift_lets -underBinder); intro x; refine letS (P := P) (s₀ := s₀) (x := x) ?_ (fun _ => ?_); unfold x; rotate_left; clear_value x)
    | ((try lift_lets -underBinder); intro x; clear_value x) | with_reducible assumption | with_reducible apply id_framed
    | split | with_reducible apply when_framed | with_reducible apply FramedO_next
    | with_reducible apply State.portReset_framed | with_reducible apply State.abortBurst_framed | exact maskIn_trans hP rfl
    | dsimp -zeta only | with_reducible apply Framed.mk_of)

end Sys2Proof.Machine
end

