-- ==== Sys2Proof/Laws/FramedLane.lean ====
section
/-! SUPPORT. What the operations and commands of Machine/Lane.lean can change, as masks of parts (Laws/Framed.lean): one lemma
for each. -/

namespace Sys2Proof.Machine

open Sys2Proof

theorem State.slot_framed {P : Nat} {s₀ : State} (s : State) (p : LaneAt) (ok : Bool) (f : State → State) (hI : Framed P
    s₀ s) (hf : ∀ s, Framed P s₀ s → Framed P s₀ (f s)) (hP : maskIn 0x1c008c00c1 P) : FramedO P s₀ (State.slot s p ok f) :=
    by
  unfold State.slot
  repeat' (first
    | refine fun (s : State) (hs : Framed P s₀ s) => ?_ | refine fun (_ : _) (s : State) (hs : Framed P s₀ s) => ?_
    | refine fun (_ : _) (_ : _) (s : State) (hs : Framed P s₀ s) => ?_ | with_reducible assumption
    | with_reducible apply id_framed | split | with_reducible apply when_framed | with_reducible apply FramedO_next
    | with_reducible apply State.endSlot_framed | with_reducible apply State.laneIllegal_framed | with_reducible apply hf
    | exact maskIn_trans hP rfl | dsimp -zeta only)

theorem State.macOp_framed {P : Nat} {s₀ : State} (s : State) (n m : Nat) (c : MacBits) (names : List Nat) (fresh : Bool)
    (g : Lane → List (Nat × Int)) (hI : Framed P s₀ s) (hP : maskIn 0x1c04ae00c1 P) : Framed P s₀ (State.macOp s n m c names
    fresh g) := by
  unfold State.macOp
  repeat' (first
    | with_reducible exact Or.inl rfl | exact Or.inr (bit_of hP rfl)
    | ((try lift_lets -underBinder); intro x; refine letS (P := P) (s₀ := s₀) (x := x) ?_ (fun _ => ?_); unfold x; rotate_left; clear_value x)
    | ((try lift_lets -underBinder); intro x; clear_value x) | with_reducible assumption | split
    | with_reducible refine forL_framed ?_ (fun _ _ _ => ?_) | with_reducible refine foldl_framed ?_ (fun _ _ _ => ?_)
    | with_reducible apply State.setAcc_framed | with_reducible apply State.onLane_framed
    | with_reducible apply State.setSticky_framed | with_reducible apply State.residueError_framed
    | exact maskIn_trans hP rfl | dsimp -zeta only | with_reducible apply Framed.mk_of)

theorem execMac2_framed {P : Nat} {s₀ : State} (p : LaneAt) (t0 t1 : BitVec 2) (ra rb : BitVec 6) (c : MacBits) (s :
    State) (hI : Framed P s₀ s) (hP : maskIn 0x1c04ae00c1 P) : FramedO P s₀ (execMac2 p t0 t1 ra rb c s) := by
  unfold execMac2
  repeat' (first
    | refine fun (s : State) (hs : Framed P s₀ s) => ?_ | refine fun (_ : _) (s : State) (hs : Framed P s₀ s) => ?_
    | refine fun (_ : _) (_ : _) (s : State) (hs : Framed P s₀ s) => ?_ | with_reducible assumption
    | with_reducible apply id_framed | with_reducible apply FramedO_next | with_reducible apply State.slot_framed
    | with_reducible apply State.macOp_framed | exact maskIn_trans hP rfl | dsimp -zeta only)

theorem execMsu2_framed {P : Nat} {s₀ : State} (p : LaneAt) (t0 t1 : BitVec 2) (ra rb : BitVec 6) (c : MacBits) (s :
    State) (hI : Framed P s₀ s) (hP : maskIn 0x1c04ae00c1 P) : FramedO P s₀ (execMsu2 p t0 t1 ra rb c s) := by
  unfold execMsu2
  repeat' (first
    | refine fun (s : State) (hs : Framed P s₀ s) => ?_ | refine fun (_ : _) (s : State) (hs : Framed P s₀ s) => ?_
    | refine fun (_ : _) (_ : _) (s : State) (hs : Framed P s₀ s) => ?_ | with_reducible assumption
    | with_reducible apply id_framed | with_reducible apply FramedO_next | with_reducible apply State.slot_framed
    | with_reducible apply State.macOp_framed | exact maskIn_trans hP rfl | dsimp -zeta only)

theorem execMpy2_framed {P : Nat} {s₀ : State} (p : LaneAt) (t0 t1 : BitVec 2) (ra rb : BitVec 6) (c : MacBits) (s :
    State) (hI : Framed P s₀ s) (hP : maskIn 0x1c04ae00c1 P) : FramedO P s₀ (execMpy2 p t0 t1 ra rb c s) := by
  unfold execMpy2
  repeat' (first
    | refine fun (s : State) (hs : Framed P s₀ s) => ?_ | refine fun (_ : _) (s : State) (hs : Framed P s₀ s) => ?_
    | refine fun (_ : _) (_ : _) (s : State) (hs : Framed P s₀ s) => ?_ | with_reducible assumption
    | with_reducible apply id_framed | with_reducible apply FramedO_next | with_reducible apply State.slot_framed
    | with_reducible apply State.macOp_framed | exact maskIn_trans hP rfl | dsimp -zeta only)

theorem execMac1_framed {P : Nat} {s₀ : State} (p : LaneAt) (t su : BitVec 2) (ra rb : BitVec 6) (c : MacBits) (s : State)
    (hI : Framed P s₀ s) (hP : maskIn 0x1c04ae00c1 P) : FramedO P s₀ (execMac1 p t su ra rb c s) := by
  unfold execMac1
  repeat' (first
    | refine fun (s : State) (hs : Framed P s₀ s) => ?_ | refine fun (_ : _) (s : State) (hs : Framed P s₀ s) => ?_
    | refine fun (_ : _) (_ : _) (s : State) (hs : Framed P s₀ s) => ?_ | with_reducible assumption
    | with_reducible apply id_framed | with_reducible apply FramedO_next | with_reducible apply State.slot_framed
    | with_reducible apply State.macOp_framed | exact maskIn_trans hP rfl | dsimp -zeta only)

theorem execMsu1_framed {P : Nat} {s₀ : State} (p : LaneAt) (t su : BitVec 2) (ra rb : BitVec 6) (c : MacBits) (s : State)
    (hI : Framed P s₀ s) (hP : maskIn 0x1c04ae00c1 P) : FramedO P s₀ (execMsu1 p t su ra rb c s) := by
  unfold execMsu1
  repeat' (first
    | refine fun (s : State) (hs : Framed P s₀ s) => ?_ | refine fun (_ : _) (s : State) (hs : Framed P s₀ s) => ?_
    | refine fun (_ : _) (_ : _) (s : State) (hs : Framed P s₀ s) => ?_ | with_reducible assumption
    | with_reducible apply id_framed | with_reducible apply FramedO_next | with_reducible apply State.slot_framed
    | with_reducible apply State.macOp_framed | exact maskIn_trans hP rfl | dsimp -zeta only)

theorem execMpy1_framed {P : Nat} {s₀ : State} (p : LaneAt) (t su : BitVec 2) (ra rb : BitVec 6) (c : MacBits) (s : State)
    (hI : Framed P s₀ s) (hP : maskIn 0x1c04ae00c1 P) : FramedO P s₀ (execMpy1 p t su ra rb c s) := by
  unfold execMpy1
  repeat' (first
    | refine fun (s : State) (hs : Framed P s₀ s) => ?_ | refine fun (_ : _) (s : State) (hs : Framed P s₀ s) => ?_
    | refine fun (_ : _) (_ : _) (s : State) (hs : Framed P s₀ s) => ?_ | with_reducible assumption
    | with_reducible apply id_framed | with_reducible apply FramedO_next | with_reducible apply State.slot_framed
    | with_reducible apply State.macOp_framed | exact maskIn_trans hP rfl | dsimp -zeta only)

theorem execFtap_framed {P : Nat} {s₀ : State} (p : LaneAt) (t : BitVec 2) (neg : Bool) (c : MacBits) (s : State) (hI :
    Framed P s₀ s) (hP : maskIn 0x1c04ae00c1 P) : FramedO P s₀ (execFtap p t neg c s) := by
  unfold execFtap
  repeat' (first
    | refine fun (s : State) (hs : Framed P s₀ s) => ?_ | refine fun (_ : _) (s : State) (hs : Framed P s₀ s) => ?_
    | refine fun (_ : _) (_ : _) (s : State) (hs : Framed P s₀ s) => ?_
    | ((try lift_lets -underBinder); intro x; refine letS (P := P) (s₀ := s₀) (x := x) ?_ (fun _ => ?_); unfold x; rotate_left; clear_value x)
    | ((try lift_lets -underBinder); intro x; clear_value x) | with_reducible assumption | with_reducible apply id_framed
    | split | with_reducible apply FramedO_next | with_reducible apply State.slot_framed
    | with_reducible apply State.macOp_framed | exact maskIn_trans hP rfl | dsimp -zeta only)

theorem execExt_framed {P : Nat} {s₀ : State} (p : LaneAt) (a : BitVec 2) (rd sh : BitVec 6) (c : MacBits) (s : State) (hI
    : Framed P s₀ s) (hP : maskIn 0x1c04ae00c1 P) : FramedO P s₀ (execExt p a rd sh c s) := by
  unfold execExt
  repeat' (first
    | refine fun (s : State) (hs : Framed P s₀ s) => ?_ | refine fun (_ : _) (s : State) (hs : Framed P s₀ s) => ?_
    | refine fun (_ : _) (_ : _) (s : State) (hs : Framed P s₀ s) => ?_
    | ((try lift_lets -underBinder); intro x; refine letS (P := P) (s₀ := s₀) (x := x) ?_ (fun _ => ?_); unfold x; rotate_left; clear_value x)
    | ((try lift_lets -underBinder); intro x; clear_value x) | with_reducible assumption | with_reducible apply id_framed
    | split | with_reducible apply FramedO_next | with_reducible apply State.onLane_framed
    | with_reducible apply State.setSticky_framed | with_reducible apply State.residueError_framed
    | with_reducible apply State.slot_framed | exact maskIn_trans hP rfl | dsimp -zeta only)

theorem execDep_framed {P : Nat} {s₀ : State} (p : LaneAt) (a : BitVec 2) (rs sh : BitVec 6) (s : State) (hI : Framed P s₀
    s) (hP : maskIn 0x1c008c00c1 P) : FramedO P s₀ (execDep p a rs sh s) := by
  unfold execDep
  repeat' (first
    | refine fun (s : State) (hs : Framed P s₀ s) => ?_ | refine fun (_ : _) (s : State) (hs : Framed P s₀ s) => ?_
    | refine fun (_ : _) (_ : _) (s : State) (hs : Framed P s₀ s) => ?_
    | ((try lift_lets -underBinder); intro x; refine letS (P := P) (s₀ := s₀) (x := x) ?_ (fun _ => ?_); unfold x; rotate_left; clear_value x)
    | ((try lift_lets -underBinder); intro x; clear_value x) | with_reducible assumption | with_reducible apply id_framed
    | with_reducible apply FramedO_next | with_reducible apply State.setAcc_framed | with_reducible apply State.onLane_framed
    | with_reducible apply State.slot_framed | exact maskIn_trans hP rfl | dsimp -zeta only)

theorem execAadd_framed {P : Nat} {s₀ : State} (p : LaneAt) (t u : BitVec 2) (neg : Bool) (c : MacBits) (s : State) (hI :
    Framed P s₀ s) (hP : maskIn 0x1c04ae00c1 P) : FramedO P s₀ (execAadd p t u neg c s) := by
  unfold execAadd
  repeat' (first
    | refine fun (s : State) (hs : Framed P s₀ s) => ?_ | refine fun (_ : _) (s : State) (hs : Framed P s₀ s) => ?_
    | refine fun (_ : _) (_ : _) (s : State) (hs : Framed P s₀ s) => ?_
    | ((try lift_lets -underBinder); intro x; refine letS (P := P) (s₀ := s₀) (x := x) ?_ (fun _ => ?_); unfold x; rotate_left; clear_value x)
    | ((try lift_lets -underBinder); intro x; clear_value x) | with_reducible assumption | with_reducible apply id_framed
    | split | with_reducible apply FramedO_next | with_reducible apply State.slot_framed
    | with_reducible apply State.macOp_framed | exact maskIn_trans hP rfl | dsimp -zeta only)

theorem execClr_framed {P : Nat} {s₀ : State} (p : LaneAt) (mask : BitVec 4) (s : State) (hI : Framed P s₀ s) (hP : maskIn
    0x1c008c00c1 P) : FramedO P s₀ (execClr p mask s) := by
  unfold execClr
  repeat' (first
    | refine fun (s : State) (hs : Framed P s₀ s) => ?_ | refine fun (_ : _) (s : State) (hs : Framed P s₀ s) => ?_
    | refine fun (_ : _) (_ : _) (s : State) (hs : Framed P s₀ s) => ?_ | with_reducible assumption
    | with_reducible apply id_framed | split | with_reducible refine forN_framed ?_ (fun _ _ _ => ?_)
    | with_reducible apply FramedO_next | with_reducible apply State.setAcc_framed | with_reducible apply State.slot_framed
    | exact maskIn_trans hP rfl | dsimp -zeta only)

theorem State.aluOp_framed {P : Nat} {s₀ : State} (s : State) (p : LaneAt) (o : Alu) (k : AluKind) (f : Word32 → Word32 →
    Word32 × Bool) (hI : Framed P s₀ s) (hP : maskIn 0x1c008c00c1 P) : FramedO P s₀ (State.aluOp s p o k f) := by
  unfold State.aluOp
  repeat' (first
    | refine fun (s : State) (hs : Framed P s₀ s) => ?_ | refine fun (_ : _) (s : State) (hs : Framed P s₀ s) => ?_
    | refine fun (_ : _) (_ : _) (s : State) (hs : Framed P s₀ s) => ?_
    | ((try lift_lets -underBinder); intro x; refine letS (P := P) (s₀ := s₀) (x := x) ?_ (fun _ => ?_); unfold x; rotate_left; clear_value x)
    | ((try lift_lets -underBinder); intro x; clear_value x) | with_reducible assumption | with_reducible apply id_framed
    | split | with_reducible refine foldl_framed ?_ (fun _ _ _ => ?_) | with_reducible apply FramedO_next
    | with_reducible apply State.onLane_framed | with_reducible apply State.setSticky_framed
    | with_reducible apply State.slot_framed | exact maskIn_trans hP rfl | dsimp -zeta only)

theorem execAnop_framed {P : Nat} {s₀ : State} (p : LaneAt) (s : State) (hI : Framed P s₀ s) (hP : maskIn 0x1c008c00c1 P)
    : FramedO P s₀ (execAnop p s) := by
  unfold execAnop
  repeat' (first
    | refine fun (s : State) (hs : Framed P s₀ s) => ?_ | refine fun (_ : _) (s : State) (hs : Framed P s₀ s) => ?_
    | refine fun (_ : _) (_ : _) (s : State) (hs : Framed P s₀ s) => ?_ | with_reducible assumption
    | with_reducible apply id_framed | with_reducible apply FramedO_next | with_reducible apply State.slot_framed
    | exact maskIn_trans hP rfl | dsimp -zeta only)

theorem execMnop_framed {P : Nat} {s₀ : State} (p : LaneAt) (s : State) (hI : Framed P s₀ s) (hP : maskIn 0x1c008c00c1 P)
    : FramedO P s₀ (execMnop p s) := by
  unfold execMnop
  repeat' (first
    | refine fun (s : State) (hs : Framed P s₀ s) => ?_ | refine fun (_ : _) (s : State) (hs : Framed P s₀ s) => ?_
    | refine fun (_ : _) (_ : _) (s : State) (hs : Framed P s₀ s) => ?_ | with_reducible assumption
    | with_reducible apply id_framed | with_reducible apply FramedO_next | with_reducible apply State.slot_framed
    | exact maskIn_trans hP rfl | dsimp -zeta only)

theorem execAdd_framed {P : Nat} {s₀ : State} (p : LaneAt) (o : Alu) (s : State) (hI : Framed P s₀ s) (hP : maskIn
    0x1c008c00c1 P) : FramedO P s₀ (execAdd p o s) := by
  unfold execAdd
  repeat' (first
    | with_reducible assumption | with_reducible apply FramedO_next | with_reducible apply State.aluOp_framed
    | exact maskIn_trans hP rfl | dsimp -zeta only)

theorem execSub_framed {P : Nat} {s₀ : State} (p : LaneAt) (o : Alu) (s : State) (hI : Framed P s₀ s) (hP : maskIn
    0x1c008c00c1 P) : FramedO P s₀ (execSub p o s) := by
  unfold execSub
  repeat' (first
    | with_reducible assumption | with_reducible apply FramedO_next | with_reducible apply State.aluOp_framed
    | exact maskIn_trans hP rfl | dsimp -zeta only)

theorem execNeg_framed {P : Nat} {s₀ : State} (p : LaneAt) (o : Alu) (s : State) (hI : Framed P s₀ s) (hP : maskIn
    0x1c008c00c1 P) : FramedO P s₀ (execNeg p o s) := by
  unfold execNeg
  repeat' (first
    | with_reducible assumption | with_reducible apply FramedO_next | with_reducible apply State.aluOp_framed
    | exact maskIn_trans hP rfl | dsimp -zeta only)

theorem execAbs_framed {P : Nat} {s₀ : State} (p : LaneAt) (o : Alu) (s : State) (hI : Framed P s₀ s) (hP : maskIn
    0x1c008c00c1 P) : FramedO P s₀ (execAbs p o s) := by
  unfold execAbs
  repeat' (first
    | with_reducible assumption | with_reducible apply FramedO_next | with_reducible apply State.aluOp_framed
    | exact maskIn_trans hP rfl | dsimp -zeta only)

theorem execMov_framed {P : Nat} {s₀ : State} (p : LaneAt) (o : Alu) (s : State) (hI : Framed P s₀ s) (hP : maskIn
    0x1c008c00c1 P) : FramedO P s₀ (execMov p o s) := by
  unfold execMov
  repeat' (first
    | with_reducible assumption | with_reducible apply FramedO_next | with_reducible apply State.aluOp_framed
    | exact maskIn_trans hP rfl | dsimp -zeta only)

theorem execAnd_framed {P : Nat} {s₀ : State} (p : LaneAt) (o : Alu) (s : State) (hI : Framed P s₀ s) (hP : maskIn
    0x1c008c00c1 P) : FramedO P s₀ (execAnd p o s) := by
  unfold execAnd
  repeat' (first
    | with_reducible assumption | with_reducible apply FramedO_next | with_reducible apply State.aluOp_framed
    | exact maskIn_trans hP rfl | dsimp -zeta only)

theorem execOr_framed {P : Nat} {s₀ : State} (p : LaneAt) (o : Alu) (s : State) (hI : Framed P s₀ s) (hP : maskIn
    0x1c008c00c1 P) : FramedO P s₀ (execOr p o s) := by
  unfold execOr
  repeat' (first
    | with_reducible assumption | with_reducible apply FramedO_next | with_reducible apply State.aluOp_framed
    | exact maskIn_trans hP rfl | dsimp -zeta only)

theorem execXor_framed {P : Nat} {s₀ : State} (p : LaneAt) (o : Alu) (s : State) (hI : Framed P s₀ s) (hP : maskIn
    0x1c008c00c1 P) : FramedO P s₀ (execXor p o s) := by
  unfold execXor
  repeat' (first
    | with_reducible assumption | with_reducible apply FramedO_next | with_reducible apply State.aluOp_framed
    | exact maskIn_trans hP rfl | dsimp -zeta only)

theorem execNot_framed {P : Nat} {s₀ : State} (p : LaneAt) (o : Alu) (s : State) (hI : Framed P s₀ s) (hP : maskIn
    0x1c008c00c1 P) : FramedO P s₀ (execNot p o s) := by
  unfold execNot
  repeat' (first
    | with_reducible assumption | with_reducible apply FramedO_next | with_reducible apply State.aluOp_framed
    | exact maskIn_trans hP rfl | dsimp -zeta only)

theorem execAsl_framed {P : Nat} {s₀ : State} (p : LaneAt) (o : Alu) (s : State) (hI : Framed P s₀ s) (hP : maskIn
    0x1c008c00c1 P) : FramedO P s₀ (execAsl p o s) := by
  unfold execAsl
  repeat' (first
    | with_reducible assumption | with_reducible apply FramedO_next | with_reducible apply State.aluOp_framed
    | exact maskIn_trans hP rfl | dsimp -zeta only)

theorem execAsr_framed {P : Nat} {s₀ : State} (p : LaneAt) (o : Alu) (s : State) (hI : Framed P s₀ s) (hP : maskIn
    0x1c008c00c1 P) : FramedO P s₀ (execAsr p o s) := by
  unfold execAsr
  repeat' (first
    | with_reducible assumption | with_reducible apply FramedO_next | with_reducible apply State.aluOp_framed
    | exact maskIn_trans hP rfl | dsimp -zeta only)

theorem execLsl_framed {P : Nat} {s₀ : State} (p : LaneAt) (o : Alu) (s : State) (hI : Framed P s₀ s) (hP : maskIn
    0x1c008c00c1 P) : FramedO P s₀ (execLsl p o s) := by
  unfold execLsl
  repeat' (first
    | with_reducible assumption | with_reducible apply FramedO_next | with_reducible apply State.aluOp_framed
    | exact maskIn_trans hP rfl | dsimp -zeta only)

theorem execLsr_framed {P : Nat} {s₀ : State} (p : LaneAt) (o : Alu) (s : State) (hI : Framed P s₀ s) (hP : maskIn
    0x1c008c00c1 P) : FramedO P s₀ (execLsr p o s) := by
  unfold execLsr
  repeat' (first
    | with_reducible assumption | with_reducible apply FramedO_next | with_reducible apply State.aluOp_framed
    | exact maskIn_trans hP rfl | dsimp -zeta only)

theorem execAsli_framed {P : Nat} {s₀ : State} (p : LaneAt) (o : Alu) (s : State) (hI : Framed P s₀ s) (hP : maskIn
    0x1c008c00c1 P) : FramedO P s₀ (execAsli p o s) := by
  unfold execAsli
  repeat' (first
    | with_reducible assumption | with_reducible apply FramedO_next | with_reducible apply State.aluOp_framed
    | exact maskIn_trans hP rfl | dsimp -zeta only)

theorem execAsri_framed {P : Nat} {s₀ : State} (p : LaneAt) (o : Alu) (s : State) (hI : Framed P s₀ s) (hP : maskIn
    0x1c008c00c1 P) : FramedO P s₀ (execAsri p o s) := by
  unfold execAsri
  repeat' (first
    | with_reducible assumption | with_reducible apply FramedO_next | with_reducible apply State.aluOp_framed
    | exact maskIn_trans hP rfl | dsimp -zeta only)

theorem execLsli_framed {P : Nat} {s₀ : State} (p : LaneAt) (o : Alu) (s : State) (hI : Framed P s₀ s) (hP : maskIn
    0x1c008c00c1 P) : FramedO P s₀ (execLsli p o s) := by
  unfold execLsli
  repeat' (first
    | with_reducible assumption | with_reducible apply FramedO_next | with_reducible apply State.aluOp_framed
    | exact maskIn_trans hP rfl | dsimp -zeta only)

theorem execLsri_framed {P : Nat} {s₀ : State} (p : LaneAt) (o : Alu) (s : State) (hI : Framed P s₀ s) (hP : maskIn
    0x1c008c00c1 P) : FramedO P s₀ (execLsri p o s) := by
  unfold execLsri
  repeat' (first
    | with_reducible assumption | with_reducible apply FramedO_next | with_reducible apply State.aluOp_framed
    | exact maskIn_trans hP rfl | dsimp -zeta only)

theorem execMin_framed {P : Nat} {s₀ : State} (p : LaneAt) (o : Alu) (s : State) (hI : Framed P s₀ s) (hP : maskIn
    0x1c008c00c1 P) : FramedO P s₀ (execMin p o s) := by
  unfold execMin
  repeat' (first
    | with_reducible assumption | split | with_reducible apply FramedO_next | with_reducible apply State.aluOp_framed
    | exact maskIn_trans hP rfl | dsimp -zeta only)

theorem execMax_framed {P : Nat} {s₀ : State} (p : LaneAt) (o : Alu) (s : State) (hI : Framed P s₀ s) (hP : maskIn
    0x1c008c00c1 P) : FramedO P s₀ (execMax p o s) := by
  unfold execMax
  repeat' (first
    | with_reducible assumption | split | with_reducible apply FramedO_next | with_reducible apply State.aluOp_framed
    | exact maskIn_trans hP rfl | dsimp -zeta only)

theorem execCmp_framed {P : Nat} {s₀ : State} (p : LaneAt) (o : Alu) (s : State) (hI : Framed P s₀ s) (hP : maskIn
    0x1c008c00c1 P) : FramedO P s₀ (execCmp p o s) := by
  unfold execCmp
  repeat' (first
    | with_reducible exact Or.inl rfl | exact Or.inr (bit_of hP rfl) | refine fun (s : State) (hs : Framed P s₀ s) => ?_
    | refine fun (_ : _) (s : State) (hs : Framed P s₀ s) => ?_
    | refine fun (_ : _) (_ : _) (s : State) (hs : Framed P s₀ s) => ?_
    | ((try lift_lets -underBinder); intro x; refine letS (P := P) (s₀ := s₀) (x := x) ?_ (fun _ => ?_); unfold x; rotate_left; clear_value x)
    | ((try lift_lets -underBinder); intro x; clear_value x) | with_reducible assumption | with_reducible apply id_framed
    | split | with_reducible refine foldl_framed ?_ (fun _ _ _ => ?_) | with_reducible apply FramedO_next
    | with_reducible apply State.onLane_framed | with_reducible apply State.slot_framed | exact maskIn_trans hP rfl
    | dsimp -zeta only | with_reducible apply Framed.mk_of)

theorem execSeta_framed {P : Nat} {s₀ : State} (p : LaneAt) (o : Alu) (s : State) (hI : Framed P s₀ s) (hP : maskIn
    0x1c008c00c1 P) : FramedO P s₀ (execSeta p o s) := by
  unfold execSeta
  repeat' (first
    | refine fun (s : State) (hs : Framed P s₀ s) => ?_ | refine fun (_ : _) (s : State) (hs : Framed P s₀ s) => ?_
    | refine fun (_ : _) (_ : _) (s : State) (hs : Framed P s₀ s) => ?_
    | ((try lift_lets -underBinder); intro x; refine letS (P := P) (s₀ := s₀) (x := x) ?_ (fun _ => ?_); unfold x; rotate_left; clear_value x)
    | ((try lift_lets -underBinder); intro x; clear_value x) | with_reducible assumption | with_reducible apply id_framed
    | split | with_reducible apply FramedO_next | with_reducible apply State.onLane_framed
    | with_reducible apply State.slot_framed | exact maskIn_trans hP rfl | dsimp -zeta only)

theorem execGeta_framed {P : Nat} {s₀ : State} (p : LaneAt) (o : Alu) (s : State) (hI : Framed P s₀ s) (hP : maskIn
    0x1c008c00c1 P) : FramedO P s₀ (execGeta p o s) := by
  unfold execGeta
  repeat' (first
    | refine fun (s : State) (hs : Framed P s₀ s) => ?_ | refine fun (_ : _) (s : State) (hs : Framed P s₀ s) => ?_
    | refine fun (_ : _) (_ : _) (s : State) (hs : Framed P s₀ s) => ?_
    | ((try lift_lets -underBinder); intro x; refine letS (P := P) (s₀ := s₀) (x := x) ?_ (fun _ => ?_); unfold x; rotate_left; clear_value x)
    | ((try lift_lets -underBinder); intro x; clear_value x) | with_reducible assumption | with_reducible apply id_framed
    | split | with_reducible apply FramedO_next | with_reducible apply State.onLane_framed
    | with_reducible apply State.slot_framed | exact maskIn_trans hP rfl | dsimp -zeta only)

theorem State.slotRead_framed {P : Nat} {s₀ : State} (s : State) (p : LaneAt) (y : Bool) (ar md : Nat) (ecc : Ecc) (k :
    Word32 → Nat → State → State) (hI : Framed P s₀ s) (hf : ∀ a0 a1 s, Framed P s₀ s → Framed P s₀ (k a0 a1 s)) (hP : maskIn
    0x1d04ae00c1 P) : Framed P s₀ (State.slotRead s p y ar md ecc k) := by
  unfold State.slotRead
  repeat' (first
    | with_reducible exact Or.inl rfl | exact Or.inr (bit_of hP rfl)
    | ((try lift_lets -underBinder); intro x; refine letS (P := P) (s₀ := s₀) (x := x) ?_ (fun _ => ?_); unfold x; rotate_left; clear_value x)
    | ((try lift_lets -underBinder); intro x; clear_value x) | with_reducible assumption | split
    | with_reducible apply State.eccRead_framed | with_reducible apply State.onLane_framed
    | with_reducible apply State.flushStores_framed | with_reducible apply State.laneEcc_framed | with_reducible apply hf
    | exact maskIn_trans hP rfl | dsimp -zeta only | with_reducible apply Framed.mk_of)

theorem execLd_framed {P : Nat} {s₀ : State} (p : LaneAt) (o : MemSlot) (ecc : Ecc) (s : State) (hI : Framed P s₀ s) (hP :
    maskIn 0x1d04ae00c1 P) : FramedO P s₀ (execLd p o ecc s) := by
  unfold execLd
  repeat' (first
    | refine fun (s : State) (hs : Framed P s₀ s) => ?_ | refine fun (_ : _) (s : State) (hs : Framed P s₀ s) => ?_
    | refine fun (_ : _) (_ : _) (s : State) (hs : Framed P s₀ s) => ?_ | with_reducible assumption
    | with_reducible apply id_framed | with_reducible apply FramedO_next | with_reducible apply State.onLane_framed
    | with_reducible apply State.slot_framed | with_reducible apply State.slotRead_framed | exact maskIn_trans hP rfl
    | dsimp -zeta only)

theorem execTap_framed {P : Nat} {s₀ : State} (p : LaneAt) (o : MemSlot) (ecc : Ecc) (s : State) (hI : Framed P s₀ s) (hP
    : maskIn 0x1d04ae00c1 P) : FramedO P s₀ (execTap p o ecc s) := by
  unfold execTap
  repeat' (first
    | refine fun (s : State) (hs : Framed P s₀ s) => ?_ | refine fun (_ : _) (s : State) (hs : Framed P s₀ s) => ?_
    | refine fun (_ : _) (_ : _) (s : State) (hs : Framed P s₀ s) => ?_
    | ((try lift_lets -underBinder); intro x; refine letS (P := P) (s₀ := s₀) (x := x) ?_ (fun _ => ?_); unfold x; rotate_left; clear_value x)
    | ((try lift_lets -underBinder); intro x; clear_value x) | with_reducible assumption | with_reducible apply id_framed
    | with_reducible apply FramedO_next | with_reducible apply State.onLane_framed
    | with_reducible apply State.issueStore_framed | with_reducible apply State.slot_framed
    | with_reducible apply State.slotRead_framed | exact maskIn_trans hP rfl | dsimp -zeta only)

theorem execSt_framed {P : Nat} {s₀ : State} (p : LaneAt) (o : MemSlot) (s : State) (hI : Framed P s₀ s) (hP : maskIn
    0x1c008c00c1 P) : FramedO P s₀ (execSt p o s) := by
  unfold execSt
  repeat' (first
    | refine fun (s : State) (hs : Framed P s₀ s) => ?_ | refine fun (_ : _) (s : State) (hs : Framed P s₀ s) => ?_
    | refine fun (_ : _) (_ : _) (s : State) (hs : Framed P s₀ s) => ?_
    | ((try lift_lets -underBinder); intro x; refine letS (P := P) (s₀ := s₀) (x := x) ?_ (fun _ => ?_); unfold x; rotate_left; clear_value x)
    | ((try lift_lets -underBinder); intro x; clear_value x) | with_reducible assumption | with_reducible apply id_framed
    | with_reducible apply FramedO_next | with_reducible apply State.onLane_framed
    | with_reducible apply State.issueStore_framed | with_reducible apply State.slot_framed | exact maskIn_trans hP rfl
    | dsimp -zeta only)

theorem execSacc_framed {P : Nat} {s₀ : State} (p : LaneAt) (o : SpillSlot) (flt : Bool) (s : State) (hI : Framed P s₀ s)
    (hP : maskIn 0x1c04ae00c1 P) : FramedO P s₀ (execSacc p o flt s) := by
  unfold execSacc
  repeat' (first
    | refine fun (s : State) (hs : Framed P s₀ s) => ?_ | refine fun (_ : _) (s : State) (hs : Framed P s₀ s) => ?_
    | refine fun (_ : _) (_ : _) (s : State) (hs : Framed P s₀ s) => ?_
    | ((try lift_lets -underBinder); intro x; refine letS (P := P) (s₀ := s₀) (x := x) ?_ (fun _ => ?_); unfold x; rotate_left; clear_value x)
    | ((try lift_lets -underBinder); intro x; clear_value x) | with_reducible assumption | with_reducible apply id_framed
    | split | with_reducible apply FramedO_next | with_reducible apply State.onLane_framed
    | with_reducible apply State.issueStore_framed | with_reducible apply State.residueError_framed
    | with_reducible apply State.slot_framed | exact maskIn_trans hP rfl | dsimp -zeta only)

theorem execLacc_framed {P : Nat} {s₀ : State} (p : LaneAt) (o : SpillSlot) (ecc : Ecc) (s : State) (hI : Framed P s₀ s)
    (hP : maskIn 0x1d04ae00c1 P) : FramedO P s₀ (execLacc p o ecc s) := by
  unfold execLacc
  repeat' (first
    | with_reducible exact Or.inl rfl | exact Or.inr (bit_of hP rfl) | refine fun (s : State) (hs : Framed P s₀ s) => ?_
    | refine fun (_ : _) (s : State) (hs : Framed P s₀ s) => ?_
    | refine fun (_ : _) (_ : _) (s : State) (hs : Framed P s₀ s) => ?_
    | ((try lift_lets -underBinder); intro x; refine letS (P := P) (s₀ := s₀) (x := x) ?_ (fun _ => ?_); unfold x; rotate_left; clear_value x)
    | ((try lift_lets -underBinder); intro x; clear_value x) | with_reducible assumption | with_reducible apply id_framed
    | split | with_reducible apply FramedO_next | with_reducible apply State.onLane_framed
    | with_reducible apply State.slot_framed | with_reducible apply State.slotRead_framed | exact maskIn_trans hP rfl
    | dsimp -zeta only | with_reducible apply Framed.mk_of)

theorem State.goTo_framed {P : Nat} {s₀ : State} (s : State) (n m : Nat) (t : Int) (hI : Framed P s₀ s) (hP : maskIn
    0x1c008c00c1 P) : Framed P s₀ (State.goTo s n m t) := by
  unfold State.goTo
  repeat' (first
    | with_reducible exact Or.inl rfl | exact Or.inr (bit_of hP rfl) | with_reducible assumption | split
    | with_reducible apply State.onLane_framed | with_reducible apply State.laneIllegal_framed | exact maskIn_trans hP rfl
    | dsimp -zeta only | with_reducible apply Framed.mk_of)

theorem State.branch_framed {P : Nat} {s₀ : State} (s : State) (p : LaneAt) (off : BitVec 8) (wait : Lane → Lane) (c :
    State → Lane → Bool) (hI : Framed P s₀ s) (hP : maskIn 0x1c008c00c1 P) : FramedO P s₀ (State.branch s p off wait c) := by
  unfold State.branch
  repeat' (first
    | refine fun (s : State) (hs : Framed P s₀ s) => ?_ | refine fun (_ : _) (s : State) (hs : Framed P s₀ s) => ?_
    | refine fun (_ : _) (_ : _) (s : State) (hs : Framed P s₀ s) => ?_
    | ((try lift_lets -underBinder); intro x; refine letS (P := P) (s₀ := s₀) (x := x) ?_ (fun _ => ?_); unfold x; rotate_left; clear_value x)
    | ((try lift_lets -underBinder); intro x; clear_value x) | with_reducible assumption | with_reducible apply id_framed
    | split | with_reducible apply FramedO_next | with_reducible apply State.onLane_framed
    | with_reducible apply State.slot_framed | with_reducible apply State.goTo_framed | exact maskIn_trans hP rfl
    | dsimp -zeta only)

theorem execBra_framed {P : Nat} {s₀ : State} (p : LaneAt) (off : BitVec 8) (s : State) (hI : Framed P s₀ s) (hP : maskIn
    0x1c008c00c1 P) : FramedO P s₀ (execBra p off s) := by
  unfold execBra
  repeat' (first
    | with_reducible assumption | with_reducible apply id_framed | with_reducible apply FramedO_next
    | with_reducible apply State.branch_framed | exact maskIn_trans hP rfl | dsimp -zeta only)

theorem execBeq_framed {P : Nat} {s₀ : State} (p : LaneAt) (off : BitVec 8) (s : State) (hI : Framed P s₀ s) (hP : maskIn
    0x1c008c00c1 P) : FramedO P s₀ (execBeq p off s) := by
  unfold execBeq
  repeat' (first
    | with_reducible assumption | with_reducible apply FramedO_next | with_reducible apply State.branch_framed
    | exact maskIn_trans hP rfl | dsimp -zeta only)

theorem execBne_framed {P : Nat} {s₀ : State} (p : LaneAt) (off : BitVec 8) (s : State) (hI : Framed P s₀ s) (hP : maskIn
    0x1c008c00c1 P) : FramedO P s₀ (execBne p off s) := by
  unfold execBne
  repeat' (first
    | with_reducible assumption | with_reducible apply FramedO_next | with_reducible apply State.branch_framed
    | exact maskIn_trans hP rfl | dsimp -zeta only)

theorem execBlt_framed {P : Nat} {s₀ : State} (p : LaneAt) (off : BitVec 8) (s : State) (hI : Framed P s₀ s) (hP : maskIn
    0x1c008c00c1 P) : FramedO P s₀ (execBlt p off s) := by
  unfold execBlt
  repeat' (first
    | with_reducible assumption | with_reducible apply FramedO_next | with_reducible apply State.branch_framed
    | exact maskIn_trans hP rfl | dsimp -zeta only)

theorem execBge_framed {P : Nat} {s₀ : State} (p : LaneAt) (off : BitVec 8) (s : State) (hI : Framed P s₀ s) (hP : maskIn
    0x1c008c00c1 P) : FramedO P s₀ (execBge p off s) := by
  unfold execBge
  repeat' (first
    | with_reducible assumption | with_reducible apply FramedO_next | with_reducible apply State.branch_framed
    | exact maskIn_trans hP rfl | dsimp -zeta only)

theorem execBfl_framed {P : Nat} {s₀ : State} (p : LaneAt) (off : BitVec 8) (s : State) (hI : Framed P s₀ s) (hP : maskIn
    0x1c008c00c1 P) : FramedO P s₀ (execBfl p off s) := by
  unfold execBfl
  repeat' (first
    | with_reducible assumption | split | with_reducible apply FramedO_next | with_reducible apply State.branch_framed
    | exact maskIn_trans hP rfl | dsimp -zeta only)

theorem execRotw_framed {P : Nat} {s₀ : State} (p : LaneAt) (s : State) (hI : Framed P s₀ s) (hP : maskIn 0x1c008c00c1 P)
    : FramedO P s₀ (execRotw p s) := by
  unfold execRotw
  repeat' (first
    | refine fun (s : State) (hs : Framed P s₀ s) => ?_ | refine fun (_ : _) (s : State) (hs : Framed P s₀ s) => ?_
    | refine fun (_ : _) (_ : _) (s : State) (hs : Framed P s₀ s) => ?_ | with_reducible assumption
    | with_reducible apply id_framed | with_reducible apply FramedO_next | with_reducible apply State.onLane_framed
    | with_reducible apply State.slot_framed | exact maskIn_trans hP rfl | dsimp -zeta only)

theorem execEnd_framed {P : Nat} {s₀ : State} (p : LaneAt) (s : State) (hI : Framed P s₀ s) (hP : maskIn 0x1c008c00c1 P) :
    FramedO P s₀ (execEnd p s) := by
  unfold execEnd
  repeat' (first
    | with_reducible exact Or.inl rfl | exact Or.inr (bit_of hP rfl) | refine fun (s : State) (hs : Framed P s₀ s) => ?_
    | refine fun (_ : _) (s : State) (hs : Framed P s₀ s) => ?_
    | refine fun (_ : _) (_ : _) (s : State) (hs : Framed P s₀ s) => ?_ | with_reducible assumption
    | with_reducible apply id_framed | with_reducible apply FramedO_next | with_reducible apply State.onLane_framed
    | with_reducible apply State.slot_framed | exact maskIn_trans hP rfl | dsimp -zeta only
    | with_reducible apply Framed.mk_of)

theorem execLdi_framed {P : Nat} {s₀ : State} (p : LaneAt) (rd : BitVec 6) (imm : BitVec 32) (s : State) (hI : Framed P s₀
    s) (hP : maskIn 0x1c008c00c1 P) : FramedO P s₀ (execLdi p rd imm s) := by
  unfold execLdi
  repeat' (first
    | refine fun (s : State) (hs : Framed P s₀ s) => ?_ | refine fun (_ : _) (s : State) (hs : Framed P s₀ s) => ?_
    | refine fun (_ : _) (_ : _) (s : State) (hs : Framed P s₀ s) => ?_ | with_reducible assumption
    | with_reducible apply id_framed | with_reducible apply FramedO_next | with_reducible apply State.onLane_framed
    | with_reducible apply State.slot_framed | exact maskIn_trans hP rfl | dsimp -zeta only)

theorem execSetag_framed {P : Nat} {s₀ : State} (p : LaneAt) (name : BitVec 6) (imm : BitVec 32) (s : State) (hI : Framed
    P s₀ s) (hP : maskIn 0x1c008c00c1 P) : FramedO P s₀ (execSetag p name imm s) := by
  unfold execSetag
  repeat' (first
    | refine fun (s : State) (hs : Framed P s₀ s) => ?_ | refine fun (_ : _) (s : State) (hs : Framed P s₀ s) => ?_
    | refine fun (_ : _) (_ : _) (s : State) (hs : Framed P s₀ s) => ?_ | with_reducible assumption
    | with_reducible apply id_framed | with_reducible apply FramedO_next | with_reducible apply State.onLane_framed
    | with_reducible apply State.slot_framed | exact maskIn_trans hP rfl | dsimp -zeta only)

theorem State.startLoop_framed {P : Nat} {s₀ : State} (s : State) (p : LaneAt) (count len : Nat) (rot : Bool) (hI : Framed
    P s₀ s) (hP : maskIn 0x1c008c00c1 P) : Framed P s₀ (State.startLoop s p count len rot) := by
  unfold State.startLoop
  repeat' (first
    | with_reducible exact Or.inl rfl | exact Or.inr (bit_of hP rfl)
    | ((try lift_lets -underBinder); intro x; refine letS (P := P) (s₀ := s₀) (x := x) ?_ (fun _ => ?_); unfold x; rotate_left; clear_value x)
    | ((try lift_lets -underBinder); intro x; clear_value x) | with_reducible assumption | split
    | with_reducible apply State.onLane_framed | with_reducible apply State.laneIllegal_framed | exact maskIn_trans hP rfl
    | dsimp -zeta only | with_reducible apply Framed.mk_of)

theorem execLoop_framed {P : Nat} {s₀ : State} (p : LaneAt) (count : BitVec 16) (len : BitVec 8) (rot : Bool) (s : State)
    (hI : Framed P s₀ s) (hP : maskIn 0x1c008c00c1 P) : FramedO P s₀ (execLoop p count len rot s) := by
  unfold execLoop
  repeat' (first
    | refine fun (s : State) (hs : Framed P s₀ s) => ?_ | refine fun (_ : _) (s : State) (hs : Framed P s₀ s) => ?_
    | refine fun (_ : _) (_ : _) (s : State) (hs : Framed P s₀ s) => ?_ | with_reducible assumption
    | with_reducible apply id_framed | with_reducible apply FramedO_next | with_reducible apply State.slot_framed
    | with_reducible apply State.startLoop_framed | exact maskIn_trans hP rfl | dsimp -zeta only)

theorem execLoopr_framed {P : Nat} {s₀ : State} (p : LaneAt) (rs : BitVec 6) (len : BitVec 8) (rot : Bool) (s : State) (hI
    : Framed P s₀ s) (hP : maskIn 0x1c008c00c1 P) : FramedO P s₀ (execLoopr p rs len rot s) := by
  unfold execLoopr
  repeat' (first
    | refine fun (s : State) (hs : Framed P s₀ s) => ?_ | refine fun (_ : _) (s : State) (hs : Framed P s₀ s) => ?_
    | refine fun (_ : _) (_ : _) (s : State) (hs : Framed P s₀ s) => ?_
    | ((try lift_lets -underBinder); intro x; refine letS (P := P) (s₀ := s₀) (x := x) ?_ (fun _ => ?_); unfold x; rotate_left; clear_value x)
    | ((try lift_lets -underBinder); intro x; clear_value x) | with_reducible assumption | with_reducible apply id_framed
    | with_reducible apply FramedO_next | with_reducible apply State.onLane_framed | with_reducible apply State.slot_framed
    | with_reducible apply State.startLoop_framed | exact maskIn_trans hP rfl | dsimp -zeta only)

theorem execJmp_framed {P : Nat} {s₀ : State} (p : LaneAt) (target : BitVec 13) (s : State) (hI : Framed P s₀ s) (hP :
    maskIn 0x1c008c00c1 P) : FramedO P s₀ (execJmp p target s) := by
  unfold execJmp
  repeat' (first
    | refine fun (s : State) (hs : Framed P s₀ s) => ?_ | refine fun (_ : _) (s : State) (hs : Framed P s₀ s) => ?_
    | refine fun (_ : _) (_ : _) (s : State) (hs : Framed P s₀ s) => ?_ | with_reducible assumption
    | with_reducible apply id_framed | with_reducible apply FramedO_next | with_reducible apply State.slot_framed
    | with_reducible apply State.goTo_framed | exact maskIn_trans hP rfl | dsimp -zeta only)

theorem execLoopReturn_framed {P : Nat} {s₀ : State} (site lane : Nat) (s : State) (hI : Framed P s₀ s) (hP : maskIn 0x40
    P) : FramedO P s₀ (execLoopReturn site lane s) := by
  unfold execLoopReturn
  repeat' (first
    | with_reducible exact Or.inl rfl | exact Or.inr (bit_of hP rfl) | refine fun (s : State) (hs : Framed P s₀ s) => ?_
    | refine fun (_ : _) (s : State) (hs : Framed P s₀ s) => ?_
    | refine fun (_ : _) (_ : _) (s : State) (hs : Framed P s₀ s) => ?_
    | ((try lift_lets -underBinder); intro x; refine letS (P := P) (s₀ := s₀) (x := x) ?_ (fun _ => ?_); unfold x; rotate_left; clear_value x)
    | ((try lift_lets -underBinder); intro x; clear_value x) | with_reducible assumption | with_reducible apply id_framed
    | split | with_reducible apply when_framed | with_reducible apply FramedO_next | with_reducible apply State.onLane_framed
    | exact maskIn_trans hP rfl | dsimp -zeta only | with_reducible apply Framed.mk_of)

theorem execResInj_framed {P : Nat} {s₀ : State} (src : ReqSrc) (site lane : Nat) (s : State) (hI : Framed P s₀ s) (hP :
    maskIn 0x40 P) : FramedO P s₀ (execResInj src site lane s) := by
  unfold execResInj
  repeat' (first
    | with_reducible exact Or.inl rfl | exact Or.inr (bit_of hP rfl) | refine fun (s : State) (hs : Framed P s₀ s) => ?_
    | refine fun (_ : _) (s : State) (hs : Framed P s₀ s) => ?_
    | refine fun (_ : _) (_ : _) (s : State) (hs : Framed P s₀ s) => ?_
    | ((try lift_lets -underBinder); intro x; refine letS (P := P) (s₀ := s₀) (x := x) ?_ (fun _ => ?_); unfold x; rotate_left; clear_value x)
    | ((try lift_lets -underBinder); intro x; clear_value x) | with_reducible assumption | with_reducible apply id_framed
    | split | with_reducible apply when_framed | with_reducible apply FramedO_next | dsimp -zeta only
    | with_reducible apply Framed.mk_of)

end Sys2Proof.Machine
end

