-- ==== Sys2Proof/Laws/PerInstr.lean ====
section
/-! SUPPORT. One lemma per command for the family Blocks: the register blocks that the frame of a command names are blocks of
the register map. -/

namespace Sys2Proof.Laws.Blocks

open Sys2Proof Sys2Proof.Machine

/-- A register block that a part names is one of the map: 1 to 16, or 18, the standby domain. -/
def named (p : Part) : Bool :=
  match p with
  | .regs b => (decide (1 ≤ b) && decide (b ≤ 16)) || b == 18
  | _ => true

/-- Every register block that `parts i` names is a block of the register map. -/
def Statement (i : Instr) : Prop := (parts i).all named = true

theorem pwrGoodLow : Statement .pwrGoodLow := rfl
theorem resetNLow (ns : Nat) : Statement (.resetNLow ns) := rfl
theorem brownOut (ns : Nat) : Statement (.brownOut ns) := rfl
theorem vstbyLow : Statement .vstbyLow := rfl
theorem wake : Statement .wake := rfl
theorem release (straps : BitVec 12) (rank : Bool) : Statement (.release straps rank) := rfl
theorem xoQualified : Statement .xoQualified := rfl
theorem xoMissing : Statement .xoMissing := rfl
theorem rpllLocked : Statement .rpllLocked := rfl
theorem pwrTargetRun (key : BitVec 8) (stbyGpio : Bool) : Statement (.pwrTargetRun key stbyGpio) := rfl
theorem pwrTargetIdle (key : BitVec 8) (stbyGpio : Bool) : Statement (.pwrTargetIdle key stbyGpio) := rfl
theorem pwrTargetDeepStandby (key : BitVec 8) (stbyGpio : Bool) : Statement (.pwrTargetDeepStandby key stbyGpio) := rfl
theorem enterIdle : Statement .enterIdle := rfl
theorem enterRun : Statement .enterRun := rfl
theorem engineRst (src : ReqSrc) : Statement (.engineRst src) := rfl
theorem sessionRst (src : ReqSrc) : Statement (.sessionRst src) := rfl
theorem clusterRst (src : ReqSrc) (site : Nat) : Statement (.clusterRst src site) := rfl
theorem watchdogExpiry : Statement .watchdogExpiry := rfl
theorem thermalTrip (sensor : Nat) (celsius : Int) (ms : Nat) : Statement (.thermalTrip sensor celsius ms) := rfl
theorem thermalTripEnd (celsius : List Int) : Statement (.thermalTripEnd celsius) := rfl
theorem clusterResetReturn (site : Nat) : Statement (.clusterResetReturn site) := rfl
theorem bootRomVerify : Statement .bootRomVerify := rfl
theorem retirementRecordApply : Statement .retirementRecordApply := rfl
theorem familyChange : Statement .familyChange := rfl
theorem familySlewEnd : Statement .familySlewEnd := rfl
theorem tdm0Reconfigure : Statement .tdm0Reconfigure := rfl
theorem xoLost : Statement .xoLost := rfl
theorem xoRestored : Statement .xoRestored := rfl
theorem rpllUnlock : Statement .rpllUnlock := rfl
theorem sdsrefLoss (input : Nat) : Statement (.sdsrefLoss input) := rfl
theorem laneClockGate (site : Nat) (lane : Nat) : Statement (.laneClockGate site lane) := rfl
theorem bankClockGate (bank : Nat) : Statement (.bankClockGate bank) := rfl
theorem rpllWordUpdate (intPart : BitVec 8) (frac : BitVec 40) : Statement (.rpllWordUpdate intPart frac) := rfl
theorem refWindow1s (raw : List Int) : Statement (.refWindow1s raw) := rfl
theorem refWindow64s (raw : List Int) : Statement (.refWindow64s raw) := rfl
theorem refLossOfSignal (cand : Nat) : Statement (.refLossOfSignal cand) := rfl
theorem refSignalPresent (cand : Nat) : Statement (.refSignalPresent cand) := rfl
theorem wtrExpiry (cand : Nat) : Statement (.wtrExpiry cand) := rfl
theorem refSelect : Statement .refSelect := rfl
theorem refSwitch (phaseErr : Int) : Statement (.refSwitch phaseErr) := rfl
theorem passThroughEnd (phaseErr : Int) : Statement (.passThroughEnd phaseErr) := rfl
theorem holdHistoryEntry (word : BitVec 48) (steady : Bool) : Statement (.holdHistoryEntry word steady) := rfl
theorem pulseEmit (out : Nat) (instant : Int) (lost : Bool) : Statement (.pulseEmit out instant lost) := rfl
theorem pulseRealign (out : Nat) (instant : Int) : Statement (.pulseRealign out instant) := rfl
theorem ptpSync (dom : Nat) (port : Nat) (logInt : Int) (t1 : Int) (corr : Int) (rc2 : Nat) : Statement (.ptpSync dom port logInt t1 corr rc2) := rfl
theorem ptpDelayResp (dom : Nat) (port : Nat) (t4 : Int) (corr : Int) : Statement (.ptpDelayResp dom port t4 corr) := rfl
theorem ptpAnnounce (dom : Nat) (port : Nat) (a : Announce) : Statement (.ptpAnnounce dom port a) := rfl
theorem delayReqSend (dom : Nat) (rc3 : Nat) : Statement (.delayReqSend dom rc3) := rfl
theorem announceReceiptTimeout (dom : Nat) : Statement (.announceReceiptTimeout dom) := rfl
theorem syncLoss (dom : Nat) : Statement (.syncLoss dom) := rfl
theorem timeJumpResolved (dom : Nat) : Statement (.timeJumpResolved dom) := rfl
theorem reacqHoldExpiry (dom : Nat) : Statement (.reacqHoldExpiry dom) := rfl
theorem catchupEnd : Statement .catchupEnd := rfl
theorem tcForward (f : TcFrame) : Statement (.tcForward f) := rfl
theorem tcFollowUpLate (seq : Nat) : Statement (.tcFollowUpLate seq) := rfl
theorem take : Statement .take := rfl
theorem timCountLoRead : Statement .timCountLoRead := rfl
theorem corrWrite (port : Nat) (corr : Int) : Statement (.corrWrite port corr) := rfl
theorem mnop (p : LaneAt) : Statement (.mnop p) := rfl
theorem mac2 (p : LaneAt) (t0 t1 : BitVec 2) (ra rb : BitVec 6) (c : MacBits) : Statement (.mac2 p t0 t1 ra rb c) := rfl
theorem msu2 (p : LaneAt) (t0 t1 : BitVec 2) (ra rb : BitVec 6) (c : MacBits) : Statement (.msu2 p t0 t1 ra rb c) := rfl
theorem mpy2 (p : LaneAt) (t0 t1 : BitVec 2) (ra rb : BitVec 6) (c : MacBits) : Statement (.mpy2 p t0 t1 ra rb c) := rfl
theorem mac1 (p : LaneAt) (t su : BitVec 2) (ra rb : BitVec 6) (c : MacBits) : Statement (.mac1 p t su ra rb c) := rfl
theorem msu1 (p : LaneAt) (t su : BitVec 2) (ra rb : BitVec 6) (c : MacBits) : Statement (.msu1 p t su ra rb c) := rfl
theorem mpy1 (p : LaneAt) (t su : BitVec 2) (ra rb : BitVec 6) (c : MacBits) : Statement (.mpy1 p t su ra rb c) := rfl
theorem ftap (p : LaneAt) (t : BitVec 2) (neg : Bool) (c : MacBits) : Statement (.ftap p t neg c) := rfl
theorem extA (p : LaneAt) (a : BitVec 2) (rd sh : BitVec 6) (c : MacBits) : Statement (.extA p a rd sh c) := rfl
theorem depA (p : LaneAt) (a : BitVec 2) (rs sh : BitVec 6) : Statement (.depA p a rs sh) := rfl
theorem aadd (p : LaneAt) (t u : BitVec 2) (neg : Bool) (c : MacBits) : Statement (.aadd p t u neg c) := rfl
theorem clrA (p : LaneAt) (mask : BitVec 4) : Statement (.clrA p mask) := rfl
theorem anop (p : LaneAt) : Statement (.anop p) := rfl
theorem addR (p : LaneAt) (o : Alu) : Statement (.addR p o) := rfl
theorem subR (p : LaneAt) (o : Alu) : Statement (.subR p o) := rfl
theorem negR (p : LaneAt) (o : Alu) : Statement (.negR p o) := rfl
theorem absR (p : LaneAt) (o : Alu) : Statement (.absR p o) := rfl
theorem movR (p : LaneAt) (o : Alu) : Statement (.movR p o) := rfl
theorem andR (p : LaneAt) (o : Alu) : Statement (.andR p o) := rfl
theorem orR (p : LaneAt) (o : Alu) : Statement (.orR p o) := rfl
theorem xorR (p : LaneAt) (o : Alu) : Statement (.xorR p o) := rfl
theorem notR (p : LaneAt) (o : Alu) : Statement (.notR p o) := rfl
theorem asl (p : LaneAt) (o : Alu) : Statement (.asl p o) := rfl
theorem asr (p : LaneAt) (o : Alu) : Statement (.asr p o) := rfl
theorem lsl (p : LaneAt) (o : Alu) : Statement (.lsl p o) := rfl
theorem lsr (p : LaneAt) (o : Alu) : Statement (.lsr p o) := rfl
theorem asli (p : LaneAt) (o : Alu) : Statement (.asli p o) := rfl
theorem asri (p : LaneAt) (o : Alu) : Statement (.asri p o) := rfl
theorem lsli (p : LaneAt) (o : Alu) : Statement (.lsli p o) := rfl
theorem lsri (p : LaneAt) (o : Alu) : Statement (.lsri p o) := rfl
theorem minR (p : LaneAt) (o : Alu) : Statement (.minR p o) := rfl
theorem maxR (p : LaneAt) (o : Alu) : Statement (.maxR p o) := rfl
theorem cmpR (p : LaneAt) (o : Alu) : Statement (.cmpR p o) := rfl
theorem seta (p : LaneAt) (o : Alu) : Statement (.seta p o) := rfl
theorem geta (p : LaneAt) (o : Alu) : Statement (.geta p o) := rfl
theorem ldW (p : LaneAt) (o : MemSlot) (ecc : Ecc) : Statement (.ldW p o ecc) := rfl
theorem stW (p : LaneAt) (o : MemSlot) : Statement (.stW p o) := rfl
theorem tapW (p : LaneAt) (o : MemSlot) (ecc : Ecc) : Statement (.tapW p o ecc) := rfl
theorem sacc (p : LaneAt) (o : SpillSlot) (flt : Bool) : Statement (.sacc p o flt) := rfl
theorem lacc (p : LaneAt) (o : SpillSlot) (ecc : Ecc) : Statement (.lacc p o ecc) := rfl
theorem bra (p : LaneAt) (off : BitVec 8) : Statement (.bra p off) := rfl
theorem beq (p : LaneAt) (off : BitVec 8) : Statement (.beq p off) := rfl
theorem bne (p : LaneAt) (off : BitVec 8) : Statement (.bne p off) := rfl
theorem blt (p : LaneAt) (off : BitVec 8) : Statement (.blt p off) := rfl
theorem bge (p : LaneAt) (off : BitVec 8) : Statement (.bge p off) := rfl
theorem bfl (p : LaneAt) (off : BitVec 8) : Statement (.bfl p off) := rfl
theorem rotw (p : LaneAt) : Statement (.rotw p) := rfl
theorem endTask (p : LaneAt) : Statement (.endTask p) := rfl
theorem ldi (p : LaneAt) (rd : BitVec 6) (imm : BitVec 32) : Statement (.ldi p rd imm) := rfl
theorem setag (p : LaneAt) (name : BitVec 6) (imm : BitVec 32) : Statement (.setag p name imm) := rfl
theorem loopI (p : LaneAt) (count : BitVec 16) (len : BitVec 8) (rot : Bool) : Statement (.loopI p count len rot) := rfl
theorem loopr (p : LaneAt) (rs : BitVec 6) (len : BitVec 8) (rot : Bool) : Statement (.loopr p rs len rot) := rfl
theorem jmp (p : LaneAt) (target : BitVec 13) : Statement (.jmp p target) := rfl
theorem loopReturn (site lane : Nat) : Statement (.loopReturn site lane) := rfl
theorem resInj (src : ReqSrc) (site lane : Nat) : Statement (.resInj src site lane) := rfl
theorem taskReady (site slot : Nat) : Statement (.taskReady site slot) := rfl
theorem taskDispatch (site : Nat) (ecc : Ecc) : Statement (.taskDispatch site ecc) := rfl
theorem taskComplete (site slot : Nat) : Statement (.taskComplete site slot) := rfl
theorem heldRelease (site slot : Nat) : Statement (.heldRelease site slot) := rfl
theorem retainCopyEnd (site slot : Nat) : Statement (.retainCopyEnd site slot) := rfl
theorem postDeliver (site : Nat) (carries : List SrcBlock) : Statement (.postDeliver site carries) := rfl
theorem fetchComplete (site : Nat) (ecc : Ecc) : Statement (.fetchComplete site ecc) := rfl
theorem writeBackComplete (site : Nat) (carries : List SrcBlock) : Statement (.writeBackComplete site carries) := rfl
theorem creditReturn (site buf slot : Nat) : Statement (.creditReturn site buf slot) := rfl
theorem taskDeadline (site slot : Nat) : Statement (.taskDeadline site slot) := rfl
theorem taskRetry (site slot : Nat) : Statement (.taskRetry site slot) := rfl
theorem pumpLoad (site slot : Nat) : Statement (.pumpLoad site slot) := rfl
theorem pumpArm (site slot : Nat) : Statement (.pumpArm site slot) := rfl
theorem pumpCancel (site slot : Nat) : Statement (.pumpCancel site slot) := rfl
theorem pumpUnload (site slot : Nat) : Statement (.pumpUnload site slot) := rfl
theorem pumpFlag (site slot : Nat) (flag : BitVec 5) : Statement (.pumpFlag site slot flag) := rfl
theorem pumpTimer (site k : Nat) : Statement (.pumpTimer site k) := rfl
theorem taskDescriptorWrite (master site slot word : Nat) (value : BitVec 64) : Statement (.taskDescriptorWrite master site slot word value) := rfl
theorem graphLoad (g : Graph) : Statement (.graphLoad g) := rfl
theorem directPathWord (port slot : Nat) (word : BitVec 32) : Statement (.directPathWord port slot word) := rfl
theorem routeCrossfadeEnd (sink : Nat) : Statement (.routeCrossfadeEnd sink) := rfl
theorem press (arg : List Byte) : Statement (.press arg) := rfl
theorem sceneReassert (arg : List Byte) : Statement (.sceneReassert arg) := rfl
theorem pressCancel : Statement .pressCancel := rfl
theorem vatClear : Statement .vatClear := rfl
theorem pressPrepared : Statement .pressPrepared := rfl
theorem filterCrossfadeEnd (idx stage elem : Nat) : Statement (.filterCrossfadeEnd idx stage elem) := rfl
theorem delayCrossfadeEnd (idx sub elem : Nat) : Statement (.delayCrossfadeEnd idx sub elem) := rfl
theorem delaySlewEnd (idx sub elem : Nat) : Statement (.delaySlewEnd idx sub elem) := rfl
theorem popRead (src : PopFrom) (msg : List Byte) : Statement (.popRead src msg) := rfl
theorem popWrite (src : PopFrom) (msg : List Byte) : Statement (.popWrite src msg) := rfl
theorem popStage (src : PopFrom) (msg : List Byte) : Statement (.popStage src msg) := rfl
theorem popSubscribe (src : PopFrom) (msg : List Byte) : Statement (.popSubscribe src msg) := rfl
theorem popBatch (src : PopFrom) (msg : List Byte) : Statement (.popBatch src msg) := rfl
theorem batchTimeout (session : Nat) : Statement (.batchTimeout session) := rfl
theorem popOpen (src : PopFrom) (msg : List Byte) : Statement (.popOpen src msg) := rfl
theorem popProof (src : PopFrom) (msg : List Byte) : Statement (.popProof src msg) := rfl
theorem proofTimeout (session : Nat) : Statement (.proofTimeout session) := rfl
theorem popClose (src : PopFrom) (msg : List Byte) : Statement (.popClose src msg) := rfl
theorem sessionCloseExec (session : Nat) : Statement (.sessionCloseExec session) := rfl
theorem sessionIdleTimeout (session : Nat) : Statement (.sessionIdleTimeout session) := rfl
theorem notifySend (session : Nat) : Statement (.notifySend session) := rfl
theorem peerKeepalive (elem : Nat) (answer : Option (List Byte)) : Statement (.peerKeepalive elem answer) := rfl
theorem mdnsReceive (plane addr : Nat) (info : PeerInfo) : Statement (.mdnsReceive plane addr info) := rfl
theorem rosterAgeOut (kind node : Nat) : Statement (.rosterAgeOut kind node) := rfl
theorem disagreementClear (kind node flag : Nat) : Statement (.disagreementClear kind node flag) := rfl
theorem spiStatus : Statement .spiStatus := rfl
theorem spiSend (len : Nat) (msg : List Byte) : Statement (.spiSend len msg) := rfl
theorem spiReceive (early : Bool) : Statement (.spiReceive early) := rfl
theorem spiImage (offset : Nat) (data : List Byte) : Statement (.spiImage offset data) := rfl
theorem spiImageDone (len : Nat) (image : FwSlot) : Statement (.spiImageDone len image) := rfl
theorem i2cWrite (sel : BitVec 8) (data : List Byte) (pecByte : BitVec 8) : Statement (.i2cWrite sel data pecByte) := rfl
theorem i2cRead (sel : BitVec 8) : Statement (.i2cRead sel) := rfl
theorem eccWriteBack (addr : Nat) : Statement (.eccWriteBack addr) := rfl
theorem programLineRestore (site line : Nat) (ecc : Ecc) : Statement (.programLineRestore site line ecc) := rfl
theorem fabricRequest (r : FabReq) (ecc : Ecc) : Statement (.fabricRequest r ecc) := rfl
theorem fabricGrant (target : Nat) (hit : Option Nat) (times : Nat) (ecc : Ecc) : Statement (.fabricGrant target hit times ecc) := rfl
theorem lockTimeout (target : Nat) : Statement (.lockTimeout target) := rfl
theorem masterPortReset (master : Nat) (running : Option Nat) (beats : Nat) : Statement (.masterPortReset master running beats) := rfl
theorem remapSet (master key : Nat) : Statement (.remapSet master key) := rfl
theorem cisternBitSet (master : Nat) (off : Nat) (lanes : BitVec 8) (data : BitVec 64) (ownerWriting : Bool) (ecc : Ecc) : Statement (.cisternBitSet master off lanes data ownerWriting ecc) := rfl
theorem cisternBitClear (master : Nat) (off : Nat) (lanes : BitVec 8) (data : BitVec 64) (ownerWriting : Bool) (ecc : Ecc) : Statement (.cisternBitClear master off lanes data ownerWriting ecc) := rfl
theorem bankHandoverReq (master bank newOwner : Nat) : Statement (.bankHandoverReq master bank newOwner) := rfl
theorem bankHandover (bank : Nat) : Statement (.bankHandover bank) := rfl
theorem bankRetentionEnter (bank : Nat) : Statement (.bankRetentionEnter bank) := rfl
theorem bankWake (bank : Nat) : Statement (.bankWake bank) := rfl
theorem spareRowCopy (bankSite row : Nat) (ecc : Ecc) : Statement (.spareRowCopy bankSite row ecc) := rfl
theorem spareBankCopyEnd (bank : Nat) : Statement (.spareBankCopyEnd bank) := rfl
theorem dcisTrainingEnd (ok0 ok1 : Bool) : Statement (.dcisTrainingEnd ok0 ok1) := rfl
theorem dcisSelfRefreshExit : Statement .dcisSelfRefreshExit := rfl
theorem dcisZeroingEnd : Statement .dcisZeroingEnd := rfl
theorem dcisWriteMove (stream : Nat) : Statement (.dcisWriteMove stream) := rfl
theorem dcisReadMove (stream : Nat) (badWords : List Nat) : Statement (.dcisReadMove stream badWords) := rfl
theorem dcisLate (stream : Nat) : Statement (.dcisLate stream) := rfl
theorem dcisFailed (channel : Nat) : Statement (.dcisFailed channel) := rfl
theorem tdmStart (word : BitVec 64) : Statement (.tdmStart word) := rfl
theorem tdmStartTrigger (trig : Nat) : Statement (.tdmStartTrigger trig) := rfl
theorem tdmStop (word : BitVec 32) : Statement (.tdmStop word) := rfl
theorem tdmFrame (port : Nat) (words : List (BitVec 32)) : Statement (.tdmFrame port words) := rfl
theorem tdmFsyncEdge (port m root : Nat) : Statement (.tdmFsyncEdge port m root) := rfl
theorem tdmLockLost (port : Nat) : Statement (.tdmLockLost port) := rfl
theorem tdmLeadInEnd (port : Nat) : Statement (.tdmLeadInEnd port) := rfl
theorem tdmLeadOutEnd (port : Nat) : Statement (.tdmLeadOutEnd port) := rfl
theorem tdmMaskWrite (port : Nat) (out : Bool) (mask : BitVec 32) : Statement (.tdmMaskWrite port out mask) := rfl
theorem tdmCfgWrite (port : Nat) (value : BitVec 64) : Statement (.tdmCfgWrite port value) := rfl
theorem netLinkUp (port : Nat) : Statement (.netLinkUp port) := rfl
theorem netLinkDown (port : Nat) : Statement (.netLinkDown port) := rfl
theorem ipv4Write (plane : Nat) (addr : BitVec 32) : Statement (.ipv4Write plane addr) := rfl
theorem addrProbeEnd (plane : Nat) : Statement (.addrProbeEnd plane) := rfl
theorem netAddrConflict (plane : Nat) : Statement (.netAddrConflict plane) := rfl
theorem switchFrame (f : SwFrame) : Statement (.switchFrame f) := rfl
theorem macAgeOut (plane mac : Nat) : Statement (.macAgeOut plane mac) := rfl
theorem rtpPacketRx (p : RtpPacket) : Statement (.rtpPacketRx p) := rfl
theorem rxLegTimeout (stream plane : Nat) : Statement (.rxLegTimeout stream plane) := rfl
theorem rxIdleTimeout (stream : Nat) : Statement (.rxIdleTimeout stream) := rfl
theorem txPacketClose (stream : Nat) : Statement (.txPacketClose stream) := rfl
theorem streamEnable (tx : Bool) (stream : Nat) : Statement (.streamEnable tx stream) := rfl
theorem streamDisable (tx : Bool) (stream : Nat) : Statement (.streamDisable tx stream) := rfl
theorem sdpWrite (stream : Nat) (text : List Byte) : Statement (.sdpWrite stream text) := rfl
theorem mdnsAnnounce : Statement .mdnsAnnounce := rfl
theorem sapAnnounce (stream : Nat) : Statement (.sapAnnounce stream) := rfl
theorem sapReceive (a : SapMsg) : Statement (.sapReceive a) := rfl
theorem sapAgeOut (src hash : Nat) : Statement (.sapAgeOut src hash) := rfl
theorem wellSampleTick (chime : Bool) : Statement (.wellSampleTick chime) := rfl
theorem wellFallbackReturn (channel : Nat) : Statement (.wellFallbackReturn channel) := rfl
theorem wellCodeWrite (channel : Nat) (code : BitVec 32) : Statement (.wellCodeWrite channel code) := rfl
theorem wellCfgWrite (channel : Nat) (value : BitVec 32) : Statement (.wellCfgWrite channel value) := rfl
theorem wellChangeSwitch (channel : Nat) : Statement (.wellChangeSwitch channel) := rfl
theorem wellChime (level : Bool) : Statement (.wellChime level) := rfl
theorem gateRise (gen : Nat) : Statement (.gateRise gen) := rfl
theorem gateFall (gen : Nat) : Statement (.gateFall gen) := rfl
theorem genStepEnd (gen : Nat) : Statement (.genStepEnd gen) := rfl
theorem wellGenCfgWrite (gen : Nat) (step : Option (Fin 4)) (value : BitVec 64) : Statement (.wellGenCfgWrite gen step value) := rfl
theorem hbToggle : Statement .hbToggle := rfl
theorem hbFault : Statement .hbFault := rfl
theorem partnerLost : Statement .partnerLost := rfl
theorem gone (hdr : FrameHdr) (cause : Nat) : Statement (.gone hdr cause) := rfl
theorem claimHoldRelease : Statement .claimHoldRelease := rfl
theorem claimTake (highFor : Nat) (witnessOk : Bool) : Statement (.claimTake highFor witnessOk) := rfl
theorem contestWaitEnd (high witnessOk : Bool) : Statement (.contestWaitEnd high witnessOk) := rfl
theorem contestTmo : Statement .contestTmo := rfl
theorem witnessQuery (node : Nat) : Statement (.witnessQuery node) := rfl
theorem witnessProbeEnd (alive : Bool) : Statement (.witnessProbeEnd alive) := rfl
theorem witnessReply (reply : Nat) : Statement (.witnessReply reply) := rfl
theorem siphLaneUp (lane : Nat) : Statement (.siphLaneUp lane) := rfl
theorem siphLaneDown (lane : Nat) : Statement (.siphLaneDown lane) := rfl
theorem siphLaneRetrainTimeout (lane : Nat) : Statement (.siphLaneRetrainTimeout lane) := rfl
theorem marker (hdr : FrameHdr) (body : Marker) : Statement (.marker hdr body) := rfl
theorem statusFrame (hdr : FrameHdr) : Statement (.statusFrame hdr) := rfl
theorem statusTimer : Statement .statusTimer := rfl
theorem nak (hdr : FrameHdr) (first : Nat) : Statement (.nak hdr first) := rfl
theorem seqGapTimeout : Statement .seqGapTimeout := rfl
theorem hello (hdr : FrameHdr) (body : Hello) : Statement (.hello hdr body) := rfl
theorem ledger (hdr : FrameHdr) (recs : List LedgerRec) : Statement (.ledger hdr recs) := rfl
theorem digest (hdr : FrameHdr) (blk out tdmIn : Nat) : Statement (.digest hdr blk out tdmIn) := rfl
theorem digestSend (blk : Nat) : Statement (.digestSend blk) := rfl
theorem prep (hdr : FrameHdr) (counter : Nat) : Statement (.prep hdr counter) := rfl
theorem epochEnd (hdr : FrameHdr) (epoch bytes crc : Nat) : Statement (.epochEnd hdr epoch bytes crc) := rfl
theorem epochAck (hdr : FrameHdr) (epoch result : Nat) : Statement (.epochAck hdr epoch result) := rfl
theorem ingress (hdr : FrameHdr) (edge : Nat) (dropped : Bool) (off : Nat) (words : List Nat) : Statement (.ingress hdr edge dropped off words) := rfl
theorem snap (hdr : FrameHdr) (epoch off : Nat) (data : List Byte) : Statement (.snap hdr epoch off data) := rfl
theorem switchOver : Statement .switchOver := rfl
theorem rejoin : Statement .rejoin := rfl
theorem partnerDivergeRequest : Statement .partnerDivergeRequest := rfl
theorem rejoinWaitExpiry : Statement .rejoinWaitExpiry := rfl
theorem syncTimeout : Statement .syncTimeout := rfl
theorem errWinExpiry : Statement .errWinExpiry := rfl
theorem spareClusterReady (site : Nat) (ok : Bool) : Statement (.spareClusterReady site ok) := rfl
theorem hlthRetire (kind site : Nat) : Statement (.hlthRetire kind site) := rfl
theorem retirementRecordWrite (ok : Bool) : Statement (.retirementRecordWrite ok) := rfl
theorem brineBorrow (addr : Nat) : Statement (.brineBorrow addr) := rfl
theorem brineBorrowEnd (memId : Nat) (pass : Bool) : Statement (.brineBorrowEnd memId pass) := rfl
theorem brineYield (memId : Nat) : Statement (.brineYield memId) := rfl
theorem brineScrub (addr : Nat) (ecc : Ecc) : Statement (.brineScrub addr ecc) := rfl
theorem brineSpareTest (cluster : Bool) (site : Nat) : Statement (.brineSpareTest cluster site) := rfl
theorem brineSpareTestEnd (pass : Bool) : Statement (.brineSpareTestEnd pass) := rfl
theorem brineShadow (site lane : Nat) : Statement (.brineShadow site lane) := rfl
theorem brineShadowEnd (site : Nat) : Statement (.brineShadowEnd site) := rfl
theorem monitorSample (values : List Int) (osc : List Nat) : Statement (.monitorSample values osc) := rfl
theorem soundFrameResult (feed frame : Nat) (corr : Corr) : Statement (.soundFrameResult feed frame corr) := rfl
theorem soundLearn (feed : Nat) : Statement (.soundLearn feed) := rfl
theorem soundLearnEnd (feed : Nat) : Statement (.soundLearnEnd feed) := rfl
theorem soundNightly : Statement .soundNightly := rfl
theorem evtOverflow (route : Nat) : Statement (.evtOverflow route) := rfl
theorem recorderWrite : Statement .recorderWrite := rfl
theorem blockBoundary : Statement .blockBoundary := rfl
theorem registerWrite (master addr : Nat) (value : BitVec 64) : Statement (.registerWrite master addr value) := rfl
theorem brownOutEnd (straps : BitVec 12) (rank : Bool) : Statement (.brownOutEnd straps rank) := rfl
theorem vstbyRise (straps : BitVec 12) (rank : Bool) : Statement (.vstbyRise straps rank) := rfl
theorem sdsrefRestored (input : Nat) : Statement (.sdsrefRestored input) := rfl
theorem wellheadReferencesSettled : Statement .wellheadReferencesSettled := rfl
theorem hbRxEdge : Statement .hbRxEdge := rfl
theorem popExec (src : PopFrom) (msg : List Byte) : Statement (.popExec src msg) := rfl
theorem bootFlashWriteEnd : Statement .bootFlashWriteEnd := rfl
theorem replayBlockComplete (out tdmIn : Nat) : Statement (.replayBlockComplete out tdmIn) := rfl

end Sys2Proof.Laws.Blocks
end

