-- ==== Sys2Proof/Laws/State.lean ====
section
/-! SUPPORT. What the accessors of the state read after its named updates: one lemma per field per update, true by definition,
and the read-back law of each indexed table. -/

namespace Sys2Proof.Machine

open Sys2Proof

@[simp] theorem State.put_mem (s : State) (f : Fd) (v i j : Nat) : (s.put f v i j).mem = s.mem := rfl
@[simp] theorem State.put_sys (s : State) (f : Fd) (v i j : Nat) : (s.put f v i j).sys = s.sys := rfl
@[simp] theorem State.put_flash (s : State) (f : Fd) (v i j : Nat) : (s.put f v i j).flash = s.flash := rfl
@[simp] theorem State.put_clk (s : State) (f : Fd) (v i j : Nat) : (s.put f v i j).clk = s.clk := rfl
@[simp] theorem State.put_ref (s : State) (f : Fd) (v i j : Nat) : (s.put f v i j).ref = s.ref := rfl
@[simp] theorem State.put_tim (s : State) (f : Fd) (v i j : Nat) : (s.put f v i j).tim = s.tim := rfl
@[simp] theorem State.put_pump (s : State) (f : Fd) (v i j : Nat) : (s.put f v i j).pump = s.pump := rfl
@[simp] theorem State.put_memu (s : State) (f : Fd) (v i j : Nat) : (s.put f v i j).memu = s.memu := rfl
@[simp] theorem State.put_fab (s : State) (f : Fd) (v i j : Nat) : (s.put f v i j).fab = s.fab := rfl
@[simp] theorem State.put_pair (s : State) (f : Fd) (v i j : Nat) : (s.put f v i j).pair = s.pair := rfl
@[simp] theorem State.put_route (s : State) (f : Fd) (v i j : Nat) : (s.put f v i j).route = s.route := rfl
@[simp] theorem State.put_scene (s : State) (f : Fd) (v i j : Nat) : (s.put f v i j).scene = s.scene := rfl
@[simp] theorem State.put_pop (s : State) (f : Fd) (v i j : Nat) : (s.put f v i j).pop = s.pop := rfl
@[simp] theorem State.put_objs (s : State) (f : Fd) (v i j : Nat) : (s.put f v i j).objs = s.objs := rfl
@[simp] theorem State.put_tdm (s : State) (f : Fd) (v i j : Nat) : (s.put f v i j).tdm = s.tdm := rfl
@[simp] theorem State.put_net (s : State) (f : Fd) (v i j : Nat) : (s.put f v i j).net = s.net := rfl
@[simp] theorem State.put_well (s : State) (f : Fd) (v i j : Nat) : (s.put f v i j).well = s.well := rfl
@[simp] theorem State.put_hlth (s : State) (f : Fd) (v i j : Nat) : (s.put f v i j).hlth = s.hlth := rfl
@[simp] theorem State.put_evt (s : State) (f : Fd) (v i j : Nat) : (s.put f v i j).evt = s.evt := rfl
@[simp] theorem State.put_free (s : State) (f : Fd) (v i j : Nat) : (s.put f v i j).free = s.free := rfl
@[simp] theorem State.put_pending (s : State) (f : Fd) (v i j : Nat) : (s.put f v i j).pending = s.pending := rfl

@[simp] theorem State.setDom_mem (s : State) (d : Nat) (x : Dom) : (s.setDom d x).mem = s.mem := rfl
@[simp] theorem State.setDom_sys (s : State) (d : Nat) (x : Dom) : (s.setDom d x).sys = s.sys := rfl
@[simp] theorem State.setDom_flash (s : State) (d : Nat) (x : Dom) : (s.setDom d x).flash = s.flash := rfl
@[simp] theorem State.setDom_clk (s : State) (d : Nat) (x : Dom) : (s.setDom d x).clk = s.clk := rfl
@[simp] theorem State.setDom_ref (s : State) (d : Nat) (x : Dom) : (s.setDom d x).ref = s.ref := rfl
@[simp] theorem State.setDom_pump (s : State) (d : Nat) (x : Dom) : (s.setDom d x).pump = s.pump := rfl
@[simp] theorem State.setDom_memu (s : State) (d : Nat) (x : Dom) : (s.setDom d x).memu = s.memu := rfl
@[simp] theorem State.setDom_fab (s : State) (d : Nat) (x : Dom) : (s.setDom d x).fab = s.fab := rfl
@[simp] theorem State.setDom_pair (s : State) (d : Nat) (x : Dom) : (s.setDom d x).pair = s.pair := rfl
@[simp] theorem State.setDom_route (s : State) (d : Nat) (x : Dom) : (s.setDom d x).route = s.route := rfl
@[simp] theorem State.setDom_scene (s : State) (d : Nat) (x : Dom) : (s.setDom d x).scene = s.scene := rfl
@[simp] theorem State.setDom_pop (s : State) (d : Nat) (x : Dom) : (s.setDom d x).pop = s.pop := rfl
@[simp] theorem State.setDom_objs (s : State) (d : Nat) (x : Dom) : (s.setDom d x).objs = s.objs := rfl
@[simp] theorem State.setDom_tdm (s : State) (d : Nat) (x : Dom) : (s.setDom d x).tdm = s.tdm := rfl
@[simp] theorem State.setDom_net (s : State) (d : Nat) (x : Dom) : (s.setDom d x).net = s.net := rfl
@[simp] theorem State.setDom_well (s : State) (d : Nat) (x : Dom) : (s.setDom d x).well = s.well := rfl
@[simp] theorem State.setDom_hlth (s : State) (d : Nat) (x : Dom) : (s.setDom d x).hlth = s.hlth := rfl
@[simp] theorem State.setDom_evt (s : State) (d : Nat) (x : Dom) : (s.setDom d x).evt = s.evt := rfl
@[simp] theorem State.setDom_free (s : State) (d : Nat) (x : Dom) : (s.setDom d x).free = s.free := rfl
@[simp] theorem State.setDom_pending (s : State) (d : Nat) (x : Dom) : (s.setDom d x).pending = s.pending := rfl
@[simp] theorem State.setDom_regs (s : State) (d : Nat) (x : Dom) : (s.setDom d x).regs = s.regs := rfl
@[simp] theorem State.setDom_fld (s : State) (d : Nat) (x : Dom) (f : Fd) (i j : Nat) : (s.setDom d x).fld f i j = s.fld f i j := rfl

@[simp] theorem State.setLane_mem (s : State) (n m : Nat) (x : Lane) : (s.setLane n m x).mem = s.mem := rfl
@[simp] theorem State.setLane_sys (s : State) (n m : Nat) (x : Lane) : (s.setLane n m x).sys = s.sys := rfl
@[simp] theorem State.setLane_flash (s : State) (n m : Nat) (x : Lane) : (s.setLane n m x).flash = s.flash := rfl
@[simp] theorem State.setLane_clk (s : State) (n m : Nat) (x : Lane) : (s.setLane n m x).clk = s.clk := rfl
@[simp] theorem State.setLane_ref (s : State) (n m : Nat) (x : Lane) : (s.setLane n m x).ref = s.ref := rfl
@[simp] theorem State.setLane_tim (s : State) (n m : Nat) (x : Lane) : (s.setLane n m x).tim = s.tim := rfl
@[simp] theorem State.setLane_memu (s : State) (n m : Nat) (x : Lane) : (s.setLane n m x).memu = s.memu := rfl
@[simp] theorem State.setLane_fab (s : State) (n m : Nat) (x : Lane) : (s.setLane n m x).fab = s.fab := rfl
@[simp] theorem State.setLane_pair (s : State) (n m : Nat) (x : Lane) : (s.setLane n m x).pair = s.pair := rfl
@[simp] theorem State.setLane_route (s : State) (n m : Nat) (x : Lane) : (s.setLane n m x).route = s.route := rfl
@[simp] theorem State.setLane_scene (s : State) (n m : Nat) (x : Lane) : (s.setLane n m x).scene = s.scene := rfl
@[simp] theorem State.setLane_pop (s : State) (n m : Nat) (x : Lane) : (s.setLane n m x).pop = s.pop := rfl
@[simp] theorem State.setLane_objs (s : State) (n m : Nat) (x : Lane) : (s.setLane n m x).objs = s.objs := rfl
@[simp] theorem State.setLane_tdm (s : State) (n m : Nat) (x : Lane) : (s.setLane n m x).tdm = s.tdm := rfl
@[simp] theorem State.setLane_net (s : State) (n m : Nat) (x : Lane) : (s.setLane n m x).net = s.net := rfl
@[simp] theorem State.setLane_well (s : State) (n m : Nat) (x : Lane) : (s.setLane n m x).well = s.well := rfl
@[simp] theorem State.setLane_hlth (s : State) (n m : Nat) (x : Lane) : (s.setLane n m x).hlth = s.hlth := rfl
@[simp] theorem State.setLane_evt (s : State) (n m : Nat) (x : Lane) : (s.setLane n m x).evt = s.evt := rfl
@[simp] theorem State.setLane_free (s : State) (n m : Nat) (x : Lane) : (s.setLane n m x).free = s.free := rfl
@[simp] theorem State.setLane_pending (s : State) (n m : Nat) (x : Lane) : (s.setLane n m x).pending = s.pending := rfl
@[simp] theorem State.setLane_regs (s : State) (n m : Nat) (x : Lane) : (s.setLane n m x).regs = s.regs := rfl
@[simp] theorem State.setLane_fld (s : State) (n m : Nat) (x : Lane) (f : Fd) (i j : Nat) : (s.setLane n m x).fld f i j = s.fld f i j := rfl

@[simp] theorem State.setRt_mem (s : State) (n t : Nat) (x : TaskRt) : (s.setRt n t x).mem = s.mem := rfl
@[simp] theorem State.setRt_sys (s : State) (n t : Nat) (x : TaskRt) : (s.setRt n t x).sys = s.sys := rfl
@[simp] theorem State.setRt_flash (s : State) (n t : Nat) (x : TaskRt) : (s.setRt n t x).flash = s.flash := rfl
@[simp] theorem State.setRt_clk (s : State) (n t : Nat) (x : TaskRt) : (s.setRt n t x).clk = s.clk := rfl
@[simp] theorem State.setRt_ref (s : State) (n t : Nat) (x : TaskRt) : (s.setRt n t x).ref = s.ref := rfl
@[simp] theorem State.setRt_tim (s : State) (n t : Nat) (x : TaskRt) : (s.setRt n t x).tim = s.tim := rfl
@[simp] theorem State.setRt_memu (s : State) (n t : Nat) (x : TaskRt) : (s.setRt n t x).memu = s.memu := rfl
@[simp] theorem State.setRt_fab (s : State) (n t : Nat) (x : TaskRt) : (s.setRt n t x).fab = s.fab := rfl
@[simp] theorem State.setRt_pair (s : State) (n t : Nat) (x : TaskRt) : (s.setRt n t x).pair = s.pair := rfl
@[simp] theorem State.setRt_route (s : State) (n t : Nat) (x : TaskRt) : (s.setRt n t x).route = s.route := rfl
@[simp] theorem State.setRt_scene (s : State) (n t : Nat) (x : TaskRt) : (s.setRt n t x).scene = s.scene := rfl
@[simp] theorem State.setRt_pop (s : State) (n t : Nat) (x : TaskRt) : (s.setRt n t x).pop = s.pop := rfl
@[simp] theorem State.setRt_objs (s : State) (n t : Nat) (x : TaskRt) : (s.setRt n t x).objs = s.objs := rfl
@[simp] theorem State.setRt_tdm (s : State) (n t : Nat) (x : TaskRt) : (s.setRt n t x).tdm = s.tdm := rfl
@[simp] theorem State.setRt_net (s : State) (n t : Nat) (x : TaskRt) : (s.setRt n t x).net = s.net := rfl
@[simp] theorem State.setRt_well (s : State) (n t : Nat) (x : TaskRt) : (s.setRt n t x).well = s.well := rfl
@[simp] theorem State.setRt_hlth (s : State) (n t : Nat) (x : TaskRt) : (s.setRt n t x).hlth = s.hlth := rfl
@[simp] theorem State.setRt_evt (s : State) (n t : Nat) (x : TaskRt) : (s.setRt n t x).evt = s.evt := rfl
@[simp] theorem State.setRt_free (s : State) (n t : Nat) (x : TaskRt) : (s.setRt n t x).free = s.free := rfl
@[simp] theorem State.setRt_pending (s : State) (n t : Nat) (x : TaskRt) : (s.setRt n t x).pending = s.pending := rfl
@[simp] theorem State.setRt_regs (s : State) (n t : Nat) (x : TaskRt) : (s.setRt n t x).regs = s.regs := rfl
@[simp] theorem State.setRt_fld (s : State) (n t : Nat) (x : TaskRt) (f : Fd) (i j : Nat) : (s.setRt n t x).fld f i j = s.fld f i j := rfl

@[simp] theorem State.setCand_mem (s : State) (n : Nat) (c : Cand) : (s.setCand n c).mem = s.mem := rfl
@[simp] theorem State.setCand_sys (s : State) (n : Nat) (c : Cand) : (s.setCand n c).sys = s.sys := rfl
@[simp] theorem State.setCand_flash (s : State) (n : Nat) (c : Cand) : (s.setCand n c).flash = s.flash := rfl
@[simp] theorem State.setCand_clk (s : State) (n : Nat) (c : Cand) : (s.setCand n c).clk = s.clk := rfl
@[simp] theorem State.setCand_tim (s : State) (n : Nat) (c : Cand) : (s.setCand n c).tim = s.tim := rfl
@[simp] theorem State.setCand_pump (s : State) (n : Nat) (c : Cand) : (s.setCand n c).pump = s.pump := rfl
@[simp] theorem State.setCand_memu (s : State) (n : Nat) (c : Cand) : (s.setCand n c).memu = s.memu := rfl
@[simp] theorem State.setCand_fab (s : State) (n : Nat) (c : Cand) : (s.setCand n c).fab = s.fab := rfl
@[simp] theorem State.setCand_pair (s : State) (n : Nat) (c : Cand) : (s.setCand n c).pair = s.pair := rfl
@[simp] theorem State.setCand_route (s : State) (n : Nat) (c : Cand) : (s.setCand n c).route = s.route := rfl
@[simp] theorem State.setCand_scene (s : State) (n : Nat) (c : Cand) : (s.setCand n c).scene = s.scene := rfl
@[simp] theorem State.setCand_pop (s : State) (n : Nat) (c : Cand) : (s.setCand n c).pop = s.pop := rfl
@[simp] theorem State.setCand_objs (s : State) (n : Nat) (c : Cand) : (s.setCand n c).objs = s.objs := rfl
@[simp] theorem State.setCand_tdm (s : State) (n : Nat) (c : Cand) : (s.setCand n c).tdm = s.tdm := rfl
@[simp] theorem State.setCand_net (s : State) (n : Nat) (c : Cand) : (s.setCand n c).net = s.net := rfl
@[simp] theorem State.setCand_well (s : State) (n : Nat) (c : Cand) : (s.setCand n c).well = s.well := rfl
@[simp] theorem State.setCand_hlth (s : State) (n : Nat) (c : Cand) : (s.setCand n c).hlth = s.hlth := rfl
@[simp] theorem State.setCand_evt (s : State) (n : Nat) (c : Cand) : (s.setCand n c).evt = s.evt := rfl
@[simp] theorem State.setCand_free (s : State) (n : Nat) (c : Cand) : (s.setCand n c).free = s.free := rfl
@[simp] theorem State.setCand_pending (s : State) (n : Nat) (c : Cand) : (s.setCand n c).pending = s.pending := rfl
@[simp] theorem State.setCand_regs (s : State) (n : Nat) (c : Cand) : (s.setCand n c).regs = s.regs := rfl
@[simp] theorem State.setCand_fld (s : State) (n : Nat) (c : Cand) (f : Fd) (i j : Nat) : (s.setCand n c).fld f i j = s.fld f i j := rfl

@[simp] theorem State.setPulse_mem (s : State) (n : Nat) (p : Pulse) : (s.setPulse n p).mem = s.mem := rfl
@[simp] theorem State.setPulse_sys (s : State) (n : Nat) (p : Pulse) : (s.setPulse n p).sys = s.sys := rfl
@[simp] theorem State.setPulse_flash (s : State) (n : Nat) (p : Pulse) : (s.setPulse n p).flash = s.flash := rfl
@[simp] theorem State.setPulse_clk (s : State) (n : Nat) (p : Pulse) : (s.setPulse n p).clk = s.clk := rfl
@[simp] theorem State.setPulse_tim (s : State) (n : Nat) (p : Pulse) : (s.setPulse n p).tim = s.tim := rfl
@[simp] theorem State.setPulse_pump (s : State) (n : Nat) (p : Pulse) : (s.setPulse n p).pump = s.pump := rfl
@[simp] theorem State.setPulse_memu (s : State) (n : Nat) (p : Pulse) : (s.setPulse n p).memu = s.memu := rfl
@[simp] theorem State.setPulse_fab (s : State) (n : Nat) (p : Pulse) : (s.setPulse n p).fab = s.fab := rfl
@[simp] theorem State.setPulse_pair (s : State) (n : Nat) (p : Pulse) : (s.setPulse n p).pair = s.pair := rfl
@[simp] theorem State.setPulse_route (s : State) (n : Nat) (p : Pulse) : (s.setPulse n p).route = s.route := rfl
@[simp] theorem State.setPulse_scene (s : State) (n : Nat) (p : Pulse) : (s.setPulse n p).scene = s.scene := rfl
@[simp] theorem State.setPulse_pop (s : State) (n : Nat) (p : Pulse) : (s.setPulse n p).pop = s.pop := rfl
@[simp] theorem State.setPulse_objs (s : State) (n : Nat) (p : Pulse) : (s.setPulse n p).objs = s.objs := rfl
@[simp] theorem State.setPulse_tdm (s : State) (n : Nat) (p : Pulse) : (s.setPulse n p).tdm = s.tdm := rfl
@[simp] theorem State.setPulse_net (s : State) (n : Nat) (p : Pulse) : (s.setPulse n p).net = s.net := rfl
@[simp] theorem State.setPulse_well (s : State) (n : Nat) (p : Pulse) : (s.setPulse n p).well = s.well := rfl
@[simp] theorem State.setPulse_hlth (s : State) (n : Nat) (p : Pulse) : (s.setPulse n p).hlth = s.hlth := rfl
@[simp] theorem State.setPulse_evt (s : State) (n : Nat) (p : Pulse) : (s.setPulse n p).evt = s.evt := rfl
@[simp] theorem State.setPulse_free (s : State) (n : Nat) (p : Pulse) : (s.setPulse n p).free = s.free := rfl
@[simp] theorem State.setPulse_pending (s : State) (n : Nat) (p : Pulse) : (s.setPulse n p).pending = s.pending := rfl
@[simp] theorem State.setPulse_regs (s : State) (n : Nat) (p : Pulse) : (s.setPulse n p).regs = s.regs := rfl
@[simp] theorem State.setPulse_fld (s : State) (n : Nat) (p : Pulse) (f : Fd) (i j : Nat) : (s.setPulse n p).fld f i j = s.fld f i j := rfl

@[simp] theorem State.setDet_mem (s : State) (kind num : Nat) (d : Det) : (s.setDet kind num d).mem = s.mem := rfl
@[simp] theorem State.setDet_sys (s : State) (kind num : Nat) (d : Det) : (s.setDet kind num d).sys = s.sys := rfl
@[simp] theorem State.setDet_flash (s : State) (kind num : Nat) (d : Det) : (s.setDet kind num d).flash = s.flash := rfl
@[simp] theorem State.setDet_clk (s : State) (kind num : Nat) (d : Det) : (s.setDet kind num d).clk = s.clk := rfl
@[simp] theorem State.setDet_ref (s : State) (kind num : Nat) (d : Det) : (s.setDet kind num d).ref = s.ref := rfl
@[simp] theorem State.setDet_tim (s : State) (kind num : Nat) (d : Det) : (s.setDet kind num d).tim = s.tim := rfl
@[simp] theorem State.setDet_pump (s : State) (kind num : Nat) (d : Det) : (s.setDet kind num d).pump = s.pump := rfl
@[simp] theorem State.setDet_memu (s : State) (kind num : Nat) (d : Det) : (s.setDet kind num d).memu = s.memu := rfl
@[simp] theorem State.setDet_fab (s : State) (kind num : Nat) (d : Det) : (s.setDet kind num d).fab = s.fab := rfl
@[simp] theorem State.setDet_pair (s : State) (kind num : Nat) (d : Det) : (s.setDet kind num d).pair = s.pair := rfl
@[simp] theorem State.setDet_scene (s : State) (kind num : Nat) (d : Det) : (s.setDet kind num d).scene = s.scene := rfl
@[simp] theorem State.setDet_pop (s : State) (kind num : Nat) (d : Det) : (s.setDet kind num d).pop = s.pop := rfl
@[simp] theorem State.setDet_objs (s : State) (kind num : Nat) (d : Det) : (s.setDet kind num d).objs = s.objs := rfl
@[simp] theorem State.setDet_tdm (s : State) (kind num : Nat) (d : Det) : (s.setDet kind num d).tdm = s.tdm := rfl
@[simp] theorem State.setDet_net (s : State) (kind num : Nat) (d : Det) : (s.setDet kind num d).net = s.net := rfl
@[simp] theorem State.setDet_well (s : State) (kind num : Nat) (d : Det) : (s.setDet kind num d).well = s.well := rfl
@[simp] theorem State.setDet_hlth (s : State) (kind num : Nat) (d : Det) : (s.setDet kind num d).hlth = s.hlth := rfl
@[simp] theorem State.setDet_evt (s : State) (kind num : Nat) (d : Det) : (s.setDet kind num d).evt = s.evt := rfl
@[simp] theorem State.setDet_free (s : State) (kind num : Nat) (d : Det) : (s.setDet kind num d).free = s.free := rfl
@[simp] theorem State.setDet_pending (s : State) (kind num : Nat) (d : Det) : (s.setDet kind num d).pending = s.pending := rfl
@[simp] theorem State.setDet_regs (s : State) (kind num : Nat) (d : Det) : (s.setDet kind num d).regs = s.regs := rfl
@[simp] theorem State.setDet_fld (s : State) (kind num : Nat) (d : Det) (f : Fd) (i j : Nat) : (s.setDet kind num d).fld f i j = s.fld f i j := rfl

@[simp] theorem State.setTdm_mem (s : State) (n : Nat) (x : TdmPort) : (s.setTdm n x).mem = s.mem := rfl
@[simp] theorem State.setTdm_sys (s : State) (n : Nat) (x : TdmPort) : (s.setTdm n x).sys = s.sys := rfl
@[simp] theorem State.setTdm_flash (s : State) (n : Nat) (x : TdmPort) : (s.setTdm n x).flash = s.flash := rfl
@[simp] theorem State.setTdm_clk (s : State) (n : Nat) (x : TdmPort) : (s.setTdm n x).clk = s.clk := rfl
@[simp] theorem State.setTdm_ref (s : State) (n : Nat) (x : TdmPort) : (s.setTdm n x).ref = s.ref := rfl
@[simp] theorem State.setTdm_tim (s : State) (n : Nat) (x : TdmPort) : (s.setTdm n x).tim = s.tim := rfl
@[simp] theorem State.setTdm_pump (s : State) (n : Nat) (x : TdmPort) : (s.setTdm n x).pump = s.pump := rfl
@[simp] theorem State.setTdm_memu (s : State) (n : Nat) (x : TdmPort) : (s.setTdm n x).memu = s.memu := rfl
@[simp] theorem State.setTdm_fab (s : State) (n : Nat) (x : TdmPort) : (s.setTdm n x).fab = s.fab := rfl
@[simp] theorem State.setTdm_pair (s : State) (n : Nat) (x : TdmPort) : (s.setTdm n x).pair = s.pair := rfl
@[simp] theorem State.setTdm_route (s : State) (n : Nat) (x : TdmPort) : (s.setTdm n x).route = s.route := rfl
@[simp] theorem State.setTdm_scene (s : State) (n : Nat) (x : TdmPort) : (s.setTdm n x).scene = s.scene := rfl
@[simp] theorem State.setTdm_pop (s : State) (n : Nat) (x : TdmPort) : (s.setTdm n x).pop = s.pop := rfl
@[simp] theorem State.setTdm_objs (s : State) (n : Nat) (x : TdmPort) : (s.setTdm n x).objs = s.objs := rfl
@[simp] theorem State.setTdm_net (s : State) (n : Nat) (x : TdmPort) : (s.setTdm n x).net = s.net := rfl
@[simp] theorem State.setTdm_well (s : State) (n : Nat) (x : TdmPort) : (s.setTdm n x).well = s.well := rfl
@[simp] theorem State.setTdm_hlth (s : State) (n : Nat) (x : TdmPort) : (s.setTdm n x).hlth = s.hlth := rfl
@[simp] theorem State.setTdm_evt (s : State) (n : Nat) (x : TdmPort) : (s.setTdm n x).evt = s.evt := rfl
@[simp] theorem State.setTdm_free (s : State) (n : Nat) (x : TdmPort) : (s.setTdm n x).free = s.free := rfl
@[simp] theorem State.setTdm_pending (s : State) (n : Nat) (x : TdmPort) : (s.setTdm n x).pending = s.pending := rfl
@[simp] theorem State.setTdm_regs (s : State) (n : Nat) (x : TdmPort) : (s.setTdm n x).regs = s.regs := rfl
@[simp] theorem State.setTdm_fld (s : State) (n : Nat) (x : TdmPort) (f : Fd) (i j : Nat) : (s.setTdm n x).fld f i j = s.fld f i j := rfl

@[simp] theorem State.setGen_mem (s : State) (g : Nat) (x : Gen) : (s.setGen g x).mem = s.mem := rfl
@[simp] theorem State.setGen_sys (s : State) (g : Nat) (x : Gen) : (s.setGen g x).sys = s.sys := rfl
@[simp] theorem State.setGen_flash (s : State) (g : Nat) (x : Gen) : (s.setGen g x).flash = s.flash := rfl
@[simp] theorem State.setGen_clk (s : State) (g : Nat) (x : Gen) : (s.setGen g x).clk = s.clk := rfl
@[simp] theorem State.setGen_ref (s : State) (g : Nat) (x : Gen) : (s.setGen g x).ref = s.ref := rfl
@[simp] theorem State.setGen_tim (s : State) (g : Nat) (x : Gen) : (s.setGen g x).tim = s.tim := rfl
@[simp] theorem State.setGen_pump (s : State) (g : Nat) (x : Gen) : (s.setGen g x).pump = s.pump := rfl
@[simp] theorem State.setGen_memu (s : State) (g : Nat) (x : Gen) : (s.setGen g x).memu = s.memu := rfl
@[simp] theorem State.setGen_fab (s : State) (g : Nat) (x : Gen) : (s.setGen g x).fab = s.fab := rfl
@[simp] theorem State.setGen_pair (s : State) (g : Nat) (x : Gen) : (s.setGen g x).pair = s.pair := rfl
@[simp] theorem State.setGen_route (s : State) (g : Nat) (x : Gen) : (s.setGen g x).route = s.route := rfl
@[simp] theorem State.setGen_scene (s : State) (g : Nat) (x : Gen) : (s.setGen g x).scene = s.scene := rfl
@[simp] theorem State.setGen_pop (s : State) (g : Nat) (x : Gen) : (s.setGen g x).pop = s.pop := rfl
@[simp] theorem State.setGen_objs (s : State) (g : Nat) (x : Gen) : (s.setGen g x).objs = s.objs := rfl
@[simp] theorem State.setGen_tdm (s : State) (g : Nat) (x : Gen) : (s.setGen g x).tdm = s.tdm := rfl
@[simp] theorem State.setGen_net (s : State) (g : Nat) (x : Gen) : (s.setGen g x).net = s.net := rfl
@[simp] theorem State.setGen_hlth (s : State) (g : Nat) (x : Gen) : (s.setGen g x).hlth = s.hlth := rfl
@[simp] theorem State.setGen_evt (s : State) (g : Nat) (x : Gen) : (s.setGen g x).evt = s.evt := rfl
@[simp] theorem State.setGen_free (s : State) (g : Nat) (x : Gen) : (s.setGen g x).free = s.free := rfl
@[simp] theorem State.setGen_pending (s : State) (g : Nat) (x : Gen) : (s.setGen g x).pending = s.pending := rfl
@[simp] theorem State.setGen_regs (s : State) (g : Nat) (x : Gen) : (s.setGen g x).regs = s.regs := rfl
@[simp] theorem State.setGen_fld (s : State) (g : Nat) (x : Gen) (f : Fd) (i j : Nat) : (s.setGen g x).fld f i j = s.fld f i j := rfl

@[simp] theorem State.setSwPort_mem (s : State) (p : Nat) (x : SwPort) : (s.setSwPort p x).mem = s.mem := rfl
@[simp] theorem State.setSwPort_sys (s : State) (p : Nat) (x : SwPort) : (s.setSwPort p x).sys = s.sys := rfl
@[simp] theorem State.setSwPort_flash (s : State) (p : Nat) (x : SwPort) : (s.setSwPort p x).flash = s.flash := rfl
@[simp] theorem State.setSwPort_clk (s : State) (p : Nat) (x : SwPort) : (s.setSwPort p x).clk = s.clk := rfl
@[simp] theorem State.setSwPort_ref (s : State) (p : Nat) (x : SwPort) : (s.setSwPort p x).ref = s.ref := rfl
@[simp] theorem State.setSwPort_tim (s : State) (p : Nat) (x : SwPort) : (s.setSwPort p x).tim = s.tim := rfl
@[simp] theorem State.setSwPort_pump (s : State) (p : Nat) (x : SwPort) : (s.setSwPort p x).pump = s.pump := rfl
@[simp] theorem State.setSwPort_memu (s : State) (p : Nat) (x : SwPort) : (s.setSwPort p x).memu = s.memu := rfl
@[simp] theorem State.setSwPort_fab (s : State) (p : Nat) (x : SwPort) : (s.setSwPort p x).fab = s.fab := rfl
@[simp] theorem State.setSwPort_pair (s : State) (p : Nat) (x : SwPort) : (s.setSwPort p x).pair = s.pair := rfl
@[simp] theorem State.setSwPort_route (s : State) (p : Nat) (x : SwPort) : (s.setSwPort p x).route = s.route := rfl
@[simp] theorem State.setSwPort_scene (s : State) (p : Nat) (x : SwPort) : (s.setSwPort p x).scene = s.scene := rfl
@[simp] theorem State.setSwPort_pop (s : State) (p : Nat) (x : SwPort) : (s.setSwPort p x).pop = s.pop := rfl
@[simp] theorem State.setSwPort_objs (s : State) (p : Nat) (x : SwPort) : (s.setSwPort p x).objs = s.objs := rfl
@[simp] theorem State.setSwPort_tdm (s : State) (p : Nat) (x : SwPort) : (s.setSwPort p x).tdm = s.tdm := rfl
@[simp] theorem State.setSwPort_well (s : State) (p : Nat) (x : SwPort) : (s.setSwPort p x).well = s.well := rfl
@[simp] theorem State.setSwPort_hlth (s : State) (p : Nat) (x : SwPort) : (s.setSwPort p x).hlth = s.hlth := rfl
@[simp] theorem State.setSwPort_evt (s : State) (p : Nat) (x : SwPort) : (s.setSwPort p x).evt = s.evt := rfl
@[simp] theorem State.setSwPort_free (s : State) (p : Nat) (x : SwPort) : (s.setSwPort p x).free = s.free := rfl
@[simp] theorem State.setSwPort_pending (s : State) (p : Nat) (x : SwPort) : (s.setSwPort p x).pending = s.pending := rfl
@[simp] theorem State.setSwPort_regs (s : State) (p : Nat) (x : SwPort) : (s.setSwPort p x).regs = s.regs := rfl
@[simp] theorem State.setSwPort_fld (s : State) (p : Nat) (x : SwPort) (f : Fd) (i j : Nat) : (s.setSwPort p x).fld f i j = s.fld f i j := rfl

@[simp] theorem State.setRx_mem (s : State) (k : Nat) (x : RxStream) : (s.setRx k x).mem = s.mem := rfl
@[simp] theorem State.setRx_sys (s : State) (k : Nat) (x : RxStream) : (s.setRx k x).sys = s.sys := rfl
@[simp] theorem State.setRx_flash (s : State) (k : Nat) (x : RxStream) : (s.setRx k x).flash = s.flash := rfl
@[simp] theorem State.setRx_clk (s : State) (k : Nat) (x : RxStream) : (s.setRx k x).clk = s.clk := rfl
@[simp] theorem State.setRx_ref (s : State) (k : Nat) (x : RxStream) : (s.setRx k x).ref = s.ref := rfl
@[simp] theorem State.setRx_tim (s : State) (k : Nat) (x : RxStream) : (s.setRx k x).tim = s.tim := rfl
@[simp] theorem State.setRx_pump (s : State) (k : Nat) (x : RxStream) : (s.setRx k x).pump = s.pump := rfl
@[simp] theorem State.setRx_memu (s : State) (k : Nat) (x : RxStream) : (s.setRx k x).memu = s.memu := rfl
@[simp] theorem State.setRx_fab (s : State) (k : Nat) (x : RxStream) : (s.setRx k x).fab = s.fab := rfl
@[simp] theorem State.setRx_pair (s : State) (k : Nat) (x : RxStream) : (s.setRx k x).pair = s.pair := rfl
@[simp] theorem State.setRx_route (s : State) (k : Nat) (x : RxStream) : (s.setRx k x).route = s.route := rfl
@[simp] theorem State.setRx_scene (s : State) (k : Nat) (x : RxStream) : (s.setRx k x).scene = s.scene := rfl
@[simp] theorem State.setRx_pop (s : State) (k : Nat) (x : RxStream) : (s.setRx k x).pop = s.pop := rfl
@[simp] theorem State.setRx_objs (s : State) (k : Nat) (x : RxStream) : (s.setRx k x).objs = s.objs := rfl
@[simp] theorem State.setRx_tdm (s : State) (k : Nat) (x : RxStream) : (s.setRx k x).tdm = s.tdm := rfl
@[simp] theorem State.setRx_well (s : State) (k : Nat) (x : RxStream) : (s.setRx k x).well = s.well := rfl
@[simp] theorem State.setRx_hlth (s : State) (k : Nat) (x : RxStream) : (s.setRx k x).hlth = s.hlth := rfl
@[simp] theorem State.setRx_evt (s : State) (k : Nat) (x : RxStream) : (s.setRx k x).evt = s.evt := rfl
@[simp] theorem State.setRx_free (s : State) (k : Nat) (x : RxStream) : (s.setRx k x).free = s.free := rfl
@[simp] theorem State.setRx_pending (s : State) (k : Nat) (x : RxStream) : (s.setRx k x).pending = s.pending := rfl
@[simp] theorem State.setRx_regs (s : State) (k : Nat) (x : RxStream) : (s.setRx k x).regs = s.regs := rfl
@[simp] theorem State.setRx_fld (s : State) (k : Nat) (x : RxStream) (f : Fd) (i j : Nat) : (s.setRx k x).fld f i j = s.fld f i j := rfl

@[simp] theorem State.setTx_mem (s : State) (k : Nat) (x : TxStream) : (s.setTx k x).mem = s.mem := rfl
@[simp] theorem State.setTx_sys (s : State) (k : Nat) (x : TxStream) : (s.setTx k x).sys = s.sys := rfl
@[simp] theorem State.setTx_flash (s : State) (k : Nat) (x : TxStream) : (s.setTx k x).flash = s.flash := rfl
@[simp] theorem State.setTx_clk (s : State) (k : Nat) (x : TxStream) : (s.setTx k x).clk = s.clk := rfl
@[simp] theorem State.setTx_ref (s : State) (k : Nat) (x : TxStream) : (s.setTx k x).ref = s.ref := rfl
@[simp] theorem State.setTx_tim (s : State) (k : Nat) (x : TxStream) : (s.setTx k x).tim = s.tim := rfl
@[simp] theorem State.setTx_pump (s : State) (k : Nat) (x : TxStream) : (s.setTx k x).pump = s.pump := rfl
@[simp] theorem State.setTx_memu (s : State) (k : Nat) (x : TxStream) : (s.setTx k x).memu = s.memu := rfl
@[simp] theorem State.setTx_fab (s : State) (k : Nat) (x : TxStream) : (s.setTx k x).fab = s.fab := rfl
@[simp] theorem State.setTx_pair (s : State) (k : Nat) (x : TxStream) : (s.setTx k x).pair = s.pair := rfl
@[simp] theorem State.setTx_route (s : State) (k : Nat) (x : TxStream) : (s.setTx k x).route = s.route := rfl
@[simp] theorem State.setTx_scene (s : State) (k : Nat) (x : TxStream) : (s.setTx k x).scene = s.scene := rfl
@[simp] theorem State.setTx_pop (s : State) (k : Nat) (x : TxStream) : (s.setTx k x).pop = s.pop := rfl
@[simp] theorem State.setTx_objs (s : State) (k : Nat) (x : TxStream) : (s.setTx k x).objs = s.objs := rfl
@[simp] theorem State.setTx_tdm (s : State) (k : Nat) (x : TxStream) : (s.setTx k x).tdm = s.tdm := rfl
@[simp] theorem State.setTx_well (s : State) (k : Nat) (x : TxStream) : (s.setTx k x).well = s.well := rfl
@[simp] theorem State.setTx_hlth (s : State) (k : Nat) (x : TxStream) : (s.setTx k x).hlth = s.hlth := rfl
@[simp] theorem State.setTx_evt (s : State) (k : Nat) (x : TxStream) : (s.setTx k x).evt = s.evt := rfl
@[simp] theorem State.setTx_free (s : State) (k : Nat) (x : TxStream) : (s.setTx k x).free = s.free := rfl
@[simp] theorem State.setTx_pending (s : State) (k : Nat) (x : TxStream) : (s.setTx k x).pending = s.pending := rfl
@[simp] theorem State.setTx_regs (s : State) (k : Nat) (x : TxStream) : (s.setTx k x).regs = s.regs := rfl
@[simp] theorem State.setTx_fld (s : State) (k : Nat) (x : TxStream) (f : Fd) (i j : Nat) : (s.setTx k x).fld f i j = s.fld f i j := rfl

@[simp] theorem State.setLine_mem (s : State) (f : Nat) (x : SoundLine) : (s.setLine f x).mem = s.mem := rfl
@[simp] theorem State.setLine_sys (s : State) (f : Nat) (x : SoundLine) : (s.setLine f x).sys = s.sys := rfl
@[simp] theorem State.setLine_flash (s : State) (f : Nat) (x : SoundLine) : (s.setLine f x).flash = s.flash := rfl
@[simp] theorem State.setLine_clk (s : State) (f : Nat) (x : SoundLine) : (s.setLine f x).clk = s.clk := rfl
@[simp] theorem State.setLine_ref (s : State) (f : Nat) (x : SoundLine) : (s.setLine f x).ref = s.ref := rfl
@[simp] theorem State.setLine_tim (s : State) (f : Nat) (x : SoundLine) : (s.setLine f x).tim = s.tim := rfl
@[simp] theorem State.setLine_pump (s : State) (f : Nat) (x : SoundLine) : (s.setLine f x).pump = s.pump := rfl
@[simp] theorem State.setLine_memu (s : State) (f : Nat) (x : SoundLine) : (s.setLine f x).memu = s.memu := rfl
@[simp] theorem State.setLine_fab (s : State) (f : Nat) (x : SoundLine) : (s.setLine f x).fab = s.fab := rfl
@[simp] theorem State.setLine_pair (s : State) (f : Nat) (x : SoundLine) : (s.setLine f x).pair = s.pair := rfl
@[simp] theorem State.setLine_route (s : State) (f : Nat) (x : SoundLine) : (s.setLine f x).route = s.route := rfl
@[simp] theorem State.setLine_scene (s : State) (f : Nat) (x : SoundLine) : (s.setLine f x).scene = s.scene := rfl
@[simp] theorem State.setLine_pop (s : State) (f : Nat) (x : SoundLine) : (s.setLine f x).pop = s.pop := rfl
@[simp] theorem State.setLine_objs (s : State) (f : Nat) (x : SoundLine) : (s.setLine f x).objs = s.objs := rfl
@[simp] theorem State.setLine_tdm (s : State) (f : Nat) (x : SoundLine) : (s.setLine f x).tdm = s.tdm := rfl
@[simp] theorem State.setLine_net (s : State) (f : Nat) (x : SoundLine) : (s.setLine f x).net = s.net := rfl
@[simp] theorem State.setLine_well (s : State) (f : Nat) (x : SoundLine) : (s.setLine f x).well = s.well := rfl
@[simp] theorem State.setLine_evt (s : State) (f : Nat) (x : SoundLine) : (s.setLine f x).evt = s.evt := rfl
@[simp] theorem State.setLine_free (s : State) (f : Nat) (x : SoundLine) : (s.setLine f x).free = s.free := rfl
@[simp] theorem State.setLine_pending (s : State) (f : Nat) (x : SoundLine) : (s.setLine f x).pending = s.pending := rfl
@[simp] theorem State.setLine_regs (s : State) (f : Nat) (x : SoundLine) : (s.setLine f x).regs = s.regs := rfl
@[simp] theorem State.setLine_fld (s : State) (g : Nat) (x : SoundLine) (f : Fd) (i j : Nat) : (s.setLine g x).fld f i j = s.fld f i j := rfl

@[simp] theorem State.answer_mem (s : State) (st d r : Nat) : (s.answer st d r).mem = s.mem := rfl
@[simp] theorem State.answer_sys (s : State) (st d r : Nat) : (s.answer st d r).sys = s.sys := rfl
@[simp] theorem State.answer_flash (s : State) (st d r : Nat) : (s.answer st d r).flash = s.flash := rfl
@[simp] theorem State.answer_clk (s : State) (st d r : Nat) : (s.answer st d r).clk = s.clk := rfl
@[simp] theorem State.answer_ref (s : State) (st d r : Nat) : (s.answer st d r).ref = s.ref := rfl
@[simp] theorem State.answer_tim (s : State) (st d r : Nat) : (s.answer st d r).tim = s.tim := rfl
@[simp] theorem State.answer_pump (s : State) (st d r : Nat) : (s.answer st d r).pump = s.pump := rfl
@[simp] theorem State.answer_memu (s : State) (st d r : Nat) : (s.answer st d r).memu = s.memu := rfl
@[simp] theorem State.answer_fab (s : State) (st d r : Nat) : (s.answer st d r).fab = s.fab := rfl
@[simp] theorem State.answer_pair (s : State) (st d r : Nat) : (s.answer st d r).pair = s.pair := rfl
@[simp] theorem State.answer_route (s : State) (st d r : Nat) : (s.answer st d r).route = s.route := rfl
@[simp] theorem State.answer_scene (s : State) (st d r : Nat) : (s.answer st d r).scene = s.scene := rfl
@[simp] theorem State.answer_objs (s : State) (st d r : Nat) : (s.answer st d r).objs = s.objs := rfl
@[simp] theorem State.answer_tdm (s : State) (st d r : Nat) : (s.answer st d r).tdm = s.tdm := rfl
@[simp] theorem State.answer_net (s : State) (st d r : Nat) : (s.answer st d r).net = s.net := rfl
@[simp] theorem State.answer_well (s : State) (st d r : Nat) : (s.answer st d r).well = s.well := rfl
@[simp] theorem State.answer_hlth (s : State) (st d r : Nat) : (s.answer st d r).hlth = s.hlth := rfl
@[simp] theorem State.answer_evt (s : State) (st d r : Nat) : (s.answer st d r).evt = s.evt := rfl
@[simp] theorem State.answer_free (s : State) (st d r : Nat) : (s.answer st d r).free = s.free := rfl
@[simp] theorem State.answer_pending (s : State) (st d r : Nat) : (s.answer st d r).pending = s.pending := rfl
@[simp] theorem State.answer_regs (s : State) (st d r : Nat) : (s.answer st d r).regs = s.regs := rfl
@[simp] theorem State.answer_fld (s : State) (st d r : Nat) (f : Fd) (i j : Nat) : (s.answer st d r).fld f i j = s.fld f i j := rfl

/-! ### Register fields -/

theorem State.fld_put_self (s : State) (f : Fd) (v i j : Nat) : (s.put f v i j).fld f i j = v % 2 ^ f.width := by
  simp [State.fld, State.put, nget_nset]

theorem Fd.key_ne {f g : Fd} (h : g.id ≠ f.id) (i j i' j' : Nat) : g.key i' j' ≠ f.key i j := by
  unfold Fd.key; omega

theorem State.fld_put_ne (s : State) {f g : Fd} (v i j i' j' : Nat) (h : g.id ≠ f.id) :
    (s.put f v i j).fld g i' j' = s.fld g i' j' := by
  simp only [State.fld, State.put]
  exact nget_nset_ne _ _ _ _ (Fd.key_ne h i j i' j')

/-- Another index of the same field is another field. -/
theorem Fd.key_inj {f : Fd} {i j i' j' : Nat} (hi : i < 2 ^ 20) (hj : j < 2 ^ 20) (hi' : i' < 2 ^ 20) (hj' : j' < 2 ^ 20)
    (h : f.key i' j' = f.key i j) : i' = i ∧ j' = j := by
  unfold Fd.key at h; omega

theorem State.fld_put_at (s : State) (f : Fd) (v : Nat) {i j i' j' : Nat} (hi : i < 2 ^ 20) (hj : j < 2 ^ 20)
    (hi' : i' < 2 ^ 20) (hj' : j' < 2 ^ 20) :
    (s.put f v i j).fld f i' j' = if i' = i ∧ j' = j then v % 2 ^ f.width else s.fld f i' j' := by
  by_cases h : i' = i ∧ j' = j
  · obtain ⟨rfl, rfl⟩ := h; simp [State.fld_put_self]
  · rw [if_neg h]
    simp only [State.fld, State.put]
    exact nget_nset_ne _ _ _ _ (fun e => h (Fd.key_inj hi hj hi' hj' e))

theorem Fd.width_pos (f : Fd) (h : f.lo ≤ f.hi) : 0 < f.width := by unfold Fd.width; omega

/-! ### Indexed tables -/

theorem State.lane_setLane (s : State) (n m : Nat) (x : Lane) : (s.setLane n m x).lane n m = x := by
  simp [State.lane, State.setLane, nget_nset]
theorem State.lane_setLane_ne (s : State) (n m : Nat) (x : Lane) {n' m' : Nat} (h : laneKey n' m' ≠ laneKey n m) :
    (s.setLane n m x).lane n' m' = s.lane n' m' := by
  simp [State.lane, State.setLane, nget_nset, h]
theorem State.lane_put (s : State) (f : Fd) (v i j n m : Nat) : (s.put f v i j).lane n m = s.lane n m := rfl
theorem State.dom_setDom (s : State) (d e : Nat) (x : Dom) : (s.setDom d x).dom e = if e = d then x else s.dom e := by
  simp [State.dom, State.setDom, nget_nset]
theorem State.rt_setRt (s : State) (n t : Nat) (x : TaskRt) : (s.setRt n t x).rt n t = x := by
  simp [State.rt, State.setRt, nget_nset]
theorem State.cand_setCand (s : State) (n k : Nat) (c : Cand) : (s.setCand n c).cand k = if k = n then c else s.cand k := by
  simp [State.cand, State.setCand, nget_nset]

end Sys2Proof.Machine
end

