-- ==== Sys2Proof/Tests/Slice0.lean ====
section
/-! SUPPORT. The model's own tests: worked examples of the spec, an ill-formed term for each check, and for each statement with
hypotheses a state and operands that meet them. -/

open Sys2Proof Sys2Proof.Machine

namespace Sys2Proof.Tests

/-- The machine after reset with the safe sequencer done and no Engine Reset held: the units run. -/
def w0 : State := { State.reset with sys := { State.reset.sys with phase := .up, safeStep := 6, engReset := false } }

/-- Fields set to the given values. -/
def put (s : State) (l : List (Fd × Nat × Nat)) : State := l.foldl (fun s e => s.put e.1 e.2.2 e.2.1) s

/-! ### Hypotheses of the statements -/

/-- A release while PWR_GOOD, RESET_N and VSTBY allow it. -/
def wPor : State := { State.reset with sys := { State.reset.sys with pwrGood := true, resetN := true } }

/-- Hypotheses of PowerOnResets and Release: each clause. -/
theorem wit_PowerOnResets :
    w0.sys.phase ≠ .deepStandby ∧
    (let s : State := { w0 with sys := { w0.sys with phase := .deepStandby } }
     s.sys.phase = .deepStandby ∧ s.sys.vstby = true) ∧
    wPor.sys.phase = .por ∧ (wPor.sys.vstby && !wPor.sys.brownOut) = true ∧ (wPor.sys.pwrGood && wPor.sys.resetN && wPor.sys.vstby) = true := by
  decide

/-- Hypotheses of EngineResets: each clause. -/
theorem wit_EngineResets :
    w0.up = true ∧ w0.sys.engReset = false ∧ w0.clocked = true ∧
    (let s : State := { w0 with sys := { w0.sys with fwRunning := true } }
     s.up = true ∧ s.sys.engReset = false ∧ s.sys.fwRunning = true) ∧
    (let s : State := { w0 with sys := { w0.sys with engReset := true, thermal := true } }
     s.up = true ∧ s.sys.thermal = true ∧ s.sys.engReset = true) ∧
    (∀ c ∈ List.replicate 8 (114 : Int), c < 115) := by decide

/-- Hypotheses of WorkResets: each clause. -/
theorem wit_WorkResets :
    (let s := w0.setClocked 35 true
     s.live = true ∧ s.role = 0 ∧ s.siteClocked 35 = true ∧ s.hlth.cluCopy.any (fun c => c.old = 35) = false) ∧
    (let s : State := { w0 with sys := { w0.sys with cluReset := 2 ^ 35 }, pump := { w0.pump with image := [(8192 * 35 + 8191, 7)] } }
     bit s.sys.cluReset 35 = true ∧ nsorted s.pump.image = true ∧ (8192 * 35 + 8191, 7) ∈ s.pump.image) := by decide

/-- A startup configuration of the other family that names every Wellhead channel. -/
def wCfg : StartupCfg := { family := 1, wellNamed := 255, tdm0Width := 2, tdm0Offset := 1 }

/-- A firmware slot that passes every check. -/
def wSlot : FwSlot := { valid := true, sigOk := true, secVersion := 3, fwVersion := 7, stepping := 0x00A1 }

/-- The machine right after release, with image B in the boot flash. -/
def wRel : State :=
  { State.reset with regs := (State.reset.put fSYS_BOOT_STATUS_STAGE 1).regs
                     sys := { State.reset.sys with phase := .up, safeStep := 1 }, flash := { State.reset.flash with fwB := wSlot } }

/-- Hypotheses of SafeSequencer: each clause. -/
theorem wit_SafeSequencer :
    wRel.up = true ∧ wRel.sys.xoQual = false ∧ wRel.sys.safeStep = 1 ∧ wRel.flag fREF_RPLL_STATUS_LOCKED = false ∧
    (let s : State := { wRel with sys := { wRel.sys with safeStep := 2, xoQual := true } }
     s.up = true ∧ 2 ≤ s.sys.safeStep ∧ s.fld fHLTH_CMAPk_SITE 31 < 36 ∧ s.isPermanent 2 (s.fld fHLTH_CMAPk_SITE 31) = false) ∧
    w0.sys.refsSettled = false := by decide

/-- Hypotheses of StagedStart: an image that passes, none, the retirement record, and an open write. -/
theorem wit_StagedStart :
    (wRel.sys.engReset = false ∧ wRel.sys.fwRunning = false ∧ wRel.fld fSYS_BOOT_STATUS_STAGE = 1 ∧ wRel.fld fSYS_STRAP_BOOT ≤ 2 ∧
      (∀ c ∈ wRel.flash.cfgs, c.valid = false) ∧ wRel.flash.order.find? (fun e => wRel.imageOk e.2) = some (1, wSlot)) ∧
    (let s : State := { wRel with flash := {} }
     ∀ e ∈ s.flash.order, s.imageOk e.2 = false) ∧
    (let s : State := { put w0 [(fSYS_BOOT_STATUS_STAGE, 0, 2)] with sys := { w0.sys with fwRunning := true }
                                                                     flash := { w0.flash with retired := [{ kind := 4, site := 5 }], jobs := [.retire 3 7] } }
     s.live = true ∧ s.sys.fwRunning = true ∧ s.fld fSYS_BOOT_STATUS_STAGE = 2 ∧ s.familyDue = false ∧
       s.flag fREF_RPLL_STATUS_SLEWING = false ∧ s.flash.jobs = [.retire 3 7]) := by decide

/-- Hypotheses of PowerStates: each clause. -/
theorem wit_PowerStates :
    w0.up = true ∧ w0.flag fSYS_PWR_CTRL_BUSY = false ∧
    (let s := put (w0.setClocked 35 true) [(fSYS_PWR_CTRL_TARGET, 0, 1), (fSYS_PWR_CTRL_STATE, 0, 2), (fSYS_PWR_CTRL_BUSY, 0, 1)]
     s.live = true ∧ s.fld fSYS_PWR_CTRL_TARGET = 1 ∧ s.fld fSYS_PWR_CTRL_STATE = 2 ∧ s.flag fSYS_PWR_CTRL_BUSY = true ∧ s.siteClocked 35 = true) ∧
    (let s : State := { put w0 [(fSYS_PWR_CTRL_STATE, 0, 1), (fSYS_PWR_CTRL_BUSY, 0, 1)] with
                        pump := { w0.pump with image := [(0, 5), (8192 * 35 + 8191, 7)] } }
     s.live = true ∧ s.fld fSYS_PWR_CTRL_TARGET = 0 ∧ s.fld fSYS_PWR_CTRL_STATE = 1 ∧ s.flag fSYS_PWR_CTRL_BUSY = true ∧
       nsorted s.pump.image = true) := by decide

/-- Hypotheses of RootClockEvents: each clause. -/
theorem wit_RootClockEvents :
    (let s : State := { put w0 [(fREF_RPLL_STATUS_FROZEN, 0, 1), (fREF_RPLL_STATUS_LOCKED, 0, 1), (fREF_RPLL_STATUS_SDSREF0_OK, 0, 1)
                                , (fDCIS_CFG_EN, 0, 1), (fDCIS_STATUS_STATE, 0, 2)] with sys := { w0.sys with xoQual := true, slewDue := true } }
     s.up = true ∧ s.sys.xoQual = true ∧ s.clocked = true ∧ s.flag fREF_RPLL_STATUS_FROZEN = true ∧ s.sys.slewDue = true ∧
       s.flag fREF_RPLL_STATUS_LOCKED = true ∧ s.flag (sdsOk 0) = true ∧ s.flag fDCIS_CFG_EN = true ∧ s.dcisState ≠ 0 ∧
       s.flag (sdsOk 1) = false) ∧ wRel.clocked = false := by decide

/-- A state in the middle of a family change, every Wellhead channel handed over. -/
def wFamily : State :=
  { put (w0.setClocked 35 true) [(fSYS_BOOT_STATUS_STAGE, 0, 2), (fREF_RPLL_STATUS_SLEWING, 0, 1), (fTDMn_STATUS_STATE, 0, 4)] with
    sys := { w0.sys with cfg := some wCfg, xoQual := true, started := true } }

/-- Hypotheses of ClocksAndFamily: each clause. -/
theorem wit_ClocksAndFamily :
    wFamily.live = true ∧ wFamily.siteClocked 35 = true ∧ (wFamily.lane 35 8).task = none ∧ nget 0 wFamily.memu.lastAccess 63 = 0 ∧
    wFamily.fld fSYS_BOOT_STATUS_STAGE = 2 ∧ wFamily.familyDue = true ∧ wFamily.xoPresent = true ∧
    (wFamily.put fREF_RPLL_STATUS_SLEWING 0).flag fREF_RPLL_STATUS_SLEWING = false ∧ wFamily.flag fREF_RPLL_STATUS_SLEWING = true ∧
    wFamily.tdmState 0 = 4 ∧ wFamily.sys.cfg = some wCfg ∧ wFamily.sys.started = true ∧ wFamily.sys.tdm0Done = false ∧
    wCfg.wellNamed % 256 = 255 ∧ wFamily.allHanded = true := by decide

/-- Candidate 0 QUALIFIED, candidate 1 ABSENT, candidate 2 waiting to restore, a selection pending, PULSE 3 on. -/
def wRef : State :=
  { put w0 [(fREF_CANDn_STATUS_STATE, 0, 3), (fREF_CANDn_STATUS_STATE, 1, 1), (fREF_CANDn_STATUS_STATE, 2, 6), (fREF_CANDn_FREQ_FREQ, 1, 48000)
            , (fREF_SEL_STATUS_MODE, 0, 1), (fREF_PULSEn_CTRL_EN, 3, 1)] with
    ref := { w0.ref with pendSel := some 0, pulses := [(3, { active := true, instant := 5 })] } }

/-- Hypotheses of ControlWord and ReferenceWindows. -/
theorem wit_ControlWord :
    wRef.clocked = true ∧ wRef.flag fREF_RPLL_STATUS_FROZEN = false ∧ wRef.flag fREF_RPLL_STATUS_SLEWING = false ∧
    (wRef.put fREF_RPLL_STATUS_SLEWING 1).flag fREF_RPLL_STATUS_SLEWING = true ∧
    wRef.holdWindow.length < 16 ∧ wRef.ref.holdFix = none ∧ wRef.measured 0 = true ∧ wRef.measured 1 = false ∧ wRef.candState 0 = 3 ∧
    (wRef.fld fREF_LIMITS_HARD_1S + wRef.fld fREF_DRIFT_XO_TOL) * 10000 < (([2000000000] : List Int).getD 0 0).natAbs := by decide

/-- Hypotheses of ReferenceSelection and PulseOutputs: each clause. -/
theorem wit_ReferenceSelection :
    wRef.lossHolds 0 = true ∧ wRef.candState 1 = 1 ∧ wRef.flag fREF_CANDn_FREQ_FREQ 1 = true ∧ wRef.candState 2 = 6 ∧ wRef.anyCrossed 2 = false ∧
    (List.range 8).filter w0.eligible = [7] ∧ w0.following = false ∧ w0.flag fREF_CTRL_FORCE_EN = false ∧
    wRef.ref.pendSel = some 0 ∧ wRef.fld fREF_SEL_STATUS_MODE = 1 ∧ 2 ≤ w0.fld fREF_SEL_STATUS_MODE ∧
    wRef.pulseOn 3 = true ∧ wRef.flag fREF_PULSEn_CTRL_FLYWHEEL 3 = false ∧ (wRef.pulse 3).active = true ∧
    (let s := wRef.put fREF_PULSEn_CTRL_FLYWHEEL 1 3
     s.pulseOn 3 = true ∧ s.flag fREF_PULSEn_CTRL_FLYWHEEL 3 = true) := by decide

/-- An Announce of a master. -/
def wAnn : Announce := { sender := 9, senderPort := 1, gm := 9, prio1 := 128, clockClass := 6, accuracy := 0x21, variance := 1, prio2 := 128
                         steps := 0, logInt := 0, utcOffset := 37 }

/-- Domain 1 ACQUIRING from a master known at port 2, with one delay, a request open and the master heard once before. -/
def wPtp : State :=
  { put w0 [(fTIM_Dn_CFG_EN, 1, 1), (fTIM_Dn_STATUS_STATE, 1, 2), (fTIM_Dn_STATUS_PORT, 1, 2)] with
    tim := { w0.tim with cnt := 1000, doms := [(1, { master := some 9, foreign := [{ ann := wAnn, port := 2, seen := 0, qualified := false }], req := some 5
                                                     ports := [(2, { dly := [7], last := some (1, 2, 3) })] })] } }

/-- Hypotheses of PtpMasters and PtpServo: each clause. -/
theorem wit_Ptp :
    wPtp.clocked = true ∧ wPtp.flag fTIM_Dn_CFG_EN 1 = true ∧ bit (wPtp.fld fTIM_Dn_CFG_PORTS 1) 2 = true ∧ wPtp.annIntOk 1 0 = true ∧
    (bestMaster (wPtp.foreignAfter 1 2 wAnn)).isSome = true ∧ bestMaster ({ wPtp with tim := {} }.foreignAfter 1 2 wAnn) = none ∧
    wPtp.domState 1 = 2 ∧ (wPtp.dom 1).master.isSome = true ∧ wPtp.domFollowing 1 = true ∧
    (wPtp.ptpPort 1 2).corr = 0 ∧ (wPtp.ptpPort 1 2).corrDue = false ∧ wPtp.fldI fTIM_PORTn_ASYM_CORR 2 = 0 ∧
    wPtp.fld fTIM_Dn_STATUS_PORT 1 = 2 ∧ syncIntOk (-7) = true ∧ syncIntOk 1 = true ∧
    (wPtp.ptpPort 1 2).dly ≠ [] ∧ wPtp.flag fTIM_Dn_STATUS_HAS_LOCKED 1 = false ∧ (wPtp.dom 1).first = true ∧
    (let s := put wPtp [(fTIM_Dn_STATUS_STATE, 1, 3), (fTIM_Dn_STATUS_HAS_LOCKED, 1, 1)]
     s.domState 1 = 3 ∧ s.flag fTIM_Dn_STATUS_HAS_LOCKED 1 = true ∧ (s.dom 1).held = [] ∧ within 0 stepThr = true) ∧
    (wPtp.dom 1).req = some 5 ∧ (wPtp.ptpPort 1 2).last = some (1, 2, 3) ∧ (wPtp.ptpPort 1 2).dly.length < 8 := by decide

/-- Domain 0 SUSPECT with a jump window that persists, domain 1 REJECTED, engine time catching up, a Follow_Up held. -/
def wJump : State :=
  { put w0 [(fTIM_Dn_STATUS_STATE, 0, 4), (fTIM_Dn_STATUS_STATE, 1, 6), (fTIM_MAP_STATUS_CATCHUP, 0, 1), (fTIM_CTRL_SOLO_ACCEPT, 0, 1)] with
    tim := { w0.tim with cnt := 1000, fuHeld := [(3, 44)]
                         doms := [(0, { win := some { start := 0, from' := 3, j := 200000000000, offs := [-200000000000, -200000000000] } }), (1, { reacq := some 5 })] } }

/-- Hypotheses of TimeJumps, TimeReads and TransparentClock: each clause. -/
theorem wit_TimeJumps :
    wJump.clocked = true ∧ wJump.domState 0 = 4 ∧
    (wJump.dom 0).win = some { start := 0, from' := 3, j := 200000000000, offs := [-200000000000, -200000000000] } ∧
    wJump.domState 1 = 6 ∧ (wJump.dom 1).reacq.isSome = true ∧ wJump.flag fTIM_MAP_STATUS_CATCHUP = true ∧
    bit (wJump.fld fTIM_Dn_CFG_PORTS 0) 0 = true ∧ wJump.live = true ∧ 0 < wJump.tim.pDen ∧ wJump.flag fTIM_CTRL_TC_EN = true ∧
    (wJump.put fTIM_CTRL_TC_EN 0).flag fTIM_CTRL_TC_EN = false ∧ wJump.fld fTIM_TC_COUNT_VALUE < 2 ^ 64 ∧
    wJump.tim.fuHeld.find? (fun h => h.1 = 3) = some (3, 44) := by decide

/-- A unit whose cluster 0 is clocked, with `x` on lane 0. -/
def wLaneS (x : Lane) (l : List (Fd × Nat × Nat) := []) : State :=
  let s := put w0 ((fSYS_CLU_CLK_CLOCKED, 0, 1) :: l)
  { s with pump := { s.pump with lanes := [(0, x)] } }

/-- A lane under way on task 3, and the last slot of its bundle or another. -/
def wl : Lane := { task := some 3, pc := 5 }
def wp (eob : Bool) : LaneAt := { site := 0, lane := 0, eob := eob }

/-- An ALU slot with a condition. -/
def wAlu (cond : BitVec 3) (ext : Bool := false) : Alu := { ext := ext, sat := true, rnd := false, rd := 1, ra := 0, rb := 0, cond := cond }

/-- Hypotheses of AluConditions: each class of slot, a condition that holds and one that fails. -/
theorem wit_AluConditions :
    (wLaneS wl).laneRuns 0 0 = true ∧ ((wLaneS wl).lane 0 0).pc < 8192 ∧ aluOk (wAlu 2) .binary = true ∧ aluOk (wAlu 2) .unary = true ∧
    aluOk (wAlu 2 true) .binary = true ∧ aluOk (wAlu 2 true) .immediate = true ∧ asNameOk (wAlu 2).rd = true ∧ (wAlu 2).ext = false ∧
    (wAlu 2).cond.toNat = 2 ∧ ((wLaneS wl).lane 0 0).z = false ∧ (wAlu 1).cond.toNat = 1 := by decide

/-- Hypotheses of Accumulates: without a residue error and a fill, and with an injected error. -/
theorem wit_Accumulates :
    (wLaneS wl).laneRuns 0 0 = true ∧ ({} : MacBits).flt = false ∧ nget false (wLaneS wl).pump.inj (laneKey 0 0) = false ∧
    ((wLaneS wl).lane 0 0).fills = [] ∧ (⟨true, false, true⟩ : MacBits).flt = true ∧
    nget false { (wLaneS wl).pump with inj := [(0, true)] }.inj (laneKey 0 0) = true ∧ (0 : BitVec 6) ≠ 63 := by decide

/-- Hypotheses of LaneMemory: a word that reads well, and a lane that does not shadow. -/
theorem wit_LaneMemory :
    (wLaneS wl).laneRuns 0 0 = true ∧ (wp false).eob = false ∧ (wLaneS wl).eccOf (xyAddr 0 false 0) .ok = .ok ∧
    ((wLaneS wl).lane 0 0).shadow = none ∧ (2 : BitVec 2) ≠ 3 := by decide

/-- Hypotheses of LaneControl, LaneBranches and BundleEnds: targets inside program memory, no loop or one, both marks. -/
theorem wit_LaneControl :
    (wLaneS wl).laneRuns 0 0 = true ∧ ((wLaneS wl).lane 0 0).target = none ∧ 0 ≤ (wl.pc : Int) + 1 + (-6 : BitVec 8).toInt ∧
    (wl.pc : Int) + 1 + (127 : BitVec 8).toInt < 8192 ∧ wl.loops.length < 2 ∧ wl.pc + (3 : BitVec 8).toNat + 1 ≤ 8191 ∧ asNameOk 0x30 = true ∧
    asKind 0x30 = 3 ∧ asKind 0 = 0 ∧ withEob false (.anop (wp true)) = some (wp true, .anop (wp false)) ∧
    withEob true (.anop (wp true)) = some (wp true, .anop (wp true)) ∧ (wp true).eob = true := by decide

/-- Hypotheses of LoopReturnAndInjection: a lane at the end of a loop's body, and a live unit. -/
theorem wit_LoopReturnAndInjection :
    (let s := wLaneS { wl with pc := 8, loops := [{ first := 6, last := 7, remaining := 2, rot := true }] }
     s.live = true ∧ (s.lane 0 0).task.isSome = true ∧ (s.lane 0 0).ended = false ∧ (s.lane 0 0).pc = 7 + 1 ∧
     (s.lane 0 0).loops.length = 1) := by decide

/-- A unit whose cluster 0 is clocked at block 6, with task 3 in a state. -/
def wTask (st : Nat) (l : List (Fd × Nat × Nat) := []) : State :=
  let s := put w0 [(fSYS_CLU_CLK_CLOCKED, 0, 1)]
  let s := ((s.put fTASK_STATE st 0 3).put fTASK_AFFINITY 0xFF 0 3).put fTASK_ENTRY 40 0 3
  let s := put s l
  { s with tim := { s.tim with blkIdx := some 6 } }

/-- Hypotheses of TaskStarts: a task that is ready, and one in the queue of a free lane. -/
theorem wit_TaskStarts :
    (wTask 2).pumpRuns 0 = true ∧ (wTask 2).tim.blkIdx.isSome = true ∧ (wTask 2).readyNow 0 3 6 = true := by decide

set_option maxRecDepth 20000 in
/-- Hypothesis of TaskStarts: a task waits for dispatch. -/
theorem wit_TaskDispatch : ∃ e, ∃ t, (exec (.taskReady 0 3) (wTask 2)) = .next t ∧ t.pickTask 0 = some e ∧
    t.eccOf (progAddr 0 (t.fld fTASK_ENTRY 0 e.1)) .ok = .ok := ⟨(3, 0), _, rfl, by decide, by decide⟩

/-- A task that runs and whose lane has ended. -/
def wRun : State :=
  { wTask 4 with pump := { w0.pump with lanes := [(0, { task := some 3, ended := true })], rt := [(3, { lane := 0, copying := true })]
                                        credits := [(0, 1, 0)] } }

/-- Hypotheses of TaskEnds and TaskMisses: a run that ends, a held one, a deadline and a retry. -/
theorem wit_TaskEnds :
    wRun.live = true ∧ wRun.tState 0 3 = 4 ∧ (wRun.lane 0 (wRun.rt 0 3).lane).ended = true ∧ (wRun.lane 0 (wRun.rt 0 3).lane).task = some 3 ∧
    (wTask 5).tState 0 3 = 5 ∧ ((wTask 5).rt 0 3).held.length + ((wTask 5).pumpSt 0).postq.length ≤ 64 ∧ (wRun.rt 0 3).copying = true ∧
    (wRun.rt 0 3).done ≠ some wRun.blkIndex ∧ (wTask 6).tState 0 3 = 6 ∧
    (let s : State := { wTask 4 with pump := { w0.pump with rt := [(3, { retry := some 2 })] } }
     s.pumpRuns 0 = true ∧ s.tState 0 3 = 4 ∧ (s.rt 0 3).retry.isSome = true) := by decide

/-- Hypotheses of PumpTransfers: a fetch, a write-back, a post entry, and a credit. -/
theorem wit_PumpTransfers :
    (let q : XferReq := { writeBack := false, buf := 1, blk := 6, slot := 0 }
     let p : PostItem := { writeBack := false, word := 0, buf := 1, blk := 6, slot := 0 }
     let s : State := { wRun with pump := { wRun.pump with sites := [(0, { xfers := [q, { q with writeBack := true }], postq := [p] })] } }
     s.live = true ∧ (s.pumpSt 0).xfers = q :: [{ q with writeBack := true }] ∧ q.writeBack = false ∧ s.fld fBUF_LEN 0 1 = 0 ∧
     s.memu.bad = [] ∧ (s.pumpSt 0).postq = p :: [] ∧ s.pump.credits.contains (0, 1, 0) = true) := by decide

/-- Hypotheses of PumpCommands: an unpaired unit, and a timer on. -/
theorem wit_PumpCommands :
    (wTask 1).live = true ∧ (wTask 1).siteClocked 0 = true ∧ (wTask 1).paired = false ∧
    (let s := (wTask 1).put fPUMPn_TIMERk_EN 1 0 2
     s.pumpRuns 0 = true ∧ s.flag fPUMPn_TIMERk_EN 0 2 = true ∧ s.fld fPUMPn_TIMERk_BIT 0 2 ≤ 29) := by decide

/-- Hypotheses of CisternBits: each clause. -/
theorem wit_CisternBits :
    (w0.live = true ∧ w0.mayCistern 0x3A = true ∧ w0.eccOf 0x40000008 .ok ≠ .uncorrectable ∧ w0.viaOwner 0x3A 0 = true) ∧
    w0.eccOf 0x41FFFFF8 .uncorrectable = .uncorrectable ∧
    ((put w0 [(fCIS_BANKk_CTRL_FAB_WR, 63, 0)]).viaOwner 0 63 = false ∧
      (put w0 [(fCIS_BANKk_CTRL_FAB_WR, 63, 0)]).flag fCIS_BANKk_CTRL_FAB_WR 63 = false) ∧
    w0.flag fFAB_ERR_LOG_VALID = false := by decide

/-- Hypotheses of BankOwnership: each clause, at the first and the last bank. -/
theorem wit_BankOwnership :
    (let ok (s : State) (master k new : Nat) := s.bankWriter master k && ownerCodeOk new && !(decide (new < 36) && !s.siteClocked new)
       && !s.flag fCIS_BANKk_CTRL_PENDING k
     ok w0 0x3A 0 0x38 = true ∧ w0.fld fCIS_BANKk_CTRL_OWNER 0 ≠ 0x38 ∧ ok w0 0 63 0x38 = false) ∧
    (put w0 [(fCIS_BANKk_CTRL_PENDING, 63, 1)]).flag fCIS_BANKk_CTRL_PENDING 63 = true ∧
    (put w0 [(fCIS_BANKk_CTRL_RET, 63, 1)]).flag fCIS_BANKk_CTRL_RET 63 = true ∧
    (put w0 [(fCIS_BANKk_CTRL_RETAINED, 0, 1)]).flag fCIS_BANKk_CTRL_RETAINED 0 = true := by decide

/-- A state for MemoryRepair: a write-back waits, a program line is bad, a row and a bank retire. -/
def wRepair : State :=
  { put w0 [(fDCIS_STATUS_STATE, 0, 2)] with
    memu := { w0.memu with writeBack := [0x40000000], bad := [(progAddr 35 (16 * 511), true)] }
    hlth := { w0.hlth with due := [{ kind := 3, site := 65535, cause := 1, sec := 0 }], bankCopy := [{ old := 63, new := 64 }] } }

/-- Hypotheses of MemoryRepair: each clause. -/
theorem wit_MemoryRepair :
    wRepair.live = true ∧ wRepair.memu.writeBack.contains (eccWord 0x40000004) = true ∧
    (wRepair.fld fDCIS_STATUS_STATE = 2 ∧ nget false wRepair.memu.bad (progAddr 35 (16 * 511 + 0)) = true) ∧
    (wRepair.hlth.due.any (fun r => r.kind = 3 && r.site = 0 * 66560 + 65535) = true ∧
      wRepair.hlth.rowCopied.any (fun e => e.1 = 0 * 66560 + 65535) = false ∧
      wRepair.freeRow 0 (65535 / 512) = some 66552 ∧ wRepair.bankOf 0 = some 0) ∧
    wRepair.hlth.bankCopy.any (fun c => c.old = wRepair.fld fCIS_BANKk_CTRL_PHYS 63) = true := by decide

/-- Hypotheses of DcisStates and DcisMoves: each clause. -/
theorem wit_Dcis :
    (∀ n ∈ [1, 2, 3, 4, 5], (put w0 [(fDCIS_STATUS_STATE, 0, n), (fDCIS_CFG_EN, 0, 1)]).dcisState = n ∧
      (put w0 [(fDCIS_STATUS_STATE, 0, n), (fDCIS_CFG_EN, 0, 1)]).flag fDCIS_CFG_EN = true) ∧ w0.up = true ∧
    w0.fld fDCIS_CFG_CHANNELS = 3 ∧
    (let s : State := { put w0 [(fDCIS_STR_DIR, 1023, 1)] with memu := { w0.memu with moves := [(0, 7), (1023, 7)] } }
     s.memu.moves.find? (fun e => e.1 = 0) = some (0, 7) ∧ s.memu.moves.find? (fun e => e.1 = 1023) = some (1023, 7) ∧
     s.flag fDCIS_STR_DIR 0 = false ∧ s.flag fDCIS_STR_DIR 1023 = true) := by decide

/-- A read of eight bytes of working RAM by the control processor. -/
def wReq : FabReq := { master := 0x3A, tag := 0, addr := 0x08000008, write := false, len := 1, be := [255], data := [], lock := false }

/-- The same request as it waits at its target. -/
def wBurst : FabBurst := { master := 0x3A, tag := 0, addr := 0x08000008, write := false, len := 1, be := [255], data := [], lock := false
                           target := 1, at' := 0 }

/-- Hypotheses of FabricRequests: a request refused, queued, and served by an owner port. -/
theorem wit_FabricRequests :
    (masterOk wReq.master = true ∧ wReq.len ≤ 16 ∧ wReq.tag < 8 ∧ wReq.addr < 2 ^ 36 ∧ w0.portDown 0x3A = false ∧
      w0.fab.queue.any (fun q => q.master = 0x3A && q.tag = 0) = false ∧ w0.decodeAddr wReq.addr = some 1) ∧
    w0.requestCause wBurst = 0 ∧ w0.lockBreak wBurst = false ∧ w0.requestCause { wBurst with len := 0 } ≠ 0 ∧
    (w0.requestCause { wBurst with addr := 0x41FFFFF8, target := 0x7F } = 0 ∧ w0.viaOwner 0x3A (0x7F - 0x40) = true) := by decide

/-- Hypotheses of FabricGrants. -/
theorem wit_FabricGrants :
    (let s : State := { w0 with fab := { w0.fab with queue := [wBurst] } }
     s.live = true ∧ s.winner 1 = some wBurst ∧ s.fab.locks.find? (fun e => e.1 = 1) = none ∧ wBurst.lock = false ∧ wBurst.len = 1 ∧
       s.flag fSYS_CTRL_REMAP = false ∧ nget false s.memu.bad (wBurst.addr / 8 * 8) = false) := by decide

/-- Hypotheses of FabricEnds. -/
theorem wit_FabricEnds :
    (let s : State := { w0 with fab := { w0.fab with locks := [(1, { master := 0x39, beats := 1, at' := 0 })], queue := [{ wBurst with master := 0x3B }] } }
     s.live = true ∧ s.fab.locks.find? (fun e => e.1 = 1) = some (1, { master := 0x39, beats := 1, at' := 0 }) ∧
       s.fab.queue.any (fun b => b.target = 1 && b.master = 0x39) = false ∧
       s.fab.queue.find? (fun b => b.master = 0x3B && b.target = 1) = some { wBurst with master := 0x3B } ∧
       s.portDown 0x38 = true ∧ s.portDown 35 = true) := by decide

/-- Hypotheses of RegisterWrites: an address for its first and last register, and a master that R418 keeps out. -/
theorem wit_RegisterWrites :
    (w0.live = true ∧ w0.paired = false ∧ w0.mayRegs 0 = false ∧ masterOk 0 = true) ∧
    ∀ r ∈ ([.SYS_SCRATCH, .NET_PORTp_STATUS] : List Reg), w0.decodeAddr (regAddr r 0) = some 2 ∧ w0.spaceCause 0x3A (regAddr r 0) = 0 ∧
      hiddenRegs (regAddr r 0) = false ∧ regAt (regAddr r 0) = some (r, 0, 0, 0) ∧ r ∈ plainRegs := by decide

/-- Hypotheses of RemapAndDescriptors: an EMPTY task and a running one. -/
theorem wit_RemapAndDescriptors :
    w0.live = true ∧ masterOk 0x3A = true ∧ masterOk 0x39 = true ∧ bit w0.sys.cluReset 35 = false ∧
    (w0.setClocked 35 true).siteClocked 35 = true ∧ w0.fld fTASK_STATE 35 511 = 0 ∧ (put w0 [(fTASK_STATE, 0, 4)]).fld fTASK_STATE 0 0 = 4 := by decide

/-- The Press argument with a digest and count 0. -/
def wArg (d : Nat) : List Byte := leBytes 8 d ++ List.replicate 24 0

/-- A Press that waits. -/
def wPress : PressReq := { kind := 0, digest := 0, instant := none, target := 0, prepared := false, late := false, entries := []
                           partnerReady := false, stamped := none }

/-- Reading back little-endian bytes. -/
theorem ofLeBytes_leBytes (n v : Nat) : ofLeBytes (leBytes n v) = v % 2 ^ (8 * n) := by
  induction n generalizing v with
  | zero => simp [leBytes, ofLeBytes, Nat.mod_one]
  | succ n ih =>
    simp only [leBytes, ofLeBytes, ih, BitVec.toNat_ofNat]
    rw [show 8 * (n + 1) = 8 + 8 * n by omega, Nat.pow_add, Nat.mod_mul]

/-- Hypotheses of SceneCommands: an argument with any digest, a check that fails, one that passes. -/
theorem wit_SceneCommands :
    (∀ d, d < 2 ^ 64 → PressArg (wArg d) d 0) ∧ w0.pressCheck 0 0 1 false = 3 ∧
    w0.pressCheck 0 w0.pendingDigest 0 false = 0 ∧ w0.pressCheck 1 w0.reassertDigest 0 false = 0 := by
  refine ⟨fun d h => ⟨rfl, rfl, rfl, ?_, rfl⟩, by decide, ?_, ?_⟩
  · rw [show (wArg d).take 8 = leBytes 8 d from rfl, ofLeBytes_leBytes, Nat.mod_eq_of_lt h]
  · unfold State.pressCheck
    rw [if_neg (by decide), if_neg (by decide), if_neg (by simp), if_neg (by decide), if_neg (by decide)]
  · unfold State.pressCheck
    rw [if_neg (by decide), if_neg (by decide), if_neg (by simp), if_neg (by decide), if_neg (by decide)]

/-- Hypotheses of SceneCommands and SceneCommandsInPair: what waits, and the roles. -/
theorem wit_ScenePending :
    (let s : State := { w0 with scene := { w0.scene with press := some wPress } }
     s.live = true ∧ s.role = 0 ∧ s.scene.press = some wPress ∧ s.scene.auto' = none) ∧
    (let s : State := { w0 with scene := { w0.scene with auto' := some wPress } }
     s.scene.auto' = some wPress ∧ wPress.prepared = false) ∧ w0.scene.press = none ∧
    (put w0 [(fSIPH_STATUS_ROLE, 0, 2)]).role = 2 ∧ (put w0 [(fSIPH_STATUS_ROLE, 0, 3)]).following = true ∧
    (put w0 [(fSIPH_STATUS_ROLE, 0, 2)]).live = true := by decide

/-- Transitions that end: a route crossfade at sink 0x2207, a filter stage, a delay crossfade with a held change, a delay slew. -/
def wFade : State :=
  { w0 with
    tim := { w0.tim with cnt := 25600 * 500 }
    route := { w0.route with fades := [(0x2207, { old := 0, start := 10, len := 480 })] }
    scene := { w0.scene with stages := [(objKey 0x5300 1 3, { start := 1, len := 5, running := true })]
                             delays := [(objKey 0x5300 0x40 3, { frm := 1, to' := 5, len := 5 }), (objKey 0x5300 0x40 4, { frm := 1, to' := 5, slew := true })] } }

/-- Hypotheses of TransitionEnds: each clause. -/
theorem wit_TransitionEnds :
    wFade.live = true ∧ wFade.fadeOf 0x2207 = some { old := 0, start := 10, len := 480 } ∧ 10 + 480 ≤ wFade.sampleIdx ∧
    (nget {} wFade.scene.stages (objKey 0x5300 1 3)).running = true ∧ (wFade.delayOf (objKey 0x5300 0x40 3)).len ≠ 0 ∧
    (wFade.delayOf (objKey 0x5300 0x40 4)).slew = true := by decide

/-- An empty graph, and one whose task names no cluster. -/
def wGraph (l : List GTask) : Graph :=
  { update := false, tasks := l, bufs := [], posts := [], progs := [], readers := [], serves := [], places := [], params := [] }

/-- Hypotheses of GraphLoads: a graph that is accepted and one that is not. -/
theorem wit_GraphLoads :
    (let s : State := { put w0 [(fSYS_BOOT_STATUS_STAGE, 0, 3)] with sys := { w0.sys with fwRunning := true } }
     s.live = true ∧ s.sys.fwRunning = true ∧ 3 ≤ s.fld fSYS_BOOT_STATUS_STAGE ∧ s.graphFree (wGraph []) = true ∧ s.following = false ∧
       s.scene.auto' = none ∧
       (s.candidate (wGraph [])).gCheck (wGraph []) [] (s.graphTasks (wGraph [])) (s.graphBufs (wGraph [])) 0 = none ∧
       (let g := wGraph [{ site := 40, slot := 0, w0 := 0, w1 := 0, w2 := 0, w3 := 0, cost := 1 }]
        s.graphFree g = true ∧ ((s.candidate g).gCheck g [] (s.graphTasks g) (s.graphBufs g) 0).isSome = true)) := by decide

/-- Port 0 STOPPED, 1 ARMED, 2 RUNNING as master, 3 LEAD_IN, 4 LEAD_OUT, 5 SEARCHING, 6 a locked slave, 7 with a first edge due. -/
def wTdm : State :=
  { put w0 [(fTDMn_STATUS_STATE, 1, 1), (fTDMn_STATUS_STATE, 2, 4), (fTDMn_STATUS_STATE, 3, 3), (fTDMn_STATUS_STATE, 4, 5)
            , (fTDMn_STATUS_STATE, 5, 2), (fTDMn_STATUS_STATE, 6, 4), (fTDMn_STATUS_STATE, 7, 2), (fTDMn_STATUS_LOCKED, 6, 1)
            , (fTDMn_CFG_ROLE, 1, 1), (fTDMn_CFG_ROLE, 2, 1), (fTDMn_CFG_NSLOT, 2, 8), (fTDMn_CFG_COUNT_IN, 2, 8), (fTDMn_MASK_IN_MASK, 2, 3)] with
    tim := { w0.tim with running := true, cSamp := 0, cnt := 25600 * 100, blkIdx := some 7 }
    tdm := [(1, { trig := 1, at' := 5 }), (2, { frames := 8, actIn := some 3 }), (3, { frames := 8, actOut := some 1 }), (4, { frames := 8 })
           , (5, { edge := some 100, m := 256, good := 1 }), (6, { edge := some 51200, m := 256, good := 0, asg := 1, due := 1 })] }

/-- Hypotheses of TdmStarts: each clause. -/
theorem wit_TdmStarts :
    wTdm.clocked = true ∧ wTdm.paired = false ∧ wTdm.tdmState 0 = 0 ∧ wTdm.flag fTDMn_CFG_ROLE 0 = false ∧ wTdm.tdmState 1 = 1 ∧
    (wTdm.tdmP 1).trig = 1 ∧ (wTdm.tdmP 1).stop = false ∧ (wTdm.tdmP 1).at' ≤ wTdm.blkIndex ∧ wTdm.tdmState 3 = 3 ∧
    wTdm.fld fTDMn_CFG_PRE 3 ≤ (wTdm.tdmP 3).frames ∧ wTdm.tdmState 4 = 5 ∧ wTdm.fld fTDMn_CFG_POST 4 ≤ (wTdm.tdmP 4).frames ∧
    wTdm.anySafe = false ∧ (put wTdm [(fWELLm_STATUS_SAFE_ACTIVE, 3, 1)]).anySafe = true ∧
    (let w : Nat := 5 * 2 ^ 48 + 1 * 2 ^ 44 + 2 ^ 43 + 9
     fTDM_START_GO.of w = 1 ∧ fTDM_START_TRIG.of w = 1 ∧ bit (fTDM_START_GROUP.of w) 0 = true ∧ bit (fTDM_START_GROUP.of w) 2 = true ∧
       bit (fTDM_START_GROUP.of w) 1 = false ∧ fTDM_START_AT.of w = (wTdm.blkIndex + 2) % 2 ^ 40) ∧
    (let w : Nat := 5 * 2 ^ 16 + 1
     fTDM_STOP_GO.of w = 1 ∧ bit (fTDM_STOP_GROUP.of w) 2 = true ∧ bit (fTDM_STOP_GROUP.of w) 1 = false) := by decide

/-- Hypotheses of TdmWrites: a mask that fits and one that does not, a configuration that is stored and ones that are not. -/
theorem wit_TdmWrites :
    (selSlots 0x0F (wTdm.tdmCount 0 false)).length ≤ wTdm.fld fTDMn_CFG_STRIDE_IN 0 ∧
    wTdm.fld fTDMn_CFG_STRIDE_OUT 0 < (selSlots 0x01 (put wTdm [(fTDMn_CFG_COUNT_OUT, 0, 4)] |>.tdmCount 0 true)).length ∧
    wTdm.tdmCfgBad 0 = false ∧ wTdm.tdmSafeBad 0 = false ∧ wTdm.tdmCfgBad (3 * 2 ^ 11) = true ∧ wTdm.tdmState 2 ≠ 0 ∧
    (put wTdm [(fWELLm_STATUS_SAFE_ACTIVE, 3, 1)]).tdmSafeBad (2 ^ 10) = true := by decide

/-- Hypotheses of TdmFrames and DirectPath: lock, loss, slips and frames. -/
theorem wit_TdmFrames :
    wTdm.flag fTDMn_CFG_ROLE 6 = false ∧ wTdm.flag fTDMn_STATUS_LOCKED 6 = true ∧ wTdm.tim.running = true ∧ wTdm.tdmState 7 = 2 ∧
    (wTdm.tdmP 7).edge = none ∧ wTdm.tdmState 5 = 2 ∧ (wTdm.tdmP 5).edge = some 100 ∧ wTdm.tdmFrameOk 5 256 (51300 - 100) = true ∧
    wTdm.tdmFrameOk 5 256 (61300 - 100) = false ∧ (wTdm.tdmP 5).good = 1 ∧ (wTdm.tdmP 5).m = 256 ∧ wTdm.tdmState 6 = 4 ∧
    (wTdm.tdmP 6).edge = some 51200 ∧ wTdm.tdmFrameOk 6 256 (102400 - 51200) = true ∧ (wTdm.tdmP 6).due = 1 ∧
    wTdm.flag fTDMn_CFG_ROLE 2 = true ∧ wTdm.tdmState 2 = 4 ∧ (wTdm.tdmSel 2 false).contains 1 = true ∧ wTdm.tdmState 3 = 3 := by decide

/-- A direct sink of TDM2 slot 1: Wellhead channel 5. -/
def wDirect : State := { wTdm with route := { wTdm.route with inForce := [(0x2205, 0x1041 * 2 ^ 48 + 2 ^ 47 + 2 ^ 30 + 1)] } }

/-- Hypotheses of DirectPath: a direct sink that does not crossfade. -/
theorem wit_DirectPath :
    wDirect.clocked = true ∧ wDirect.tdmState 2 = 4 ∧ (wDirect.tdmSel 2 false).contains 1 = true ∧
    (wDirect.directSinks 0x1041).contains 0x2205 = true ∧ wDirect.fadeOf 0x2205 = none := by decide

/-- Channel 0 OFF, 1 in WAIT with a code, 2 PLAYING codes, 3 PLAYING with an empty queue, 4 with a change under way, 5 in fallback, 6 with a
full queue. -/
def wWell : State :=
  { put w0 ([1, 2, 3, 4, 5, 6, 7].map (fun m => (fWELLm_CFG_EN, m, 1)) ++ [1, 2, 3, 6].map (fun m => (fWELLm_CFG_FEED, m, 1))
      ++ [(fWELLm_STATUS_SAFE_ACTIVE, 5, 1), (fWELL_GENg_CFG_PLAYING, 0, 1), (fWELL_GENg_CFG_PLAYING, 2, 1)]) with
    sys := { w0.sys with safeStep := 8 }
    tim := { w0.tim with running := true, cnt := 25600 * 100 }
    well :=
      { chs := [(1, { st := 1, queue := [5] }), (2, { st := 2, queue := [96, 7], g := 95, h := 1 }), (3, { st := 2, g := 96, h := 9600 })
               , (4, { st := 3, phase := 1, ramp := 0, goal := (1, 0, 0) }), (5, { st := 2, fallback := true, onTime := 16 })
               , (6, { st := 2, queue := List.replicate 16 1 }), (7, { st := 1 })]
        gens := [(0, { gate := true, edge := true, len := some 4, k := 4, freq := 9 }), (1, { gate := true, edge := true })
                , (2, { gate := false, edge := true, k := 3 })]
        ball := true, ballRun := 48 } }

/-- Hypotheses of WellheadTick: each clause. -/
theorem wit_WellheadTick :
    wWell.clocked = true ∧ wWell.tim.running = true ∧ wWell.wellCodeFed 1 = true ∧ (wWell.well' 1).st = 1 ∧ (wWell.well' 1).queue = [5] ∧
    wWell.wellCodeFed 2 = true ∧ (wWell.well' 2).st = 2 ∧ (wWell.well' 2).queue = [96, 7] ∧ (wWell.well' 2).stop = false ∧
    (wWell.well' 2).sleep = false ∧ (wWell.well' 2).phase = 0 ∧ (wWell.well' 2).toSafe = false ∧ wWell.wellCodeFed 3 = true ∧
    (wWell.well' 3).st = 2 ∧ (wWell.well' 3).queue = [] ∧ (wWell.well' 3).e = 0 ∧ wWell.flag fWELL_GENg_CFG_PLAYING 0 = true ∧
    wWell.flag fWELL_GENg_CFG_PLAYING 1 = false := by decide

/-- Hypotheses of WellheadChannels: each clause. -/
theorem wit_WellheadChannels :
    wWell.paired = false ∧ wWell.wellCodeFed 0 = false ∧ wWell.flag fWELLm_STATUS_SAFE_ACTIVE 2 = false ∧
    16 ≤ (wWell.well' 6).queue.length ∧ (wWell.well' 2).queue.length < 16 ∧ wWell.wellHeld = false ∧ wWell.flag fWELLm_CFG_CHIME 2 = false ∧
    wWell.flag fWELLm_CFG_EN 0 = false ∧ wWell.flag fWELLm_CFG_EN 2 = true ∧ wWell.flag fWELLm_CFG_EN 7 = true ∧ (wWell.well' 7).st = 1 ∧
    ((1, 0, 1) : Nat × Nat × Nat) ≠ wWell.wellMode 2 ∧ (wWell.well' 4).phase = 1 ∧ (wWell.well' 4).ramp = 0 ∧ wWell.live = true ∧
    (wWell.well' 5).fallback = true ∧ 16 ≤ (wWell.well' 5).onTime := by decide

/-- Hypotheses of SineGenerators: each clause. -/
theorem wit_SineGenerators :
    wWell.well.ball = true ∧ wWell.well.level ≠ true ∧ wWell.msSamples 1 ≤ wWell.well.ballRun ∧
    wWell.flag fWELL_GENg_CFG_GATE_SRC 0 = true ∧ wWell.flag fWELL_GENg_CFG_GATE_SRC 1 = false ∧ (wWell.gen 1).gate = true ∧
    (wWell.gen 1).edge = true ∧ (put wWell [(fWELL_GENg_STEPk_DUR, 1, 3)]).flag fWELL_GENg_STEPk_DUR 1 0 = true ∧ (wWell.gen 2).gate = false ∧
    (wWell.gen 2).edge = true ∧ (wWell.gen 0).len = some 4 ∧ 4 ≤ (wWell.gen 0).k ∧ (wWell.gen 0).gate = true ∧
    wWell.flag fWELL_GENg_CFG_REPEAT 0 = true ∧
    (let s : State := { wWell with well := { wWell.well with gens := [(2, { rel := some 3, k := 3 })] } }
     (s.gen 2).len = none ∧ (s.gen 2).rel = some 3 ∧ 3 + s.msSamples (s.fld fWELL_GENg_CFG_REL 2) ≤ (s.gen 2).k) := by decide

/-- Port 0 down, port 1 up with queues; plane 0 probing; receive streams 3 receiving and 5 quiet for long, transmit stream 2 with a packet due. -/
def wNet : State :=
  { put w0 [(fNET_PORTp_CFG_EN, 0, 1), (fNET_PORTp_STATUS_LINK, 1, 1), (fNET_PORTp_STATUS_LINK, 3, 1), (fNET_PLANEx_CFG_IPV4, 0, 0x0A000001)
            , (fNET_PLANEx_CFG_PROBING, 0, 1), (fNET_PLANEx_MAC_VALUE, 0, 7), (fSTRM_RXs_EN, 3, 1), (fSTRM_RXs_CHANS, 3, 2)
            , (fSTRM_RXs_STATUS_STATE, 3, 2), (fSTRM_RXs_PTIME, 3, 0), (fSTRM_RXs_DST_A, 3, 99), (fSTRM_RXs_STATUS_STATE, 5, 3), (fSTRM_RXs_STATUS_LEG_A, 5, 1)
            , (fSTRM_TXs_EN, 2, 1), (fSTRM_TXs_STATUS_STATE, 2, 2), (fSTRM_TXs_CHANS, 2, 2), (fSTRM_TXs_PTIME, 2, 0), (fSIPH_STATUS_CLAIM_HELD, 0, 1)] with
    sys := { w0.sys with blk := 16 }
    tim := { w0.tim with running := true, cnt := 25600 * 10000 }
    net := { w0.net with addr := [(0, 0x0A000001)], ports := [(1, { q0 := [64], q2 := [100, 200], q3 := [90] })], macs := [{ plane := 0, mac := 77, port := 0, seen := 0 }]
                         rx := [(3, { read := some 100 }), (5, { lastA := 1, lastB := 1 })], tx := [(2, { next := 12 })] } }

/-- A frame that enters at port 1. -/
def wFrame : SwFrame :=
  { port := 1, plane := 0, len := 100, fcsOk := true, tagged := false, vid := 0, src := 5, dst := 6, dscp := 0, group := 0, igmp := .none }

/-- Hypotheses of NetworkPorts: each clause. -/
theorem wit_NetworkPorts :
    wNet.live = true ∧ wNet.paired = false ∧ wNet.flag fNET_PORTp_CFG_EN 0 = true ∧ wNet.flag fNET_PORTp_STATUS_LINK 0 = false ∧
    wNet.flag fNET_PORTp_STATUS_LINK 1 = true ∧ 0 < (wNet.swPort 1).q2.length + (wNet.swPort 1).q3.length ∧
    wNet.flag fNET_PLANEx_CFG_PROBING 0 = true ∧ wNet.flag fNET_PLANEx_CFG_IPV4 0 = true ∧ wNet.addrDead 0 = false ∧ wNet.vlanOk wFrame = true ∧
    wNet.vlanOk { wFrame with vid := 9 } = false ∧ wNet.isOwnMac 0 7 = true ∧ wNet.isOwnMac 0 6 = false ∧
    wNet.swClass { wFrame with dscp := wNet.fld fNET_QOS_DSCP_MEDIA } = 2 ∧ wNet.net.macs.length < 4096 := by decide

/-- A packet for stream 3: six samples of two channels at 24 bits, at stamp 110. -/
def wRtp : RtpPacket :=
  { plane := 0, src := 1, dst := 99, port := 0x138C, pt := 0x61, seq := 0, stamp := 110, payload := List.replicate 36 1 }

/-- Hypotheses of ReceiveStreams: each clause. -/
theorem wit_ReceiveStreams :
    wNet.flag fSTRM_RXs_EN 3 = true ∧ wNet.flag fSTRM_RXs_EN 6 = false ∧ wNet.rxCheck 6 = 0 ∧
    (put wNet [(fSTRM_RXs_PT, 6, 3)]).rxCheck 6 = 1 ∧ (sdpParse []).2 = [] ∧ wNet.rxOn = [3] ∧ wNet.fld fSTRM_RXs_PORT_A 3 = 0x138C ∧
    wNet.fld fSTRM_RXs_STATUS_STATE 3 = 2 ∧ wNet.flag fSTRM_RXs_CHANS 3 = true ∧ wNet.flag fSTRM_RXs_PLANES 3 = true ∧
    wRtp.payload.length = wNet.rxBytes 3 ∧ wNet.rxP 3 < 2 ^ 64 ∧ wNet.nearest 110 = 110 ∧ wNet.nearest 90 < 100 ∧
    (100 : Int) + wNet.rxWindow 3 < wNet.nearest 5000 + wNet.rxP 3 - 1 ∧ wNet.flag (legFd 0) 5 = true ∧
    1 + 10 * wNet.rxP 5 ≤ wNet.sampleIdx + 1 ∧ 1 + wNet.fadeLen 100 ≤ wNet.sampleIdx + 1 := by decide

/-- Hypotheses of TransmitStreams: each clause. -/
theorem wit_TransmitStreams :
    wNet.flag fSTRM_TXs_EN 2 = true ∧ wNet.flag fSTRM_TXs_EN 7 = false ∧ (put wNet [(fSTRM_TXs_PT, 7, 3)]).txCheck 7 = 1 ∧
    wNet.fld fSTRM_TXs_STATUS_STATE 2 = 2 ∧ (wNet.txS 2).stopAt = none ∧ wNet.flag fSTRM_TXs_CHANS 2 = true ∧
    (wNet.txS 2).next + wNet.txP 2 + wNet.sys.blk + 3 ≤ wNet.sampleIdx := by decide

/-- The SDP text of one section of two channels. -/
def wSdp : List Byte :=
  txt "m=audio 5004 RTP/AVP 97\nc=IN IP4 239.1.1.1/32\na=rtpmap:97 L24/48000/2\na=ptime:1\n"

set_option maxRecDepth 20000 in
/-- Hypothesis of TransmitStreams: an enable that passes every check. -/
theorem wit_TransmitEnable : wNet.txCheck 7 = 0 := by decide

/-- A live unit with firmware, discovery on, a peer of node 9, an amplifier of node 4 heard long ago, and an announced stream. -/
def wDisc : State :=
  { ((((put w0 [(fSTRM_TXs_EN, 2, 1)]).setObj 0x3300 1 0 (.num 1)).setObj 0x3300 2 0 (.num 1)).setObj 0x1200 1 0 (.bytes (leBytes 4 9))) with
    sys := { w0.sys with fwRunning := true }
    tim := { w0.tim with running := true, cnt := 10 ^ 15 }
    net := { w0.net with addr := [(0, 5)], sap := [{ src := 1, hash := 2, text := [], heard := 0, interval := 0 }] }
    pop := { w0.pop with roster := [{ (blankPeer 0 9) with addrA := 7 }, { (blankPeer 2 4) with flags := 1 }] } }

/-- What a peer of node 3 says by mDNS. -/
def wInfo : PeerInfo := { node := 3, role := 0, digest := 0x1234, fwMajor := 1, fwMinor := 2, fwPatch := 3, step := 0xA1 }

set_option maxRecDepth 20000 in
/-- Hypotheses of Discovery: each clause. -/
theorem wit_Discovery :
    wDisc.live = true ∧ wDisc.objNum 0x3300 1 0 = 1 ∧ nget 0 wDisc.net.addr 0 ≠ 0 ∧ wDisc.objNum 0x3300 2 0 = 1 ∧
    wDisc.flag fSTRM_TXs_EN 2 = true ∧ (wDisc.txS 2).sapAt = 0 ∧ wDisc.net.sap.length < 1024 ∧ wDisc.sys.fwRunning = true ∧
    wDisc.pop.roster.length < 256 ∧ (∀ p ∈ wDisc.pop.roster, ¬ (p.kind = 0 ∧ p.node = wInfo.node)) ∧
    ampUsed (wDisc.objBytes 0x1200 1 0) = true ∧ recNum (wDisc.objBytes 0x1200 1 0) 0 4 = 9 ∧
    (∃ p ∈ wDisc.pop.roster, p.kind = 0 ∧ p.node = 9 ∧ (p.addrA ≠ 0 ∨ p.addrB ≠ 0)) ∧
    (∃ p ∈ wDisc.pop.roster, p.kind = 2 ∧ p.node = 4 ∧ wDisc.disagrees p 0 = false) := by decide

set_option maxRecDepth 20000 in
/-- Hypothesis of Discovery: an amplifier entry that is too old. -/
theorem wit_DiscoveryStale : ∃ p ∈ wDisc.pop.roster, p.kind = 2 ∧ p.node = 4 ∧ wDisc.objNum 0x1100 2 0 < wDisc.peerAge p := by decide

/-- An image that passes the boot ROM's checks. -/
def wImage : FwSlot := { valid := true, sigOk := true, fwVersion := 1, secVersion := 2, stepping := 0xA1 }

/-- Hypotheses of HostSpi: each clause. -/
theorem wit_HostSpi :
    (let s : State := put w0 [(fSYS_BOOT_STATUS_STAGE, 0, 0xF)]
     s.up = true ∧ s.sys.engReset = false ∧ s.live = true ∧ s.sys.fwRunning = false ∧ s.pop.spiIn = [] ∧ s.pop.spiBusy = [] ∧ s.pop.spiOut = [] ∧
     s.pop.waits = [] ∧ s.bootLoad = true ∧ s.imageOk wImage = true ∧ s.imageOk { wImage with sigOk := false } = false ∧
     (∀ c ∈ s.flash.cfgs, c.valid = false)) ∧
    ({ w0 with pop := { w0.pop with spiOut := [[1, 2], [3]] } } : State).pop.spiOut = [1, 2] :: [[3]] := by decide

/-- Records dropped on the intake route; one record for the recorder. -/
def wEvt : State :=
  { put w0 [(fDCIS_STATUS_STATE, 0, 2), (fDCIS_REGIONr_KIND, 1, 2), (fDCIS_REGIONr_SIZE, 1, 1), (fDCIS_REGIONr_BASE, 1, 4)] with
    evt := { w0.evt with dropped := [(0, 3)], recq := [w0.mkRec 4 false []] } }

set_option maxRecDepth 20000 in
/-- Hypotheses of SupervisionAndEvents: each clause. -/
theorem wit_SupervisionAndEvents :
    w0.up = true ∧ pec ([0x78, 2, 1, 0, 0, 0] : List Byte) < 256 ∧ i2cReg 1 = some .SYS_RESET_CTRL ∧ wEvt.eventsOn = true ∧
    nget 0 wEvt.evt.dropped 0 ≠ 0 ∧ wEvt.evtSpace 0 = true ∧ nget 0 wEvt.evt.ovfAt 0 = 0 ∧ wEvt.live = true ∧
    wEvt.fld fDCIS_STATUS_STATE = 2 ∧ wEvt.recRegion = some (0x100400000, 21844) ∧ wEvt.evt.recq = [w0.mkRec 4 false []] ∧
    wEvt.evt.sinceHdr < 1023 := by
  have h : wEvt.region 2 = some (4 * 2 ^ 20, 1 * 2 ^ 20) := by rfl
  refine ⟨by decide, by decide, by decide, by decide, by decide, by decide, by decide, by decide, by decide, by simp [State.recRegion, h, dcisAddr], rfl, by decide⟩

/-- A network session with its key, and the state in which it is served. -/
def wSess : Session := { num := 2 ^ 32 + 5, role := 3, key := [1, 2, 3], notify := [(1, [9])] }

/-- A unit that runs its firmware alone, with that session, a handshake and the key of role 3. -/
def wPop : State :=
  { (w0.setObj 0x1010 4 0 (.bytes (List.replicate 32 7))) with
    sys := { w0.sys with fwRunning := true, blk := 16 }
    pop := { w0.pop with sessions := [wSess], high := 1, nextLow := 6
                         shakes := [{ session := 77, addr := 9, port := 1, role := 3, node := 0, nonceC := List.replicate 16 1, nonceE := List.replicate 16 2, at' := 0 }] } }

/-- The body of a READ of a scalar, of an EXEC of TDM_STOP, of an event SUBSCRIBE, and of a BATCH with one empty WRITE. -/
def wRead (idx sub : Nat) : List Byte := leBytes 2 idx ++ leBytes 1 sub ++ [0, 0, 0, 0, 0, 1, 0, 0, 0, 0, 0, 0, 0]
/-- The body of a WRITE or STAGE of one value with type code `c` and TIME 0, LAW 0. -/
def wWrite (idx sub c : Nat) (arr : Bool) (v : List Byte) : List Byte :=
  leBytes 2 idx ++ leBytes 1 sub ++ [if arr then 1 else 0, 0, 0, 0, 0, 0, 0, 0] ++ leBytes 1 c ++ [1, 0, 0, 0] ++ v

/-- Whether a check passes with one value, and the access and source of its row. -/
def wPut (s : State) (b : List Byte) (stage : Bool) : Option (Nat × OAcc × Bool) :=
  match s.putCheck 3 b 24 stage with
  | .ok w => some (w.vals.length, w.row.acc, decide (w.row.src = .own))
  | .error _ => none

/-- Hypotheses of PopRequests and PopSessions: a session that is ready, with a body of each kind. -/
theorem wit_PopReady : PopReady wPop wSess 3 [] ∧ PopReady wPop wSess 3 (wRead 0x1000 1) ∧ PopReady wPop wSess 3 (wWrite 0x1000 1 4 false [8, 0, 0, 0]) := by
  unfold PopReady; decide

/-- Hypotheses of PopRequests: a scalar to read, a write and a stage that pass and ones that fail, an EXEC, a SUBSCRIBE, a BATCH, a bad MAC. -/
theorem wit_PopRequests :
    (let u := (wPop.serving 5 6 wSess 3).2
     (u.objRow 0x1000 1).map (fun r => (r.acc, r.rr, r.len, u.objRead r 0x1000 1 0)) = some (.rw, 0, 0, some (.num 0)) ∧
     wPut u (wWrite 0x1000 1 4 false [8, 0, 0, 0]) false = some (1, .rw, true) ∧ wPut u (wWrite 0x1000 1 3 false [8, 0, 0, 0]) false = none ∧
     wPut u (wWrite 0x4110 2 10 false [8, 0, 0]) false = some (1, .stg, false) ∧
     wPut u (wWrite 0x4110 2 10 false [8, 0, 0]) true = some (1, .stg, false) ∧ wPut u (wWrite 0x1000 1 4 false [8, 0, 0, 0]) true = none ∧
     wPop.scene.press = none ∧ wPop.scene.vat = [] ∧ 0 < wPop.lc ∧ wSess.subs.length < 256 ∧
     u.pop.sessions.foldl (fun n y => n + y.subs.length) 0 < 4096 ∧ wSess.batch = none) := by decide

/-- Hypotheses of PopSessions: each clause. -/
theorem wit_PopSessions :
    wSess.notify = (1, [9]) :: [] ∧ wPop.sess wSess.num = some wSess ∧
    wPop.roleKey 3 = some (List.replicate 32 7) ∧ (nget {} wPop.pop.fails 9).blocked ≤ wPop.tim.cnt ∧ wPop.pop.shakes.length < 8 ∧
    (wPop.pop.sessions.filter (fun x => !x.spi)).length < 32 ∧
    (wPop.pop.shakes.find? (fun h => h.session = 77 && h.addr = 9)).isSome = true ∧
    (let m := popMake 0x12 77 3 0 0 0 (List.replicate 16 5) none
     popLenOk false m = true ∧ popNum m 0 2 = 0x1201 ∧ popNum m 4 8 = 77) := by decide

/-- The body of an EXEC of TDM_STOP, and of a BATCH of one WRITE. -/
def wExec : List Byte := leBytes 2 0x4010 ++ [2, 0, 0, 0, 0, 0, 4, 0, 0, 0] ++ leBytes 4 0x40001
/-- The body of a BATCH of one WRITE. -/
def wBatch : List Byte := [1, 0, 0, 0] ++ [2, 0, 20, 0] ++ wWrite 0x1000 1 4 false [8, 0, 0, 0]

/-- Hypotheses of PopRequests: an EXEC whose checks pass, and the sub-requests of a batch. -/
theorem wit_PopExecBatch :
    (let u := (wPop.serving 5 6 wSess 3).2
     (match u.popObj 3 (objAt wExec) 24 (fun r => r.acc = .exe) true with
      | .ok r => (match exeArg r.ty wExec 24 with | .ok v => decide (v = .num 0x40001) | .error _ => false) | .error _ => false) = true ∧
     (match batchSubs wBatch.length 28 (wBatch.drop 4) with | .ok l => l.length | .error _ => 0) = 1) := by decide

/-- A unit with step 7 of the safe sequencer done, pairing, both Siphon lanes up, and its heartbeat running, in a role. -/
def wPair (role : Nat) (l : List (Fd × Nat × Nat) := []) : State :=
  let s := put w0 ([(fSIPH_CTRL_PAIR_EN, 0, 1), (fSIPH_STATUS_LANE0_UP, 0, 1), (fSIPH_STATUS_LANE1_UP, 0, 1), (fSIPH_STATUS_ROLE, 0, role)] ++ l)
  { s with sys := { s.sys with safeStep := 7 }, pair := { s.pair with hbRun := true } }

/-- A good frame of SEQ `n`. -/
def wHdr (n : Nat) (flags : Nat := 0) : FrameHdr := { seq := n, ack := 0xFFFFFFF0, blk := 4, flags := flags, crcOk := true, lane := 0 }

/-- A MARKER of a role. -/
def wMark (role : Nat) : Marker :=
  { blk := 4, root := 0, role := role, quality := 3, release := 0, arrival := 0, roundTrip := 9, turnaround := 2 }

/-- Hypotheses of PairClaims: each clause. -/
theorem wit_PairClaims :
    PairOn (wPair 0) ∧ (wPair 0).siphUp = true ∧ (wPair 0).pair.hbRun = true ∧ (wPair 2 [(fSIPH_STATUS_CLAIM_HELD, 0, 1)]).claims = true ∧
    (wPair 0).claims = false ∧ 7 ≤ (wPair 0).sys.safeStep ∧ (wPair 0).fld fSIPH_STATUS_RANK = 0 ∧ (wPair 4).role = 4 ∧
    (wPair 4 [(fSIPH_STATUS_RANK, 0, 1)]).fld fSIPH_STATUS_RANK = 1 ∧ (wPair 4).pair.witness = 15 ∧ (wPair 4).pair.tmo = false ∧
    (wPair 4).pair.asked = false ∧ ((wPair 4).setObj 0x8010 5 0 (.num 3)).objNum 0x8010 5 0 ≠ 0xFFFFFFFF ∧
    PairOn ((wPair 4).setObj 0x8010 5 0 (.num 3)) ∧ (wPair 4).fld fSIPH_STATUS_HB_OK = 0 ∧ (wPair 0).live = true ∧
    (wPair 0).fld (laneUp 0) = 1 ∧ (wPair 0 [(fSIPH_STATUS_LANE0_UP, 0, 0)]).fld (laneUp 0) = 0 ∧
    (wPair 0 [(fSIPH_STATUS_LANE0_UP, 0, 0)]).isPermanent 5 0 = false ∧ (wPair 0).hlth.retired = [] := by decide

/-- Hypotheses of PairFrames: a frame in its turn, one ahead, and one with a bad CRC. -/
theorem wit_PairFrames :
    FrameReady (wPair 0) (wHdr 5) ∧ PairOn (wPair 3) ∧ (wHdr 5).lane < 2 ∧ { wHdr 5 with crcOk := false }.crcOk = false ∧
    (let s : State := { wPair 3 with pair := { (wPair 3).pair with anySeq := false, rxSeq := 3, replay := [(9, .status)] } }
     s.pair.anySeq = false ∧ (wHdr 5).seq ≠ s.pair.rxSeq ∧ seqLe (wHdr 5).seq s.pair.rxSeq = false ∧ seqLe (wHdr 2).seq s.pair.rxSeq = true ∧
     FrameReady s (wHdr 3) ∧ (∃ e ∈ s.pair.replay, e.1 = 9 ∧ seqLe 9 (wHdr 3).ack = false)) ∧
    (wMark 1).turnaround ≤ (wMark 1).roundTrip ∧ (wPair 3).following = true ∧ nsorted (wPair 3).pair.theirs = true ∧
    ({ wPair 2 with scene := { w0.scene with press := some { kind := 0, digest := 0, instant := none, target := 0, prepared := false
                                                             late := false, entries := [], partnerReady := false, stamped := none } } } :
      State).scene.press ≠ none := by decide

/-- Hypotheses of PairCopy: each clause. -/
theorem wit_PairCopy :
    (let s : State := { wPair 1 with pair := { (wPair 1).pair with copy := some { begun := true, replay := some 4 } } }
     FrameReady s (wHdr 5) ∧ s.role = 1 ∧ s.siphUp = true ∧ s.live = true ∧ s.pair.theirs = [] ∧ s.pair.copy ≠ none) ∧
    (let s : State := { wPair 2 with pair := { (wPair 2).pair with copy := some {}, partner := 3, gapAt := 7 } }
     FrameReady s (wHdr 5) ∧ s.role = 2 ∧ s.pair.partner = 3 ∧ s.pair.gapAt ≠ 0) ∧
    (wPair 5 [(fSIPH_CTRL_AUTO_REJOIN, 0, 1)]).role = 5 ∧ (wPair 5 [(fSIPH_CTRL_AUTO_REJOIN, 0, 1)]).siphUp = true ∧
    (wPair 5 [(fSIPH_CTRL_AUTO_REJOIN, 0, 1)]).fld fSIPH_CTRL_AUTO_REJOIN = 1 := by decide

/-- A unit with Brine and shadowing on, the first cluster clocked, a copy to cluster site 33 in progress, a borrowed row, and a
recorder of retirements due. -/
def wHlth : State :=
  { put w0 [(fHLTH_CTRL_BRINE_EN, 0, 1), (fHLTH_CTRL_SHADOW_EN, 0, 1), (fSYS_CLU_CLK_CLOCKED, 0, 2 ^ 33 - 1)] with
    hlth := { w0.hlth with cluCopy := [{ old := 0, new := 33 }], recDue := true, borrows := [{ memId := 2000, addr := 0x08000010, saved := [1, 2] }]
                           spareTest := some (true, 34) } }

/-- Hypotheses of Retirement: each clause. -/
theorem wit_Retirement :
    wHlth.live = true ∧ retireSite 4 3 = true ∧ wHlth.isPermanent 4 3 = false ∧ retireSite 9 3 = false ∧ wHlth.hlth.recDue = true ∧
    (∃ c, wHlth.hlth.cluCopy.find? (fun c => c.new = 33 && !c.ready) = some c) ∧ Memory.wf wHlth.mem = true ∧ wHlth.memu.bad = [] :=
  ⟨by decide, by decide, by decide, by decide, by decide, ⟨_, rfl⟩, by decide, by decide⟩

/-- A unit with a task on lane 0 of cluster 0 that may be shadowed. -/
def wShadow : State := { wHlth with pump := { wHlth.pump with lanes := [(0, { task := some 3, eP := 0 })] } }

/-- The run of that task on the spare lane has ended. -/
def wShadowed : State := { wHlth with pump := { wHlth.pump with lanes := [(8, { shadow := some 0, ended := true })] } }

set_option maxRecDepth 20000 in
/-- Hypotheses of Brine: each clause. -/
theorem wit_Brine :
    wHlth.live = true ∧ brineMem 0x20000007 = some 0 ∧ wHlth.mayBorrow 0 0x20000007 = true ∧
    (wHlth.hlth.borrows.find? (fun b => b.memId = 2000)).isSome = true ∧ wHlth.fld fHLTH_CTRL_BRINE_EN = 1 ∧
    wHlth.hlth.passRow + 1 < passRows ∧ wHlth.hlth.spareTest = some (true, 34) ∧ w0.hlth.spareTest = none ∧ 35 ∈ w0.freeClusters ∧
    wShadow.pumpRuns 0 = true ∧ wShadow.fld fHLTH_CTRL_SHADOW_EN = 1 ∧ (wShadow.laneOf 0 0).isSome = true ∧ (wShadow.lane 0 0).task.isSome = true ∧
    (wShadow.lane 0 0).eP = 0 ∧ (wShadow.lane 0 0).logging = false ∧ wShadow.spareLane 0 = some 8 ∧ (wShadow.lane 0 8).task = none ∧
    wShadow.shadowDue 0 0 = true ∧ (wShadowed.lane 0 8).shadow = some 0 ∧ (wShadowed.lane 0 8).ended = true := by decide

/-- A unit with one line on feed 5, its returns on receive channels 0 and 1 of a stream that plays. -/
def wLine : State :=
  { (put w0 [(fSTRM_RXs_STATUS_STATE, 0, 3), (fSTRM_RXs_CHANS, 0, 4), (fTIM_MAP_STATUS_TIME_SET, 0, 1)]).setObj 0x9100 1 5
      (.num (2 ^ 63 + 0 * 2 ^ 47 + 1 * 2 ^ 31 + 0xFFFF * 2 ^ 15)) with
    hlth := { w0.hlth with lines := [(5, { learn := some (List.replicate 64 { yRe := 5, yIm := 6, v := 7, vRe := 8, vIm := 9, g := 1 }) })] } }

set_option maxRecDepth 40000 in
/-- Hypotheses of Sounding: each clause. -/
theorem wit_Sounding :
    wLine.live = true ∧ wLine.noReturn 5 = false ∧ w0.noReturn 5 = true ∧ wLine.sounding 5 = true ∧ wLine.sounding 4 = false ∧
    wLine.frameClean 5 2 = true ∧ wLine.baseline 5 = none ∧ (wLine.setObj 0x9100 2 5 (.bytes (List.replicate 16 1))).baseline 5 ≠ none ∧
    (∃ l, (wLine.line 5).learn = some l ∧ 64 ≤ l.length) ∧ wLine.fld fTIM_MAP_STATUS_TIME_SET = 1 ∧ w0.fld fTIM_MAP_STATUS_TIME_SET = 0 :=
  ⟨by decide, by decide, by decide, by decide, by decide, by decide, by decide, by decide, ⟨_, rfl, by decide⟩, by decide, by decide⟩

/-- A unit whose time runs, at block 6. -/
def wBlk : State := { w0 with tim := { w0.tim with running := true, blkIdx := some 6 } }

/-- Hypotheses of BlockBoundary: time stopped, running, in an Engine Reset with a restart due. -/
theorem wit_BlockBoundary :
    w0.clocked = true ∧ w0.tim.running = false ∧ wBlk.clocked = true ∧ wBlk.tim.running = true ∧ wBlk.sys.engReset = false ∧
    wBlk.tim.restart = none ∧ wBlk.role ≠ 1 ∧
    ({ wBlk with sys := { w0.sys with engReset := true }, tim := { wBlk.tim with restart := some (1, 32) } } : State).clocked = true := by decide

/-- Hypotheses of StepRunsFront: a command in front, an empty queue with and without the clocks. -/
theorem wit_StepRunsFront :
    ({ w0 with pending := [.take, .wake] } : State).pending = .take :: [.wake] ∧ w0.pending = [] ∧ w0.clocked = true ∧
    State.reset.pending = [] ∧ State.reset.clocked = false := by decide

/-- Hypothesis of StepKeepsCanonical: the reset state, and one with memory listed. -/
theorem wit_StepKeepsCanonical : Memory.wf State.reset.mem = true ∧ nsorted State.reset.regs = true ∧
    Memory.wf ([(3, 1), (0x20000000, 7)] : List Host.Cell) = true := by decide

/-- Hypotheses of ResetState: a field beside the two causes. -/
theorem wit_ResetState : fREF_SEL_STATUS_MODE.id ≠ fSYS_RESET_CAUSE_POR_STANDBY.id ∧
    fREF_SEL_STATUS_MODE.id ≠ fSYS_RESET_CAUSE_POR_PWR_GOOD.id := by decide

/-! ### Worked examples of the spec -/

/-- The table after R191: 2^79 − 2^62 plus 2^62, then minus 2^62 less 2^31, with S = 0 and with S = 1. -/
theorem test_accumulate_wraps_and_clamps :
    (let a : LAcc := mkAcc (2 ^ 79 - 2 ^ 62) false
     let p2 : Int := -(2 ^ 62) + 2 ^ 31
     (accumulate a (2 ^ 62) false).acc.val = 0x80000000000000000000 ∧ (accumulate a (2 ^ 62) false).aov = true ∧
     (accumulate (accumulate a (2 ^ 62) false).acc p2 false).acc.val = 0x7FFFC000000080000000 ∧
     (accumulate a (2 ^ 62) true).acc.val = 0x7FFFFFFFFFFFFFFFFFFF ∧ (accumulate a (2 ^ 62) true).asat = true ∧
     (accumulate (accumulate a (2 ^ 62) true).acc p2 true).acc.val = 0x7FFFFFFFFFFFFFFFFFFF) := by decide

/-- The table after R196: four accumulator values extracted with shift 30, convergent and truncated. -/
theorem test_extract_rounds :
    ([0x60000000, 0xA0000000, 0x20000000, -0x60000000] : List Int).map (fun v =>
      ((extract (mkAcc v false) 30 false false).1.toInt, (extract (mkAcc v false) 30 false true).1.toInt)) =
      [(2, 1), (2, 2), (0, 0), (-2, -2)] := by decide

/-- The example after R198: a bus sum of 2^69 extracted with shift 30 clamps with S = 1 and is silent with S = 0. -/
theorem test_extract_clamps :
    extract (mkAcc (2 ^ 69) false) 30 true false = (0x7FFFFFFF, true) ∧ extract (mkAcc (2 ^ 69) false) 30 false false = (0, false) := by decide

/-- The table after R206: internal samples to L24, L16 and 32-bit TDM words. -/
theorem test_wire_words :
    ([0x10000000, 0x08000000, -0x08000000, 0x18, 0x800, -0x800] : List Int).map (fun v =>
      (toWire 24 false v, toWire 16 false v, toWire 32 false v)) =
      [(0x7FFFFF, 0x7FFF, 0x7FFFFFFF), (0x7FFFFF, 0x7FFF, 0x7FFFFFFF), (-0x800000, -0x8000, -0x80000000), (2, 0, 0x180), (0x80, 0, 0x8000),
       (-0x80, 0, -0x8000)] := by decide

/-- The same table where truncation differs, and the TDM input word 0x7FFFFFFF. -/
theorem test_wire_truncates :
    toWire 24 true 0x18 = 1 ∧ toWire 16 true (-0x800) = -1 ∧ ofWire 32 0x7FFFFFFF = 0x08000000 := by decide

/-- The table after R385: a step of +1 after a circular buffer has changed. -/
theorem test_post_modify :
    postModify 0x1050 0x1000 64 1 = 0x1011 ∧ postModify 0x1050 0x1100 96 1 = 0x1131 ∧ postModify 0x01FD 0x0200 64 1 = 0x023E := by decide

/-- The example after R514: the third tick with an empty queue has passed g = 95, and a later one g = 87. -/
theorem test_underflow_ramp :
    divEven (65536 * 95) 96 = 64853 ∧ divEven (65536 * 87) 96 = 59392 := by decide

set_option maxRecDepth 40000 in
/-- A PLAYING channel with an empty queue and e = 1 takes the second row of that table. -/
theorem test_underflow_tick :
    (match exec (.wellSampleTick true) { wWell with well := { wWell.well with chs := [(3, { st := 2, g := 96, h := 65536, e := 1 })] } } with
     | .next t => ((t.well' 3).e, (t.well' 3).g, (t.well' 3).out)
     | _ => (0, 0, 0)) = (2, 95, 64853) := by decide

/-- The POP message of the example after R634, but for its MAC. -/
theorem test_pop_write :
    popMake 2 0x3A910C4400000007 0x152 0 0 0
      (leBytes 2 0x5400 ++ [0x30, 1] ++ leBytes 4 17 ++ leBytes 2 50 ++ [1, 0x0A] ++ leBytes 2 1 ++ [0, 0] ++ leBytes 3 0xFFD8F0) none =
    [0x01, 0x02, 0x13, 0x00, 0x07, 0x00, 0x00, 0x00, 0x44, 0x0C, 0x91, 0x3A, 0x52, 0x01, 0x00, 0x00, 0, 0, 0, 0, 0, 0, 0, 0,
     0x00, 0x54, 0x30, 0x01, 0x11, 0x00, 0x00, 0x00, 0x32, 0x00, 0x01, 0x0A, 0x01, 0x00, 0x00, 0x00, 0xF0, 0xD8, 0xFF] := by decide

/-- The glide of that example: 150 blocks at 48 kHz with B = 16. -/
theorem test_glide_blocks : ({ w0 with sys := { w0.sys with blk := 16 } } : State).glideLen 50 = 150 := by decide

/-- The matrix row of the example after R299: twenty taps of 2^26 at unity reach the bus without a clamp. -/
theorem test_bus_sum : extract (mkAcc (20 * 2 ^ 26 * 2 ^ 30) false) 30 true false = (1342177280, false) := by decide

set_option maxRecDepth 40000 in
/-- SHA-256 of "abc" (the example of FIPS 180-4). -/
theorem test_sha256 : sha256 [0x61, 0x62, 0x63] =
    [0xBA, 0x78, 0x16, 0xBF, 0x8F, 0x01, 0xCF, 0xEA, 0x41, 0x41, 0x40, 0xDE, 0x5D, 0xAE, 0x22, 0x23, 0xB0, 0x03, 0x61, 0xA3, 0x96, 0x17, 0x7A,
     0x9C, 0xB4, 0x10, 0xFF, 0x61, 0xF2, 0x00, 0x15, 0xAD] := by decide

/-- Decoding: the table gives no row bits, so no word spells a command and the queue stays as it is (log entry 1). -/
theorem test_no_word : decodeTableWord 16 0 = none ∧ State.reset.withFetchWord 16 0 = State.reset := by decide

/-- The first step from reset with a command in front runs it: RELEASE leaves Power-on Reset (R64). -/
theorem test_step_release :
    (match step { State.reset with sys := { State.reset.sys with pwrGood := true, resetN := true }, pending := [.release 0 false] } with
     | .next t => decide (t.sys.phase = .up) && t.pending.isEmpty
     | _ => false) = true := by decide

/-! ### Well-formedness: a term with one operand out of range for each check of `Instr.wf` -/

set_option maxRecDepth 20000 in
/-- Each of these has one operand out of range. -/
theorem test_wf_refuses_0 : ([
  .clusterRst .exec 36,
  .thermalTrip 8 0 0,
  .thermalTripEnd (List.replicate 9 0),
  .clusterResetReturn 36,
  .sdsrefLoss 2,
  .laneClockGate 36 0,
  .laneClockGate 0 9,
  .bankClockGate 64,
  .refWindow1s (List.replicate 9 0),
  .refWindow64s (List.replicate 9 0),
  .refLossOfSignal 8,
  .refSignalPresent 8,
  .wtrExpiry 8,
  .pulseEmit 4 0 false,
  .pulseRealign 4 0,
  .ptpSync 2 0 0 0 0 0,
  .ptpSync 0 4 0 0 0 0,
  .ptpDelayResp 2 0 0 0,
  .ptpDelayResp 0 4 0 0,
  .ptpAnnounce 2 0 { sender := 0, senderPort := 0, gm := 0, prio1 := 0, clockClass := 0, accuracy := 0, variance := 0, prio2 := 0, steps := 0, logInt := 0, utcOffset := 0 },
  .ptpAnnounce 0 4 { sender := 0, senderPort := 0, gm := 0, prio1 := 0, clockClass := 0, accuracy := 0, variance := 0, prio2 := 0, steps := 0, logInt := 0, utcOffset := 0 },
  .delayReqSend 2 0,
  .announceReceiptTimeout 2,
  .syncLoss 2] : List Instr).all (fun i => !i.wf) = true := by decide

set_option maxRecDepth 20000 in
/-- Each of these has one operand out of range. -/
theorem test_wf_refuses_1 : ([
  .timeJumpResolved 2,
  .reacqHoldExpiry 2,
  .tcFollowUpLate (2 ^ 96),
  .corrWrite 4 0,
  .mnop { site := 36, lane := 0, eob := false },
  .mnop { site := 0, lane := 9, eob := false },
  .mac2 { site := 36, lane := 0, eob := false } 0 0 0 0 { sat := false, rnd := false, flt := false },
  .mac2 { site := 0, lane := 9, eob := false } 0 0 0 0 { sat := false, rnd := false, flt := false },
  .msu2 { site := 36, lane := 0, eob := false } 0 0 0 0 { sat := false, rnd := false, flt := false },
  .msu2 { site := 0, lane := 9, eob := false } 0 0 0 0 { sat := false, rnd := false, flt := false },
  .mpy2 { site := 36, lane := 0, eob := false } 0 0 0 0 { sat := false, rnd := false, flt := false },
  .mpy2 { site := 0, lane := 9, eob := false } 0 0 0 0 { sat := false, rnd := false, flt := false },
  .mac1 { site := 36, lane := 0, eob := false } 0 0 0 0 { sat := false, rnd := false, flt := false },
  .mac1 { site := 0, lane := 9, eob := false } 0 0 0 0 { sat := false, rnd := false, flt := false },
  .msu1 { site := 36, lane := 0, eob := false } 0 0 0 0 { sat := false, rnd := false, flt := false },
  .msu1 { site := 0, lane := 9, eob := false } 0 0 0 0 { sat := false, rnd := false, flt := false },
  .mpy1 { site := 36, lane := 0, eob := false } 0 0 0 0 { sat := false, rnd := false, flt := false },
  .mpy1 { site := 0, lane := 9, eob := false } 0 0 0 0 { sat := false, rnd := false, flt := false },
  .ftap { site := 36, lane := 0, eob := false } 0 false { sat := false, rnd := false, flt := false },
  .ftap { site := 0, lane := 9, eob := false } 0 false { sat := false, rnd := false, flt := false },
  .extA { site := 36, lane := 0, eob := false } 0 0 0 { sat := false, rnd := false, flt := false },
  .extA { site := 0, lane := 9, eob := false } 0 0 0 { sat := false, rnd := false, flt := false },
  .depA { site := 36, lane := 0, eob := false } 0 0 0,
  .depA { site := 0, lane := 9, eob := false } 0 0 0] : List Instr).all (fun i => !i.wf) = true := by decide

set_option maxRecDepth 20000 in
/-- Each of these has one operand out of range. -/
theorem test_wf_refuses_2 : ([
  .aadd { site := 36, lane := 0, eob := false } 0 0 false { sat := false, rnd := false, flt := false },
  .aadd { site := 0, lane := 9, eob := false } 0 0 false { sat := false, rnd := false, flt := false },
  .clrA { site := 36, lane := 0, eob := false } 0,
  .clrA { site := 0, lane := 9, eob := false } 0,
  .anop { site := 36, lane := 0, eob := false },
  .anop { site := 0, lane := 9, eob := false },
  .addR { site := 36, lane := 0, eob := false } { ext := false, sat := false, rnd := false, rd := 0, ra := 0, rb := 0, cond := 0 },
  .addR { site := 0, lane := 9, eob := false } { ext := false, sat := false, rnd := false, rd := 0, ra := 0, rb := 0, cond := 0 },
  .subR { site := 36, lane := 0, eob := false } { ext := false, sat := false, rnd := false, rd := 0, ra := 0, rb := 0, cond := 0 },
  .subR { site := 0, lane := 9, eob := false } { ext := false, sat := false, rnd := false, rd := 0, ra := 0, rb := 0, cond := 0 },
  .negR { site := 36, lane := 0, eob := false } { ext := false, sat := false, rnd := false, rd := 0, ra := 0, rb := 0, cond := 0 },
  .negR { site := 0, lane := 9, eob := false } { ext := false, sat := false, rnd := false, rd := 0, ra := 0, rb := 0, cond := 0 },
  .absR { site := 36, lane := 0, eob := false } { ext := false, sat := false, rnd := false, rd := 0, ra := 0, rb := 0, cond := 0 },
  .absR { site := 0, lane := 9, eob := false } { ext := false, sat := false, rnd := false, rd := 0, ra := 0, rb := 0, cond := 0 },
  .movR { site := 36, lane := 0, eob := false } { ext := false, sat := false, rnd := false, rd := 0, ra := 0, rb := 0, cond := 0 },
  .movR { site := 0, lane := 9, eob := false } { ext := false, sat := false, rnd := false, rd := 0, ra := 0, rb := 0, cond := 0 },
  .andR { site := 36, lane := 0, eob := false } { ext := false, sat := false, rnd := false, rd := 0, ra := 0, rb := 0, cond := 0 },
  .andR { site := 0, lane := 9, eob := false } { ext := false, sat := false, rnd := false, rd := 0, ra := 0, rb := 0, cond := 0 },
  .orR { site := 36, lane := 0, eob := false } { ext := false, sat := false, rnd := false, rd := 0, ra := 0, rb := 0, cond := 0 },
  .orR { site := 0, lane := 9, eob := false } { ext := false, sat := false, rnd := false, rd := 0, ra := 0, rb := 0, cond := 0 },
  .xorR { site := 36, lane := 0, eob := false } { ext := false, sat := false, rnd := false, rd := 0, ra := 0, rb := 0, cond := 0 },
  .xorR { site := 0, lane := 9, eob := false } { ext := false, sat := false, rnd := false, rd := 0, ra := 0, rb := 0, cond := 0 },
  .notR { site := 36, lane := 0, eob := false } { ext := false, sat := false, rnd := false, rd := 0, ra := 0, rb := 0, cond := 0 },
  .notR { site := 0, lane := 9, eob := false } { ext := false, sat := false, rnd := false, rd := 0, ra := 0, rb := 0, cond := 0 }] : List Instr).all (fun i => !i.wf) = true := by decide

set_option maxRecDepth 20000 in
/-- Each of these has one operand out of range. -/
theorem test_wf_refuses_3 : ([
  .asl { site := 36, lane := 0, eob := false } { ext := false, sat := false, rnd := false, rd := 0, ra := 0, rb := 0, cond := 0 },
  .asl { site := 0, lane := 9, eob := false } { ext := false, sat := false, rnd := false, rd := 0, ra := 0, rb := 0, cond := 0 },
  .asr { site := 36, lane := 0, eob := false } { ext := false, sat := false, rnd := false, rd := 0, ra := 0, rb := 0, cond := 0 },
  .asr { site := 0, lane := 9, eob := false } { ext := false, sat := false, rnd := false, rd := 0, ra := 0, rb := 0, cond := 0 },
  .lsl { site := 36, lane := 0, eob := false } { ext := false, sat := false, rnd := false, rd := 0, ra := 0, rb := 0, cond := 0 },
  .lsl { site := 0, lane := 9, eob := false } { ext := false, sat := false, rnd := false, rd := 0, ra := 0, rb := 0, cond := 0 },
  .lsr { site := 36, lane := 0, eob := false } { ext := false, sat := false, rnd := false, rd := 0, ra := 0, rb := 0, cond := 0 },
  .lsr { site := 0, lane := 9, eob := false } { ext := false, sat := false, rnd := false, rd := 0, ra := 0, rb := 0, cond := 0 },
  .asli { site := 36, lane := 0, eob := false } { ext := false, sat := false, rnd := false, rd := 0, ra := 0, rb := 0, cond := 0 },
  .asli { site := 0, lane := 9, eob := false } { ext := false, sat := false, rnd := false, rd := 0, ra := 0, rb := 0, cond := 0 },
  .asri { site := 36, lane := 0, eob := false } { ext := false, sat := false, rnd := false, rd := 0, ra := 0, rb := 0, cond := 0 },
  .asri { site := 0, lane := 9, eob := false } { ext := false, sat := false, rnd := false, rd := 0, ra := 0, rb := 0, cond := 0 },
  .lsli { site := 36, lane := 0, eob := false } { ext := false, sat := false, rnd := false, rd := 0, ra := 0, rb := 0, cond := 0 },
  .lsli { site := 0, lane := 9, eob := false } { ext := false, sat := false, rnd := false, rd := 0, ra := 0, rb := 0, cond := 0 },
  .lsri { site := 36, lane := 0, eob := false } { ext := false, sat := false, rnd := false, rd := 0, ra := 0, rb := 0, cond := 0 },
  .lsri { site := 0, lane := 9, eob := false } { ext := false, sat := false, rnd := false, rd := 0, ra := 0, rb := 0, cond := 0 },
  .minR { site := 36, lane := 0, eob := false } { ext := false, sat := false, rnd := false, rd := 0, ra := 0, rb := 0, cond := 0 },
  .minR { site := 0, lane := 9, eob := false } { ext := false, sat := false, rnd := false, rd := 0, ra := 0, rb := 0, cond := 0 },
  .maxR { site := 36, lane := 0, eob := false } { ext := false, sat := false, rnd := false, rd := 0, ra := 0, rb := 0, cond := 0 },
  .maxR { site := 0, lane := 9, eob := false } { ext := false, sat := false, rnd := false, rd := 0, ra := 0, rb := 0, cond := 0 },
  .cmpR { site := 36, lane := 0, eob := false } { ext := false, sat := false, rnd := false, rd := 0, ra := 0, rb := 0, cond := 0 },
  .cmpR { site := 0, lane := 9, eob := false } { ext := false, sat := false, rnd := false, rd := 0, ra := 0, rb := 0, cond := 0 },
  .seta { site := 36, lane := 0, eob := false } { ext := false, sat := false, rnd := false, rd := 0, ra := 0, rb := 0, cond := 0 },
  .seta { site := 0, lane := 9, eob := false } { ext := false, sat := false, rnd := false, rd := 0, ra := 0, rb := 0, cond := 0 }] : List Instr).all (fun i => !i.wf) = true := by decide

set_option maxRecDepth 20000 in
/-- Each of these has one operand out of range. -/
theorem test_wf_refuses_4 : ([
  .geta { site := 36, lane := 0, eob := false } { ext := false, sat := false, rnd := false, rd := 0, ra := 0, rb := 0, cond := 0 },
  .geta { site := 0, lane := 9, eob := false } { ext := false, sat := false, rnd := false, rd := 0, ra := 0, rb := 0, cond := 0 },
  .ldW { site := 36, lane := 0, eob := false } { y := false, ar := 0, md := 0, reg := 0 } .ok,
  .ldW { site := 0, lane := 9, eob := false } { y := false, ar := 0, md := 0, reg := 0 } .ok,
  .stW { site := 36, lane := 0, eob := false } { y := false, ar := 0, md := 0, reg := 0 },
  .stW { site := 0, lane := 9, eob := false } { y := false, ar := 0, md := 0, reg := 0 },
  .tapW { site := 36, lane := 0, eob := false } { y := false, ar := 0, md := 0, reg := 0 } .ok,
  .tapW { site := 0, lane := 9, eob := false } { y := false, ar := 0, md := 0, reg := 0 } .ok,
  .sacc { site := 36, lane := 0, eob := false } { y := false, ar := 0, md := 0, w := 0, k := 0 } false,
  .sacc { site := 0, lane := 9, eob := false } { y := false, ar := 0, md := 0, w := 0, k := 0 } false,
  .lacc { site := 36, lane := 0, eob := false } { y := false, ar := 0, md := 0, w := 0, k := 0 } .ok,
  .lacc { site := 0, lane := 9, eob := false } { y := false, ar := 0, md := 0, w := 0, k := 0 } .ok,
  .bra { site := 36, lane := 0, eob := false } 0,
  .bra { site := 0, lane := 9, eob := false } 0,
  .beq { site := 36, lane := 0, eob := false } 0,
  .beq { site := 0, lane := 9, eob := false } 0,
  .bne { site := 36, lane := 0, eob := false } 0,
  .bne { site := 0, lane := 9, eob := false } 0,
  .blt { site := 36, lane := 0, eob := false } 0,
  .blt { site := 0, lane := 9, eob := false } 0,
  .bge { site := 36, lane := 0, eob := false } 0,
  .bge { site := 0, lane := 9, eob := false } 0,
  .bfl { site := 36, lane := 0, eob := false } 0,
  .bfl { site := 0, lane := 9, eob := false } 0] : List Instr).all (fun i => !i.wf) = true := by decide

set_option maxRecDepth 20000 in
/-- Each of these has one operand out of range. -/
theorem test_wf_refuses_5 : ([
  .rotw { site := 36, lane := 0, eob := false },
  .rotw { site := 0, lane := 9, eob := false },
  .endTask { site := 36, lane := 0, eob := false },
  .endTask { site := 0, lane := 9, eob := false },
  .ldi { site := 36, lane := 0, eob := false } 0 0,
  .ldi { site := 0, lane := 9, eob := false } 0 0,
  .setag { site := 36, lane := 0, eob := false } 0 0,
  .setag { site := 0, lane := 9, eob := false } 0 0,
  .loopI { site := 36, lane := 0, eob := false } 0 0 false,
  .loopI { site := 0, lane := 9, eob := false } 0 0 false,
  .loopr { site := 36, lane := 0, eob := false } 0 0 false,
  .loopr { site := 0, lane := 9, eob := false } 0 0 false,
  .jmp { site := 36, lane := 0, eob := false } 0,
  .jmp { site := 0, lane := 9, eob := false } 0,
  .loopReturn 36 0,
  .loopReturn 0 9,
  .resInj .exec 36 0,
  .resInj .exec 0 9,
  .taskReady 36 0,
  .taskReady 0 512,
  .taskDispatch 36 .ok,
  .taskComplete 36 0,
  .taskComplete 0 512,
  .heldRelease 36 0] : List Instr).all (fun i => !i.wf) = true := by decide

set_option maxRecDepth 20000 in
/-- Each of these has one operand out of range. -/
theorem test_wf_refuses_6 : ([
  .heldRelease 0 512,
  .retainCopyEnd 36 0,
  .retainCopyEnd 0 512,
  .postDeliver 36 [],
  .fetchComplete 64 .ok,
  .writeBackComplete 64 [],
  .creditReturn 64 0 0,
  .creditReturn 0 2048 0,
  .creditReturn 0 0 512,
  .taskDeadline 36 0,
  .taskDeadline 0 512,
  .taskRetry 36 0,
  .taskRetry 0 512,
  .pumpLoad 36 0,
  .pumpLoad 0 512,
  .pumpArm 36 0,
  .pumpArm 0 512,
  .pumpCancel 36 0,
  .pumpCancel 0 512,
  .pumpUnload 36 0,
  .pumpUnload 0 512,
  .pumpFlag 36 0 0,
  .pumpFlag 0 512 0,
  .pumpTimer 64 0] : List Instr).all (fun i => !i.wf) = true := by decide

set_option maxRecDepth 20000 in
/-- Each of these has one operand out of range. -/
theorem test_wf_refuses_7 : ([
  .pumpTimer 0 4,
  .taskDescriptorWrite 64 0 0 0 0,
  .taskDescriptorWrite 0 36 0 0 0,
  .taskDescriptorWrite 0 0 512 0 0,
  .taskDescriptorWrite 0 0 0 4 0,
  .directPathWord 16 0 0,
  .directPathWord 0 32 0,
  .routeCrossfadeEnd 65536,
  .press (List.replicate 33 0),
  .sceneReassert (List.replicate 33 0),
  .filterCrossfadeEnd 65536 0 0,
  .filterCrossfadeEnd 0 256 0,
  .filterCrossfadeEnd 0 0 (2 ^ 32),
  .delayCrossfadeEnd 65536 0 0,
  .delayCrossfadeEnd 0 256 0,
  .delayCrossfadeEnd 0 0 (2 ^ 32),
  .delaySlewEnd 65536 0 0,
  .delaySlewEnd 0 256 0,
  .delaySlewEnd 0 0 (2 ^ 32),
  .popRead (.net (2 ^ 32) 0) [],
  .popRead (.net 0 65536) [],
  .popWrite (.net (2 ^ 32) 0) [],
  .popWrite (.net 0 65536) [],
  .popStage (.net (2 ^ 32) 0) []] : List Instr).all (fun i => !i.wf) = true := by decide

set_option maxRecDepth 20000 in
/-- Each of these has one operand out of range. -/
theorem test_wf_refuses_8 : ([
  .popStage (.net 0 65536) [],
  .popSubscribe (.net (2 ^ 32) 0) [],
  .popSubscribe (.net 0 65536) [],
  .popBatch (.net (2 ^ 32) 0) [],
  .popBatch (.net 0 65536) [],
  .batchTimeout (2 ^ 64),
  .popOpen (.net (2 ^ 32) 0) [],
  .popOpen (.net 0 65536) [],
  .popProof (.net (2 ^ 32) 0) [],
  .popProof (.net 0 65536) [],
  .proofTimeout (2 ^ 64),
  .popClose (.net (2 ^ 32) 0) [],
  .popClose (.net 0 65536) [],
  .sessionCloseExec (2 ^ 64),
  .sessionIdleTimeout (2 ^ 64),
  .notifySend (2 ^ 64),
  .peerKeepalive (2 ^ 32) none,
  .mdnsReceive 2 0 { node := 0, role := 0, digest := 0, fwMajor := 0, fwMinor := 0, fwPatch := 0, step := 0 },
  .mdnsReceive 0 (2 ^ 32) { node := 0, role := 0, digest := 0, fwMajor := 0, fwMinor := 0, fwPatch := 0, step := 0 },
  .rosterAgeOut 4 0,
  .rosterAgeOut 0 (2 ^ 32),
  .disagreementClear 4 0 0,
  .disagreementClear 0 (2 ^ 32) 0,
  .disagreementClear 0 0 4] : List Instr).all (fun i => !i.wf) = true := by decide

set_option maxRecDepth 20000 in
/-- Each of these has one operand out of range. -/
theorem test_wf_refuses_9 : ([
  .spiSend 0 (List.replicate 1473 0),
  .eccWriteBack (2 ^ 40),
  .programLineRestore 36 0 .ok,
  .programLineRestore 0 1024 .ok,
  .fabricRequest { master := 64, tag := 0, addr := 0, write := false, len := 0, be := [], data := [], lock := false } .ok,
  .fabricRequest { master := 0, tag := 0, addr := (2 ^ 40), write := false, len := 0, be := [], data := [], lock := false } .ok,
  .fabricRequest { master := 0, tag := 0, addr := 0, write := false, len := 0, be := [256], data := [], lock := false } .ok,
  .fabricRequest { master := 0, tag := 0, addr := 0, write := false, len := 0, be := [], data := [2 ^ 64], lock := false } .ok,
  .fabricGrant 256 none 0 .ok,
  .lockTimeout 256,
  .masterPortReset 64 none 0,
  .remapSet 64 0,
  .remapSet 0 256,
  .cisternBitSet 64 0 0 0 false .ok,
  .cisternBitSet 0 (2 ^ 25) 0 0 false .ok,
  .cisternBitClear 64 0 0 0 false .ok,
  .cisternBitClear 0 (2 ^ 25) 0 0 false .ok,
  .bankHandoverReq 64 0 0,
  .bankHandoverReq 0 64 0,
  .bankHandoverReq 0 0 64,
  .bankHandover 64,
  .bankRetentionEnter 64,
  .bankWake 64,
  .spareRowCopy 68 0 .ok] : List Instr).all (fun i => !i.wf) = true := by decide

set_option maxRecDepth 20000 in
/-- Each of these has one operand out of range. -/
theorem test_wf_refuses_10 : ([
  .spareRowCopy 0 65536 .ok,
  .spareBankCopyEnd 64,
  .dcisWriteMove 1024,
  .dcisReadMove 1024 [],
  .dcisLate 1024,
  .dcisFailed 2,
  .tdmStartTrigger 16,
  .tdmFrame 16 [],
  .tdmFrame 0 (List.replicate 33 0),
  .tdmFsyncEdge 16 0 0,
  .tdmLockLost 16,
  .tdmLeadInEnd 16,
  .tdmLeadOutEnd 16,
  .tdmMaskWrite 16 false 0,
  .tdmCfgWrite 16 0,
  .netLinkUp 4,
  .netLinkDown 4,
  .ipv4Write 2 0,
  .addrProbeEnd 2,
  .netAddrConflict 2,
  .switchFrame { port := 5, plane := 0, len := 0, fcsOk := false, tagged := false, vid := 0, src := 0, dst := 0, dscp := 0, group := 0, igmp := .none },
  .switchFrame { port := 0, plane := 2, len := 0, fcsOk := false, tagged := false, vid := 0, src := 0, dst := 0, dscp := 0, group := 0, igmp := .none },
  .macAgeOut 2 0,
  .macAgeOut 0 (2 ^ 48)] : List Instr).all (fun i => !i.wf) = true := by decide

set_option maxRecDepth 20000 in
/-- Each of these has one operand out of range. -/
theorem test_wf_refuses_11 : ([
  .rtpPacketRx { plane := 2, src := 0, dst := 0, port := 0, pt := 0, seq := 0, stamp := 0, payload := [] },
  .rxLegTimeout 1024 0,
  .rxLegTimeout 0 2,
  .rxIdleTimeout 1024,
  .txPacketClose 1024,
  .streamEnable false 1024,
  .streamDisable false 1024,
  .sdpWrite 1024 [],
  .sdpWrite 0 (List.replicate 4097 0),
  .sapAnnounce 1024,
  .sapAgeOut (2 ^ 32) 0,
  .sapAgeOut 0 65536,
  .wellFallbackReturn 8,
  .wellCodeWrite 8 0,
  .wellCfgWrite 8 0,
  .wellChangeSwitch 8,
  .gateRise 16,
  .gateFall 16,
  .genStepEnd 16,
  .wellGenCfgWrite 16 none 0,
  .gone { seq := (2 ^ 32), ack := 0, blk := 0, flags := 0, crcOk := false, lane := 0 } 0,
  .gone { seq := 0, ack := (2 ^ 32), blk := 0, flags := 0, crcOk := false, lane := 0 } 0,
  .gone { seq := 0, ack := 0, blk := (2 ^ 32), flags := 0, crcOk := false, lane := 0 } 0,
  .gone { seq := 0, ack := 0, blk := 0, flags := 0, crcOk := false, lane := 2 } 0] : List Instr).all (fun i => !i.wf) = true := by decide

set_option maxRecDepth 20000 in
/-- Each of these has one operand out of range. -/
theorem test_wf_refuses_12 : ([
  .witnessQuery (2 ^ 32),
  .witnessReply 3,
  .siphLaneUp 2,
  .siphLaneDown 2,
  .siphLaneRetrainTimeout 2,
  .marker { seq := (2 ^ 32), ack := 0, blk := 0, flags := 0, crcOk := false, lane := 0 } { blk := 0, root := 0, role := 0, quality := 0, release := 0, arrival := 0, roundTrip := 0, turnaround := 0 },
  .marker { seq := 0, ack := (2 ^ 32), blk := 0, flags := 0, crcOk := false, lane := 0 } { blk := 0, root := 0, role := 0, quality := 0, release := 0, arrival := 0, roundTrip := 0, turnaround := 0 },
  .marker { seq := 0, ack := 0, blk := (2 ^ 32), flags := 0, crcOk := false, lane := 0 } { blk := 0, root := 0, role := 0, quality := 0, release := 0, arrival := 0, roundTrip := 0, turnaround := 0 },
  .marker { seq := 0, ack := 0, blk := 0, flags := 0, crcOk := false, lane := 2 } { blk := 0, root := 0, role := 0, quality := 0, release := 0, arrival := 0, roundTrip := 0, turnaround := 0 },
  .statusFrame { seq := (2 ^ 32), ack := 0, blk := 0, flags := 0, crcOk := false, lane := 0 },
  .statusFrame { seq := 0, ack := (2 ^ 32), blk := 0, flags := 0, crcOk := false, lane := 0 },
  .statusFrame { seq := 0, ack := 0, blk := (2 ^ 32), flags := 0, crcOk := false, lane := 0 },
  .statusFrame { seq := 0, ack := 0, blk := 0, flags := 0, crcOk := false, lane := 2 },
  .nak { seq := (2 ^ 32), ack := 0, blk := 0, flags := 0, crcOk := false, lane := 0 } 0,
  .nak { seq := 0, ack := (2 ^ 32), blk := 0, flags := 0, crcOk := false, lane := 0 } 0,
  .nak { seq := 0, ack := 0, blk := (2 ^ 32), flags := 0, crcOk := false, lane := 0 } 0,
  .nak { seq := 0, ack := 0, blk := 0, flags := 0, crcOk := false, lane := 2 } 0,
  .hello { seq := (2 ^ 32), ack := 0, blk := 0, flags := 0, crcOk := false, lane := 0 } { digest := 0, fwMajor := 0, fwMinor := 0, fwPatch := 0, stepping := 0, rates := 0, rank := 0, dcisReady := false, node := 0 },
  .hello { seq := 0, ack := (2 ^ 32), blk := 0, flags := 0, crcOk := false, lane := 0 } { digest := 0, fwMajor := 0, fwMinor := 0, fwPatch := 0, stepping := 0, rates := 0, rank := 0, dcisReady := false, node := 0 },
  .hello { seq := 0, ack := 0, blk := (2 ^ 32), flags := 0, crcOk := false, lane := 0 } { digest := 0, fwMajor := 0, fwMinor := 0, fwPatch := 0, stepping := 0, rates := 0, rank := 0, dcisReady := false, node := 0 },
  .hello { seq := 0, ack := 0, blk := 0, flags := 0, crcOk := false, lane := 2 } { digest := 0, fwMajor := 0, fwMinor := 0, fwPatch := 0, stepping := 0, rates := 0, rank := 0, dcisReady := false, node := 0 },
  .ledger { seq := (2 ^ 32), ack := 0, blk := 0, flags := 0, crcOk := false, lane := 0 } [],
  .ledger { seq := 0, ack := (2 ^ 32), blk := 0, flags := 0, crcOk := false, lane := 0 } [],
  .ledger { seq := 0, ack := 0, blk := (2 ^ 32), flags := 0, crcOk := false, lane := 0 } []] : List Instr).all (fun i => !i.wf) = true := by decide

set_option maxRecDepth 20000 in
/-- Each of these has one operand out of range. -/
theorem test_wf_refuses_13 : ([
  .ledger { seq := 0, ack := 0, blk := 0, flags := 0, crcOk := false, lane := 2 } [],
  .digest { seq := (2 ^ 32), ack := 0, blk := 0, flags := 0, crcOk := false, lane := 0 } 0 0 0,
  .digest { seq := 0, ack := (2 ^ 32), blk := 0, flags := 0, crcOk := false, lane := 0 } 0 0 0,
  .digest { seq := 0, ack := 0, blk := (2 ^ 32), flags := 0, crcOk := false, lane := 0 } 0 0 0,
  .digest { seq := 0, ack := 0, blk := 0, flags := 0, crcOk := false, lane := 2 } 0 0 0,
  .digest { seq := 0, ack := 0, blk := 0, flags := 0, crcOk := false, lane := 0 } 0 (2 ^ 64) 0,
  .digest { seq := 0, ack := 0, blk := 0, flags := 0, crcOk := false, lane := 0 } 0 0 (2 ^ 64),
  .digestSend (2 ^ 64),
  .prep { seq := (2 ^ 32), ack := 0, blk := 0, flags := 0, crcOk := false, lane := 0 } 0,
  .prep { seq := 0, ack := (2 ^ 32), blk := 0, flags := 0, crcOk := false, lane := 0 } 0,
  .prep { seq := 0, ack := 0, blk := (2 ^ 32), flags := 0, crcOk := false, lane := 0 } 0,
  .prep { seq := 0, ack := 0, blk := 0, flags := 0, crcOk := false, lane := 2 } 0,
  .epochEnd { seq := (2 ^ 32), ack := 0, blk := 0, flags := 0, crcOk := false, lane := 0 } 0 0 0,
  .epochEnd { seq := 0, ack := (2 ^ 32), blk := 0, flags := 0, crcOk := false, lane := 0 } 0 0 0,
  .epochEnd { seq := 0, ack := 0, blk := (2 ^ 32), flags := 0, crcOk := false, lane := 0 } 0 0 0,
  .epochEnd { seq := 0, ack := 0, blk := 0, flags := 0, crcOk := false, lane := 2 } 0 0 0,
  .epochEnd { seq := 0, ack := 0, blk := 0, flags := 0, crcOk := false, lane := 0 } (2 ^ 32) 0 0,
  .epochAck { seq := (2 ^ 32), ack := 0, blk := 0, flags := 0, crcOk := false, lane := 0 } 0 0,
  .epochAck { seq := 0, ack := (2 ^ 32), blk := 0, flags := 0, crcOk := false, lane := 0 } 0 0,
  .epochAck { seq := 0, ack := 0, blk := (2 ^ 32), flags := 0, crcOk := false, lane := 0 } 0 0,
  .epochAck { seq := 0, ack := 0, blk := 0, flags := 0, crcOk := false, lane := 2 } 0 0,
  .epochAck { seq := 0, ack := 0, blk := 0, flags := 0, crcOk := false, lane := 0 } (2 ^ 32) 0,
  .ingress { seq := (2 ^ 32), ack := 0, blk := 0, flags := 0, crcOk := false, lane := 0 } 0 false 0 [],
  .ingress { seq := 0, ack := (2 ^ 32), blk := 0, flags := 0, crcOk := false, lane := 0 } 0 false 0 []] : List Instr).all (fun i => !i.wf) = true := by decide

set_option maxRecDepth 20000 in
/-- Each of these has one operand out of range. -/
theorem test_wf_refuses_14 : ([
  .ingress { seq := 0, ack := 0, blk := (2 ^ 32), flags := 0, crcOk := false, lane := 0 } 0 false 0 [],
  .ingress { seq := 0, ack := 0, blk := 0, flags := 0, crcOk := false, lane := 2 } 0 false 0 [],
  .ingress { seq := 0, ack := 0, blk := 0, flags := 0, crcOk := false, lane := 0 } 2048 false 0 [],
  .ingress { seq := 0, ack := 0, blk := 0, flags := 0, crcOk := false, lane := 0 } 0 false 0 (List.replicate 1023 0),
  .snap { seq := (2 ^ 32), ack := 0, blk := 0, flags := 0, crcOk := false, lane := 0 } 0 0 [],
  .snap { seq := 0, ack := (2 ^ 32), blk := 0, flags := 0, crcOk := false, lane := 0 } 0 0 [],
  .snap { seq := 0, ack := 0, blk := (2 ^ 32), flags := 0, crcOk := false, lane := 0 } 0 0 [],
  .snap { seq := 0, ack := 0, blk := 0, flags := 0, crcOk := false, lane := 2 } 0 0 [],
  .snap { seq := 0, ack := 0, blk := 0, flags := 0, crcOk := false, lane := 0 } 0 0 (List.replicate 4089 0),
  .spareClusterReady 64 false,
  .hlthRetire 8 0,
  .hlthRetire 0 (2 ^ 24),
  .brineBorrow (2 ^ 40),
  .brineScrub (2 ^ 40) .ok,
  .brineSpareTest false 68,
  .brineShadow 36 0,
  .brineShadow 0 8,
  .brineShadowEnd 64,
  .monitorSample (List.replicate 26 0) (List.replicate 16 0),
  .monitorSample (List.replicate 25 0) (List.replicate 17 0),
  .soundFrameResult 65536 0 { iRe := 0, iIm := 0, vRe := 0, vIm := 0, e := 0 },
  .soundLearn 65536,
  .soundLearnEnd 65536,
  .evtOverflow 3] : List Instr).all (fun i => !i.wf) = true := by decide

set_option maxRecDepth 20000 in
/-- Each of these has one operand out of range. -/
theorem test_wf_refuses_15 : ([
  .registerWrite 64 0 0,
  .registerWrite 0 (2 ^ 40) 0,
  .sdsrefRestored 2,
  .popExec (.net (2 ^ 32) 0) [],
  .popExec (.net 0 65536) [],
  .replayBlockComplete (2 ^ 64) 0,
  .replayBlockComplete 0 (2 ^ 64)] : List Instr).all (fun i => !i.wf) = true := by decide

end Sys2Proof.Tests
end

section
/-! SUPPORT. What the accumulating operations of the MAC slot do to a lane and its sticky flags (spec 06, R185 to R189, R200, R207,
R222 to R226). `Accrues` says what a part of such a slot does; each part of `State.macOp` has one lemma about it. -/

namespace Sys2Proof.Machine

open Sys2Proof

/-! ### Sticky flags -/

theorem bit_putBit_true (w : Nat) {k j b : Nat} (hj : j < b) : bit (putBit w k true % 2 ^ b) j = (bit w j || decide (j = k)) := by
  simp [bit, putBit, Nat.testBit_mod_two_pow, Nat.testBit_or, Nat.testBit_two_pow, hj, eq_comm]

theorem State.raise_pump (s : State) (e : Nat) (args : List EvArg) : (s.raise e args).pump = s.pump :=
  (State.raise_framed s e args (Framed.refl 0x840000 s) rfl).pump rfl

/-- Raising an event changes no register of a cluster block. -/
theorem State.raise_fld (s : State) (e : Nat) (args : List EvArg) {f : Fd} (hf : f.blk = 14) (i j : Nat) :
    (s.raise e args).fld f i j = s.fld f i j := by
  refine (State.raise_framed s e args (Framed.refl 0x840000 s) rfl).regs rfl 14 rfl _ _ ?_
  unfold keyBlock keyId Fd.key; unfold Fd.blk at hf; omega

theorem State.setSticky_pump (s : State) (n m flag k : Nat) (quiet : Bool) : (s.setSticky n m flag k quiet).pump = s.pump :=
  (State.setSticky_framed s n m flag k quiet (Framed.refl 0x400840000 s) rfl).pump rfl

@[simp] theorem State.setSticky_lane (s : State) (n m flag k : Nat) (quiet : Bool) (n' m' : Nat) :
    (s.setSticky n m flag k quiet).lane n' m' = s.lane n' m' := by
  unfold State.lane; rw [State.setSticky_pump]

/-- Of the cluster registers, setting a sticky flag sets its bit and no other. -/
theorem State.setSticky_fld (s : State) (n m flag k : Nat) (quiet : Bool) {f : Fd} (hf : f.blk = 14) (i j : Nat) :
    (s.setSticky n m flag k quiet).fld f i j =
      if bit (s.fld (stickyFd flag) n m) k then s.fld f i j
      else (s.put (stickyFd flag) (putBit (s.fld (stickyFd flag) n m) k true) n m).fld f i j := by
  unfold State.setSticky
  dsimp only
  split
  · rfl
  · split
    · exact State.raise_fld _ _ _ hf i j
    · rfl

theorem stickyFd_layout : ∀ flag < 2, (stickyFd flag).blk = 14 ∧ (stickyFd flag).width = 4 := by decide

theorem stickyFd_id_inj : ∀ flag < 2, ∀ flag' < 2, (stickyFd flag).id = (stickyFd flag').id → flag = flag' := by decide

theorem stickyFd_not_cl_res : ∀ flag < 2, (stickyFd flag).id ≠ fCLUn_LARITHm_CL.id ∧ (stickyFd flag).id ≠ fCLUn_LARITHm_RES.id := by
  decide

/-- AOV and ASAT each hold one bit an accumulator, and setting a bit of one leaves the other. -/
theorem State.setSticky_bit (s : State) (n m k : Nat) (quiet : Bool) {flag flag' j : Nat} (h : flag < 2) (h' : flag' < 2) (hj : j < 4) :
    bit ((s.setSticky n m flag k quiet).fld (stickyFd flag') n m) j =
      (bit (s.fld (stickyFd flag') n m) j || (decide (flag = flag') && decide (j = k))) := by
  obtain ⟨hblk, hwidth⟩ := stickyFd_layout flag' h'
  rw [State.setSticky_fld s n m flag k quiet hblk]
  by_cases hflag : flag = flag'
  · subst hflag
    split
    case isTrue hk => by_cases hjk : j = k <;> simp [hjk, hk]
    case isFalse => rw [State.fld_put_self, hwidth, bit_putBit_true _ hj, decide_eq_true rfl, Bool.true_and]
  · rw [State.fld_put_ne _ _ _ _ _ _ fun e => hflag (stickyFd_id_inj _ h' _ h e).symm]
    simp [hflag]

theorem State.setSticky_if_bit (s : State) (n m k : Nat) (quiet b : Bool) {flag flag' j : Nat} (h : flag < 2) (h' : flag' < 2)
    (hj : j < 4) : bit ((if b then s.setSticky n m flag k quiet else s).fld (stickyFd flag') n m) j =
      (bit (s.fld (stickyFd flag') n m) j || (b && (decide (flag = flag') && decide (j = k)))) := by
  cases b with
  | true => exact State.setSticky_bit s n m k quiet h h' hj
  | false => simp

@[simp] theorem State.setSticky_if_lane (s : State) (n m flag k : Nat) (quiet b : Bool) (n' m' : Nat) :
    (if b then s.setSticky n m flag k quiet else s).lane n' m' = s.lane n' m' := by
  cases b with
  | true => exact State.setSticky_lane ..
  | false => rfl

/-! ### Accumulators -/

theorem State.setAcc_lane (s : State) (n m k : Nat) (a : LAcc) :
    (s.setAcc n m k a).lane n m = { s.lane n m with acc := nset {} (s.lane n m).acc k a } := by
  unfold State.setAcc
  rw [State.lane_put, State.lane_put, State.lane_setLane]

theorem State.setAcc_sticky (s : State) (n m k : Nat) (a : LAcc) {flag : Nat} (h : flag < 2) (i j : Nat) :
    (s.setAcc n m k a).fld (stickyFd flag) i j = s.fld (stickyFd flag) i j := by
  obtain ⟨hcl, hres⟩ := stickyFd_not_cl_res flag h
  unfold State.setAcc
  rw [State.fld_put_ne _ _ _ _ _ _ hres, State.fld_put_ne _ _ _ _ _ _ hcl, State.setLane_fld]

/-- The specification's result of an accumulate is the model's. -/
theorem accResult_eq (sat : Bool) (a : LAcc) (p : Int) :
    accResult sat a p = ((accumulate a p sat).acc.val, (accumulate a p sat).acc.cl, (accumulate a p sat).aov, (accumulate a p sat).asat) := by
  unfold accResult accumulate
  dsimp only
  split
  case isTrue hcl => rw [hcl]
  case isFalse =>
    by_cases hlo : a.val.toInt + p < -(2 ^ 79)
    · have hout : ¬ (-(2 ^ 79) ≤ a.val.toInt + p ∧ a.val.toInt + p < 2 ^ 79) := by omega
      have hneg : ¬ 0 ≤ a.val.toInt + p := by omega
      simp only [if_pos hlo, if_neg hout, if_neg hneg]
      cases sat <;> rfl
    · by_cases hhi : 2 ^ 79 ≤ a.val.toInt + p
      · have hout : ¬ (-(2 ^ 79) ≤ a.val.toInt + p ∧ a.val.toInt + p < 2 ^ 79) := by omega
        have hpos : 0 ≤ a.val.toInt + p := by omega
        simp only [if_neg hlo, if_pos hhi, if_neg hout, if_pos hpos]
        cases sat <;> rfl
      · have hin : -(2 ^ 79) ≤ a.val.toInt + p ∧ a.val.toInt + p < 2 ^ 79 := by omega
        simp only [if_neg hlo, if_neg hhi, if_pos hin]
        rfl

/-- The outcome sets its accumulator's bit of sticky flag 0 = AOV or 1 = ASAT. -/
def AccOut.sets (o : AccOut) (flag : Nat) : Bool := if flag = 0 then o.aov else o.asat

/-- What a slot makes of accumulator `a` when `e` is its addend, if it has one. -/
def accOutcome (sat : Bool) (a : LAcc) (e : Option Int) : AccOut :=
  match e with
  | none => ⟨a, false, false⟩
  | some e => accumulate a e sat

@[simp] theorem accOutcome_none (sat : Bool) (a : LAcc) : accOutcome sat a none = ⟨a, false, false⟩ := rfl
@[simp] theorem accOutcome_some (sat : Bool) (a : LAcc) (e : Int) : accOutcome sat a (some e) = accumulate a e sat := rfl
@[simp] theorem AccOut.sets_none (a : LAcc) (flag : Nat) : (AccOut.mk a false false).sets flag = false := by simp [AccOut.sets]

/-- From `s` to `t` lane `m` of cluster `n` took the addends `l`, each for its own accumulator: AOV and ASAT collect what the
accumulates set, and of the lane only the accumulators and the E1 cycle may differ. -/
structure Accrues (s t : State) (n m : Nat) (sat : Bool) (l : List (Nat × Int)) : Prop where
  lane : ∃ acc tE, t.lane n m = { s.lane n m with acc := acc, tE := tE }
  acc : ∀ k, (t.lane n m).accOf k = (accOutcome sat ((s.lane n m).accOf k) (l.lookup k)).acc
  sticky : ∀ flag k, flag < 2 → k < 4 → bit (t.fld (stickyFd flag) n m) k =
    (bit (s.fld (stickyFd flag) n m) k || (accOutcome sat ((s.lane n m).accOf k) (l.lookup k)).sets flag)

/-- A change of the E1 cycle alone adds nothing. -/
theorem Accrues.of_stage {s t : State} {n m : Nat} (sat : Bool) {tE : Nat} (hlane : t.lane n m = { s.lane n m with tE := tE })
    (hregs : t.regs = s.regs) : Accrues s t n m sat [] where
  lane := ⟨_, tE, hlane⟩
  acc k := by rw [hlane]; rfl
  sticky flag k _ _ := by simp [State.fld, hregs]

/-- Two parts of a slot whose addends go to different accumulators. -/
theorem Accrues.trans {s t u : State} {n m : Nat} {sat : Bool} {l l' : List (Nat × Int)} (h : Accrues s t n m sat l)
    (h' : Accrues t u n m sat l') (hd : ∀ k, l.lookup k = none ∨ l'.lookup k = none) : Accrues s u n m sat (l ++ l') := by
  refine ⟨?lane, fun k => ?acc, fun flag k hflag hk => ?sticky⟩
  case lane =>
    obtain ⟨acc, tE, hst⟩ := h.lane
    obtain ⟨acc', tE', htu⟩ := h'.lane
    exact ⟨acc', tE', by rw [htu, hst]⟩
  case acc =>
    rw [h'.acc k, h.acc k, List.lookup_append]
    rcases hd k with hk | hk <;> simp [hk]
  case sticky =>
    rw [h'.sticky flag k hflag hk, h.sticky flag k hflag hk, h.acc k, List.lookup_append]
    rcases hd k with hk | hk <;> simp [hk]

/-- One addend of an accumulating operation, as `State.macOp` treats it. -/
def State.accStep (s : State) (n m : Nat) (sat quiet : Bool) (e : Nat × Int) : State :=
  let o := accumulate ((s.lane n m).accOf e.1) e.2 sat
  let s := s.setAcc n m e.1 o.acc
  let s := if o.aov then s.setSticky n m 0 e.1 quiet else s
  if o.asat then s.setSticky n m 1 e.1 quiet else s

theorem State.accStep_lane (s : State) (n m : Nat) (sat quiet : Bool) (e : Nat × Int) :
    (s.accStep n m sat quiet e).lane n m =
      { s.lane n m with acc := nset {} (s.lane n m).acc e.1 (accumulate ((s.lane n m).accOf e.1) e.2 sat).acc } := by
  unfold State.accStep
  dsimp only
  rw [State.setSticky_if_lane, State.setSticky_if_lane, State.setAcc_lane]

theorem State.accStep_sticky (s : State) (n m : Nat) (sat quiet : Bool) (e : Nat × Int) {flag k : Nat} (hflag : flag < 2) (hk : k < 4) :
    bit ((s.accStep n m sat quiet e).fld (stickyFd flag) n m) k =
      (bit (s.fld (stickyFd flag) n m) k || ((accumulate ((s.lane n m).accOf e.1) e.2 sat).sets flag && decide (k = e.1))) := by
  unfold State.accStep
  dsimp only
  rw [State.setSticky_if_bit _ _ _ _ _ _ (by decide) hflag hk, State.setSticky_if_bit _ _ _ _ _ _ (by decide) hflag hk,
    State.setAcc_sticky _ _ _ _ _ hflag]
  rcases (show flag = 0 ∨ flag = 1 by omega) with rfl | rfl
  · rw [decide_eq_true rfl, decide_eq_false Nat.one_ne_zero, Bool.true_and, Bool.false_and, Bool.and_false, Bool.or_false]
    rfl
  · rw [decide_eq_true rfl, decide_eq_false Nat.zero_ne_one, Bool.true_and, Bool.false_and, Bool.and_false, Bool.or_false]
    rfl

theorem accOutcome_single (sat : Bool) (a : LAcc) (e : Nat × Int) (k : Nat) :
    accOutcome sat a ([e].lookup k) = if k = e.1 then accumulate a e.2 sat else ⟨a, false, false⟩ := by
  by_cases h : k = e.1
  · simp [h, List.lookup]
  · simp [h, List.lookup, beq_false_of_ne h]

theorem Accrues.accStep (s : State) (n m : Nat) (sat quiet : Bool) (e : Nat × Int) :
    Accrues s (s.accStep n m sat quiet e) n m sat [e] where
  lane := ⟨_, _, State.accStep_lane s n m sat quiet e⟩
  acc k := by
    rw [State.accStep_lane, accOutcome_single]
    simp only [Lane.accOf, nget_nset]
    split
    case isTrue hk => rw [hk]
    case isFalse => rfl
  sticky flag k hflag hk := by
    rw [State.accStep_sticky s n m sat quiet e hflag hk, accOutcome_single]
    by_cases h : k = e.1 <;> simp [h]

/-- The addends of a slot one after another, each for its own accumulator. -/
theorem Accrues.forL_accStep (n m : Nat) (sat quiet : Bool) {l : List (Nat × Int)} (hl : (l.map Prod.fst).Nodup) (s : State) :
    Accrues s (forL l (fun e s => s.accStep n m sat quiet e) s) n m sat l := by
  induction l generalizing s with
  | nil => exact Accrues.of_stage sat (tE := (s.lane n m).tE) rfl rfl
  | cons e l ih =>
    obtain ⟨hnew, hl⟩ := List.nodup_cons.mp hl
    refine (Accrues.accStep s n m sat quiet e).trans (ih hl _) fun k => ?_
    by_cases hk : k = e.1
    · right
      rw [List.lookup_eq_none_iff, hk]
      intro p hp
      exact bne_iff_ne.mpr fun he => hnew (List.mem_map.mpr ⟨p, hp, he.symm⟩)
    · left
      simp [List.lookup, beq_false_of_ne hk]

/-- The addends of a slot that the lane's stage cycles do not touch, at most one an accumulator. -/
structure MacAddends (g : Lane → List (Nat × Int)) : Prop where
  stage : ∀ x tE, g { x with tE := tE } = g x
  distinct : ∀ x, ((g x).map Prod.fst).Nodup

theorem MacAddends.single (k : Nat) {f : Lane → Int} (hf : ∀ x tE, f { x with tE := tE } = f x) :
    MacAddends (fun x => [(k, f x)]) where
  stage x tE := by rw [hf]
  distinct x := by simp

theorem MacAddends.products2 (t0 t1 ra rb : Nat) (neg : Bool) : MacAddends (products2 t0 t1 ra rb neg) where
  stage _ _ := rfl
  distinct x := by
    unfold Machine.products2
    by_cases h : t0 = t1 <;> simp [h]

theorem MacAddends.product1 (t su ra rb : Nat) (neg : Bool) : MacAddends (product1 t su ra rb neg) :=
  MacAddends.single t fun _ _ => rfl

theorem MacAddends.ftap (t : Nat) (neg : Bool) :
    MacAddends (fun x => [(t, if neg then -(x.yd.toInt * x.xd.toInt) else x.yd.toInt * x.xd.toInt)]) :=
  MacAddends.single t fun _ _ => rfl

theorem MacAddends.aadd (t u : Nat) (neg : Bool) :
    MacAddends (fun x => [(t, if neg then -(x.accOf u).val.toInt else (x.accOf u).val.toInt)]) :=
  MacAddends.single t fun _ _ => rfl

/-! ### An accumulating operation -/

/-- Reads that wait for their registers move only the E1 cycle (R243). -/
theorem Lane.foldl_useE (names : List Nat) (x : Lane) : ∃ tE, names.foldl (fun x k => x.useE (x.phys k)) x = { x with tE := tE } := by
  induction names generalizing x with
  | nil => exact ⟨x.tE, rfl⟩
  | cons k names ih =>
    obtain ⟨tE, h⟩ := ih (x.useE (x.phys k))
    exact ⟨tE, by rw [List.foldl_cons, h]; rfl⟩

/-- The state in which an accumulating operation of a slot reads its operands: the registers named `names` have landed, and an
injection waiting for the lane is used up (R214, R243). -/
def State.macReady (s : State) (n m : Nat) (names : List Nat) : State :=
  let s := s.onLane n m (fun x => names.foldl (fun x k => x.useE (x.phys k)) x)
  if nget false s.pump.inj (laneKey n m) then
    { s with pump := { s.pump with inj := nset false s.pump.inj (laneKey n m) false } }
  else s

theorem State.macReady_lane (s : State) (n m : Nat) (names : List Nat) :
    ∃ tE, (s.macReady n m names).lane n m = { s.lane n m with tE := tE } := by
  obtain ⟨tE, h⟩ := Lane.foldl_useE names (s.lane n m)
  refine ⟨tE, ?_⟩
  rw [← h, ← State.lane_setLane s n m (names.foldl _ _)]
  unfold State.macReady State.onLane
  dsimp only
  split <;> rfl

theorem State.macReady_regs (s : State) (n m : Nat) (names : List Nat) : (s.macReady n m names).regs = s.regs := by
  unfold State.macReady
  dsimp only
  split <;> rfl

/-- An accumulating operation is its addends taken one after another, and then the report of a residue error, made or injected. -/
theorem State.macOp_eq (s : State) (n m : Nat) (c : MacBits) (names : List Nat) (g : Lane → List (Nat × Int)) :
    s.macOp n m c names false g =
      (let inj := nget false s.pump.inj (laneKey n m)
       let r := s.macReady n m names
       let v := forL (g (r.lane n m)) (fun e s => s.accStep n m c.sat (c.flt || inj) e) r
       if c.flt || inj then v.residueError n m (inj && !c.flt) else v) := rfl

/-- An accumulating operation takes its addends, and then a residue error, made or injected, is reported (R207, R212, R214). -/
theorem State.macOp_accrues {g : Lane → List (Nat × Int)} (hg : MacAddends g) (s : State) (n m : Nat) (c : MacBits) (names : List Nat) :
    ∃ v, Accrues s v n m c.sat (g (s.lane n m)) ∧
      s.macOp n m c names false g =
        (let inj := nget false s.pump.inj (laneKey n m)
         if c.flt || inj then v.residueError n m (inj && !c.flt) else v) := by
  refine ⟨_, ?_, State.macOp_eq s n m c names g⟩
  obtain ⟨tE, hlane⟩ := State.macReady_lane s n m names
  rw [hlane, hg.stage]
  exact (Accrues.of_stage c.sat hlane (State.macReady_regs s n m names)).trans
    (Accrues.forL_accStep n m c.sat _ (hg.distinct _) _) fun _ => .inl rfl

theorem Accrues.accumulated {s t : State} {p : LaneAt} {sat : Bool} {l : List (Nat × Int)} (h : Accrues s t p.site p.lane sat l) :
    Accumulated s t p sat l := by
  refine ⟨?_, fun k hk => ?_⟩
  · obtain ⟨acc, tE, hlane⟩ := h.lane
    rw [hlane]
    simp [KeepsLane]
  · have hacc := h.acc k
    have haov := h.sticky 0 k (by decide) hk
    have hasat := h.sticky 1 k (by decide) hk
    cases hl : l.lookup k with
    | none =>
      rw [hl, accOutcome_none] at hacc haov hasat
      rw [AccOut.sets_none, Bool.or_false] at haov hasat
      exact ⟨hacc, haov, hasat⟩
    | some e =>
      rw [hl, accOutcome_some] at hacc haov hasat
      simp only [accResult_eq]
      exact ⟨by rw [hacc], by rw [hacc], haov, hasat⟩

/-! ### The end of the bundle -/

theorem Lane.endBundle_accOf {x : Lane} (h : x.fills = []) (k : Nat) : x.endBundle.accOf k = x.accOf k := by
  unfold Lane.endBundle
  rw [h]
  dsimp only
  split
  · rfl
  · split <;> rfl

theorem Lane.keepsLane_endBundle (x : Lane) : KeepsLane x x.endBundle true true true := by
  unfold Lane.endBundle KeepsLane
  dsimp only
  split
  case isTrue hend => simp_all
  case isFalse => split <;> simp

/-- Without fills, the end of a slot either ends the lane's bundle or does nothing. -/
theorem State.endSlot_lane {s : State} {n m : Nat} {eob : Bool} (h : eob = false ∨ (s.lane n m).fills = []) :
    (s.endSlot n m eob).lane n m = s.lane n m ∨
      (s.lane n m).fills = [] ∧ (s.endSlot n m eob).lane n m = (s.lane n m).endBundle := by
  unfold State.endSlot
  dsimp only
  split
  case isTrue => exact .inl rfl
  case isFalse hend =>
    have hfills : (s.lane n m).fills = [] := h.resolve_left (by simp_all)
    refine .inr ⟨hfills, ?_⟩
    rw [hfills, State.lane_put, State.onLane, State.lane_setLane]
    rfl

/-- The end of a slot without fills writes no cluster register but LSTAT. -/
theorem State.endSlot_fld {s : State} {n m : Nat} {eob : Bool} (h : eob = false ∨ (s.lane n m).fills = []) {f : Fd}
    (hpc : f.id ≠ fCLUn_LSTATm_PC.id) (hrrb : f.id ≠ fCLUn_LSTATm_RRB.id) (i j : Nat) :
    (s.endSlot n m eob).fld f i j = s.fld f i j := by
  unfold State.endSlot
  dsimp only
  split
  case isTrue => rfl
  case isFalse hend =>
    have hfills : (s.lane n m).fills = [] := h.resolve_left (by simp_all)
    rw [hfills, State.fld_put_ne _ _ _ _ _ _ hrrb, State.onLane, State.setLane_fld]
    exact State.fld_put_ne _ _ _ _ _ _ hpc

theorem State.endSlot_keepsLane {s : State} {n m : Nat} {eob : Bool} (h : eob = false ∨ (s.lane n m).fills = []) :
    KeepsLane (s.lane n m) ((s.endSlot n m eob).lane n m) true true true := by
  rcases State.endSlot_lane h with hlane | ⟨_, hlane⟩
  · rw [hlane]; simp [KeepsLane]
  · rw [hlane]; exact Lane.keepsLane_endBundle _

theorem State.endSlot_accOf {s : State} {n m : Nat} {eob : Bool} (h : eob = false ∨ (s.lane n m).fills = []) (k : Nat) :
    ((s.endSlot n m eob).lane n m).accOf k = (s.lane n m).accOf k := by
  rcases State.endSlot_lane h with hlane | ⟨hfills, hlane⟩
  · rw [hlane]
  · rw [hlane, Lane.endBundle_accOf hfills]

/-- The end of a slot leaves what the slot added. -/
theorem Accrues.accumulated_endSlot {s t : State} {p : LaneAt} {sat : Bool} {l : List (Nat × Int)}
    (h : Accrues s t p.site p.lane sat l) (hfill : NoFill s p) : Accumulated s (t.endSlot p.site p.lane p.eob) p sat l := by
  obtain ⟨acc, tE, hlane⟩ := h.lane
  have hfill' : p.eob = false ∨ (t.lane p.site p.lane).fills = [] := by rw [hlane]; exact hfill
  obtain ⟨-, hsums⟩ := h.accumulated
  refine ⟨?_, fun k hk => ?_⟩
  · have hkeeps := State.endSlot_keepsLane hfill'
    rw [hlane] at hkeeps
    exact hkeeps
  · rw [State.endSlot_accOf hfill', State.endSlot_fld hfill' (by decide) (by decide), State.endSlot_fld hfill' (by decide) (by decide)]
    exact hsums k hk

/-! ### The whole slot -/

/-- A slot of a running lane acts and then ends its bundle if it is the last. -/
theorem State.slot_of_slotting {s : State} {p : LaneAt} (h : Slotting s p) {ok : Bool} (hok : ok = true) (f : State → State) :
    s.slot p ok f = .next ((f s).endSlot p.site p.lane p.eob) := by
  obtain ⟨hruns, hpc⟩ := h
  simp [State.slot, State.when, hruns, hok, Nat.not_le.mpr hpc]

theorem State.slot_accumulates {s : State} {p : LaneAt} {c : MacBits} {g : Lane → List (Nat × Int)} {ok : Bool} (hs : Slotting s p)
    (hres : NoResidue s p c) (hfill : NoFill s p) (hg : MacAddends g) (names : List Nat) (hok : ok = true) :
    ∃ t, s.slot p ok (fun s => s.macOp p.site p.lane c names false g) = .next t ∧
      Accumulated s t p c.sat (g (s.lane p.site p.lane)) := by
  obtain ⟨hflt, hinj⟩ := hres
  obtain ⟨v, hv, hmac⟩ := State.macOp_accrues hg s p.site p.lane c names
  have hclean : s.macOp p.site p.lane c names false g = v := by simpa [hflt, hinj] using hmac
  refine ⟨_, State.slot_of_slotting hs hok _, ?_⟩
  rw [hclean]
  exact hv.accumulated_endSlot hfill

theorem State.slot_reports_residue {s : State} {p : LaneAt} {c : MacBits} {g : Lane → List (Nat × Int)} {ok : Bool} (hs : Slotting s p)
    (hres : ¬ NoResidue s p c) (hg : MacAddends g) (names : List Nat) (hok : ok = true) :
    ∃ v, Accumulated s v p c.sat (g (s.lane p.site p.lane)) ∧
      s.slot p ok (fun s => s.macOp p.site p.lane c names false g) =
        .next ((v.residueError p.site p.lane (!c.flt)).endSlot p.site p.lane p.eob) := by
  obtain ⟨v, hv, hmac⟩ := State.macOp_accrues hg s p.site p.lane c names
  refine ⟨v, hv.accumulated, ?_⟩
  rw [State.slot_of_slotting hs hok, hmac]
  cases hflt : c.flt with
  | true => simp
  | false =>
    have hinj : nget false s.pump.inj (laneKey p.site p.lane) = true := by simpa [NoResidue, hflt] using hres
    simp [hinj]

/-! ### The addends of R222 to R226 -/

theorem products2_add (t0 t1 : BitVec 2) (ra rb : Nat) (x : Lane) :
    products2 t0.toNat t1.toNat ra rb false x =
      (let a := (x.dreg ra).toInt * (x.dreg rb).toInt
       let b := (x.dreg (ra + 1)).toInt * (x.dreg (rb + 1)).toInt
       if t0 = t1 then [(t0.toNat, a + b)] else [(t0.toNat, a), (t1.toNat, b)]) := by
  simp [products2, BitVec.toNat_inj]

theorem products2_sub (t0 t1 : BitVec 2) (ra rb : Nat) (x : Lane) :
    products2 t0.toNat t1.toNat ra rb true x =
      (let a := (x.dreg ra).toInt * (x.dreg rb).toInt
       let b := (x.dreg (ra + 1)).toInt * (x.dreg (rb + 1)).toInt
       if t0 = t1 then [(t0.toNat, -(a + b))] else [(t0.toNat, -a), (t1.toNat, -b)]) := by
  simp only [products2, BitVec.toNat_inj, if_true, Int.neg_mul, Int.one_mul, Int.neg_add]

theorem product1_add (t su : BitVec 2) (ra rb : Nat) (x : Lane) :
    product1 t.toNat su.toNat ra rb false x =
      (let a := if su = 0 ∨ su = 1 then (x.dreg ra).toInt else ((x.dreg ra).toNat : Int)
       let b := if su = 0 ∨ su = 2 then (x.dreg rb).toInt else ((x.dreg rb).toNat : Int)
       [(t.toNat, a * b)]) := by
  simp [product1, operand, ← BitVec.toNat_inj]

theorem product1_sub (t su : BitVec 2) (ra rb : Nat) (x : Lane) :
    product1 t.toNat su.toNat ra rb true x =
      (let a := if su = 0 ∨ su = 1 then (x.dreg ra).toInt else ((x.dreg ra).toNat : Int)
       let b := if su = 0 ∨ su = 2 then (x.dreg rb).toInt else ((x.dreg rb).toNat : Int)
       [(t.toNat, -(a * b))]) := by
  simp [product1, operand, ← BitVec.toNat_inj]

/-- Settles O6: every accumulating operation is `State.macOp` on its addends, which `State.slot_accumulates` and
`State.slot_reports_residue` sum without and with a residue error. -/
theorem accumulates : Obligations.Accumulates := by
  unfold Obligations.Accumulates
  have pairOk {ra rb : BitVec 6} (ha : ra ≠ 63) (hb : rb ≠ 63) : (ra != 63 && rb != 63) = true :=
    Bool.and_eq_true_iff.mpr ⟨bne_iff_ne.mpr ha, bne_iff_ne.mpr hb⟩
  constructor
  · intro s p c hs hres hfill
    refine ⟨fun t0 t1 ra rb ha hb => ⟨?mac2, ?msu2⟩, fun k su ra rb => ⟨?mac1, ?msu1⟩, fun k neg => ?ftap, fun k u neg => ?aadd⟩
    case mac2 =>
      rw [← products2_add]
      exact State.slot_accumulates hs hres hfill (.products2 ..) _ (pairOk ha hb)
    case msu2 =>
      rw [← products2_sub]
      exact State.slot_accumulates hs hres hfill (.products2 ..) _ (pairOk ha hb)
    case mac1 =>
      rw [← product1_add]
      exact State.slot_accumulates hs hres hfill (.product1 ..) _ rfl
    case msu1 =>
      rw [← product1_sub]
      exact State.slot_accumulates hs hres hfill (.product1 ..) _ rfl
    case ftap => exact State.slot_accumulates hs hres hfill (.ftap k.toNat neg) _ rfl
    case aadd => exact State.slot_accumulates hs hres hfill (.aadd k.toNat u.toNat neg) _ rfl
  · intro s p c k u ra rb neg hs hres ha hb
    simp only [List.mem_cons, List.not_mem_nil, or_false, forall_eq_or_imp, forall_eq]
    refine ⟨?mac2, ?msu2, ?mac1, ?msu1, ?ftap, ?aadd⟩
    case mac2 =>
      have h := State.slot_reports_residue hs hres (.products2 k.toNat k.toNat ra.toNat rb.toNat false)
        [ra.toNat, rb.toNat, ra.toNat + 1, rb.toNat + 1] (pairOk ha hb)
      rw [products2_add, if_pos rfl] at h
      exact h
    case msu2 =>
      have h := State.slot_reports_residue hs hres (.products2 k.toNat k.toNat ra.toNat rb.toNat true)
        [ra.toNat, rb.toNat, ra.toNat + 1, rb.toNat + 1] (pairOk ha hb)
      rw [products2_sub, if_pos rfl] at h
      exact h
    case mac1 => exact State.slot_reports_residue hs hres (.product1 k.toNat 0 ra.toNat rb.toNat false) _ rfl
    case msu1 => exact State.slot_reports_residue hs hres (.product1 k.toNat 0 ra.toNat rb.toNat true) _ rfl
    case ftap => exact State.slot_reports_residue hs hres (.ftap k.toNat neg) _ rfl
    case aadd => exact State.slot_reports_residue hs hres (.aadd k.toNat u.toNat neg) _ rfl

end Sys2Proof.Machine
end

section
/-! SUPPORT. What an ALU slot does to its lane and to RSAT (spec 06, 07: R195, R203, R227 to R230). `aluTable_exec` ties each row of
`aluTable` to `State.aluOp`; `State.aluOp_writes` and `State.aluOp_skips` say what that operation does when its condition holds and
when it fails. -/

namespace Sys2Proof.Machine

open Sys2Proof

/-! ### Results of R203 -/

theorem clamped_of_ge {e : Int} (h : 2 ^ 31 ≤ e) : clamped true e = (0x7FFFFFFF, true) := by
  simp only [clamped, if_true, if_pos h]

theorem clamped_of_lt {e : Int} (h : e < -(2 ^ 31)) : clamped true e = (0x80000000, true) := by
  simp only [clamped, if_true, if_neg (show ¬ 2 ^ 31 ≤ e by omega), if_pos h]

theorem clamped_of_fits {e : Int} (hlo : -(2 ^ 31) ≤ e) (hhi : e < 2 ^ 31) : clamped true e = (BitVec.ofInt 32 e, false) := by
  simp only [clamped, if_true, if_neg (Int.not_le.mpr hhi), if_neg (Int.not_lt.mpr hlo)]

theorem satS_of_ge {e : Int} (h : 2 ^ 31 ≤ e) : satS 32 e = 2 ^ 31 - 1 := by
  have hlo : ¬ e < -(2 ^ (32 - 1)) := by omega
  have hhi : 2 ^ (32 - 1) - 1 < e := by omega
  simp only [satS, clampI, if_neg hlo, if_pos hhi]

theorem satS_of_lt {e : Int} (h : e < -(2 ^ 31)) : satS 32 e = -(2 ^ 31) := by
  have hlo : e < -(2 ^ (32 - 1)) := by omega
  simp only [satS, clampI, if_pos hlo]

theorem satS_of_fits {e : Int} (hlo : -(2 ^ 31) ≤ e) (hhi : e < 2 ^ 31) : satS 32 e = e := by
  have hlo' : ¬ e < -(2 ^ (32 - 1)) := by omega
  have hhi' : ¬ 2 ^ (32 - 1) - 1 < e := by omega
  simp only [satS, clampI, if_neg hlo', if_neg hhi']

theorem alu32_eq_clamped (e : Int) (sat : Bool) : alu32 e sat = clamped sat e := by
  cases sat with
  | false => rfl
  | true =>
    unfold alu32
    by_cases hhi : 2 ^ 31 ≤ e
    · rw [clamped_of_ge hhi, satS_of_ge hhi, decide_eq_true (by omega)]
      rfl
    · by_cases hlo : e < -(2 ^ 31)
      · rw [clamped_of_lt hlo, satS_of_lt hlo, decide_eq_true (by omega)]
        rfl
      · have hlo' := Int.not_lt.mp hlo
        have hhi' := Int.not_le.mp hhi
        rw [clamped_of_fits hlo' hhi', satS_of_fits hlo' hhi', decide_eq_false (not_not_intro rfl)]
        rfl

theorem ofInt_mul_two_pow_of_ge (v : Int) {k : Nat} (h : 32 ≤ k) : BitVec.ofInt 32 (v * 2 ^ k) = 0 := by
  have hdvd : (2 : Int) ^ 32 ∣ 2 ^ k := ⟨2 ^ (k - 32), by rw [← Int.pow_add, Nat.add_sub_cancel' h]⟩
  have hmod : v * 2 ^ k % 2 ^ 32 = 0 := Int.emod_eq_zero_of_dvd (Int.dvd_mul_of_dvd_right hdvd)
  apply BitVec.eq_of_toNat_eq
  rw [BitVec.toNat_ofInt]
  exact congrArg Int.toNat hmod

theorem two_pow_32_le {k : Nat} (h : 32 ≤ k) : (2 : Int) ^ 32 ≤ 2 ^ k := by
  exact_mod_cast Nat.pow_le_pow_right (by decide : 0 < 2) h

/-- A value above zero shifted left by 32 or more exceeds 32 bits. -/
theorem le_mul_two_pow_of_pos {v : Int} (hv : 0 < v) {k : Nat} (hk : 32 ≤ k) : 2 ^ 31 ≤ v * 2 ^ k := by
  have hbig := two_pow_32_le hk
  have hmul : 1 * 2 ^ k ≤ v * 2 ^ k := Int.mul_le_mul_of_nonneg_right hv (by omega)
  omega

/-- A value below zero shifted left by 32 or more falls below 32 bits. -/
theorem mul_two_pow_lt_of_neg {v : Int} (hv : v < 0) {k : Nat} (hk : 32 ≤ k) : v * 2 ^ k < -(2 ^ 31) := by
  have hbig := two_pow_32_le hk
  have hmul : v * 2 ^ k ≤ -1 * 2 ^ k := Int.mul_le_mul_of_nonneg_right (by omega) (by omega)
  omega

theorem aslR_eq_clamped (v : Word32) (k : Nat) (sat : Bool) : aslR v k sat = clamped sat (v.toInt * 2 ^ k) := by
  unfold aslR
  by_cases hk : k < 32
  · rw [if_pos hk, alu32_eq_clamped]
  · have hk32 := Nat.le_of_not_lt hk
    rw [if_neg hk]
    cases sat with
    | false =>
      have hwrap : clamped false (v.toInt * 2 ^ k) = (BitVec.ofInt 32 (v.toInt * 2 ^ k), false) := rfl
      rw [hwrap, ofInt_mul_two_pow_of_ge v.toInt hk32]
      rfl
    | true =>
      by_cases hzero : v = 0
      · subst hzero
        have hprod : (0 : Word32).toInt * 2 ^ k = 0 := Int.zero_mul _
        rw [hprod]
        rfl
      · have hguard : ¬ (!true || decide (v = 0)) = true := by rw [decide_eq_false hzero]; decide
        rw [if_neg hguard]
        by_cases hneg : v.toInt < 0
        · rw [clamped_of_lt (mul_two_pow_lt_of_neg hneg hk32), if_pos hneg]
          rfl
        · have hne : v.toInt ≠ 0 := fun h => hzero (BitVec.eq_of_toInt_eq h)
          rw [clamped_of_ge (le_mul_two_pow_of_pos (by omega) hk32), if_neg hneg]
          rfl

theorem rounded_of_down {v q r : Int} {k : Nat} (hq : v / 2 ^ k = q) (hr : v % 2 ^ k = r)
    (h : 2 * r < 2 ^ k ∨ (2 * r = 2 ^ k ∧ q % 2 = 0)) : rounded false v k = q := by
  subst hq hr
  simp only [rounded, Bool.false_eq_true, if_false, if_pos h]

theorem rounded_of_up {v q r : Int} {k : Nat} (hq : v / 2 ^ k = q) (hr : v % 2 ^ k = r)
    (h : ¬ (2 * r < 2 ^ k ∨ (2 * r = 2 ^ k ∧ q % 2 = 0))) : rounded false v k = q + 1 := by
  subst hq hr
  simp only [rounded, Bool.false_eq_true, if_false, if_neg h]

theorem divEven_eq_rounded (v : Int) (k : Nat) : divEven v (2 ^ k) = rounded false v k := by
  unfold divEven
  dsimp only
  by_cases hbelow : 2 * (v % 2 ^ k) < 2 ^ k
  · rw [if_pos hbelow, rounded_of_down rfl rfl (.inl hbelow)]
  · rw [if_neg hbelow]
    by_cases habove : 2 ^ k < 2 * (v % 2 ^ k)
    · rw [if_pos habove, rounded_of_up rfl rfl (by omega)]
    · rw [if_neg habove]
      by_cases heven : v / 2 ^ k % 2 = 0
      · rw [if_pos heven, rounded_of_down rfl rfl (.inr ⟨by omega, heven⟩)]
      · rw [if_neg heven, rounded_of_up rfl rfl (by omega)]

theorem rounded_zero (trunc : Bool) (v : Int) : rounded trunc v 0 = v := by
  cases trunc with
  | true => exact Int.ediv_one v
  | false => exact rounded_of_down (Int.ediv_one v) (Int.emod_one v) (.inl (by decide))

theorem roundShift_eq_rounded (v : Int) (k : Nat) (trunc : Bool) : roundShift v k trunc = rounded trunc v k := by
  unfold roundShift
  by_cases hk : k = 0
  · rw [if_pos hk, hk, rounded_zero]
  · rw [if_neg hk]
    cases trunc with
    | true => rfl
    | false => exact divEven_eq_rounded v k

/-- A 32-bit value shifted right by 32 or more keeps its sign alone, and convergent rounding takes that away too (R203). -/
theorem rounded_shifted_out (v : Word32) {k : Nat} (hk : 32 ≤ k) (trunc : Bool) :
    rounded trunc v.toInt k = if trunc && decide (v.toInt < 0) then -1 else 0 := by
  have hbig := two_pow_32_le hk
  have hlo := BitVec.le_toInt v
  have hhi := BitVec.toInt_lt (x := v)
  by_cases hneg : v.toInt < 0
  · have hq : v.toInt / 2 ^ k = -1 := Int.ediv_eq_neg_one_of_neg_of_le hneg (by omega)
    have hr : v.toInt % 2 ^ k = v.toInt + 2 ^ k := by rw [Int.emod_def, hq]; omega
    cases trunc with
    | true => simp [rounded, hq, hneg]
    | false => exact rounded_of_up hq hr (by omega)
  · have hq : v.toInt / 2 ^ k = 0 := Int.ediv_eq_zero_of_lt (by omega) (by omega)
    have hr : v.toInt % 2 ^ k = v.toInt := Int.emod_eq_of_lt (by omega) (by omega)
    cases trunc with
    | true => simp [rounded, hq, hneg]
    | false => exact rounded_of_down hq hr (by omega)

theorem asrR_eq_rounded (v : Word32) (k : Nat) (trunc : Bool) :
    asrR v k trunc = (BitVec.ofInt 32 (rounded trunc v.toInt k), false) := by
  unfold asrR
  by_cases hk : k < 32
  · rw [if_pos hk, roundShift_eq_rounded]
  · rw [if_neg hk, rounded_shifted_out v (Nat.le_of_not_lt hk)]
    split <;> rfl

theorem lslR_eq_shiftLeft (v : Word32) (k : Nat) : lslR v k = (v <<< k, false) := by
  unfold lslR
  by_cases hk : k < 32
  · rw [if_pos hk]
    congr 1
    apply BitVec.eq_of_toNat_eq
    simp [Nat.shiftLeft_eq]
  · rw [if_neg hk, BitVec.shiftLeft_eq_zero (Nat.le_of_not_lt hk)]
    rfl

theorem lsrR_eq_shiftRight (v : Word32) (k : Nat) : lsrR v k = (v >>> k, false) := by
  unfold lsrR
  by_cases hk : k < 32
  · rw [if_pos hk]
    congr 1
    apply BitVec.eq_of_toNat_eq
    rw [BitVec.toNat_ofNat, BitVec.toNat_ushiftRight, Nat.shiftRight_eq_div_pow]
    exact Nat.mod_eq_of_lt (Nat.lt_of_le_of_lt (Nat.div_le_self _ _) v.isLt)
  · rw [if_neg hk, BitVec.ushiftRight_eq_zero (Nat.le_of_not_lt hk)]
    rfl

theorem natAbs_eq_ite (i : Int) : (i.natAbs : Int) = if i < 0 then -i else i := by
  split <;> omega

/-! ### The operations of R227 -/

/-- Every operation of the table is `State.aluOp` with the table's operands and result. -/
theorem aluTable_exec : ∀ e ∈ aluTable, ∀ (p : LaneAt) (o : Alu) (s : State),
    exec (e.1 p o) s = s.aluOp p o e.2.1 (e.2.2 o) := by
  simp only [aluTable, List.forall_mem_cons]
  refine ⟨?addR, ?subR, ?andR, ?orR, ?xorR, ?minR, ?maxR, ?negR, ?absR, ?movR, ?notR, ?asl, ?asr, ?lsl, ?lsr, ?asli, ?asri, ?lsli,
    ?lsri, List.forall_mem_nil _⟩ <;> intro p o s
  case andR | orR | xorR | movR | notR => rfl
  case addR | subR | negR => simp only [← alu32_eq_clamped]; rfl
  case absR => simp only [← natAbs_eq_ite, ← alu32_eq_clamped]; rfl
  case minR | maxR => simp only [BitVec.sle_iff_toInt_le]; rfl
  case asl | asli => simp only [← aslR_eq_clamped]; rfl
  case asr | asri => simp only [← asrR_eq_rounded]; rfl
  case lsl | lsli => simp only [← lslR_eq_shiftLeft]; rfl
  case lsr | lsri => simp only [← lsrR_eq_shiftRight]; rfl

/-! ### Conditions -/

theorem condHolds_iff (o : Alu) (x : Lane) : condHolds o.cond.toNat x.z x.n = true ↔ CondHolds o x := by
  unfold CondHolds
  split <;> simp_all [condHolds]

/-! ### Stage cycles -/

/-- `y` is `x` but for the cycles of its stages and of its writes (R242, R243). -/
def Restaged (x y : Lane) : Prop := ∃ tD tM tE lands, y = { x with tD := tD, tM := tM, tE := tE, lands := lands }

theorem Restaged.refl (x : Lane) : Restaged x x := ⟨_, _, _, _, rfl⟩

theorem Restaged.trans {x y z : Lane} (h : Restaged x y) (h' : Restaged y z) : Restaged x z := by
  obtain ⟨_, _, _, _, rfl⟩ := h
  obtain ⟨_, _, _, _, rfl⟩ := h'
  exact ⟨_, _, _, _, rfl⟩

theorem Lane.useE_restaged (x : Lane) (r : Nat) : Restaged x (x.useE r) := ⟨_, _, _, _, rfl⟩

theorem Lane.useD_restaged (x : Lane) (r : Nat) : Restaged x (x.useD r) := ⟨_, _, _, _, rfl⟩

theorem Lane.useCond_restaged (x : Lane) (c : BitVec 3) : Restaged x (x.useCond c) := by
  unfold Lane.useCond
  split
  · exact .refl x
  · exact x.useE_restaged condReg

/-- The lane in which an ALU operation reads its operands: the condition flags that it needs and its registers have landed (R243). -/
def Lane.aluReady (x : Lane) (o : Alu) (k : AluKind) : Lane :=
  (aluReads o k).foldl (fun x r => x.useE (x.phys r)) (x.useCond o.cond)

theorem Lane.aluReady_restaged (x : Lane) (o : Alu) (k : AluKind) : Restaged x (x.aluReady o k) := by
  obtain ⟨tE, h⟩ := Lane.foldl_useE (aluReads o k) (x.useCond o.cond)
  unfold Lane.aluReady
  rw [h]
  exact (x.useCond_restaged o.cond).trans ⟨_, _, tE, _, rfl⟩

theorem Restaged.condHolds_eq {x y : Lane} (h : Restaged x y) (c : Nat) : condHolds c y.z y.n = condHolds c x.z x.n := by
  obtain ⟨_, _, _, _, rfl⟩ := h
  rfl

theorem Restaged.condHolds_true {x y : Lane} (h : Restaged x y) {o : Alu} (hc : CondHolds o x) :
    condHolds o.cond.toNat y.z y.n = true := by
  rw [h.condHolds_eq]; exact (condHolds_iff o x).mpr hc

theorem Restaged.condHolds_false {x y : Lane} (h : Restaged x y) {o : Alu} (hc : ¬ CondHolds o x) :
    condHolds o.cond.toNat y.z y.n = false := by
  rw [h.condHolds_eq, Bool.eq_false_iff]; exact mt (condHolds_iff o x).mp hc

theorem Restaged.aluOperands_eq {x y : Lane} (h : Restaged x y) (o : Alu) (k : AluKind) : aluOperands o k y = aluOperands o k x := by
  obtain ⟨_, _, _, _, rfl⟩ := h
  rfl

/-! ### The end of the slot, with any fills -/

/-- Of the lane, fills that commit change the accumulators alone (R244). -/
theorem State.forL_setAcc_lane (l : NMap LAcc) (s : State) (n m : Nat) :
    ∃ acc, (forL l (fun f s => s.setAcc n m f.1 f.2) s).lane n m = { s.lane n m with acc := acc } := by
  induction l generalizing s with
  | nil => exact ⟨_, rfl⟩
  | cons f l ih =>
    obtain ⟨acc, h⟩ := ih (s.setAcc n m f.1 f.2)
    exact ⟨acc, h.trans (by rw [State.setAcc_lane])⟩

theorem State.forL_setAcc_fld (l : NMap LAcc) (s : State) (n m : Nat) {f : Fd} (hcl : f.id ≠ fCLUn_LARITHm_CL.id)
    (hres : f.id ≠ fCLUn_LARITHm_RES.id) (i j : Nat) : (forL l (fun e s => s.setAcc n m e.1 e.2) s).fld f i j = s.fld f i j := by
  induction l generalizing s with
  | nil => rfl
  | cons e l ih =>
    refine (ih (s.setAcc n m e.1 e.2)).trans ?_
    unfold State.setAcc
    rw [State.fld_put_ne _ _ _ _ _ _ hres, State.fld_put_ne _ _ _ _ _ _ hcl, State.setLane_fld]

theorem State.endSlot_keeps (s : State) (n m : Nat) (eob : Bool) :
    KeepsLane (s.lane n m) ((s.endSlot n m eob).lane n m) true true true := by
  unfold State.endSlot
  dsimp only
  split
  case isTrue => simp [KeepsLane]
  case isFalse =>
    obtain ⟨acc, hacc⟩ := State.forL_setAcc_lane (s.lane n m).fills (s.put fCLUn_LSTATm_PC (s.lane n m).pc n m) n m
    rw [State.lane_put, State.onLane, State.lane_setLane, hacc, State.lane_put]
    exact Lane.keepsLane_endBundle { s.lane n m with acc := acc }

theorem State.endSlot_keeps_of_lane {s : State} {n m : Nat} {x : Lane} (h : s.lane n m = x) (eob : Bool) :
    KeepsLane x ((s.endSlot n m eob).lane n m) true true true :=
  h ▸ State.endSlot_keeps s n m eob

theorem State.endSlot_rsat (s : State) (n m : Nat) (eob : Bool) (i j : Nat) :
    (s.endSlot n m eob).fld fCLUn_LARITHm_RSAT i j = s.fld fCLUn_LARITHm_RSAT i j := by
  unfold State.endSlot
  dsimp only
  split
  case isTrue => rfl
  case isFalse =>
    rw [State.fld_put_ne _ _ _ _ _ _ (by decide), State.onLane, State.setLane_fld, State.forL_setAcc_fld _ _ _ _ (by decide) (by decide)]
    exact State.fld_put_ne _ _ _ _ _ _ (by decide)

/-! ### A slot that only waits -/

/-- The slot of lane `p` with outcome `r` leaves every register of the lane and RSAT as they are. -/
def Skips (s : State) (p : LaneAt) (r : Host.Outcome State Fault Refusal) : Prop :=
  ∃ t, r = .next t ∧ KeepsLane (s.lane p.site p.lane) (t.lane p.site p.lane) true true true ∧
    t.fld fCLUn_LARITHm_RSAT p.site p.lane = s.fld fCLUn_LARITHm_RSAT p.site p.lane

theorem State.slot_skips {s : State} {p : LaneAt} {ok : Bool} {f : State → State} {y : Lane} (hs : Slotting s p) (hok : ok = true)
    (hf : f s = s.setLane p.site p.lane y) (hy : Restaged (s.lane p.site p.lane) y) : Skips s p (s.slot p ok f) := by
  refine ⟨_, State.slot_of_slotting hs hok f, ?_, ?_⟩
  · have hlane : (f s).lane p.site p.lane = y := by rw [hf, State.lane_setLane]
    obtain ⟨_, _, _, _, rfl⟩ := hy
    exact State.endSlot_keeps_of_lane hlane p.eob
  · rw [State.endSlot_rsat, hf, State.setLane_fld]

/-- A lane that waited and then tests a failed condition has done no more than wait. -/
theorem Restaged.ite_of_not_condHolds {x y : Lane} (hy : Restaged x y) {o : Alu} (hc : ¬ CondHolds o x) (z : Lane) :
    Restaged x (if !condHolds o.cond.toNat y.z y.n then y else z) := by
  rw [hy.condHolds_false hc]
  exact hy

/-! ### RSAT -/

theorem State.setSticky_rsat (s : State) (n m : Nat) (quiet : Bool) :
    bit ((s.setSticky n m 2 0 quiet).fld fCLUn_LARITHm_RSAT n m) 0 = true := by
  rw [State.setSticky_fld s n m 2 0 quiet (f := fCLUn_LARITHm_RSAT) rfl]
  split
  case isTrue hset => exact hset
  case isFalse =>
    rw [show stickyFd 2 = fCLUn_LARITHm_RSAT from rfl, State.fld_put_self, bit_putBit_true _ (by decide)]
    simp

theorem State.setSticky_if_rsat (s : State) (n m : Nat) (quiet b : Bool) :
    bit ((if b then s.setSticky n m 2 0 quiet else s).fld fCLUn_LARITHm_RSAT n m) 0 = (bit (s.fld fCLUn_LARITHm_RSAT n m) 0 || b) := by
  cases b with
  | true => rw [if_pos rfl, State.setSticky_rsat, Bool.or_true]
  | false => simp

/-! ### The condition holds or fails (R228) -/

/-- The lane after an ALU operation wrote `v` to the register that RD names. -/
def Lane.aluWrite (x : Lane) (o : Alu) (v : Word32) : Lane := (x.landE (x.phys o.rd.toNat)).setD o.rd.toNat v

/-- An ALU operation as its lane's change: it waits for its operands, and when its condition holds it writes its result and sets RSAT by
a clamp. -/
theorem State.aluOp_eq (s : State) (p : LaneAt) (o : Alu) (k : AluKind) (f : Word32 → Word32 → Word32 × Bool) :
    s.aluOp p o k f = s.slot p (aluOk o k) fun s =>
      let x := (s.lane p.site p.lane).aluReady o k
      if !condHolds o.cond.toNat x.z x.n then s.setLane p.site p.lane x
      else
        let r := f (aluOperands o k x).1 (aluOperands o k x).2
        let u := (s.setLane p.site p.lane x).onLane p.site p.lane (fun x => x.aluWrite o r.1)
        if r.2 then u.setSticky p.site p.lane 2 0 false else u := by
  unfold State.aluOp
  simp only [State.onLane, State.lane_setLane]
  rfl

/-- An ALU operation whose condition fails writes nothing and sets no flag. -/
theorem State.aluOp_skips {s : State} {p : LaneAt} {o : Alu} {k : AluKind} (f : Word32 → Word32 → Word32 × Bool) (hs : Slotting s p)
    (hok : aluOk o k = true) (hc : ¬ CondHolds o (s.lane p.site p.lane)) : Skips s p (s.aluOp p o k f) := by
  have hready := (s.lane p.site p.lane).aluReady_restaged o k
  rw [State.aluOp_eq]
  refine State.slot_skips hs hok ?_ hready
  simp only [hready.condHolds_false hc, Bool.not_false, if_true]

/-- A lane that keeps what the lane after an ALU write holds has taken the result and nothing else. -/
theorem Restaged.setsReg_of_keepsLane {x y z : Lane} (hy : Restaged x y) {o : Alu} {v : Word32}
    (hz : KeepsLane (y.aluWrite o v) z true true true) : SetsReg x z o.rd v ∧ KeepsLane x z false true true := by
  obtain ⟨_, _, _, _, rfl⟩ := hy
  obtain ⟨hd, haddr, hflags, hrrb, htask, hloops⟩ := hz
  have hregs : z.d = nset 0 x.d (x.phys o.rd.toNat) v := hd rfl
  have hphys : z.phys o.rd.toNat = x.phys o.rd.toNat := by
    unfold Lane.phys
    rw [hrrb]
    rfl
  refine ⟨⟨?_, fun r hr => ?_⟩, nofun, haddr, hflags, hrrb, htask, hloops⟩
  · unfold Lane.dreg
    rw [hphys, hregs, nget_nset, if_pos rfl]
  · rw [hregs, nget_nset, if_neg hr]

/-- An ALU operation whose condition holds writes its result to RD, and a clamp sets RSAT (R203, R227). -/
theorem State.aluOp_writes {s : State} {p : LaneAt} {o : Alu} {k : AluKind} (f : Word32 → Word32 → Word32 × Bool) (hs : Slotting s p)
    (hok : aluOk o k = true) (hc : CondHolds o (s.lane p.site p.lane)) :
    ∃ t, s.aluOp p o k f = .next t ∧
      (let x := s.lane p.site p.lane
       let r := f (aluOperands o k x).1 (aluOperands o k x).2
       SetsReg x (t.lane p.site p.lane) o.rd r.1 ∧ KeepsLane x (t.lane p.site p.lane) false true true ∧
       bit (t.fld fCLUn_LARITHm_RSAT p.site p.lane) 0 = (bit (s.fld fCLUn_LARITHm_RSAT p.site p.lane) 0 || r.2)) := by
  have hready := (s.lane p.site p.lane).aluReady_restaged o k
  refine ⟨_, (State.aluOp_eq s p o k f).trans (State.slot_of_slotting hs hok _), ?_⟩
  simp only [hready.condHolds_true hc, Bool.not_true, Bool.false_eq_true, if_false, hready.aluOperands_eq]
  generalize f (aluOperands o k (s.lane p.site p.lane)).1 (aluOperands o k (s.lane p.site p.lane)).2 = r
  rw [← and_assoc]
  constructor
  · refine hready.setsReg_of_keepsLane ?_
    exact State.endSlot_keeps_of_lane (by rw [State.setSticky_if_lane, State.onLane, State.lane_setLane, State.lane_setLane]) p.eob
  · rw [State.endSlot_rsat, State.setSticky_if_rsat, State.onLane, State.setLane_fld, State.setLane_fld]

/-! ### CMP, SETA and GETA with a failed condition -/

theorem execCmp_skips {s : State} {p : LaneAt} {o : Alu} (hs : Slotting s p) (hok : aluOk o .binary = true)
    (hc : ¬ CondHolds o (s.lane p.site p.lane)) : Skips s p (execCmp p o s) := by
  have hready := (s.lane p.site p.lane).aluReady_restaged o .binary
  exact State.slot_skips hs hok rfl (hready.ite_of_not_condHolds hc _)

theorem execSeta_skips {s : State} {p : LaneAt} {o : Alu} (hs : Slotting s p)
    (hok : (aluOk o .unary && !o.ext && asNameOk o.rd) = true) (hc : ¬ CondHolds o (s.lane p.site p.lane)) :
    Skips s p (execSeta p o s) := by
  have hready := ((s.lane p.site p.lane).useCond_restaged o.cond).trans
    (Lane.useE_restaged _ ((s.lane p.site p.lane).phys o.ra.toNat))
  exact State.slot_skips hs hok rfl (hready.ite_of_not_condHolds hc _)

/-- A read in D waits for an older write of its register, not for one that this bundle makes (R229, R243). -/
theorem Lane.ite_useD_restaged (x : Lane) (r : Nat) : Restaged x (if x.land r = x.tD then x else x.useD r) := by
  split
  · exact .refl x
  · exact x.useD_restaged r

theorem execGeta_skips {s : State} {p : LaneAt} {o : Alu} (hs : Slotting s p)
    (hok : (aluOk o .unary && !o.ext && asNameOk o.ra) = true) (hc : ¬ CondHolds o (s.lane p.site p.lane)) :
    Skips s p (execGeta p o s) := by
  have hready := (Lane.ite_useD_restaged (s.lane p.site p.lane) (asReg (asKind o.ra) (asIdx o.ra))).trans
    (Lane.useCond_restaged _ o.cond)
  exact State.slot_skips hs hok rfl (hready.ite_of_not_condHolds hc _)

/-- Settles O5: `aluTable_exec` reads each row of the table as an ALU operation, which `State.aluOp_writes` and `State.aluOp_skips`
describe; CMP, SETA and GETA skip in the same way. -/
theorem aluConditions : Obligations.AluConditions := by
  unfold Obligations.AluConditions
  refine ⟨fun e he s p o hs hok hc => ?holds, fun e he s p o hs hok hc => ?fails, fun s p o e he hs hok hext hname hc => ?address⟩
  case holds =>
    rw [aluTable_exec e he]
    exact State.aluOp_writes (e.2.2 o) hs hok hc
  case fails =>
    rcases List.mem_append.mp he with htable | hcmp
    · obtain ⟨row, hrow, rfl⟩ := List.mem_map.mp htable
      rw [aluTable_exec row hrow]
      exact State.aluOp_skips (row.2.2 o) hs hok hc
    · obtain rfl := List.mem_singleton.mp hcmp
      exact execCmp_skips hs hok hc
  case address =>
    have hslot {b : Bool} (hb : b = true) : (aluOk o .unary && !o.ext && b) = true := by rw [hok, hext, hb]; rfl
    rcases List.mem_cons.mp he with rfl | hgeta
    · exact execSeta_skips hs (hslot hname) hc
    · obtain rfl := List.mem_singleton.mp hgeta
      exact execGeta_skips hs (hslot hname) hc

end Sys2Proof.Machine
end
